-- ==== Sys2Proof/Word.lean ====
section
/-!
DEFINITION. The words of the model: registers are 32 bits wide (R15), buffers and messages are bytes.
-/
namespace Sys2Proof

/-- A register word (R15). -/
abbrev Word := BitVec 32

/-- A byte of a buffer, a message or the package flash. -/
abbrev Byte := BitVec 8

/-- A gallery number, 0 to 7 (R379). -/
abbrev Gal := Fin 8

end Sys2Proof
end

