-- ==== Sys2Proof/Events.lean ====
section
/-!
DEFINITION. The data that commands carry from outside the block: samples, frames, images and messages, and the number
formats of the Orrery in which some of them are written.
-/
namespace Sys2Proof

/-- A block floating point vector: one shared exponent and integer mantissas (R91, R92). -/
structure Vec where
  e : Int
  m : List Int
deriving DecidableEq, Repr, Inhabited

/-- A stored matrix: columns, one exponent for each 8 rows (R93), rows of mantissas, and the flag T (R116). -/
structure Mat where
  cols : Nat
  exps : List Int
  rows : List (List Int)
  t : Bool
deriving DecidableEq, Repr, Inhabited

/-- A coefficient set, in the order of R339. -/
structure CoefSet where
  A : Mat
  B : Mat
  F : Mat
  C : Mat
  L : Mat
  K : Mat
  N : Mat
deriving DecidableEq, Repr, Inhabited

/-- The matrices of a set by their place in that order, and the stage of the district sequence that reads each. -/
def CoefSet.mat (k : CoefSet) : Nat → Mat
  | 0 => k.A
  | 1 => k.B
  | 2 => k.F
  | 3 => k.C
  | 4 => k.L
  | 5 => k.K
  | _ => k.N
def CoefSet.setMat (k : CoefSet) (i : Nat) (a : Mat) : CoefSet :=
  match i with
  | 0 => { k with A := a }
  | 1 => { k with B := a }
  | 2 => { k with F := a }
  | 3 => { k with C := a }
  | 4 => { k with L := a }
  | 5 => { k with K := a }
  | _ => { k with N := a }

/-- The point of the district sequence at which a matrix is read: twice its stage, and one more for L, which Innovate reads once e
stands. -/
def matPoint (i : Nat) : Nat := if i < 3 then 2 else if i = 3 then 4 else if i = 4 then 5 else 6

/-- What a 64-bit word of the SRAM arrays holds, as the stages, the scrubber and DBGACC reach it (R122, R457): four mantissas of a
row of a matrix of a coefficient set, from a column on, or eight of the exponents of its blocks; four mantissas of the x̂ of a
district, or its exponent; four commands of its u_prev; a word of a district's Forecaster weights, by the stage that reads it and
whether it lies in that stage's matrix; a word of the key store; the pending forecast at a place of a queue; two slots of the
ledger of a district; eight bytes of a chunk of the capture buffer, of a message buffer, or of the chain store; or anything else,
as what the next period writes afresh. -/
inductive SramPlace where
  | other
  | excluded
  | coef (set mat row col : Nat)
  | coefExp (set mat blk : Nat)
  | xhat (d col : Nat)
  | xhatExp (d : Nat)
  | uPrev (d col : Nat)
  | weights (d stage : Nat) (mat : Bool)
  | pending (q k : Nat)
  | ledger (d k : Nat)
  | capture (k j : Nat)
  | message (rsp : Bool) (j : Nat)
  | chain (j : Nat)
deriving DecidableEq, Repr, Inhabited

/-- Whether a word belongs to a coefficient set, to the x̂ of a district, to u_prev, to the weights array. -/
def SramPlace.isCoef : SramPlace → Bool
  | .coef _ _ _ _ | .coefExp _ _ _ => true
  | _ => false
def SramPlace.isXhat : SramPlace → Bool
  | .xhat _ _ | .xhatExp _ => true
  | _ => false
def SramPlace.isUPrev : SramPlace → Bool
  | .uPrev _ _ => true
  | _ => false
def SramPlace.isWeights : SramPlace → Bool
  | .weights _ _ _ => true
  | _ => false

/-- What an entry of a gather list names (R102). -/
inductive GatherSrc where
  | cell (c : Nat)
  | boundary (d c : Nat)
  | droop (k : Nat)
  | hubMin
deriving DecidableEq, Repr

/-- What an entry of an f list names (R128). -/
inductive FSrc where
  | forecaster (j : Nat)
  | granted (k : Nat)
  | zero
deriving DecidableEq, Repr

/-- What an entry of an r list names (R129). -/
inductive RSrc where
  | vref
  | tgt
  | granted
  | one
deriving DecidableEq, Repr

/-- A feature kind entry: KIND, CMASK, SH and the segment-start flags over the 256 local queues (R218). -/
structure KindEntry where
  kind : Nat
  cmask : Nat
  sh : Nat
  flags : List Bool
deriving DecidableEq, Repr, Inhabited

/-- What a control image gives one district (R101, R102, R128, R129, R144, R218, R222, and the values that R55, R103
and R256 place in the image). -/
structure DistImg where
  n : Nat
  m : Nat
  p : Nat
  q : Nat
  s : Nat
  sets : List Nat
  map : Nat
  gather : List GatherSrc
  flist : List FSrc
  rlist : List RSrc
  slew : Nat
  allow : Nat
  ileak : Nat
  kinds : List KindEntry
  tmask : Nat
deriving DecidableEq, Repr, Inhabited

/-- A section entry of an image (R338). -/
structure Sect where
  ty : Nat
  ver : Nat
  off : Nat
  len : Nat
  count : Nat
deriving DecidableEq, Repr, Inhabited

/-- A control image as read from a slot (R337 to R339). -/
structure Image where
  fmtMin : Nat
  fmtMaj : Nat
  revLo : Nat
  revHi : Nat
  len : Nat
  seq : Nat
  ndist : Nat
  keyIdx : Nat
  fcdecl : Bool
  pair : Nat
  fin : Nat
  fh : Nat
  fo : Nat
  nsec : Nat
  sects : List Sect
  dists : List DistImg
  coef : List CoefSet
  wlist : List (Nat × Nat)
  zones : List (Nat × Nat)
deriving DecidableEq, Repr, Inhabited

/-- What a read of an image slot found: a read error that stood through its retry, the MAGIC, whether the key digest and the
signature hold (R341), and the image that its bytes spell. -/
structure SlotRead where
  readFail : Bool
  magic : Bool
  keyOk : Bool
  sigOk : Bool
  img : Image
deriving DecidableEq, Repr, Inhabited

/-- One district's set of Forecaster weights (R220, R345). -/
structure WeightSet where
  w1 : Mat
  b1 : Vec
  lo1 : Vec
  hi1 : Vec
  w2 : Mat
  b2 : Vec
  lo2 : Vec
  hi2 : Vec
deriving DecidableEq, Repr, Inhabited

/-- What a phase shows in one switching cycle (R61, R64): on-time in ps, main-sense codes at its start and end in mA,
full scale, presence comparator, and whether the limit comparator ended the on-time. -/
structure PhaseObs where
  onTime : Nat
  start : Int
  stop : Int
  full : Bool
  presence : Bool
  limit : Bool
deriving DecidableEq, Repr, Inhabited

/-- What the scrubber finds in a word (R122, R123): nothing, a single bit that it corrects, or an uncorrectable error, with what
the word holds. -/
inductive ScrubHit where
  | none
  | corrected
  | uncor (word : SramPlace)
deriving DecidableEq, Repr, Inhabited

/-- An upset of the hardware in a sequence, a Forecaster step or their checks (R117, R119, R122): the stage that it falls in;
the change that it makes to an accumulator of output element `elem`, or with `late` to that element after rounding, 0 for
none; whether a word that the stage reads is uncorrectable; and what that word holds. -/
structure Upset where
  stage : Nat := 0
  elem : Nat := 0
  late : Bool := false
  delta : Int := 0
  uncor : Bool := false
  word : SramPlace := .other
deriving DecidableEq, Repr, Inhabited

/-- The measurement frame of one district in one district period (R108): 64 phase current codes, a check of the books
that fails for a cause in the hardware, an upset of the sequence, single-bit corrections, and the hub's flag that it dropped
the command frame of the last period, because a safe-state order had reached it first (R105). -/
structure Meas where
  phase : List Int
  bookErr : Bool
  err : Upset
  corr : Nat
  dropped : Bool
deriving DecidableEq, Repr, Inhabited

/-- What one Forecaster step of a district met (R113, R121, R122): an upset of the step or of its attribution, the change that
one makes to element `scanAt % 256` of the scan of kind entry `scanAt / 256`, and single-bit corrections. -/
structure StepErr where
  up : Upset := {}
  scan : Int := 0
  scanAt : Nat := 0
  corr : Nat := 0
deriving DecidableEq, Repr, Inhabited

/-- What befalls one scan request of Sunrise (R121, R208): its district; which of the district's four requests it is, 0 the
prefix scan and 1 to 3 the trials; its first issue or its re-issue; and the change that an upset makes to an element. -/
structure ScanUp where
  dist : Nat
  req : Nat := 0
  again : Bool := false
  at_ : Nat := 0
  delta : Int := 0
deriving DecidableEq, Repr, Inhabited

/-- The fuse map as read (R323): whether its parity is good, die identity, revision code, revoked keys, FUSED cells
and the four key digests. -/
structure FuseMap where
  good : Bool
  dieId : Nat
  rev : Nat
  revoked : Nat
  fused : List Nat
  digests : List (List Byte)
deriving DecidableEq, Repr, Inhabited

/-- What the SFDP read finds (R324 to R326): the signature, the density in bytes, the 4 KiB erase instruction, 1-1-4 Fast
Read with its instruction, mode clocks and dummy clocks, the page size, and the Quad Enable Requirements field where the table is
long enough to carry it. -/
structure SfdpRead where
  signature : Bool
  density : Nat
  erase4k : Option Nat
  read114 : Option (Nat × Nat × Nat)
  page : Nat
  quad : Option Nat
deriving DecidableEq, Repr, Inhabited

/-- A weights image as decrypted (R345): the fields of its header, and one set for each district. -/
structure WeightsImg where
  fmtMaj : Nat
  len : Nat
  pair : Nat
  fin : Nat
  fh : Nat
  fo : Nat
  ndist : Nat
  sets : List WeightSet
deriving DecidableEq, Repr, Inhabited

end Sys2Proof
end

