-- ==== Sys2Proof/Syntax.lean ====
section
/-!
DEFINITION. The commands of the block: one constructor per row of spec/opcode_table.json, with the inputs from outside
that the event carries (a gallery and its data, samples, codes, frames, images, the unit it falls on); first the commands
that carry some, in the order of the table, then the others.
-/
namespace Sys2Proof

/-- The commands, each whole and indivisible (R10, and spec/95_what_each_step_holds.md). -/
inductive Instr where
  /-- A register-port or I3C write to a register with no row of its own is checked in the order of R383 and stored
  under the access type of each field. (R16) -/
  | regWrite (g : Gal) (addr : Nat) (data : Word)
  /-- A write of 1 to PG_CTL.LOCK from a privileged gallery withdraws the page privilege from every gallery until
  the next reset. (R463) -/
  | pageLock (g : Gal) (page : Nat)
  /-- The fuse map read completes and marks fused cells FUSED; a parity error holds the device in BOOT. (R323) -/
  | fuseRead (f : FuseMap)
  /-- VFEED of a zone has stayed inside its window for 10 µs, so the zone's hubs start and run the cell self-test.
  (R329) -/
  | zoneVfeedReady (z : Nat)
  /-- The self-test of a zone completes; for the supply zone, the switch-on of the supply coupling group at VBOOT
  begins. (R330) -/
  | selfTestComplete (z : Nat) (bad : List (Nat × Nat × Nat))
  /-- A write of 1 to PWR_CTL.WRST by the owner resets the control complex only and enters BOOT. (R302) -/
  | warmReset (g : Gal)
  /-- The SFDP header and Basic Flash Parameter Table are read and the flash mode, density and usability are
  decided. (R324) -/
  | sfdpDiscovery (sfdp : List Byte)
  /-- The control image is selected by IMG_CTL.NEXT or by SEQ, checked in the order of R341, and applied, or the
  baseline ROM image is used. (R340) -/
  | imageSelect (errA : Nat) (errB : Nat)
  /-- The PLL reaches lock and sets CLK_STAT.LOCK; in small configurations the sequencer selects it. (R320) -/
  | pllLock (t : Nat)
  /-- A write of 1 to CLK_SRC.SEL selects the PLL without a short pulse, or is refused with SELREF while LOCK is
  0. (R320) -/
  | pllSelect (g : Gal)
  /-- With PEND and INFL at 0, Korrath sends INIT to a queue and sets NEXTSEQ to 0. (R184) -/
  | initNotice (q : Nat)
  /-- A district period boundary latches the measurement vectors and starts the per-district schedule. (R108) -/
  | districtPeriod (m : List Meas)
  /-- A district's command frame has not issued by cycle 92, so the sequence is discarded, OVR is set and a
  deadline fault is reported. (R110) -/
  | commandDeadlineMiss (d : Nat)
  /-- A district has been discarded in HOLD_LIM consecutive periods, so PERSIST is set and a persistent arithmetic
  fault is reported. (R120) -/
  | persistentArithFault (d : Nat)
  /-- A hub has received no valid frame in 2 consecutive district periods, so its cells switch to LOCAL mode on
  the last V_ref. (R66) -/
  | hubFrameLoss (d : Nat)
  /-- A die period boundary closes the die period statistics and runs the die loop, the books and the budget
  sequencer. (R142) -/
  | diePeriod (errs : List (Nat × StepErr)) (skipOk : Nat)
  /-- A district's Forecaster step has not completed by cycle 400, so its Forecaster elements of f are zeroed and
  FCOVR is set. (R113) -/
  | forecasterDeadlineMiss (d : Nat)
  /-- A district's weights are uncorrectable in two consecutive die periods, so its Forecaster is disabled. (R224) -/
  | forecasterDistrictDisable (d : Nat)
  /-- The floor test has qualified beyond FLOOR_T, so the district refuses forecasts, removes every grant,
  throttles fully and reports a district-dark event. (R243) -/
  | darkeningBegin (d : Nat)
  /-- 1,000 ns into darkening, the district's fabric clocks stop and its isolation clamps set. (R243) -/
  | darkeningIsolate (d : Nat)
  /-- 1,100 ns into darkening, every cell receives a stop order, Thunderhead is disarmed and the anvil cells go
  OFF. (R243) -/
  | darkeningStop (d : Nat)
  /-- The OFF entry of a darkening district completes, and the district becomes DARK. (R244) -/
  | darkeningComplete (d : Nat)
  /-- A write of 1 to DST_FO_CTL.RESTART takes a DARK district to NORMAL and requests its switch-on. (R244) -/
  | darkRestart (g : Gal) (d : Nat)
  /-- A slot boundary advances every ledger, pulses fab_slot_stb and samples fab_act. (R176) -/
  | slotBoundary (act : List (Nat × Nat)) (nak : List Nat)
  /-- A grant unobserved by S + DUR + 2,000 ns expires, freeing its record, adjusting GCNT and setting UNOBS.
  (R201) -/
  | grantExpiry (d : Nat) (gid : Nat)
  /-- The fabric posts a forecast on a queue port, and the queue store registers it as a pending entry. (R182) -/
  | forecastPost (q : Nat) (fc : BitVec 64) (edge : Nat)
  /-- A closed barrier is slotted district by district into a staircase of starts from T0, or its participants are
  refused. (R208) -/
  | sunriseSlotting (b : Nat) (ups : List ScanUp)
  /-- A barrier record has not closed within TMO slots, so every participant is refused BARRIER and BARTMO is set.
  (R209) -/
  | barrierTimeout (b : Nat)
  /-- A forecast reaches its turn in admission order and its scan is issued to the admission unit. (R192) -/
  | admissionIssue (q : Nat)
  /-- A scan delivers its prefixes and summaries 15 ns after issue, or is re-issued once after a residue mismatch.
  (R115) -/
  | scanComplete (q : Nat) (at_ : Nat) (delta : Int)
  /-- The decision logic answers a forecast GRANTED, DEFERRED or REFUSED and books any grant. (R195) -/
  | admissionDecision (q : Nat) (edge : Nat)
  /-- A response registered at the fabric ends its in-flight time and returns one credit. (R182) -/
  | responseDelivery (q : Nat) (edge : Nat)
  /-- A write of 1 to GQ_QCTL.FLUSH answers the selected queue's pending entries and then sends INIT. (R185) -/
  | gqFlush (g : Gal)
  /-- A write of 1 to GQ_CTL.CNT_CLR clears every queue's counters and GQ_LAT.MAX. (R212) -/
  | gqCntClr (g : Gal)
  /-- In each 10 ns switching cycle a cell computes its demand and turns each active phase on and off. (R64) -/
  | switchingCycle (c : Nat) (vcell : Nat) (vfeed : Nat) (obs : List PhaseObs)
  /-- The demand has stayed at or below the shed threshold for 16 cycles, so one phase is shed. (R79) -/
  | drizzleShed (c : Nat)
  /-- A phase meets the open, stuck or implausible condition for its count of checked cycles and is removed. (R84) -/
  | phaseRemoval (c : Nat) (p : Nat)
  /-- A start order from the hub begins a soft start, is held until LOCK, or is refused. (R73) -/
  | cellStartOrder (c : Nat)
  /-- A start order held for LOCK begins the soft start at the first cycle with LOCK = 1. (R73) -/
  | cellHeldStart (c : Nat)
  /-- A stop order from the hub stops the phases at the end of the cycle and takes the cell OFF. (R73) -/
  | cellStopOrder (c : Nat)
  /-- V_loc has reached the target with V_cell inside ±25 mV, so the cell enters RUN and opens the clean window.
  (R76) -/
  | softstartComplete (c : Nat)
  /-- The short timer of a soft start exceeds 2 µs, so the cell hiccups or fails. (R77) -/
  | softstartShort (c : Nat)
  /-- A soft start has not completed within its timeout, so the cell hiccups or fails. (R76) -/
  | softstartTimeout (c : Nat)
  /-- The counted current-limited cycles reach HIC_N, so the cell opens its switches and enters HICCUP or FAILED.
  (R81) -/
  | cellHiccup (c : Nat)
  /-- The 20 µs hiccup off time ends and the cell begins a new soft start. (R82) -/
  | hiccupEnd (c : Nat)
  /-- 10 µs in RUN without a hiccup trigger clears HIC_CNT. (R83) -/
  | cleanWindowClose (c : Nat)
  /-- A district's delay-locked line acquires lock to SYNC_IN and sets CEL_SYNC.LOCK. (R72) -/
  | dllLock (d : Nat)
  /-- SYNC_IN has shown no rising edge for 40 ns, so the line enters holdover and reports a clock fault. (R72) -/
  | syncHoldover (d : Nat)
  /-- SYNC_IN returns and the line relocks, moving phases back one position per cycle. (R72) -/
  | syncReturn (d : Nat)
  /-- Every 5 ns the hub samples its droop sensors and forms the hub minimum over the valid sensors. (R132) -/
  | hubSample (d : Nat) (codes : List Nat) (vst : List Nat) (vloc : List Nat) (vfeed : Nat)
  /-- A sensor has met a suspect condition for its count of samples, so it is excluded and a sensor event is
  reported. (R134) -/
  | sensorSuspect (d : Nat) (k : Nat)
  /-- A write of 1 to a DST_SSUSP bit clears the suspect mark and readmits the sensor for testing. (R134) -/
  | sensorReadmit (g : Gal) (d : Nat) (j : Nat) (w : Word)
  /-- A write to DST_SRET0 or DST_SRET1 retires or reinstates sensors from the next district boundary. (R133) -/
  | sensorRetireWrite (g : Gal) (d : Nat) (j : Nat) (w : Word)
  /-- FIRED reaches MAXHOLD and ends into taper, counting MAXEXIT and setting THMAX. (R158) -/
  | thunderheadMaxhold (d : Nat)
  /-- The taper time ends and Thunderhead returns to ARMED. (R158) -/
  | taperEnd (d : Nat)
  /-- An anvil release ends at 40 ns, at its storage floor or when FIRED ends, and the cell recharges. (R165) -/
  | anvilReleaseEnd (a : Nat) (ns : Nat) (vst : Nat)
  /-- V_st reaches VFEED − 20 mV and the anvil cell becomes READY. (R166) -/
  | anvilCharged (a : Nat) (vst : Nat) (vfeed : Nat)
  /-- CHG_TMO elapses without READY, so the anvil cell enters FAILED and is reported. (R167) -/
  | anvilChargeTimeout (a : Nat)
  /-- VFEED − V_st has exceeded 40 mV for 1 µs, so the anvil cell recharges. (R166) -/
  | anvilLeakRecharge (a : Nat)
  /-- VFEED at a hub has stayed outside its window for 100 ns, and a VFEED band fault is reported for the zone.
  (R42) -/
  | vfeedExcursion (d : Nat)
  /-- The scrubber reads one word, corrects a single-bit error or reports an uncorrectable one, and counts
  completed passes. (R123) -/
  | scrubWord (hit : ScrubHit) (last : Bool) (d : Nat)
  /-- A write arming ORR_INJ makes the next execution of the named stage or scan suffer the chosen error once.
  (R119) -/
  | orrInjArm (g : Gal) (w : Word)
  /-- A write of 1 to ORR_CTL.CNT_CLR clears ORR_CNT0, ORR_CNT1 and ORR_DLY.MAX. (R125) -/
  | orrCntClr (g : Gal)
  /-- A write of 1 to LOOP_TST_CTL.ARM arms the generator, or is refused with TSTREF. (R149) -/
  | testSignalArm (g : Gal)
  /-- A write of 0 to ARM stops the generator from the next district boundary. (R152) -/
  | testSignalDisarm (g : Gal)
  /-- A write of 1 to FCS_CTL.CNT_CLR clears REDUCTIONS and LOADS. (R232) -/
  | fcsCntClr (g : Gal)
  /-- A write of 1 to BUD_CTL.CNT_CLR clears GRP_CNT. (R271) -/
  | budCntClr (g : Gal)
  /-- An owner write to BUD_SHR0 or BUD_SHR1 is stored pending the next epoch, held behind a move, or rejected
  with SHRBAD. (R260) -/
  | shareWrite (g : Gal) (j : Nat) (w : Word)
  /-- An owner write of 1 to GRP_STAT.COOLLOSS clears the latch if both selected sources show good coolant. (R269) -/
  | coollossClear (g : Gal) (pinHigh : Bool)
  /-- A write of START begins a regular round at the next CLK_HK edge, or is ignored with OVRUN during a round.
  (R277) -/
  | adcRoundStart (g : Gal)
  /-- A powered-down slice finishes its 400 ns start-up delay and samples. (R273) -/
  | sliceStartupDone (sl : Nat)
  /-- A slice completes a conversion and stores its corrected result. (R272) -/
  | adcConversion (sl : Nat) (raw : Int)
  /-- A slice out of service finishes its 48 internal conversions and forms OFS and GAIN, or is marked BAD. (R275) -/
  | sliceCalibrationDone (ground : Int) (half : Int) (full : Int)
  /-- A write of 1 to ADC_CTL.INJ_START triggers the injected sequence, or is held or merged behind a running one.
  (R282) -/
  | adcInjStart (g : Gal)
  /-- A write of 1 to AGE_CTL.READ_NOW reads every monitor at once. (R297) -/
  | ageReadNow (g : Gal)
  /-- The monitor codes are latched, DEG and the district ageing trims are updated. (R298) -/
  | ageingLatch (codes : List Nat)
  /-- The ageing state is written to the flash slot not holding the newest record, and read back. (R299) -/
  | ageingRecordWrite (good : Bool)
  /-- A write changing a PWR_DTGT field requests a district state, refused with REQREF where R306 forbids it.
  (R306) -/
  | districtTargetRequest (g : Gal) (j : Nat) (w : Word)
  /-- With the request in force and no booking left, fab_cstop rises and the district leaves computation. (R308) -/
  | districtEntryBegin (d : Nat)
  /-- 5 ns into an entry, fab_iso rises. (R308) -/
  | districtEntryIsolate (d : Nat)
  /-- 10 ns into an entry, the power, bias and assist outputs take their target codes and Thunderhead and the
  anvils go off. (R308) -/
  | districtEntrySwitches (d : Nat)
  /-- 100 ns into an entry, cells ramp to VRET in LOCAL mode or receive a stop order. (R308) -/
  | districtEntryCells (d : Nat)
  /-- Every available cell is within ±25 mV of VRET, or 100 µs has passed, and RETAIN is reached. (R308) -/
  | retainEntryComplete (d : Nat)
  /-- 100 ns + 20 µs into an OFF entry, the district is OFF. (R308) -/
  | offEntryComplete (d : Nat)
  /-- A switch-on begins with start orders at VS, or a ramp from VRET, and the anvil cells charge. (R309) -/
  | switchOnBegin (d : Nat)
  /-- At a district boundary with every started cell out of SOFTSTART and one in RUN, the Orrery takes the
  district and fab_psw goes to 0b10. (R309) -/
  | railok (d : Nat)
  /-- 1,000 ns after RAILOK, the power switches close fully and the ON bias and assist codes are driven. (R309) -/
  | switchOnPower (d : Nat)
  /-- At a die boundary at or after RAILOK + 1,200 ns with every anvil READY or FAILED, fab_iso falls. (R309) -/
  | switchOnComplete (d : Nat)
  /-- 5 ns after COMPLETE, fab_cstop falls. (R309) -/
  | clockStart (d : Nat)
  /-- RAILOK has not been reached 50 µs after a switch-on began, so SWFAIL is set, a fault reported and the OFF
  entry run. (R310) -/
  | switchOnFail (d : Nat)
  /-- DEV_REQ written to RUN returns the device from QUIET to full rate at the next die boundary. (R311) -/
  | devReqRun (g : Gal)
  /-- DEV_REQ written to QUIET reduces the computation rate from the next die boundary. (R312) -/
  | devReqQuiet (g : Gal)
  /-- DEV_REQ written to DOZE begins the DOZE entry. (R313) -/
  | devReqDoze (g : Gal)
  /-- DEV_REQ written to SLEEP begins the SLEEP entry. (R314) -/
  | devReqSleep (g : Gal)
  /-- A write of 1 to PWR_CTL.WAKE wakes the device from DOZE. (R316) -/
  | wake (g : Gal)
  /-- The clockless matcher sees the dynamic or static address and wakes the device, NACKing the transaction in
  SLEEP. (R394) -/
  | i3cAddressMatch (legacy : Bool) (a : Nat)
  /-- The activity detector sees 8 transitions on a Contrail receive pair and wakes the device while LNK_EN acts.
  (R376) -/
  | linkActivityWake (p : Nat)
  /-- MOD_PRSNT has been high for 10 µs, marking the module present. (R372) -/
  | modulePresent (p : Nat)
  /-- MOD_PRSNT has been low for 1 µs, so the port goes to RESET and a departure may follow. (R372) -/
  | moduleAbsent (p : Nat)
  /-- A present module of a zone with districts, with the PLL selected and PORT_EN set, opens its port in SYNC and
  idle is transmitted. (R373) -/
  | portOpen (p : Nat)
  /-- Three idle ordered sets align the receiver, and Korrath sends HELLO. (R355) -/
  | alignment (p : Nat)
  /-- The fourth errored code group within 64 loses alignment and takes the port DOWN. (R355) -/
  | alignmentLoss (p : Nat)
  /-- 1 ms in SYNC without alignment takes the port DOWN with reason no sync. (R373) -/
  | linkSyncTimeout (p : Nat)
  /-- 100 µs in HELLO without a module HELLO takes the port DOWN. (R373) -/
  | helloTimeout (p : Nat)
  /-- 1 ms after HELLO without CAPS takes the port DOWN. (R373) -/
  | capsTimeout (p : Nat)
  /-- 100 µs in DOWN with the module present returns the port to SYNC. (R373) -/
  | downRetry (p : Nat)
  /-- A received frame with an errored group, abort, bad length, CRC failure or wrong DIR is discarded and draws a
  NAK. (R358) -/
  | frameDiscard (p : Nat) (ns : Nat)
  /-- An accepted ACK acknowledges the named frame and every earlier one. (R361) -/
  | ack (p : Nat) (n : Nat)
  /-- An accepted NAK makes Korrath retransmit from the named SEQ with RTX = 1. (R361) -/
  | nak (p : Nat) (n : Nat)
  /-- An accepted module HELLO restarts the numbering and moves the port to CAPSWAIT, or closes it on a wrong
  PMAJ. (R366) -/
  | hello (p : Nat) (pay : List Byte)
  /-- An accepted CAPS sets the module's declared limit and takes the port to UP, or closes it on an empty range.
  (R368) -/
  | caps (p : Nat) (pay : List Byte)
  /-- An accepted TELEM updates the module readings and VFEED_meas of the zone. (R369) -/
  | telem (p : Nat) (pay : List Byte)
  /-- An accepted ALERT is recorded, triggers the injected ADC sequence, and may signal coolant loss or a
  departure. (R370) -/
  | alert (p : Nat) (pay : List Byte)
  /-- An accepted KEEPALIVE is acknowledged and keeps the link timeout from expiring. (R362) -/
  | keepalive (p : Nat)
  /-- An accepted BYE from the module takes the port DOWN, with a departure if it was UP. (R373) -/
  | bye (p : Nat) (pay : List Byte)
  /-- A good frame with the expected SEQ is accepted and acknowledged, or a duplicate or out-of-order frame draws
  a repeated ACK or a NAK. (R360) -/
  | frameReceive (p : Nat) (bytes : List Byte) (ns : Nat)
  /-- The 2,000 ns retransmission timer expires and Korrath retransmits from the oldest unacknowledged frame, or
  takes the link down at 8 retries. (R361) -/
  | retransmitTimeout (p : Nat)
  /-- No sequenced frame has been sent for KA µs, so Korrath sends KEEPALIVE. (R362) -/
  | keepaliveSend (p : Nat)
  /-- No frame or ACK has been accepted for TMO µs, so the link goes down. (R362) -/
  | linkTimeout (p : Nat)
  /-- No TELEM has been accepted for 300 µs, so R44 uses 1.600 V and TELSTALE is set. (R369) -/
  | telemStale (p : Nat)
  /-- A write of 1 to GAL_FENCE.GO withholds its response until every earlier write of the gallery has taken
  effect. (R388) -/
  | fence (g : Gal) (page : Gal)
  /-- The fenced writes have taken effect and the fence is answered OK. (R388) -/
  | fenceComplete (g : Gal)
  /-- A fence has not completed within 10 µs and is answered ERROR with FENCETMO. (R388) -/
  | fenceTimeout (g : Gal)
  /-- The ENEC CCC enables the target's IBIs or Hot-Join. (R390) -/
  | enec (ev : Nat)
  /-- The DISEC CCC disables the target's IBIs or Hot-Join. (R390) -/
  | disec (ev : Nat)
  /-- The ENTDAA CCC makes the target take part in dynamic address assignment. (R390) -/
  | entdaa (a : Nat)
  /-- The SETDASA CCC addressed at SADDR assigns the dynamic address. (R390) -/
  | setdasa (sa : Nat) (a : Nat)
  /-- The SETNEWDA CCC gives the target a new dynamic address. (R390) -/
  | setnewda (a : Nat)
  /-- The SETMWL CCC stores the maximum write length. (R390) -/
  | setmwl (n : Nat)
  /-- The SETMRL CCC stores the maximum read length. (R390) -/
  | setmrl (n : Nat)
  /-- Any other direct CCC is NACKed, or broadcast CCC ignored, and CCCN is set. (R390) -/
  | cccUnsupported (direct : Bool)
  /-- A private write with operation 0x0 writes each group of 4 bytes to an advancing address as the bound
  gallery. (R392) -/
  | i3cPrivateWrite (legacy : Bool) (addr : Nat) (data : List Byte)
  /-- A private write with operation 0x1 sets the read address and begins its read. (R392) -/
  | i3cReadAddress (legacy : Bool) (addr : Nat)
  /-- A private read returns a status byte and 4 data bytes per register, advancing the address. (R392) -/
  | i3cPrivateRead (legacy : Bool) (n : Nat)
  /-- A rising interrupt bit of the bound gallery makes the target request an IBI, repeated until accepted. (R393) -/
  | ibiRequest (accepted : Bool)
  /-- A rise of a ring's EN samples BASE and LOG2 and sets HEAD to TAIL. (R397) -/
  | ringEnable (g : Gal) (r : Gal) (capture : Bool)
  /-- A TAIL write inside the valid range frees ring entries, otherwise it is ignored with BADTAIL. (R397) -/
  | ringTailWrite (g : Gal) (r : Gal) (capture : Bool) (tail : Nat)
  /-- A completion of the memory write port is registered, advancing HEAD or, on error, disabling the ring. (R396) -/
  | memoryWriteCompletion (id : Nat) (err : Bool)
  /-- A write not completed within 1 ms counts as an error and disables its ring. (R396) -/
  | memoryWriteTimeout (id : Nat)
  /-- A write of 1 to CAP_CTL.ARM arms the capture engine, or is refused with REF. (R401) -/
  | captureArm (g : Gal)
  /-- A write of 0 to ARM closes the last chunk, adds an end chunk and enters DRAIN. (R401) -/
  | captureDisarm (g : Gal)
  /-- A report line shows equal levels on 8 consecutive samples, so a WIRING report is registered and the line
  masked. (R407) -/
  | wiringFault (src : Nat) (cls : Nat)
  /-- The restart condition of an OFF cause holds for its time, such as VFEED or coolant good for 10 µs or
  SAFE_STOP_N high for 1 ms. (R411) -/
  | offCauseRestartRelease (cls : Nat)
  /-- A write of 1 to FLT_CTL.HREL clears every standing owner HOLD cause. (R415) -/
  | holdRelease (g : Gal)
  /-- A write of 1 to FLT_CTL.OREL clears SAFESTOP and injected OFF causes while SAFE_STOP_N is high. (R417) -/
  | offRelease (g : Gal) (pinHigh : Bool)
  /-- A write of 1 to FLT_CTL.FIRST_CLR frees the first-fault latch. (R421) -/
  | firstFaultClear (g : Gal)
  /-- A write of 1 to FLT_CTL.HDUMP stages a HISTORY record of the 32 history entries. (R425) -/
  | historyDump (g : Gal)
  /-- The oldest staged record is programmed into the flash, read back, marked valid, or voided and retried.
  (R427) -/
  | archiveProgram (bad : List Bool)
  /-- A write of ERASE with KEY 0x5A erases the Archive region in RUN or QUIET and then programs an ERASED record.
  (R430) -/
  | archiveErase (g : Gal)
  /-- A write to ARC_RADR fetches 64 bytes from the flash region or the staging queue into ARC_RDAT. (R431) -/
  | archiveFetch (g : Gal) (w : Word)
  /-- A write of 1 to EXH_CTL.TRIG registers an Exhibit trigger. (R432) -/
  | exhibitTrigger (g : Gal)
  /-- A write of 1 to EXH_CTL.REARM clears HELD. (R434) -/
  | exhibitRearm (g : Gal)
  /-- CAL_CMD.CLEAR opens the 64 KiB staging buffer filled with 0xFF. (R349) -/
  | calClear (g : Gal)
  /-- A write to CAL_WDAT stores a word in the staging buffer at OFS and advances OFS. (R349) -/
  | calWdat (g : Gal) (w : Word)
  /-- CAL_CMD.COMMIT with KEY 0x5A checks the staged set, erases the region, programs it and reads it back. (R349) -/
  | calCommit (g : Gal)
  /-- A write to IMG_PDAT appends four bytes to the 256-byte page buffer. (R350) -/
  | imgPdat (g : Gal) (w : Word)
  /-- IMG_PCMD code 0b01 erases the 4 KiB sector at OFS of the chosen slot, or is refused. (R350) -/
  | imgErase (g : Gal)
  /-- IMG_PCMD code 0b10 programs the page buffer at OFS and reads it back, or is refused. (R350) -/
  | imgProgram (g : Gal)
  /-- IMG_PCMD code 0b11 empties the page buffer. (R350) -/
  | imgEmptyBuffer (g : Gal)
  /-- A write of CLAIM takes the unowned mailbox for the writing gallery. (R440) -/
  | claim (g : Gal)
  /-- A write of REL by the owner ends the claim and the session. (R440) -/
  | rel (g : Gal)
  /-- A write of FREL by gallery 0 ends any claim. (R440) -/
  | frel (g : Gal)
  /-- A write to SEC_MBDAT stores a word of the request buffer and advances the offset. (R441) -/
  | mailboxDataWrite (g : Gal) (w : Word)
  /-- A write of SEND hands the request buffer to the SPDM responder with KIND and LEN. (R441) -/
  | send (g : Gal) (secured : Bool) (len : Nat)
  /-- GET_VERSION ends any session, restarts the connection and returns entry 0x1200. (R443) -/
  | getVersion
  /-- GET_CAPABILITIES returns Korrath's flags, CTExponent and sizes. (R443) -/
  | getCapabilities
  /-- NEGOTIATE_ALGORITHMS selects the fixed algorithm set or answers InvalidRequest. (R444) -/
  | negotiateAlgorithms
  /-- GET_DIGESTS returns the digest of slot 0 when a chain is committed. (R443) -/
  | getDigests
  /-- GET_CERTIFICATE returns a portion of the slot 0 chain. (R443) -/
  | getCertificate
  /-- CHALLENGE returns a signed CHALLENGE_AUTH with the requested summary hash. (R448) -/
  | challenge
  /-- GET_MEASUREMENTS returns the measurement blocks taken on one edge, signed or unsigned. (R447) -/
  | getMeasurements
  /-- KEY_EXCHANGE begins the one session handshake with an ephemeral secp384r1 key. (R449) -/
  | keyExchange
  /-- FINISH completes the handshake and establishes the session. (R443) -/
  | finish
  /-- END_SESSION is acknowledged and the session keys are zeroised. (R450) -/
  | endSession
  /-- A request outside the subset, out of order or malformed is answered with the ERROR that R445 names. (R445) -/
  | spdmUnsupported
  /-- A key record in a secured message is accepted and held, or refused, and answered with a KACK. (R452) -/
  | keyRecord
  /-- SEC_CCTL.CLEAR empties the certificate chain store. (R438) -/
  | chainClear (g : Gal)
  /-- A write to SEC_CDAT stores chain bytes at OFS and advances OFS. (R438) -/
  | chainDataWrite (g : Gal) (w : Word)
  /-- SEC_CCTL.COMMIT checks the chain length and leaf key and commits it, or empties the store. (R438) -/
  | chainCommit (g : Gal)
  /-- SEC_WCTL.BEGIN opens a weights delivery while a key is held, or is refused with WREF. (R453) -/
  | begin (g : Gal)
  /-- SEC_WCTL.ABORT ends the open delivery as failed and zeroises the weights array. (R453) -/
  | abort (g : Gal)
  /-- A write to SEC_WDAT feeds four bytes into the header check, decryption and digest. (R453) -/
  | weightsDataWrite (g : Gal) (w : Word)
  /-- At byte LEN the tag and digest are checked, and the Forecaster takes the decrypted event or the array is
  zeroised. (R453) -/
  | weightsDeliveryEnd
  /-- A write of 1 to SEC_DBG.INV_REQ from gallery 0 or the operator gallery requests invasive debug. (R456) -/
  | invReq (g : Gal)
  /-- Update-DR of DBGEN with 1 requests invasive debug. (R456) -/
  | dbgen (one : Bool)
  /-- The DBGACC instruction reads or writes an on-block SRAM word while INV is 1. (R457) -/
  | dbgacc (write : Bool) (arr : Nat) (addr : Nat) (data : BitVec 64)
  /-- A register-port or I3C read is checked in the order of R383; a read answered DENIED or ERROR returns 0, is
  counted in HPT_CNT, sets the HPT page flag and loads HPT_ELOG when free. (R383) -/
  | regRead (g : Gal) (addr : Nat)
  /-- A read of SEC_MBDAT returns a word of the response buffer at OFS, or 0 for a gallery that does not own the
  claim, and advances OFS by 4. (R440) -/
  | mailboxDataRead (g : Gal)
  /-- A read of SEC_CDAT returns the chain bytes at OFS and advances SEC_CADR.OFS by 4. (R438) -/
  | chainDataRead (g : Gal)
  /-- A write clearing LNK_CTL.PORT_EN bit n sends port n to RESET with its transmitter at electrical idle,
  records reason PORT_EN cleared, and raises a departure if the port was UP. (R373) -/
  | portEnClear (g : Gal) (p : Nat)
  /-- When LNK_CTL.TRIM_EN falls to 0, Korrath sends one TRIM with DV 0 on each port that used trim. (R371) -/
  | trimDisable (g : Gal)
  /-- The erase, programming and read-back of a calibration commit end; BUSY clears, RESULT and COMMITS are loaded
  and an EVENT record 0x000A is staged. (R349) -/
  | calCommitComplete (good : Bool)
  /-- A slot erase or program command ends; IMG_PSTAT.BUSY clears, RESULT is loaded and a read-back mismatch sets
  PGMERR. (R350) -/
  | imgPcmdComplete (good : Bool)
  /-- VAON falls below 0.70 V or PORST_N is held low for 1 µs, and Korrath stops fabric clocks, sets isolation and
  opens every cell's switches. (R478) -/
  | coldReset
  /-- Cold reset is released, FIO and the sequencer run, and the fuse read begins. (R329) -/
  | coldResetRelease
  /-- 10 µs after COMPLETE of the supply group switch-on, the warm reset of the control complex is released, the
  PLL is enabled and the SFDP read begins. (R329) -/
  | controlComplexRelease
  /-- The calibration set and the ageing record are read and checked, and either they or the defaults are applied.
  (R348) -/
  | calibrationLoad
  /-- A small configuration has not locked within 200 µs, so NOLOCK is set and a clock fault is reported. (R320) -/
  | nolock
  /-- The selected PLL loses lock, which is reported to the fault collector as a PLL fault. (R33) -/
  | pllLockLoss
  /-- With the PLL selected and an image applied, the Orrery starts, fixing the slot grid origin and the first
  district, die and epoch boundary. (R329) -/
  | orreryStart
  /-- At the first die boundary after image, Orrery start and a trip-free thermal point, the return order of R319
  begins. (R333) -/
  | districtReturn
  /-- A return-order entry of a small configuration falls due and begins, skips or waits for its zone's CAPS.
  (R319) -/
  | returnOrderEntry
  /-- A return entry has waited 100 ms for its zone, so it is abandoned, ZONETMO is set and later entries proceed.
  (R334) -/
  | zoneWaitAbandon
  /-- BOOT ends, the device enters RUN and sends INIT to every queue. (R334) -/
  | bootEnd
  /-- Before the release of the control complex, supply-zone VFEED leaves its window for 100 ns and the sequencer
  takes the supply group OFF and restarts its wait. (R336) -/
  | sequencerVfeedWatch
  /-- In SAFE_OFF, once every OFF entry is complete and every OFF cause is released, the supply group is switched
  on and the control complex reset and released. (R335) -/
  | restartPath
  /-- The floor test qualifies for the group of the supply district, so a supply-district capacity fault is
  reported instead of darkening. (R242) -/
  | supcapFault
  /-- A non-zero residual has lasted EXC_T die periods, so a group excursion is raised and reported to the owner.
  (R264) -/
  | groupExcursion
  /-- A zero residual has lasted EXC_T die periods, so the excursion ends and EXC clears. (R264) -/
  | groupExcursionEnd
  /-- A budget epoch boundary moves shares, resets quotas, closes the throttle-free interval and applies group-
  mode changes. (R248) -/
  | budgetEpoch
  /-- Within 10 µs of the epoch boundary the attribution results of the whole die are published on one edge and
  FCS_EPOCH increments. (R231) -/
  | attributionPublish
  /-- After publication, a 512-byte telemetry record is prepared and written for each gallery whose ring is
  enabled, or its loss is recorded. (R398) -/
  | telemetryRecord
  /-- The test-signal run length DUR expires, so the generator stops with code 0b010. (R152) -/
  | testSignalDurExpire
  /-- An armed generator starts at the next die boundary, sets ACTIVE and raises the injection-start trigger.
  (R149) -/
  | testSignalStart
  /-- COOLANT_OK has been low for 1 µs, or a coolant-bad ALERT is accepted, so COOLLOSS is set and a coolant fault
  is reported. (R268) -/
  | coolantLoss
  /-- Every 1 ms the round timer writes START. (R277) -/
  | roundTimer
  /-- No round has begun for 3 ms, so the sequencer begins one itself and sets RTWD. (R277) -/
  | roundWatchdog
  /-- The cooling timer reaches 100 ms, so THERMTRIP_N is released and the restart path may begin. (R295) -/
  | thermalRestart
  /-- Every 10 ms, once no conversion is in progress, the calibrated slice returns to service and the next leaves.
  (R274) -/
  | sliceRotation
  /-- After each 10 operating seconds, at the end of a round, every monitor of every ON district is read. (R297) -/
  | ageingRead
  /-- At a die boundary with every ledger empty throughout, CLK_CTL is gated to the Orrery and sequencers. (R313) -/
  | dozeEntryComplete
  /-- At the die boundary after a DOZE wake, the state before DOZE is restored and held forecasts are admitted.
  (R313) -/
  | dozeExitComplete
  /-- With every ledger empty, every district outside the supply group begins its OFF entry. (R314) -/
  | sleepEntryBegin
  /-- Retained fields stored and PLL stopped, the supply group takes its OFF entry and the control complex powers
  down. (R314) -/
  | sleepPowerDown
  /-- A wake in SLEEP begins the switch-on of the supply coupling group at VBOOT on FIO. (R315) -/
  | sleepWake
  /-- The RSTDAA CCC makes the target forget its dynamic address. (R390) -/
  | rstdaa
  /-- The GETPID CCC returns the provisioned ID. (R390) -/
  | getpid
  /-- The GETBCR CCC returns BCR 0x06. (R390) -/
  | getbcr
  /-- The GETDCR CCC returns DCR 0x00. (R390) -/
  | getdcr
  /-- The GETSTATUS CCC returns the count of pending interrupt bits of the bound gallery. (R390) -/
  | getstatus
  /-- The GETMWL CCC returns 256 bytes. (R390) -/
  | getmwl
  /-- The GETMRL CCC returns 250 bytes. (R390) -/
  | getmrl
  /-- An ENTHDRx CCC makes the target ignore the bus until the HDR Exit Pattern. (R390) -/
  | enthdr
  /-- Without a dynamic address and with Hot-Join enabled, the target requests Hot-Join at Bus Idle, repeating
  every 10 ms. (R391) -/
  | hotJoin
  /-- A 256-bit telemetry or capture write is issued on the memory write port when it is ready. (R396) -/
  | memoryWriteIssue
  /-- POST frames after the trigger have been taken, so the engine closes its chunks and drains. (R401) -/
  | captureStop
  /-- A report line is registered, classified and written to the history, and its class reaction is applied.
  (R406) -/
  | faultReport
  /-- SAFE_STOP_N has been low for 100 ns, so a SAFESTOP report forces SAFE_OFF. (R408) -/
  | safeStop
  /-- An armed FLT_INJ reports once from SRC 0x0000 with the reaction of the chosen class. (R411) -/
  | faultInject
  /-- Every 5 µs ERR_ALIVE toggles while the device runs with no HOLD or OFF cause. (R419) -/
  | errAliveToggle
  /-- The collector heartbeat stops for 10 µs and the always-on domain drives ERR_ALIVE low. (R419) -/
  | heartbeatLoss
  /-- After cold reset the Archive chain is walked, torn records voided and damaged ones stepped over. (R428) -/
  | archiveScan
  /-- A qualified rise of EXH_IN registers an Exhibit trigger while PIN_EN is 1. (R432) -/
  | exhInRise
  /-- On the edge after a trigger, every participating page copies its live registers, or a held Exhibit counts
  the trigger as missed. (R433) -/
  | exhibitEdge
  /-- The device identity key is derived and SEC_IDPUB becomes readable, ending the Busy answers. (R437) -/
  | identityKeyReady
  /-- An entropy health test fails, setting ENTFAIL, and requests needing random values are refused until reset.
  (R439) -/
  | entropyHealthFail
  /-- A claim without SEND for 1 s ends by itself and sets MBTMO. (R440) -/
  | mailboxTimeout
  /-- The response stands in the response buffer and RDY is set. (R442) -/
  | spdmResponseReady
  /-- A secured message whose MAC fails is answered DecryptError in the clear and ends the session. (R445) -/
  | decryptError
  /-- The weights array has been zeroed and INV is set, enabling DBGACC. (R456) -/
  | invasiveDebugEnabled
  /-- The EXTEST instruction selects the boundary register while every district is OFF, else bypass with TAPREF.
  (R455) -/
  | extest
  /-- The IDCODE instruction returns the 32-bit identity code. (R455) -/
  | idcode
  /-- The SAMPLE/PRELOAD instruction selects the boundary register. (R455) -/
  | samplePreload
  /-- The DBGSTAT instruction returns SEC_DBG. (R455) -/
  | dbgstat
  /-- The BYPASS instruction, or any unused code, selects the bypass register. (R455) -/
  | bypass
  /-- The TAP controller leaves Test-Logic-Reset; SEC_DBG.TAPACT sets and PWR_WAKE.LNK_EN acts as 1. (R317) -/
  | testLogicResetExit
  /-- The TAP controller enters Test-Logic-Reset through TRST_N or TMS; TAPACT clears and LNK_EN acts as its
  stored value again. (R317) -/
  | testLogicResetEntry
  /-- The erase of the Archive region ends; an ERASED record is programmed at offset 0 with the next accession
  number and the Archive returns to recording. (R430) -/
  | archiveEraseComplete
deriving DecidableEq, Repr

end Sys2Proof
end

