-- ==== Sys2Proof/Config.lean ====
section
/-!
DEFINITION. What an implementation fixes and the spec leaves open: free values, and the results of the cryptographic
and analogue machinery whose outcome the spec names without giving its bits. None of them has a body, so nothing can
be proved of its value.
-/
namespace Sys2Proof.Config

/-- The n-th free value: what the hardware holds where the spec leaves a value open. -/
opaque freeVal : Nat → Nat

/-- SHA-384 of a byte string (R444, R447); only its first 48 bytes are used. -/
opaque sha384 : List Byte → List Byte

/-- The device identity public key as 96 bytes x then y, derived from the seed and DIEID (R437). -/
opaque idPub : Nat → List Byte

/-- The ECDSA P-384 signature under the identity key of DIEID with a per-signature nonce over a message (R439, R443): only its first
96 bytes are used. -/
opaque idSign : Nat → List Byte → List Byte → List Byte

/-- Random bytes of the DRBG, by draw (R439). -/
opaque drbg : Nat → Byte

/-- The ephemeral ECDHE public key of a draw (R449): only its first 96 bytes are used. -/
opaque ecdhPub : Nat → List Byte

/-- HMAC of the finished key over a transcript, for the requester (0) and the responder (1) (R449). -/
opaque finishedMac : Nat → List Byte → List Byte

/-- The key of a session that derives from its transcript, for requests (0) and responses (1) (R449). -/
opaque sessKey : List Byte → Nat → List Byte

/-- The AES-256 counter-mode key stream of a key and an initialisation vector, by byte (R441, R453). -/
opaque keyStream : List Byte → List Byte → Nat → Byte

/-- The authentication tag of AES-256-GCM: key, initialisation vector, additional data, ciphertext (R441, R453); only its first 16
bytes are used. -/
opaque gcmTag : List Byte → List Byte → List Byte → List Byte → List Byte

/-- The SRC of an EVENT record, which the spec gives no value for each CODE (R425, R426): by CODE and ARG0. -/
opaque eventSrc : Nat → Nat → Nat

/-- The baseline ROM image's coefficient set of a district, and its shape and lists, which the spec gives only in part
(R344). -/
opaque romSet : Nat → CoefSet
opaque romDist : Nat → DistImg

/-- The rounding error of the sine table of the test-signal generator at a phase, before its bound (R150). -/
opaque sineErr : Nat → Int

/-- The public key in the last certificate of a chain, as 96 bytes x then y (R438). -/
opaque leafKey : List Byte → List Byte

/-- ARG0 of the EVENT record of invasive debug, which the spec names without a code (R426): by path, 1 JTAG, 2 gallery. -/
opaque debugPath : Nat → Nat

/-- What a word of the SRAM arrays holds, by array select and address: the spec gives no map of the arrays (R457). -/
opaque sramPlace : Nat → Nat → SramPlace

/-- The SRAM word that DBGACC reads where it has not written and the word is none that the model holds (R457). -/
opaque sramWord : Nat → Nat → BitVec 64

/-- Whether a signature of 96 bytes is an ECDSA P-384 signature under a public key over a digest (R337): key, digest, signature. -/
opaque ecdsaOk : List Byte → List Byte → List Byte → Bool

/-- The ECDSA P-384 signature that the holder of a public key makes over a digest (R337): only its first 96 bytes are used. -/
opaque ecdsaSign : List Byte → List Byte → List Byte

/-- The districts' data that the bytes of a DIST section spell: the spec names its items without their encoding (R338). -/
opaque distSection : List Byte → List DistImg

/-- The feature tables and TMASKs that the bytes of an FCST section spell: the spec names its items without their encoding
(R338). -/
opaque fcstSection : List Byte → List (List KindEntry × Nat)

/-- The shape (n, m, p, q, s) by which a coefficient set that no district names is passed over, by its index: the spec states
none (R339). -/
opaque unnamedShape : Nat → Nat × Nat × Nat × Nat × Nat

/-- SHA-384 of the baseline ROM image (R447). -/
opaque romDigest : List Byte

end Sys2Proof.Config
end

