-- ==== Sys2Proof/Machine/Field.lean ====
section
/-!
DEFINITION. Sparse tables (the one container of the model's state) and the handles by which a register field is named:
where it lies, how wide it is, its access type, its range and how a write reaches it.
-/
namespace Sys2Proof.Machine

/-- A sparse table: key and value pairs with strictly rising keys. What an unlisted key holds is the reader's default. -/
abbrev Tab (α : Type) := List (Nat × α)

/-- The value listed at key `k`. -/
def tabGet {α : Type} (t : Tab α) (k : Nat) : Option α :=
  match t with
  | [] => none
  | (k', v) :: r => if k' = k then some v else tabGet r k

/-- The table with `v` at key `k`, keys kept strictly rising: the entries under smaller keys stay in front of it. -/
def tabPut {α : Type} (t : Tab α) (k : Nat) (v : α) : Tab α :=
  match t with
  | [] => [(k, v)]
  | x :: r => if x.1 < k then x :: tabPut r k v else (k, v) :: (if x.1 = k then r else t)

/-- The table with key `k` unlisted. -/
def tabDel {α : Type} (t : Tab α) (k : Nat) : Tab α := t.filter fun x => x.1 != k

/-- Every key of the table is above `b`, and the keys rise strictly. -/
def tabAbove {α : Type} (b : Nat) : Tab α → Bool
  | [] => true
  | (k, _) :: r => decide (b < k) && tabAbove k r

/-- The canonical form of a table: strictly rising keys. -/
def tabWf {α : Type} : Tab α → Bool
  | [] => true
  | (k, _) :: r => tabAbove k r

/-- Access types of register fields (R16 to R19). -/
inductive Access where
  | rw | ro | w1c | wo | rwp | rws
deriving DecidableEq, Repr

/-- How the instances of a field lie: one register; one per page (DST, CEL and GAL pages, and the common header of
every page); one per cell, 16 to a CEL page; or one per selection of an indexed register. -/
inductive Inst where
  | one | page | cell | bank
deriving DecidableEq, Repr

/-- When the data of a write reaches a field (R17): a setting is reached by a change, a command by a 1 or a non-zero
code, a data buffer by every write. -/
inductive Reach where
  | setting | command | buffer
deriving DecidableEq, Repr

/-- A register field: instances, address of instance 0, reset word of its register, lowest bit, width, access type,
range of its codes (R88 and the page rules alike), signed encoding, and how a write reaches it. -/
structure Fld where
  inst : Inst
  base : Nat
  rst : Nat
  lo : Nat
  w : Nat
  acc : Access
  rng : Option (Int × Int)
  sgn : Bool
  reach : Reach
deriving DecidableEq, Repr

/-- A register of a page: its offset and its fields, in descending bit order. -/
structure RegDef where
  off : Nat
  flds : List Fld
deriving DecidableEq, Repr

/-- The key under which instance `i` of a field is stored: its register address (R15), or, for an indexed register, a
place of its own above the 1 MiB register space. -/
def Fld.key (F : Fld) (i : Nat) : Nat :=
  match F.inst with
  | .one => F.base
  | .page => F.base + 0x1000 * i
  | .cell => F.base + 0x1000 * (i / 16) + 0x10 * (i % 16)
  | .bank => F.base + 0x100000 * (i + 1)

/-- The bits [lo + w - 1 : lo] of a register word. -/
def bitsOf (x : Word) (lo w : Nat) : Nat := (x >>> lo).toNat % 2 ^ w

/-- A register word with the bits [lo + w - 1 : lo] replaced by the low `w` bits of `v`. -/
def withBits (x : Word) (lo w v : Nat) : Word :=
  (x &&& ~~~((BitVec.ofNat 32 (2 ^ w - 1)) <<< lo)) ||| ((BitVec.ofNat 32 (v % 2 ^ w)) <<< lo)

/-- The two's complement value of a `w`-bit code. -/
def signedOf (w v : Nat) : Int := if v < 2 ^ (w - 1) then (v : Int) else (v : Int) - (2 : Int) ^ w

/-- The `w`-bit two's complement code of an integer. -/
def codeOf (w : Nat) (x : Int) : Nat := (x % ((2 : Int) ^ w)).toNat

/-- The nearer end of a range (R88, R178 and the page rules). -/
def clampTo (lo hi x : Int) : Int := if x < lo then lo else if hi < x then hi else x

/-- Saturation of a count in an unsigned field of `w` bits. -/
def satU (w n : Nat) : Nat := if n < 2 ^ w then n else 2 ^ w - 1

/-- Division rounded to nearest with ties to even (R13); a zero divisor gives zero. -/
def rdiv (a : Int) (b : Nat) : Int :=
  if b = 0 then 0
  else
    let q := a / (b : Int)
    let r := a % (b : Int)
    if 2 * r < (b : Int) then q
    else if (b : Int) < 2 * r then q + 1
    else if q % 2 = 0 then q else q + 1

end Sys2Proof.Machine
end

