-- ==== Sys2Proof/Machine/Regs.lean ====
section
/-!
DEFINITION. Every field of every register of the map (R460 to R468, and the register sections of each chapter): its
place, width, access type (R16 to R19), reset, range and how a write reaches it (R17). A handle is named
REGISTER_FIELD, as the spec names it; PG_FLT of a page is named after the page (DST_FLT for the DST pages).
-/
namespace Sys2Proof.Machine.R

/-! ### SYS page (R460) -/

def SYS_FLT_WARM : Fld := ⟨.one, 0x14, 0x0, 1, 1, .w1c, none, false, .setting⟩
def SYS_FLT_COLD : Fld := ⟨.one, 0x14, 0x0, 0, 1, .w1c, none, false, .setting⟩
def SYS_PART_PART : Fld := ⟨.one, 0x40, 0x24000000, 16, 16, .ro, none, false, .setting⟩
def SYS_PART_NDIST : Fld := ⟨.one, 0x40, 0x24000000, 8, 8, .ro, none, false, .setting⟩
def SYS_PART_REV : Fld := ⟨.one, 0x40, 0x24000000, 0, 8, .ro, none, false, .setting⟩
def SYS_CFG_LARGE : Fld := ⟨.one, 0x44, 0x0, 31, 1, .ro, none, false, .setting⟩
def SYS_CFG_ZMASK : Fld := ⟨.one, 0x44, 0x0, 24, 4, .ro, none, false, .setting⟩
def SYS_CFG_CCSUP : Fld := ⟨.one, 0x44, 0x0, 16, 6, .ro, none, false, .setting⟩
def SYS_CFG_FUSED : Fld := ⟨.one, 0x44, 0x0, 0, 11, .ro, none, false, .setting⟩
def SYS_ZONE_Z3 : Fld := ⟨.one, 0x48, 0x0, 24, 8, .ro, none, false, .setting⟩
def SYS_ZONE_Z2 : Fld := ⟨.one, 0x48, 0x0, 16, 8, .ro, none, false, .setting⟩
def SYS_ZONE_Z1 : Fld := ⟨.one, 0x48, 0x0, 8, 8, .ro, none, false, .setting⟩
def SYS_ZONE_Z0 : Fld := ⟨.one, 0x48, 0x0, 0, 8, .ro, none, false, .setting⟩
def SYS_WHO_I3C : Fld := ⟨.one, 0x4c, 0x0, 31, 1, .ro, none, false, .setting⟩
def SYS_WHO_GAL : Fld := ⟨.one, 0x4c, 0x0, 0, 3, .ro, none, false, .setting⟩
def SYS_FSUM0_SUM : Fld := ⟨.one, 0x50, 0x0, 0, 32, .ro, none, false, .setting⟩
def SYS_FSUM1_SUM : Fld := ⟨.one, 0x54, 0x0, 0, 32, .ro, none, false, .setting⟩
def SYS_FSUM2_SUM : Fld := ⟨.one, 0x58, 0x0, 0, 32, .ro, none, false, .setting⟩
def SYS_FSUM3_SUM : Fld := ⟨.one, 0x5c, 0x0, 0, 32, .ro, none, false, .setting⟩
def SYS_FSUM4_SUM : Fld := ⟨.one, 0x60, 0x0, 0, 32, .ro, none, false, .setting⟩
def SYS_FSUM5_SUM : Fld := ⟨.one, 0x64, 0x0, 0, 32, .ro, none, false, .setting⟩
def SYS_FSUM6_SUM : Fld := ⟨.one, 0x68, 0x0, 0, 32, .ro, none, false, .setting⟩
def SYS_FSUM7_SUM : Fld := ⟨.one, 0x6c, 0x0, 0, 32, .ro, none, false, .setting⟩
def SYS_DEV_DEV : Fld := ⟨.one, 0x70, 0x0, 29, 3, .ro, none, false, .setting⟩
def SYS_DEV_FSTATE : Fld := ⟨.one, 0x70, 0x0, 27, 2, .ro, none, false, .setting⟩
def SYS_DEV_ALIVE : Fld := ⟨.one, 0x70, 0x0, 26, 1, .ro, none, false, .setting⟩
def SYS_DEV_PLLSRC : Fld := ⟨.one, 0x70, 0x0, 25, 1, .ro, none, false, .setting⟩
def SYS_DEV_ORUN : Fld := ⟨.one, 0x70, 0x0, 24, 1, .ro, none, false, .setting⟩
def SYS_SCR_SCR : Fld := ⟨.one, 0x74, 0x0, 0, 32, .rws, none, false, .setting⟩
/-- The registers of the SYS page by offset. -/
def sysRegs : List RegDef := [
  ⟨0x14, [SYS_FLT_WARM, SYS_FLT_COLD]⟩,
  ⟨0x40, [SYS_PART_PART, SYS_PART_NDIST, SYS_PART_REV]⟩,
  ⟨0x44, [SYS_CFG_LARGE, SYS_CFG_ZMASK, SYS_CFG_CCSUP, SYS_CFG_FUSED]⟩,
  ⟨0x48, [SYS_ZONE_Z3, SYS_ZONE_Z2, SYS_ZONE_Z1, SYS_ZONE_Z0]⟩,
  ⟨0x4c, [SYS_WHO_I3C, SYS_WHO_GAL]⟩,
  ⟨0x50, [SYS_FSUM0_SUM]⟩,
  ⟨0x54, [SYS_FSUM1_SUM]⟩,
  ⟨0x58, [SYS_FSUM2_SUM]⟩,
  ⟨0x5c, [SYS_FSUM3_SUM]⟩,
  ⟨0x60, [SYS_FSUM4_SUM]⟩,
  ⟨0x64, [SYS_FSUM5_SUM]⟩,
  ⟨0x68, [SYS_FSUM6_SUM]⟩,
  ⟨0x6c, [SYS_FSUM7_SUM]⟩,
  ⟨0x70, [SYS_DEV_DEV, SYS_DEV_FSTATE, SYS_DEV_ALIVE, SYS_DEV_PLLSRC, SYS_DEV_ORUN]⟩,
  ⟨0x74, [SYS_SCR_SCR]⟩]


/-! ### CLK page (R460) -/

def CLK_FLT_LOCKLOST : Fld := ⟨.one, 0x1014, 0x0, 3, 1, .w1c, none, false, .setting⟩
def CLK_FLT_NOLOCK : Fld := ⟨.one, 0x1014, 0x0, 2, 1, .w1c, none, false, .setting⟩
def CLK_FLT_SELREF : Fld := ⟨.one, 0x1014, 0x0, 1, 1, .w1c, none, false, .setting⟩
def CLK_FLT_CFGSAT : Fld := ⟨.one, 0x1014, 0x0, 0, 1, .w1c, none, false, .setting⟩
def CLK_SRC_SEL : Fld := ⟨.one, 0x1040, 0x0, 0, 1, .rwp, none, false, .command⟩
def CLK_STAT_LOCK : Fld := ⟨.one, 0x1044, 0x0, 31, 1, .ro, none, false, .setting⟩
def CLK_STAT_PLLEN : Fld := ⟨.one, 0x1044, 0x0, 30, 1, .ro, none, false, .setting⟩
def CLK_STAT_SRC : Fld := ⟨.one, 0x1044, 0x0, 29, 1, .ro, none, false, .setting⟩
def CLK_STAT_LOCKT : Fld := ⟨.one, 0x1044, 0x0, 0, 16, .ro, none, false, .setting⟩
/-- The registers of the CLK page by offset. -/
def clkRegs : List RegDef := [
  ⟨0x14, [CLK_FLT_LOCKLOST, CLK_FLT_NOLOCK, CLK_FLT_SELREF, CLK_FLT_CFGSAT]⟩,
  ⟨0x40, [CLK_SRC_SEL]⟩,
  ⟨0x44, [CLK_STAT_LOCK, CLK_STAT_PLLEN, CLK_STAT_SRC, CLK_STAT_LOCKT]⟩]


/-! ### PWR page (R460) -/

def PWR_FLT_SWFAIL : Fld := ⟨.one, 0x2014, 0x0, 4, 1, .w1c, none, false, .setting⟩
def PWR_FLT_WDUR : Fld := ⟨.one, 0x2014, 0x0, 3, 1, .w1c, none, false, .setting⟩
def PWR_FLT_REQREF : Fld := ⟨.one, 0x2014, 0x0, 2, 1, .w1c, none, false, .setting⟩
def PWR_FLT_SEQWAIT : Fld := ⟨.one, 0x2014, 0x0, 1, 1, .w1c, none, false, .setting⟩
def PWR_FLT_CFGSAT : Fld := ⟨.one, 0x2014, 0x0, 0, 1, .w1c, none, false, .setting⟩
def PWR_CTL_WRST : Fld := ⟨.one, 0x2040, 0x400, 31, 1, .wo, none, false, .setting⟩
def PWR_CTL_WAKE : Fld := ⟨.one, 0x2040, 0x400, 30, 1, .wo, none, false, .setting⟩
def PWR_CTL_QDIV : Fld := ⟨.one, 0x2040, 0x400, 8, 4, .rwp, some (2, 8), false, .setting⟩
def PWR_CTL_DEV_REQ : Fld := ⟨.one, 0x2040, 0x400, 0, 3, .rwp, none, false, .setting⟩
def PWR_STAT_DEV : Fld := ⟨.one, 0x2044, 0x0, 29, 3, .ro, none, false, .setting⟩
def PWR_STAT_ENTRY : Fld := ⟨.one, 0x2044, 0x0, 28, 1, .ro, none, false, .setting⟩
def PWR_STAT_WPEND : Fld := ⟨.one, 0x2044, 0x0, 27, 1, .ro, none, false, .setting⟩
def PWR_STAT_WSRC : Fld := ⟨.one, 0x2044, 0x0, 24, 3, .ro, none, false, .setting⟩
def PWR_STAT_WLNK : Fld := ⟨.one, 0x2044, 0x0, 20, 4, .ro, none, false, .setting⟩
def PWR_STAT_WAKES : Fld := ⟨.one, 0x2044, 0x0, 0, 16, .ro, none, false, .setting⟩
def PWR_WAKE_LNK_EN : Fld := ⟨.one, 0x2048, 0x3, 1, 1, .rws, none, false, .setting⟩
def PWR_WAKE_FCW_EN : Fld := ⟨.one, 0x2048, 0x3, 0, 1, .rws, none, false, .setting⟩
def PWR_DTGT0_TGT : Fld := ⟨.one, 0x204c, 0xaaaaaaaa, 0, 32, .rws, none, false, .setting⟩
def PWR_DTGT1_TGT : Fld := ⟨.one, 0x2050, 0xaaaaaaaa, 0, 32, .rws, none, false, .setting⟩
def PWR_DTGT2_TGT : Fld := ⟨.one, 0x2054, 0xaaaaaaaa, 0, 32, .rws, none, false, .setting⟩
def PWR_DTGT3_TGT : Fld := ⟨.one, 0x2058, 0xaaaaaaaa, 0, 32, .rws, none, false, .setting⟩
def PWR_DSEL_DIST : Fld := ⟨.one, 0x205c, 0x0, 0, 6, .rw, none, false, .setting⟩
def PWR_DSTAT_STATE : Fld := ⟨.bank, 0x2060, 0x18000, 30, 2, .ro, none, false, .setting⟩
def PWR_DSTAT_STEP : Fld := ⟨.bank, 0x2060, 0x18000, 27, 3, .ro, none, false, .setting⟩
def PWR_DSTAT_TPEND : Fld := ⟨.bank, 0x2060, 0x18000, 26, 1, .ro, none, false, .setting⟩
def PWR_DSTAT_PSW : Fld := ⟨.bank, 0x2060, 0x18000, 24, 2, .ro, none, false, .setting⟩
def PWR_DSTAT_BB : Fld := ⟨.bank, 0x2060, 0x18000, 20, 4, .ro, none, false, .setting⟩
def PWR_DSTAT_ASST : Fld := ⟨.bank, 0x2060, 0x18000, 17, 3, .ro, none, false, .setting⟩
def PWR_DSTAT_ISO : Fld := ⟨.bank, 0x2060, 0x18000, 16, 1, .ro, none, false, .setting⟩
def PWR_DSTAT_CSTOP : Fld := ⟨.bank, 0x2060, 0x18000, 15, 1, .ro, none, false, .setting⟩
def PWR_DSTAT_SWONS : Fld := ⟨.bank, 0x2060, 0x18000, 0, 8, .ro, none, false, .setting⟩
def PWR_VREF_VBOOT : Fld := ⟨.one, 0x2064, 0xc800708, 16, 13, .rws, some (2800, 4200), false, .setting⟩
def PWR_VREF_VRET : Fld := ⟨.one, 0x2064, 0xc800708, 0, 13, .rws, some (1600, 2400), false, .setting⟩
def PWR_BBA0_AS_ON : Fld := ⟨.one, 0x2068, 0x0, 24, 3, .rws, none, false, .setting⟩
def PWR_BBA0_AS_RET : Fld := ⟨.one, 0x2068, 0x0, 20, 3, .rws, none, false, .setting⟩
def PWR_BBA0_AS_OFF : Fld := ⟨.one, 0x2068, 0x0, 16, 3, .rws, none, false, .setting⟩
def PWR_BBA0_BB_ON : Fld := ⟨.one, 0x2068, 0x0, 8, 4, .rws, none, false, .setting⟩
def PWR_BBA0_BB_RET : Fld := ⟨.one, 0x2068, 0x0, 4, 4, .rws, none, false, .setting⟩
def PWR_BBA0_BB_OFF : Fld := ⟨.one, 0x2068, 0x0, 0, 4, .rws, none, false, .setting⟩
def PWR_BBA1_AS_ON : Fld := ⟨.one, 0x206c, 0x0, 24, 3, .rws, none, false, .setting⟩
def PWR_BBA1_AS_RET : Fld := ⟨.one, 0x206c, 0x0, 20, 3, .rws, none, false, .setting⟩
def PWR_BBA1_AS_OFF : Fld := ⟨.one, 0x206c, 0x0, 16, 3, .rws, none, false, .setting⟩
def PWR_BBA1_BB_ON : Fld := ⟨.one, 0x206c, 0x0, 8, 4, .rws, none, false, .setting⟩
def PWR_BBA1_BB_RET : Fld := ⟨.one, 0x206c, 0x0, 4, 4, .rws, none, false, .setting⟩
def PWR_BBA1_BB_OFF : Fld := ⟨.one, 0x206c, 0x0, 0, 4, .rws, none, false, .setting⟩
def PWR_BBA2_AS_ON : Fld := ⟨.one, 0x2070, 0x0, 24, 3, .rws, none, false, .setting⟩
def PWR_BBA2_AS_RET : Fld := ⟨.one, 0x2070, 0x0, 20, 3, .rws, none, false, .setting⟩
def PWR_BBA2_AS_OFF : Fld := ⟨.one, 0x2070, 0x0, 16, 3, .rws, none, false, .setting⟩
def PWR_BBA2_BB_ON : Fld := ⟨.one, 0x2070, 0x0, 8, 4, .rws, none, false, .setting⟩
def PWR_BBA2_BB_RET : Fld := ⟨.one, 0x2070, 0x0, 4, 4, .rws, none, false, .setting⟩
def PWR_BBA2_BB_OFF : Fld := ⟨.one, 0x2070, 0x0, 0, 4, .rws, none, false, .setting⟩
def PWR_SEQ0_DLY3 : Fld := ⟨.one, 0x2074, 0x13121110, 28, 4, .rws, none, false, .setting⟩
def PWR_SEQ0_DIST3 : Fld := ⟨.one, 0x2074, 0x13121110, 24, 4, .rws, none, false, .setting⟩
def PWR_SEQ0_DLY2 : Fld := ⟨.one, 0x2074, 0x13121110, 20, 4, .rws, none, false, .setting⟩
def PWR_SEQ0_DIST2 : Fld := ⟨.one, 0x2074, 0x13121110, 16, 4, .rws, none, false, .setting⟩
def PWR_SEQ0_DLY1 : Fld := ⟨.one, 0x2074, 0x13121110, 12, 4, .rws, none, false, .setting⟩
def PWR_SEQ0_DIST1 : Fld := ⟨.one, 0x2074, 0x13121110, 8, 4, .rws, none, false, .setting⟩
def PWR_SEQ0_DLY0 : Fld := ⟨.one, 0x2074, 0x13121110, 4, 4, .rws, none, false, .setting⟩
def PWR_SEQ0_DIST0 : Fld := ⟨.one, 0x2074, 0x13121110, 0, 4, .rws, none, false, .setting⟩
def PWR_SEQ1_DLY3 : Fld := ⟨.one, 0x2078, 0x17161514, 28, 4, .rws, none, false, .setting⟩
def PWR_SEQ1_DIST3 : Fld := ⟨.one, 0x2078, 0x17161514, 24, 4, .rws, none, false, .setting⟩
def PWR_SEQ1_DLY2 : Fld := ⟨.one, 0x2078, 0x17161514, 20, 4, .rws, none, false, .setting⟩
def PWR_SEQ1_DIST2 : Fld := ⟨.one, 0x2078, 0x17161514, 16, 4, .rws, none, false, .setting⟩
def PWR_SEQ1_DLY1 : Fld := ⟨.one, 0x2078, 0x17161514, 12, 4, .rws, none, false, .setting⟩
def PWR_SEQ1_DIST1 : Fld := ⟨.one, 0x2078, 0x17161514, 8, 4, .rws, none, false, .setting⟩
def PWR_SEQ1_DLY0 : Fld := ⟨.one, 0x2078, 0x17161514, 4, 4, .rws, none, false, .setting⟩
def PWR_SEQ1_DIST0 : Fld := ⟨.one, 0x2078, 0x17161514, 0, 4, .rws, none, false, .setting⟩
def PWR_SEQ2_DLY3 : Fld := ⟨.one, 0x207c, 0x1b1a1918, 28, 4, .rws, none, false, .setting⟩
def PWR_SEQ2_DIST3 : Fld := ⟨.one, 0x207c, 0x1b1a1918, 24, 4, .rws, none, false, .setting⟩
def PWR_SEQ2_DLY2 : Fld := ⟨.one, 0x207c, 0x1b1a1918, 20, 4, .rws, none, false, .setting⟩
def PWR_SEQ2_DIST2 : Fld := ⟨.one, 0x207c, 0x1b1a1918, 16, 4, .rws, none, false, .setting⟩
def PWR_SEQ2_DLY1 : Fld := ⟨.one, 0x207c, 0x1b1a1918, 12, 4, .rws, none, false, .setting⟩
def PWR_SEQ2_DIST1 : Fld := ⟨.one, 0x207c, 0x1b1a1918, 8, 4, .rws, none, false, .setting⟩
def PWR_SEQ2_DLY0 : Fld := ⟨.one, 0x207c, 0x1b1a1918, 4, 4, .rws, none, false, .setting⟩
def PWR_SEQ2_DIST0 : Fld := ⟨.one, 0x207c, 0x1b1a1918, 0, 4, .rws, none, false, .setting⟩
def PWR_SEQ3_DLY3 : Fld := ⟨.one, 0x2080, 0x1f1e1d1c, 28, 4, .rws, none, false, .setting⟩
def PWR_SEQ3_DIST3 : Fld := ⟨.one, 0x2080, 0x1f1e1d1c, 24, 4, .rws, none, false, .setting⟩
def PWR_SEQ3_DLY2 : Fld := ⟨.one, 0x2080, 0x1f1e1d1c, 20, 4, .rws, none, false, .setting⟩
def PWR_SEQ3_DIST2 : Fld := ⟨.one, 0x2080, 0x1f1e1d1c, 16, 4, .rws, none, false, .setting⟩
def PWR_SEQ3_DLY1 : Fld := ⟨.one, 0x2080, 0x1f1e1d1c, 12, 4, .rws, none, false, .setting⟩
def PWR_SEQ3_DIST1 : Fld := ⟨.one, 0x2080, 0x1f1e1d1c, 8, 4, .rws, none, false, .setting⟩
def PWR_SEQ3_DLY0 : Fld := ⟨.one, 0x2080, 0x1f1e1d1c, 4, 4, .rws, none, false, .setting⟩
def PWR_SEQ3_DIST0 : Fld := ⟨.one, 0x2080, 0x1f1e1d1c, 0, 4, .rws, none, false, .setting⟩
/-- The registers of the PWR page by offset. -/
def pwrRegs : List RegDef := [
  ⟨0x14, [PWR_FLT_SWFAIL, PWR_FLT_WDUR, PWR_FLT_REQREF, PWR_FLT_SEQWAIT, PWR_FLT_CFGSAT]⟩,
  ⟨0x40, [PWR_CTL_WRST, PWR_CTL_WAKE, PWR_CTL_QDIV, PWR_CTL_DEV_REQ]⟩,
  ⟨0x44, [PWR_STAT_DEV, PWR_STAT_ENTRY, PWR_STAT_WPEND, PWR_STAT_WSRC, PWR_STAT_WLNK, PWR_STAT_WAKES]⟩,
  ⟨0x48, [PWR_WAKE_LNK_EN, PWR_WAKE_FCW_EN]⟩,
  ⟨0x4c, [PWR_DTGT0_TGT]⟩,
  ⟨0x50, [PWR_DTGT1_TGT]⟩,
  ⟨0x54, [PWR_DTGT2_TGT]⟩,
  ⟨0x58, [PWR_DTGT3_TGT]⟩,
  ⟨0x5c, [PWR_DSEL_DIST]⟩,
  ⟨0x60, [PWR_DSTAT_STATE, PWR_DSTAT_STEP, PWR_DSTAT_TPEND, PWR_DSTAT_PSW, PWR_DSTAT_BB, PWR_DSTAT_ASST, PWR_DSTAT_ISO, PWR_DSTAT_CSTOP, PWR_DSTAT_SWONS]⟩,
  ⟨0x64, [PWR_VREF_VBOOT, PWR_VREF_VRET]⟩,
  ⟨0x68, [PWR_BBA0_AS_ON, PWR_BBA0_AS_RET, PWR_BBA0_AS_OFF, PWR_BBA0_BB_ON, PWR_BBA0_BB_RET, PWR_BBA0_BB_OFF]⟩,
  ⟨0x6c, [PWR_BBA1_AS_ON, PWR_BBA1_AS_RET, PWR_BBA1_AS_OFF, PWR_BBA1_BB_ON, PWR_BBA1_BB_RET, PWR_BBA1_BB_OFF]⟩,
  ⟨0x70, [PWR_BBA2_AS_ON, PWR_BBA2_AS_RET, PWR_BBA2_AS_OFF, PWR_BBA2_BB_ON, PWR_BBA2_BB_RET, PWR_BBA2_BB_OFF]⟩,
  ⟨0x74, [PWR_SEQ0_DLY3, PWR_SEQ0_DIST3, PWR_SEQ0_DLY2, PWR_SEQ0_DIST2, PWR_SEQ0_DLY1, PWR_SEQ0_DIST1, PWR_SEQ0_DLY0, PWR_SEQ0_DIST0]⟩,
  ⟨0x78, [PWR_SEQ1_DLY3, PWR_SEQ1_DIST3, PWR_SEQ1_DLY2, PWR_SEQ1_DIST2, PWR_SEQ1_DLY1, PWR_SEQ1_DIST1, PWR_SEQ1_DLY0, PWR_SEQ1_DIST0]⟩,
  ⟨0x7c, [PWR_SEQ2_DLY3, PWR_SEQ2_DIST3, PWR_SEQ2_DLY2, PWR_SEQ2_DIST2, PWR_SEQ2_DLY1, PWR_SEQ2_DIST1, PWR_SEQ2_DLY0, PWR_SEQ2_DIST0]⟩,
  ⟨0x80, [PWR_SEQ3_DLY3, PWR_SEQ3_DIST3, PWR_SEQ3_DLY2, PWR_SEQ3_DIST2, PWR_SEQ3_DLY1, PWR_SEQ3_DIST1, PWR_SEQ3_DLY0, PWR_SEQ3_DIST0]⟩]


/-! ### SEC page (R460) -/

def SEC_FLT_ENTFAIL : Fld := ⟨.one, 0x3014, 0x0, 9, 1, .w1c, none, false, .setting⟩
def SEC_FLT_TAPREF : Fld := ⟨.one, 0x3014, 0x0, 8, 1, .w1c, none, false, .setting⟩
def SEC_FLT_DBGEN : Fld := ⟨.one, 0x3014, 0x0, 7, 1, .w1c, none, false, .setting⟩
def SEC_FLT_KEYREF : Fld := ⟨.one, 0x3014, 0x0, 6, 1, .w1c, none, false, .setting⟩
def SEC_FLT_WFAIL : Fld := ⟨.one, 0x3014, 0x0, 5, 1, .w1c, none, false, .setting⟩
def SEC_FLT_WREF : Fld := ⟨.one, 0x3014, 0x0, 4, 1, .w1c, none, false, .setting⟩
def SEC_FLT_SPDMERR : Fld := ⟨.one, 0x3014, 0x0, 3, 1, .w1c, none, false, .setting⟩
def SEC_FLT_MBTMO : Fld := ⟨.one, 0x3014, 0x0, 2, 1, .w1c, none, false, .setting⟩
def SEC_FLT_MBBUSY : Fld := ⟨.one, 0x3014, 0x0, 1, 1, .w1c, none, false, .setting⟩
def SEC_FLT_CFGSAT : Fld := ⟨.one, 0x3014, 0x0, 0, 1, .w1c, none, false, .setting⟩
def SEC_MBCTL_CLAIM : Fld := ⟨.one, 0x3040, 0x0, 31, 1, .wo, none, false, .setting⟩
def SEC_MBCTL_REL : Fld := ⟨.one, 0x3040, 0x0, 30, 1, .wo, none, false, .setting⟩
def SEC_MBCTL_SEND : Fld := ⟨.one, 0x3040, 0x0, 29, 1, .wo, none, false, .setting⟩
def SEC_MBCTL_FREL : Fld := ⟨.one, 0x3040, 0x0, 28, 1, .rwp, none, false, .command⟩
def SEC_MBCTL_KIND : Fld := ⟨.one, 0x3040, 0x0, 24, 1, .wo, none, false, .setting⟩
def SEC_MBCTL_LEN : Fld := ⟨.one, 0x3040, 0x0, 0, 13, .wo, none, false, .setting⟩
def SEC_MBSTAT_OWNED : Fld := ⟨.one, 0x3044, 0x0, 31, 1, .ro, none, false, .setting⟩
def SEC_MBSTAT_OWNER : Fld := ⟨.one, 0x3044, 0x0, 28, 3, .ro, none, false, .setting⟩
def SEC_MBSTAT_BUSY : Fld := ⟨.one, 0x3044, 0x0, 27, 1, .ro, none, false, .setting⟩
def SEC_MBSTAT_RDY : Fld := ⟨.one, 0x3044, 0x0, 26, 1, .ro, none, false, .setting⟩
def SEC_MBSTAT_RKIND : Fld := ⟨.one, 0x3044, 0x0, 25, 1, .ro, none, false, .setting⟩
def SEC_MBSTAT_RLEN : Fld := ⟨.one, 0x3044, 0x0, 0, 13, .ro, none, false, .setting⟩
def SEC_MBADR_OFS : Fld := ⟨.one, 0x3048, 0x0, 0, 12, .rw, none, false, .setting⟩
def SEC_MBDAT_DATA : Fld := ⟨.one, 0x304c, 0x0, 0, 32, .rw, none, false, .setting⟩
def SEC_SESS_CONN : Fld := ⟨.one, 0x3050, 0x0, 29, 3, .ro, none, false, .setting⟩
def SEC_SESS_RSPSID : Fld := ⟨.one, 0x3050, 0x0, 0, 16, .ro, none, false, .setting⟩
def SEC_KEY_HELD : Fld := ⟨.one, 0x3054, 0x0, 31, 1, .ro, none, false, .setting⟩
def SEC_KEY_LASTST : Fld := ⟨.one, 0x3054, 0x0, 16, 8, .ro, none, false, .setting⟩
def SEC_WCTL_BEGIN : Fld := ⟨.one, 0x3058, 0x0, 31, 1, .wo, none, false, .setting⟩
def SEC_WCTL_ABORT : Fld := ⟨.one, 0x3058, 0x0, 30, 1, .wo, none, false, .setting⟩
def SEC_WDAT_DATA : Fld := ⟨.one, 0x305c, 0x0, 0, 32, .wo, none, false, .setting⟩
def SEC_WSTAT_STATE : Fld := ⟨.one, 0x3060, 0x0, 29, 3, .ro, none, false, .setting⟩
def SEC_WSTAT_RESULT : Fld := ⟨.one, 0x3060, 0x0, 24, 4, .ro, none, false, .setting⟩
def SEC_WSTAT_BYTES : Fld := ⟨.one, 0x3060, 0x0, 0, 21, .ro, none, false, .setting⟩
def SEC_DBG_INV : Fld := ⟨.one, 0x3064, 0x0, 31, 1, .ro, none, false, .setting⟩
def SEC_DBG_JTAG : Fld := ⟨.one, 0x3064, 0x0, 30, 1, .ro, none, false, .setting⟩
def SEC_DBG_GAL : Fld := ⟨.one, 0x3064, 0x0, 29, 1, .ro, none, false, .setting⟩
def SEC_DBG_TAPACT : Fld := ⟨.one, 0x3064, 0x0, 28, 1, .ro, none, false, .setting⟩
def SEC_DBG_INV_REQ : Fld := ⟨.one, 0x3064, 0x0, 27, 1, .wo, none, false, .setting⟩
def SEC_DBG_OPGAL : Fld := ⟨.one, 0x3064, 0x0, 0, 3, .rwp, none, false, .setting⟩
def SEC_CCTL_COMMIT : Fld := ⟨.one, 0x3068, 0x0, 31, 1, .rwp, none, false, .command⟩
def SEC_CCTL_CLEAR : Fld := ⟨.one, 0x3068, 0x0, 30, 1, .rwp, none, false, .command⟩
def SEC_CCTL_LEN : Fld := ⟨.one, 0x3068, 0x0, 0, 13, .rwp, some (0, 6144), false, .setting⟩
def SEC_CADR_OFS : Fld := ⟨.one, 0x306c, 0x0, 0, 13, .rwp, none, false, .setting⟩
def SEC_CDAT_DATA : Fld := ⟨.one, 0x3070, 0x0, 0, 32, .rwp, none, false, .buffer⟩
def SEC_CSTAT_VALID : Fld := ⟨.one, 0x3074, 0x0, 31, 1, .ro, none, false, .setting⟩
def SEC_CSTAT_RESULT : Fld := ⟨.one, 0x3074, 0x0, 28, 3, .ro, none, false, .setting⟩
def SEC_IDSEL_WORD : Fld := ⟨.one, 0x3078, 0x0, 0, 5, .rw, some (0, 23), false, .setting⟩
def SEC_IDPUB_DATA : Fld := ⟨.one, 0x307c, 0x0, 0, 32, .ro, none, false, .setting⟩
/-- The registers of the SEC page by offset. -/
def secRegs : List RegDef := [
  ⟨0x14, [SEC_FLT_ENTFAIL, SEC_FLT_TAPREF, SEC_FLT_DBGEN, SEC_FLT_KEYREF, SEC_FLT_WFAIL, SEC_FLT_WREF, SEC_FLT_SPDMERR, SEC_FLT_MBTMO, SEC_FLT_MBBUSY, SEC_FLT_CFGSAT]⟩,
  ⟨0x40, [SEC_MBCTL_CLAIM, SEC_MBCTL_REL, SEC_MBCTL_SEND, SEC_MBCTL_FREL, SEC_MBCTL_KIND, SEC_MBCTL_LEN]⟩,
  ⟨0x44, [SEC_MBSTAT_OWNED, SEC_MBSTAT_OWNER, SEC_MBSTAT_BUSY, SEC_MBSTAT_RDY, SEC_MBSTAT_RKIND, SEC_MBSTAT_RLEN]⟩,
  ⟨0x48, [SEC_MBADR_OFS]⟩,
  ⟨0x4c, [SEC_MBDAT_DATA]⟩,
  ⟨0x50, [SEC_SESS_CONN, SEC_SESS_RSPSID]⟩,
  ⟨0x54, [SEC_KEY_HELD, SEC_KEY_LASTST]⟩,
  ⟨0x58, [SEC_WCTL_BEGIN, SEC_WCTL_ABORT]⟩,
  ⟨0x5c, [SEC_WDAT_DATA]⟩,
  ⟨0x60, [SEC_WSTAT_STATE, SEC_WSTAT_RESULT, SEC_WSTAT_BYTES]⟩,
  ⟨0x64, [SEC_DBG_INV, SEC_DBG_JTAG, SEC_DBG_GAL, SEC_DBG_TAPACT, SEC_DBG_INV_REQ, SEC_DBG_OPGAL]⟩,
  ⟨0x68, [SEC_CCTL_COMMIT, SEC_CCTL_CLEAR, SEC_CCTL_LEN]⟩,
  ⟨0x6c, [SEC_CADR_OFS]⟩,
  ⟨0x70, [SEC_CDAT_DATA]⟩,
  ⟨0x74, [SEC_CSTAT_VALID, SEC_CSTAT_RESULT]⟩,
  ⟨0x78, [SEC_IDSEL_WORD]⟩,
  ⟨0x7c, [SEC_IDPUB_DATA]⟩]


/-! ### CAL page (R460) -/

def CAL_FLT_LOST : Fld := ⟨.one, 0x4014, 0x0, 4, 1, .w1c, none, false, .setting⟩
def CAL_FLT_CMTFAIL : Fld := ⟨.one, 0x4014, 0x0, 3, 1, .w1c, none, false, .setting⟩
def CAL_FLT_BAD : Fld := ⟨.one, 0x4014, 0x0, 2, 1, .w1c, none, false, .setting⟩
def CAL_FLT_NOBIND : Fld := ⟨.one, 0x4014, 0x0, 1, 1, .w1c, none, false, .setting⟩
def CAL_FLT_CFGSAT : Fld := ⟨.one, 0x4014, 0x0, 0, 1, .w1c, none, false, .setting⟩
def CAL_STAT_STATE : Fld := ⟨.one, 0x4040, 0x0, 30, 2, .ro, none, false, .setting⟩
def CAL_STAT_VER : Fld := ⟨.one, 0x4040, 0x0, 0, 16, .ro, none, false, .setting⟩
def CAL_ID0_DIEID : Fld := ⟨.one, 0x4044, 0x0, 0, 32, .ro, none, false, .setting⟩
def CAL_ID1_DIEID : Fld := ⟨.one, 0x4048, 0x0, 0, 32, .ro, none, false, .setting⟩
def CAL_WADR_OFS : Fld := ⟨.one, 0x404c, 0x0, 0, 16, .rwp, none, false, .setting⟩
def CAL_WDAT_DATA : Fld := ⟨.one, 0x4050, 0x0, 0, 32, .rwp, none, false, .buffer⟩
def CAL_CMD_COMMIT : Fld := ⟨.one, 0x4054, 0x0, 31, 1, .rwp, none, false, .command⟩
def CAL_CMD_CLEAR : Fld := ⟨.one, 0x4054, 0x0, 30, 1, .rwp, none, false, .command⟩
def CAL_CMD_KEY : Fld := ⟨.one, 0x4054, 0x0, 0, 8, .rwp, none, false, .command⟩
def CAL_CSTAT_BUSY : Fld := ⟨.one, 0x4058, 0x0, 31, 1, .ro, none, false, .setting⟩
def CAL_CSTAT_OPEN : Fld := ⟨.one, 0x4058, 0x0, 30, 1, .ro, none, false, .setting⟩
def CAL_CSTAT_RESULT : Fld := ⟨.one, 0x4058, 0x0, 27, 3, .ro, none, false, .setting⟩
def CAL_CSTAT_COMMITS : Fld := ⟨.one, 0x4058, 0x0, 0, 16, .ro, none, false, .setting⟩
def CAL_LP_LP : Fld := ⟨.bank, 0x405c, 0x50, 0, 8, .ro, none, false, .setting⟩
def CAL_PSEL_PH : Fld := ⟨.one, 0x4060, 0x0, 0, 12, .rw, none, false, .setting⟩
/-- The registers of the CAL page by offset. -/
def calRegs : List RegDef := [
  ⟨0x14, [CAL_FLT_LOST, CAL_FLT_CMTFAIL, CAL_FLT_BAD, CAL_FLT_NOBIND, CAL_FLT_CFGSAT]⟩,
  ⟨0x40, [CAL_STAT_STATE, CAL_STAT_VER]⟩,
  ⟨0x44, [CAL_ID0_DIEID]⟩,
  ⟨0x48, [CAL_ID1_DIEID]⟩,
  ⟨0x4c, [CAL_WADR_OFS]⟩,
  ⟨0x50, [CAL_WDAT_DATA]⟩,
  ⟨0x54, [CAL_CMD_COMMIT, CAL_CMD_CLEAR, CAL_CMD_KEY]⟩,
  ⟨0x58, [CAL_CSTAT_BUSY, CAL_CSTAT_OPEN, CAL_CSTAT_RESULT, CAL_CSTAT_COMMITS]⟩,
  ⟨0x5c, [CAL_LP_LP]⟩,
  ⟨0x60, [CAL_PSEL_PH]⟩]


/-! ### IMG page (R460) -/

def IMG_FLT_PGMERR : Fld := ⟨.one, 0x5014, 0x0, 6, 1, .w1c, none, false, .setting⟩
def IMG_FLT_ZONETMO : Fld := ⟨.one, 0x5014, 0x0, 5, 1, .w1c, none, false, .setting⟩
def IMG_FLT_FLASH : Fld := ⟨.one, 0x5014, 0x0, 4, 1, .w1c, none, false, .setting⟩
def IMG_FLT_BASE : Fld := ⟨.one, 0x5014, 0x0, 3, 1, .w1c, none, false, .setting⟩
def IMG_FLT_REJB : Fld := ⟨.one, 0x5014, 0x0, 2, 1, .w1c, none, false, .setting⟩
def IMG_FLT_REJA : Fld := ⟨.one, 0x5014, 0x0, 1, 1, .w1c, none, false, .setting⟩
def IMG_FLT_CFGSAT : Fld := ⟨.one, 0x5014, 0x0, 0, 1, .w1c, none, false, .setting⟩
def IMG_CTL_NEXT : Fld := ⟨.one, 0x5040, 0x0, 0, 2, .rws, none, false, .setting⟩
def IMG_STAT_SRC : Fld := ⟨.one, 0x5044, 0x0, 30, 2, .ro, none, false, .setting⟩
def IMG_STAT_REJA : Fld := ⟨.one, 0x5044, 0x0, 24, 4, .ro, none, false, .setting⟩
def IMG_STAT_REJB : Fld := ⟨.one, 0x5044, 0x0, 20, 4, .ro, none, false, .setting⟩
def IMG_STAT_FMT_MAJ : Fld := ⟨.one, 0x5044, 0x0, 8, 8, .ro, none, false, .setting⟩
def IMG_STAT_FMT_MIN : Fld := ⟨.one, 0x5044, 0x0, 0, 8, .ro, none, false, .setting⟩
def IMG_SEQ_SEQ : Fld := ⟨.one, 0x5048, 0x0, 0, 32, .ro, none, false, .setting⟩
def IMG_BOOT_DUR : Fld := ⟨.one, 0x504c, 0x2, 12, 20, .ro, none, false, .setting⟩
def IMG_BOOT_PHASE : Fld := ⟨.one, 0x504c, 0x2, 0, 4, .ro, none, false, .setting⟩
def IMG_FLASH_SFDPOK : Fld := ⟨.one, 0x5050, 0x0, 31, 1, .ro, none, false, .setting⟩
def IMG_FLASH_QUAD : Fld := ⟨.one, 0x5050, 0x0, 30, 1, .ro, none, false, .setting⟩
def IMG_FLASH_DENS : Fld := ⟨.one, 0x5050, 0x0, 16, 8, .ro, none, false, .setting⟩
def IMG_PADR_SLOT : Fld := ⟨.one, 0x5054, 0x0, 31, 1, .rwp, none, false, .setting⟩
def IMG_PADR_OFS : Fld := ⟨.one, 0x5054, 0x0, 0, 23, .rwp, none, false, .setting⟩
def IMG_PDAT_DATA : Fld := ⟨.one, 0x5058, 0x0, 0, 32, .rwp, none, false, .buffer⟩
def IMG_PCMD_CMD : Fld := ⟨.one, 0x505c, 0x0, 30, 2, .rwp, none, false, .command⟩
def IMG_PSTAT_BUSY : Fld := ⟨.one, 0x5060, 0x0, 31, 1, .ro, none, false, .setting⟩
def IMG_PSTAT_RESULT : Fld := ⟨.one, 0x5060, 0x0, 28, 3, .ro, none, false, .setting⟩
def IMG_PSTAT_BUFCNT : Fld := ⟨.one, 0x5060, 0x0, 0, 9, .ro, none, false, .setting⟩
/-- The registers of the IMG page by offset. -/
def imgRegs : List RegDef := [
  ⟨0x14, [IMG_FLT_PGMERR, IMG_FLT_ZONETMO, IMG_FLT_FLASH, IMG_FLT_BASE, IMG_FLT_REJB, IMG_FLT_REJA, IMG_FLT_CFGSAT]⟩,
  ⟨0x40, [IMG_CTL_NEXT]⟩,
  ⟨0x44, [IMG_STAT_SRC, IMG_STAT_REJA, IMG_STAT_REJB, IMG_STAT_FMT_MAJ, IMG_STAT_FMT_MIN]⟩,
  ⟨0x48, [IMG_SEQ_SEQ]⟩,
  ⟨0x4c, [IMG_BOOT_DUR, IMG_BOOT_PHASE]⟩,
  ⟨0x50, [IMG_FLASH_SFDPOK, IMG_FLASH_QUAD, IMG_FLASH_DENS]⟩,
  ⟨0x54, [IMG_PADR_SLOT, IMG_PADR_OFS]⟩,
  ⟨0x58, [IMG_PDAT_DATA]⟩,
  ⟨0x5c, [IMG_PCMD_CMD]⟩,
  ⟨0x60, [IMG_PSTAT_BUSY, IMG_PSTAT_RESULT, IMG_PSTAT_BUFCNT]⟩]


/-! ### EXH page (R460) -/

def EXH_FLT_MISS : Fld := ⟨.one, 0x6014, 0x0, 1, 1, .w1c, none, false, .setting⟩
def EXH_FLT_CFGSAT : Fld := ⟨.one, 0x6014, 0x0, 0, 1, .w1c, none, false, .setting⟩
def EXH_CTL_TRIG : Fld := ⟨.one, 0x6040, 0x6, 31, 1, .wo, none, false, .setting⟩
def EXH_CTL_REARM : Fld := ⟨.one, 0x6040, 0x6, 30, 1, .wo, none, false, .setting⟩
def EXH_CTL_HOLD_EN : Fld := ⟨.one, 0x6040, 0x6, 4, 1, .rwp, none, false, .setting⟩
def EXH_CTL_GQ_EN : Fld := ⟨.one, 0x6040, 0x6, 3, 1, .rwp, none, false, .setting⟩
def EXH_CTL_PIN_EN : Fld := ⟨.one, 0x6040, 0x6, 2, 1, .rwp, none, false, .setting⟩
def EXH_CTL_FLT_EN : Fld := ⟨.one, 0x6040, 0x6, 1, 1, .rwp, none, false, .setting⟩
def EXH_STAT_HELD : Fld := ⟨.one, 0x6044, 0x0, 31, 1, .ro, none, false, .setting⟩
def EXH_STAT_SRC : Fld := ⟨.one, 0x6044, 0x0, 24, 4, .ro, none, false, .setting⟩
def EXH_STAT_MISSED : Fld := ⟨.one, 0x6044, 0x0, 0, 16, .ro, none, false, .setting⟩
def EXH_SEQ_SEQ : Fld := ⟨.one, 0x6048, 0x0, 0, 32, .ro, none, false, .setting⟩
def EXH_PART0_PART : Fld := ⟨.one, 0x604c, 0xffffffff, 0, 32, .rwp, none, false, .setting⟩
def EXH_PART1_PART : Fld := ⟨.one, 0x6050, 0xffffffff, 0, 32, .rwp, none, false, .setting⟩
def EXH_PART2_PART : Fld := ⟨.one, 0x6054, 0xffffffff, 0, 32, .rwp, none, false, .setting⟩
def EXH_PART3_PART : Fld := ⟨.one, 0x6058, 0xffffffff, 0, 32, .rwp, none, false, .setting⟩
def EXH_PART4_PART : Fld := ⟨.one, 0x605c, 0xffffffff, 0, 32, .rwp, none, false, .setting⟩
def EXH_PART5_PART : Fld := ⟨.one, 0x6060, 0xffffffff, 0, 32, .rwp, none, false, .setting⟩
def EXH_PART6_PART : Fld := ⟨.one, 0x6064, 0xffffffff, 0, 32, .rwp, none, false, .setting⟩
def EXH_PART7_PART : Fld := ⟨.one, 0x6068, 0xffffffff, 0, 32, .rwp, none, false, .setting⟩
def EXH_GQ_LEDGER : Fld := ⟨.one, 0x606c, 0x4, 2, 1, .rwp, none, false, .setting⟩
def EXH_GQ_BARTMO : Fld := ⟨.one, 0x606c, 0x4, 1, 1, .rwp, none, false, .setting⟩
def EXH_GQ_REVOKE : Fld := ⟨.one, 0x606c, 0x4, 0, 1, .rwp, none, false, .setting⟩
def EXH_TIME0_OPSEC : Fld := ⟨.one, 0x6070, 0x0, 0, 32, .ro, none, false, .setting⟩
def EXH_TIME1_TICKS : Fld := ⟨.one, 0x6074, 0x0, 0, 16, .ro, none, false, .setting⟩
/-- The registers of the EXH page by offset. -/
def exhRegs : List RegDef := [
  ⟨0x14, [EXH_FLT_MISS, EXH_FLT_CFGSAT]⟩,
  ⟨0x40, [EXH_CTL_TRIG, EXH_CTL_REARM, EXH_CTL_HOLD_EN, EXH_CTL_GQ_EN, EXH_CTL_PIN_EN, EXH_CTL_FLT_EN]⟩,
  ⟨0x44, [EXH_STAT_HELD, EXH_STAT_SRC, EXH_STAT_MISSED]⟩,
  ⟨0x48, [EXH_SEQ_SEQ]⟩,
  ⟨0x4c, [EXH_PART0_PART]⟩,
  ⟨0x50, [EXH_PART1_PART]⟩,
  ⟨0x54, [EXH_PART2_PART]⟩,
  ⟨0x58, [EXH_PART3_PART]⟩,
  ⟨0x5c, [EXH_PART4_PART]⟩,
  ⟨0x60, [EXH_PART5_PART]⟩,
  ⟨0x64, [EXH_PART6_PART]⟩,
  ⟨0x68, [EXH_PART7_PART]⟩,
  ⟨0x6c, [EXH_GQ_LEDGER, EXH_GQ_BARTMO, EXH_GQ_REVOKE]⟩,
  ⟨0x70, [EXH_TIME0_OPSEC]⟩,
  ⟨0x74, [EXH_TIME1_TICKS]⟩]


/-! ### FLT page (R460) -/

def FLT_FLT_WIRE : Fld := ⟨.one, 0x7014, 0x0, 4, 1, .w1c, none, false, .setting⟩
def FLT_FLT_OFF : Fld := ⟨.one, 0x7014, 0x0, 3, 1, .w1c, none, false, .setting⟩
def FLT_FLT_HOLD : Fld := ⟨.one, 0x7014, 0x0, 2, 1, .w1c, none, false, .setting⟩
def FLT_FLT_FIRST : Fld := ⟨.one, 0x7014, 0x0, 1, 1, .w1c, none, false, .setting⟩
def FLT_FLT_CFGSAT : Fld := ⟨.one, 0x7014, 0x0, 0, 1, .w1c, none, false, .setting⟩
def FLT_CTL_HREL : Fld := ⟨.one, 0x7040, 0x0, 31, 1, .rwp, none, false, .command⟩
def FLT_CTL_OREL : Fld := ⟨.one, 0x7040, 0x0, 30, 1, .rwp, none, false, .command⟩
def FLT_CTL_FIRST_CLR : Fld := ⟨.one, 0x7040, 0x0, 29, 1, .rwp, none, false, .command⟩
def FLT_CTL_HDUMP : Fld := ⟨.one, 0x7040, 0x0, 28, 1, .rwp, none, false, .command⟩
def FLT_STAT_STATE : Fld := ⟨.one, 0x7044, 0x0, 30, 2, .ro, none, false, .setting⟩
def FLT_STAT_ALIVE : Fld := ⟨.one, 0x7044, 0x0, 29, 1, .ro, none, false, .setting⟩
def FLT_STAT_FVALID : Fld := ⟨.one, 0x7044, 0x0, 28, 1, .ro, none, false, .setting⟩
def FLT_STAT_HCNT : Fld := ⟨.one, 0x7044, 0x0, 16, 6, .ro, none, false, .setting⟩
def FLT_STAT_EVENTS : Fld := ⟨.one, 0x7044, 0x0, 0, 16, .ro, none, false, .setting⟩
def FLT_CAUSE_CAUSE : Fld := ⟨.one, 0x7048, 0x0, 0, 32, .ro, none, false, .setting⟩
def FLT_FIRST0_WORD : Fld := ⟨.one, 0x704c, 0x0, 0, 32, .ro, none, false, .setting⟩
def FLT_FIRST1_WORD : Fld := ⟨.one, 0x7050, 0x0, 0, 32, .ro, none, false, .setting⟩
def FLT_FIRST2_WORD : Fld := ⟨.one, 0x7054, 0x0, 0, 32, .ro, none, false, .setting⟩
def FLT_HSEL_IDX : Fld := ⟨.one, 0x7058, 0x0, 0, 5, .rw, none, false, .setting⟩
def FLT_HIST0_WORD : Fld := ⟨.one, 0x705c, 0x0, 0, 32, .ro, none, false, .setting⟩
def FLT_HIST1_WORD : Fld := ⟨.one, 0x7060, 0x0, 0, 32, .ro, none, false, .setting⟩
def FLT_HIST2_WORD : Fld := ⟨.one, 0x7064, 0x0, 0, 32, .ro, none, false, .setting⟩
def FLT_INJ_ARM : Fld := ⟨.one, 0x7068, 0x0, 31, 1, .rwp, none, false, .command⟩
def FLT_INJ_CLASS : Fld := ⟨.one, 0x7068, 0x0, 0, 6, .rwp, none, false, .setting⟩
/-- The registers of the FLT page by offset. -/
def fltRegs : List RegDef := [
  ⟨0x14, [FLT_FLT_WIRE, FLT_FLT_OFF, FLT_FLT_HOLD, FLT_FLT_FIRST, FLT_FLT_CFGSAT]⟩,
  ⟨0x40, [FLT_CTL_HREL, FLT_CTL_OREL, FLT_CTL_FIRST_CLR, FLT_CTL_HDUMP]⟩,
  ⟨0x44, [FLT_STAT_STATE, FLT_STAT_ALIVE, FLT_STAT_FVALID, FLT_STAT_HCNT, FLT_STAT_EVENTS]⟩,
  ⟨0x48, [FLT_CAUSE_CAUSE]⟩,
  ⟨0x4c, [FLT_FIRST0_WORD]⟩,
  ⟨0x50, [FLT_FIRST1_WORD]⟩,
  ⟨0x54, [FLT_FIRST2_WORD]⟩,
  ⟨0x58, [FLT_HSEL_IDX]⟩,
  ⟨0x5c, [FLT_HIST0_WORD]⟩,
  ⟨0x60, [FLT_HIST1_WORD]⟩,
  ⟨0x64, [FLT_HIST2_WORD]⟩,
  ⟨0x68, [FLT_INJ_ARM, FLT_INJ_CLASS]⟩]


/-! ### ARC page (R460) -/

def ARC_FLT_PERR : Fld := ⟨.one, 0x8014, 0x0, 5, 1, .w1c, none, false, .setting⟩
def ARC_FLT_FULL : Fld := ⟨.one, 0x8014, 0x0, 4, 1, .w1c, none, false, .setting⟩
def ARC_FLT_OVF : Fld := ⟨.one, 0x8014, 0x0, 3, 1, .w1c, none, false, .setting⟩
def ARC_FLT_DAMAGED : Fld := ⟨.one, 0x8014, 0x0, 2, 1, .w1c, none, false, .setting⟩
def ARC_FLT_TORN : Fld := ⟨.one, 0x8014, 0x0, 1, 1, .w1c, none, false, .setting⟩
def ARC_FLT_CFGSAT : Fld := ⟨.one, 0x8014, 0x0, 0, 1, .w1c, none, false, .setting⟩
def ARC_STAT_MODE : Fld := ⟨.one, 0x8040, 0x10000000, 29, 3, .ro, none, false, .setting⟩
def ARC_STAT_EMPTY : Fld := ⟨.one, 0x8040, 0x10000000, 28, 1, .ro, none, false, .setting⟩
def ARC_STAT_STGB : Fld := ⟨.one, 0x8040, 0x10000000, 0, 16, .ro, none, false, .setting⟩
def ARC_HEAD_ACC : Fld := ⟨.one, 0x8044, 0x0, 0, 32, .ro, none, false, .setting⟩
def ARC_BASE_ACC : Fld := ⟨.one, 0x8048, 0x0, 0, 32, .ro, none, false, .setting⟩
def ARC_WPOS_OFS : Fld := ⟨.one, 0x804c, 0x0, 0, 22, .ro, none, false, .setting⟩
def ARC_TIME0_OPSEC : Fld := ⟨.one, 0x8050, 0x0, 0, 32, .ro, none, false, .setting⟩
def ARC_TIME1_PCYC : Fld := ⟨.one, 0x8054, 0x0, 16, 16, .ro, none, false, .setting⟩
def ARC_TIME1_TICKS : Fld := ⟨.one, 0x8054, 0x0, 0, 16, .ro, none, false, .setting⟩
def ARC_CMD_ERASE : Fld := ⟨.one, 0x8058, 0x0, 31, 1, .rwp, none, false, .command⟩
def ARC_CMD_KEY : Fld := ⟨.one, 0x8058, 0x0, 0, 8, .rwp, none, false, .command⟩
def ARC_RADR_SRC : Fld := ⟨.one, 0x805c, 0x0, 31, 1, .rw, none, false, .setting⟩
def ARC_RADR_RDY : Fld := ⟨.one, 0x805c, 0x0, 30, 1, .ro, none, false, .setting⟩
def ARC_RADR_OFS : Fld := ⟨.one, 0x805c, 0x0, 0, 22, .rw, none, false, .setting⟩
def ARC_RDAT0_DATA : Fld := ⟨.one, 0x8060, 0x0, 0, 32, .ro, none, false, .setting⟩
def ARC_RDAT1_DATA : Fld := ⟨.one, 0x8064, 0x0, 0, 32, .ro, none, false, .setting⟩
def ARC_RDAT2_DATA : Fld := ⟨.one, 0x8068, 0x0, 0, 32, .ro, none, false, .setting⟩
def ARC_RDAT3_DATA : Fld := ⟨.one, 0x806c, 0x0, 0, 32, .ro, none, false, .setting⟩
def ARC_RDAT4_DATA : Fld := ⟨.one, 0x8070, 0x0, 0, 32, .ro, none, false, .setting⟩
def ARC_RDAT5_DATA : Fld := ⟨.one, 0x8074, 0x0, 0, 32, .ro, none, false, .setting⟩
def ARC_RDAT6_DATA : Fld := ⟨.one, 0x8078, 0x0, 0, 32, .ro, none, false, .setting⟩
def ARC_RDAT7_DATA : Fld := ⟨.one, 0x807c, 0x0, 0, 32, .ro, none, false, .setting⟩
def ARC_RDAT8_DATA : Fld := ⟨.one, 0x8080, 0x0, 0, 32, .ro, none, false, .setting⟩
def ARC_RDAT9_DATA : Fld := ⟨.one, 0x8084, 0x0, 0, 32, .ro, none, false, .setting⟩
def ARC_RDAT10_DATA : Fld := ⟨.one, 0x8088, 0x0, 0, 32, .ro, none, false, .setting⟩
def ARC_RDAT11_DATA : Fld := ⟨.one, 0x808c, 0x0, 0, 32, .ro, none, false, .setting⟩
def ARC_RDAT12_DATA : Fld := ⟨.one, 0x8090, 0x0, 0, 32, .ro, none, false, .setting⟩
def ARC_RDAT13_DATA : Fld := ⟨.one, 0x8094, 0x0, 0, 32, .ro, none, false, .setting⟩
def ARC_RDAT14_DATA : Fld := ⟨.one, 0x8098, 0x0, 0, 32, .ro, none, false, .setting⟩
def ARC_RDAT15_DATA : Fld := ⟨.one, 0x809c, 0x0, 0, 32, .ro, none, false, .setting⟩
def ARC_DROP_STAGE : Fld := ⟨.one, 0x80a0, 0x0, 16, 16, .ro, none, false, .setting⟩
def ARC_DROP_FULL : Fld := ⟨.one, 0x80a0, 0x0, 0, 16, .ro, none, false, .setting⟩
/-- The registers of the ARC page by offset (part 1). -/
def arcRegsP0 : List RegDef := [
  ⟨0x14, [ARC_FLT_PERR, ARC_FLT_FULL, ARC_FLT_OVF, ARC_FLT_DAMAGED, ARC_FLT_TORN, ARC_FLT_CFGSAT]⟩,
  ⟨0x40, [ARC_STAT_MODE, ARC_STAT_EMPTY, ARC_STAT_STGB]⟩,
  ⟨0x44, [ARC_HEAD_ACC]⟩,
  ⟨0x48, [ARC_BASE_ACC]⟩,
  ⟨0x4c, [ARC_WPOS_OFS]⟩,
  ⟨0x50, [ARC_TIME0_OPSEC]⟩,
  ⟨0x54, [ARC_TIME1_PCYC, ARC_TIME1_TICKS]⟩,
  ⟨0x58, [ARC_CMD_ERASE, ARC_CMD_KEY]⟩,
  ⟨0x5c, [ARC_RADR_SRC, ARC_RADR_RDY, ARC_RADR_OFS]⟩,
  ⟨0x60, [ARC_RDAT0_DATA]⟩,
  ⟨0x64, [ARC_RDAT1_DATA]⟩,
  ⟨0x68, [ARC_RDAT2_DATA]⟩,
  ⟨0x6c, [ARC_RDAT3_DATA]⟩,
  ⟨0x70, [ARC_RDAT4_DATA]⟩,
  ⟨0x74, [ARC_RDAT5_DATA]⟩,
  ⟨0x78, [ARC_RDAT6_DATA]⟩,
  ⟨0x7c, [ARC_RDAT7_DATA]⟩,
  ⟨0x80, [ARC_RDAT8_DATA]⟩,
  ⟨0x84, [ARC_RDAT9_DATA]⟩,
  ⟨0x88, [ARC_RDAT10_DATA]⟩,
  ⟨0x8c, [ARC_RDAT11_DATA]⟩,
  ⟨0x90, [ARC_RDAT12_DATA]⟩,
  ⟨0x94, [ARC_RDAT13_DATA]⟩,
  ⟨0x98, [ARC_RDAT14_DATA]⟩]
/-- The registers of the ARC page by offset (part 2). -/
def arcRegsP1 : List RegDef := [
  ⟨0x9c, [ARC_RDAT15_DATA]⟩,
  ⟨0xa0, [ARC_DROP_STAGE, ARC_DROP_FULL]⟩]
/-- The registers of the ARC page by offset. -/
def arcRegs : List RegDef := arcRegsP0 ++ arcRegsP1


/-! ### TEL page (R460) -/

def TEL_FLT_MERR : Fld := ⟨.one, 0x9014, 0x0, 1, 1, .w1c, none, false, .setting⟩
def TEL_FLT_CFGSAT : Fld := ⟨.one, 0x9014, 0x0, 0, 1, .w1c, none, false, .setting⟩
def TEL_CTL_DIS : Fld := ⟨.one, 0x9040, 0x1, 8, 8, .ro, none, false, .setting⟩
def TEL_CTL_TEL_EN : Fld := ⟨.one, 0x9040, 0x1, 0, 1, .rwp, none, false, .setting⟩
def TEL_CNT_RECORDS : Fld := ⟨.one, 0x9044, 0x0, 0, 32, .ro, none, false, .setting⟩
/-- The registers of the TEL page by offset. -/
def telRegs : List RegDef := [
  ⟨0x14, [TEL_FLT_MERR, TEL_FLT_CFGSAT]⟩,
  ⟨0x40, [TEL_CTL_DIS, TEL_CTL_TEL_EN]⟩,
  ⟨0x44, [TEL_CNT_RECORDS]⟩]


/-! ### CAP page (R460) -/

def CAP_FLT_MERR : Fld := ⟨.one, 0xa014, 0x0, 3, 1, .w1c, none, false, .setting⟩
def CAP_FLT_GAP : Fld := ⟨.one, 0xa014, 0x0, 2, 1, .w1c, none, false, .setting⟩
def CAP_FLT_REF : Fld := ⟨.one, 0xa014, 0x0, 1, 1, .w1c, none, false, .setting⟩
def CAP_FLT_CFGSAT : Fld := ⟨.one, 0xa014, 0x0, 0, 1, .w1c, none, false, .setting⟩
def CAP_CTL_ARM : Fld := ⟨.one, 0xa040, 0x0, 31, 1, .rwp, none, false, .command⟩
def CAP_CTL_GAL : Fld := ⟨.one, 0xa040, 0x0, 28, 3, .rwp, none, false, .setting⟩
def CAP_CTL_TRIG : Fld := ⟨.one, 0xa040, 0x0, 24, 4, .rwp, none, false, .setting⟩
def CAP_CTL_NCHM1 : Fld := ⟨.one, 0xa040, 0x0, 20, 4, .rwp, none, false, .setting⟩
def CAP_CTL_DIV : Fld := ⟨.one, 0xa040, 0x0, 12, 8, .rwp, none, false, .setting⟩
def CAP_CTL_PRE : Fld := ⟨.one, 0xa040, 0x0, 0, 12, .rwp, none, false, .setting⟩
def CAP_LEN_POST : Fld := ⟨.one, 0xa044, 0x0, 0, 32, .rwp, none, false, .setting⟩
def CAP_TRIG_DIST : Fld := ⟨.one, 0xa048, 0x0, 20, 6, .rwp, none, false, .setting⟩
def CAP_TRIG_LEVEL : Fld := ⟨.one, 0xa048, 0x0, 0, 16, .rwp, none, false, .setting⟩
def CAP_STAT_STATE : Fld := ⟨.one, 0xa04c, 0x0, 29, 3, .ro, none, false, .setting⟩
def CAP_STAT_TRIGD : Fld := ⟨.one, 0xa04c, 0x0, 28, 1, .ro, none, false, .setting⟩
def CAP_STAT_BUFCH : Fld := ⟨.one, 0xa04c, 0x0, 8, 8, .ro, none, false, .setting⟩
def CAP_LOST_SAMPLES : Fld := ⟨.one, 0xa050, 0x0, 0, 32, .ro, none, false, .setting⟩
def CAP_CHSEL0_SRC1 : Fld := ⟨.one, 0xa054, 0x0, 28, 4, .rwp, none, false, .setting⟩
def CAP_CHSEL0_DIST1 : Fld := ⟨.one, 0xa054, 0x0, 22, 6, .rwp, none, false, .setting⟩
def CAP_CHSEL0_IDX1 : Fld := ⟨.one, 0xa054, 0x0, 16, 6, .rwp, none, false, .setting⟩
def CAP_CHSEL0_SRC0 : Fld := ⟨.one, 0xa054, 0x0, 12, 4, .rwp, none, false, .setting⟩
def CAP_CHSEL0_DIST0 : Fld := ⟨.one, 0xa054, 0x0, 6, 6, .rwp, none, false, .setting⟩
def CAP_CHSEL0_IDX0 : Fld := ⟨.one, 0xa054, 0x0, 0, 6, .rwp, none, false, .setting⟩
def CAP_CHSEL1_SRC1 : Fld := ⟨.one, 0xa058, 0x0, 28, 4, .rwp, none, false, .setting⟩
def CAP_CHSEL1_DIST1 : Fld := ⟨.one, 0xa058, 0x0, 22, 6, .rwp, none, false, .setting⟩
def CAP_CHSEL1_IDX1 : Fld := ⟨.one, 0xa058, 0x0, 16, 6, .rwp, none, false, .setting⟩
def CAP_CHSEL1_SRC0 : Fld := ⟨.one, 0xa058, 0x0, 12, 4, .rwp, none, false, .setting⟩
def CAP_CHSEL1_DIST0 : Fld := ⟨.one, 0xa058, 0x0, 6, 6, .rwp, none, false, .setting⟩
def CAP_CHSEL1_IDX0 : Fld := ⟨.one, 0xa058, 0x0, 0, 6, .rwp, none, false, .setting⟩
def CAP_CHSEL2_SRC1 : Fld := ⟨.one, 0xa05c, 0x0, 28, 4, .rwp, none, false, .setting⟩
def CAP_CHSEL2_DIST1 : Fld := ⟨.one, 0xa05c, 0x0, 22, 6, .rwp, none, false, .setting⟩
def CAP_CHSEL2_IDX1 : Fld := ⟨.one, 0xa05c, 0x0, 16, 6, .rwp, none, false, .setting⟩
def CAP_CHSEL2_SRC0 : Fld := ⟨.one, 0xa05c, 0x0, 12, 4, .rwp, none, false, .setting⟩
def CAP_CHSEL2_DIST0 : Fld := ⟨.one, 0xa05c, 0x0, 6, 6, .rwp, none, false, .setting⟩
def CAP_CHSEL2_IDX0 : Fld := ⟨.one, 0xa05c, 0x0, 0, 6, .rwp, none, false, .setting⟩
def CAP_CHSEL3_SRC1 : Fld := ⟨.one, 0xa060, 0x0, 28, 4, .rwp, none, false, .setting⟩
def CAP_CHSEL3_DIST1 : Fld := ⟨.one, 0xa060, 0x0, 22, 6, .rwp, none, false, .setting⟩
def CAP_CHSEL3_IDX1 : Fld := ⟨.one, 0xa060, 0x0, 16, 6, .rwp, none, false, .setting⟩
def CAP_CHSEL3_SRC0 : Fld := ⟨.one, 0xa060, 0x0, 12, 4, .rwp, none, false, .setting⟩
def CAP_CHSEL3_DIST0 : Fld := ⟨.one, 0xa060, 0x0, 6, 6, .rwp, none, false, .setting⟩
def CAP_CHSEL3_IDX0 : Fld := ⟨.one, 0xa060, 0x0, 0, 6, .rwp, none, false, .setting⟩
def CAP_CHSEL4_SRC1 : Fld := ⟨.one, 0xa064, 0x0, 28, 4, .rwp, none, false, .setting⟩
def CAP_CHSEL4_DIST1 : Fld := ⟨.one, 0xa064, 0x0, 22, 6, .rwp, none, false, .setting⟩
def CAP_CHSEL4_IDX1 : Fld := ⟨.one, 0xa064, 0x0, 16, 6, .rwp, none, false, .setting⟩
def CAP_CHSEL4_SRC0 : Fld := ⟨.one, 0xa064, 0x0, 12, 4, .rwp, none, false, .setting⟩
def CAP_CHSEL4_DIST0 : Fld := ⟨.one, 0xa064, 0x0, 6, 6, .rwp, none, false, .setting⟩
def CAP_CHSEL4_IDX0 : Fld := ⟨.one, 0xa064, 0x0, 0, 6, .rwp, none, false, .setting⟩
def CAP_CHSEL5_SRC1 : Fld := ⟨.one, 0xa068, 0x0, 28, 4, .rwp, none, false, .setting⟩
def CAP_CHSEL5_DIST1 : Fld := ⟨.one, 0xa068, 0x0, 22, 6, .rwp, none, false, .setting⟩
def CAP_CHSEL5_IDX1 : Fld := ⟨.one, 0xa068, 0x0, 16, 6, .rwp, none, false, .setting⟩
def CAP_CHSEL5_SRC0 : Fld := ⟨.one, 0xa068, 0x0, 12, 4, .rwp, none, false, .setting⟩
def CAP_CHSEL5_DIST0 : Fld := ⟨.one, 0xa068, 0x0, 6, 6, .rwp, none, false, .setting⟩
def CAP_CHSEL5_IDX0 : Fld := ⟨.one, 0xa068, 0x0, 0, 6, .rwp, none, false, .setting⟩
def CAP_CHSEL6_SRC1 : Fld := ⟨.one, 0xa06c, 0x0, 28, 4, .rwp, none, false, .setting⟩
def CAP_CHSEL6_DIST1 : Fld := ⟨.one, 0xa06c, 0x0, 22, 6, .rwp, none, false, .setting⟩
def CAP_CHSEL6_IDX1 : Fld := ⟨.one, 0xa06c, 0x0, 16, 6, .rwp, none, false, .setting⟩
def CAP_CHSEL6_SRC0 : Fld := ⟨.one, 0xa06c, 0x0, 12, 4, .rwp, none, false, .setting⟩
def CAP_CHSEL6_DIST0 : Fld := ⟨.one, 0xa06c, 0x0, 6, 6, .rwp, none, false, .setting⟩
def CAP_CHSEL6_IDX0 : Fld := ⟨.one, 0xa06c, 0x0, 0, 6, .rwp, none, false, .setting⟩
def CAP_CHSEL7_SRC1 : Fld := ⟨.one, 0xa070, 0x0, 28, 4, .rwp, none, false, .setting⟩
def CAP_CHSEL7_DIST1 : Fld := ⟨.one, 0xa070, 0x0, 22, 6, .rwp, none, false, .setting⟩
def CAP_CHSEL7_IDX1 : Fld := ⟨.one, 0xa070, 0x0, 16, 6, .rwp, none, false, .setting⟩
def CAP_CHSEL7_SRC0 : Fld := ⟨.one, 0xa070, 0x0, 12, 4, .rwp, none, false, .setting⟩
def CAP_CHSEL7_DIST0 : Fld := ⟨.one, 0xa070, 0x0, 6, 6, .rwp, none, false, .setting⟩
def CAP_CHSEL7_IDX0 : Fld := ⟨.one, 0xa070, 0x0, 0, 6, .rwp, none, false, .setting⟩
/-- The registers of the CAP page by offset. -/
def capRegs : List RegDef := [
  ⟨0x14, [CAP_FLT_MERR, CAP_FLT_GAP, CAP_FLT_REF, CAP_FLT_CFGSAT]⟩,
  ⟨0x40, [CAP_CTL_ARM, CAP_CTL_GAL, CAP_CTL_TRIG, CAP_CTL_NCHM1, CAP_CTL_DIV, CAP_CTL_PRE]⟩,
  ⟨0x44, [CAP_LEN_POST]⟩,
  ⟨0x48, [CAP_TRIG_DIST, CAP_TRIG_LEVEL]⟩,
  ⟨0x4c, [CAP_STAT_STATE, CAP_STAT_TRIGD, CAP_STAT_BUFCH]⟩,
  ⟨0x50, [CAP_LOST_SAMPLES]⟩,
  ⟨0x54, [CAP_CHSEL0_SRC1, CAP_CHSEL0_DIST1, CAP_CHSEL0_IDX1, CAP_CHSEL0_SRC0, CAP_CHSEL0_DIST0, CAP_CHSEL0_IDX0]⟩,
  ⟨0x58, [CAP_CHSEL1_SRC1, CAP_CHSEL1_DIST1, CAP_CHSEL1_IDX1, CAP_CHSEL1_SRC0, CAP_CHSEL1_DIST0, CAP_CHSEL1_IDX0]⟩,
  ⟨0x5c, [CAP_CHSEL2_SRC1, CAP_CHSEL2_DIST1, CAP_CHSEL2_IDX1, CAP_CHSEL2_SRC0, CAP_CHSEL2_DIST0, CAP_CHSEL2_IDX0]⟩,
  ⟨0x60, [CAP_CHSEL3_SRC1, CAP_CHSEL3_DIST1, CAP_CHSEL3_IDX1, CAP_CHSEL3_SRC0, CAP_CHSEL3_DIST0, CAP_CHSEL3_IDX0]⟩,
  ⟨0x64, [CAP_CHSEL4_SRC1, CAP_CHSEL4_DIST1, CAP_CHSEL4_IDX1, CAP_CHSEL4_SRC0, CAP_CHSEL4_DIST0, CAP_CHSEL4_IDX0]⟩,
  ⟨0x68, [CAP_CHSEL5_SRC1, CAP_CHSEL5_DIST1, CAP_CHSEL5_IDX1, CAP_CHSEL5_SRC0, CAP_CHSEL5_DIST0, CAP_CHSEL5_IDX0]⟩,
  ⟨0x6c, [CAP_CHSEL6_SRC1, CAP_CHSEL6_DIST1, CAP_CHSEL6_IDX1, CAP_CHSEL6_SRC0, CAP_CHSEL6_DIST0, CAP_CHSEL6_IDX0]⟩,
  ⟨0x70, [CAP_CHSEL7_SRC1, CAP_CHSEL7_DIST1, CAP_CHSEL7_IDX1, CAP_CHSEL7_SRC0, CAP_CHSEL7_DIST0, CAP_CHSEL7_IDX0]⟩]


/-! ### ORR page (R460) -/

def ORR_FLT_CFGSAT : Fld := ⟨.one, 0xb014, 0x0, 8, 1, .w1c, none, false, .setting⟩
def ORR_FLT_PERSIST : Fld := ⟨.one, 0xb014, 0x0, 7, 1, .w1c, none, false, .setting⟩
def ORR_FLT_SCANFLT : Fld := ⟨.one, 0xb014, 0x0, 6, 1, .w1c, none, false, .setting⟩
def ORR_FLT_FCOVR : Fld := ⟨.one, 0xb014, 0x0, 5, 1, .w1c, none, false, .setting⟩
def ORR_FLT_OVR : Fld := ⟨.one, 0xb014, 0x0, 4, 1, .w1c, none, false, .setting⟩
def ORR_FLT_SAT : Fld := ⟨.one, 0xb014, 0x0, 3, 1, .w1c, none, false, .setting⟩
def ORR_FLT_RES : Fld := ⟨.one, 0xb014, 0x0, 2, 1, .w1c, none, false, .setting⟩
def ORR_FLT_DBE : Fld := ⟨.one, 0xb014, 0x0, 1, 1, .w1c, none, false, .setting⟩
def ORR_FLT_SBE : Fld := ⟨.one, 0xb014, 0x0, 0, 1, .w1c, none, false, .setting⟩
def ORR_CTL_CNT_CLR : Fld := ⟨.one, 0xb040, 0x100002, 31, 1, .wo, none, false, .setting⟩
def ORR_CTL_HOLD_LIM : Fld := ⟨.one, 0xb040, 0x100002, 16, 8, .rwp, some (1, 255), false, .setting⟩
def ORR_CTL_SCRUB_EN : Fld := ⟨.one, 0xb040, 0x100002, 1, 1, .rwp, none, false, .setting⟩
def ORR_CTL_FC_EN : Fld := ⟨.one, 0xb040, 0x100002, 0, 1, .rwp, none, false, .setting⟩
def ORR_STAT_DPHASE : Fld := ⟨.one, 0xb044, 0x0, 4, 4, .ro, none, false, .setting⟩
def ORR_STAT_NODIST : Fld := ⟨.one, 0xb044, 0x0, 2, 1, .ro, none, false, .setting⟩
def ORR_STAT_FC_ACT : Fld := ⟨.one, 0xb044, 0x0, 1, 1, .ro, none, false, .setting⟩
def ORR_STAT_RUN : Fld := ⟨.one, 0xb044, 0x0, 0, 1, .ro, none, false, .setting⟩
def ORR_DSEL_DIST : Fld := ⟨.one, 0xb048, 0x0, 0, 6, .rw, none, false, .setting⟩
def ORR_DIM_S : Fld := ⟨.bank, 0xb04c, 0x0, 29, 3, .ro, none, false, .setting⟩
def ORR_DIM_Q : Fld := ⟨.bank, 0xb04c, 0x0, 23, 6, .ro, none, false, .setting⟩
def ORR_DIM_P : Fld := ⟨.bank, 0xb04c, 0x0, 16, 7, .ro, none, false, .setting⟩
def ORR_DIM_M : Fld := ⟨.bank, 0xb04c, 0x0, 8, 5, .ro, none, false, .setting⟩
def ORR_DIM_N : Fld := ⟨.bank, 0xb04c, 0x0, 0, 5, .ro, none, false, .setting⟩
def ORR_DLY_SLOT : Fld := ⟨.bank, 0xb050, 0x0, 16, 3, .ro, none, false, .setting⟩
def ORR_DLY_MAX : Fld := ⟨.bank, 0xb050, 0x0, 8, 8, .ro, none, false, .setting⟩
def ORR_DLY_LAST : Fld := ⟨.bank, 0xb050, 0x0, 0, 8, .ro, none, false, .setting⟩
def ORR_ERRLOC_VALID : Fld := ⟨.one, 0xb054, 0x0, 31, 1, .w1c, none, false, .setting⟩
def ORR_ERRLOC_CAUSE : Fld := ⟨.one, 0xb054, 0x0, 16, 2, .ro, none, false, .setting⟩
def ORR_ERRLOC_STAGE : Fld := ⟨.one, 0xb054, 0x0, 8, 4, .ro, none, false, .setting⟩
def ORR_ERRLOC_DIST : Fld := ⟨.one, 0xb054, 0x0, 0, 6, .ro, none, false, .setting⟩
def ORR_CNT0_DBE : Fld := ⟨.one, 0xb058, 0x0, 16, 16, .ro, none, false, .setting⟩
def ORR_CNT0_SBE : Fld := ⟨.one, 0xb058, 0x0, 0, 16, .ro, none, false, .setting⟩
def ORR_CNT1_SAT : Fld := ⟨.one, 0xb05c, 0x0, 16, 16, .ro, none, false, .setting⟩
def ORR_CNT1_RES : Fld := ⟨.one, 0xb05c, 0x0, 0, 16, .ro, none, false, .setting⟩
def ORR_SCRUB_PASSES : Fld := ⟨.one, 0xb060, 0x0, 0, 32, .ro, none, false, .setting⟩
def ORR_INJ_ARM : Fld := ⟨.one, 0xb064, 0x0, 31, 1, .rwp, none, false, .command⟩
def ORR_INJ_KIND : Fld := ⟨.one, 0xb064, 0x0, 16, 2, .rwp, none, false, .setting⟩
def ORR_INJ_STAGE : Fld := ⟨.one, 0xb064, 0x0, 8, 4, .rwp, none, false, .setting⟩
def ORR_INJ_DIST : Fld := ⟨.one, 0xb064, 0x0, 0, 6, .rwp, none, false, .setting⟩
/-- The registers of the ORR page by offset. -/
def orrRegs : List RegDef := [
  ⟨0x14, [ORR_FLT_CFGSAT, ORR_FLT_PERSIST, ORR_FLT_SCANFLT, ORR_FLT_FCOVR, ORR_FLT_OVR, ORR_FLT_SAT, ORR_FLT_RES, ORR_FLT_DBE, ORR_FLT_SBE]⟩,
  ⟨0x40, [ORR_CTL_CNT_CLR, ORR_CTL_HOLD_LIM, ORR_CTL_SCRUB_EN, ORR_CTL_FC_EN]⟩,
  ⟨0x44, [ORR_STAT_DPHASE, ORR_STAT_NODIST, ORR_STAT_FC_ACT, ORR_STAT_RUN]⟩,
  ⟨0x48, [ORR_DSEL_DIST]⟩,
  ⟨0x4c, [ORR_DIM_S, ORR_DIM_Q, ORR_DIM_P, ORR_DIM_M, ORR_DIM_N]⟩,
  ⟨0x50, [ORR_DLY_SLOT, ORR_DLY_MAX, ORR_DLY_LAST]⟩,
  ⟨0x54, [ORR_ERRLOC_VALID, ORR_ERRLOC_CAUSE, ORR_ERRLOC_STAGE, ORR_ERRLOC_DIST]⟩,
  ⟨0x58, [ORR_CNT0_DBE, ORR_CNT0_SBE]⟩,
  ⟨0x5c, [ORR_CNT1_SAT, ORR_CNT1_RES]⟩,
  ⟨0x60, [ORR_SCRUB_PASSES]⟩,
  ⟨0x64, [ORR_INJ_ARM, ORR_INJ_KIND, ORR_INJ_STAGE, ORR_INJ_DIST]⟩]


/-! ### LOOP page (R460) -/

def LOOP_FLT_TSTSTOP : Fld := ⟨.one, 0xc014, 0x0, 2, 1, .w1c, none, false, .setting⟩
def LOOP_FLT_TSTREF : Fld := ⟨.one, 0xc014, 0x0, 1, 1, .w1c, none, false, .setting⟩
def LOOP_FLT_CFGSAT : Fld := ⟨.one, 0xc014, 0x0, 0, 1, .w1c, none, false, .setting⟩
def LOOP_CTL_SLEW_DN : Fld := ⟨.one, 0xc040, 0x82820, 16, 8, .rwp, some (1, 255), false, .setting⟩
def LOOP_CTL_SLEW_UP : Fld := ⟨.one, 0xc040, 0x82820, 8, 8, .rwp, some (1, 255), false, .setting⟩
def LOOP_CTL_KI : Fld := ⟨.one, 0xc040, 0x82820, 0, 8, .rwp, some (1, 64), false, .setting⟩
def LOOP_TST_CTL_ARM : Fld := ⟨.one, 0xc044, 0x0, 31, 1, .rwp, none, false, .command⟩
def LOOP_TST_CTL_MODE : Fld := ⟨.one, 0xc044, 0x0, 29, 2, .rwp, none, false, .setting⟩
def LOOP_TST_CTL_TGT : Fld := ⟨.one, 0xc044, 0x0, 28, 1, .rwp, none, false, .setting⟩
def LOOP_TST_CTL_ELEM : Fld := ⟨.one, 0xc044, 0x0, 16, 5, .rwp, none, false, .setting⟩
def LOOP_TST_CTL_DIST : Fld := ⟨.one, 0xc044, 0x0, 0, 6, .rwp, none, false, .setting⟩
def LOOP_TST_AMP_DUR : Fld := ⟨.one, 0xc048, 0x0, 24, 8, .rwp, none, false, .setting⟩
def LOOP_TST_AMP_HOLD : Fld := ⟨.one, 0xc048, 0x0, 16, 8, .rwp, none, false, .setting⟩
def LOOP_TST_AMP_AMP : Fld := ⟨.one, 0xc048, 0x0, 0, 16, .rwp, some (-1400, 1400), true, .setting⟩
def LOOP_TST_GEN_FTW : Fld := ⟨.one, 0xc04c, 0x0, 0, 24, .rwp, some (0, 8388608), false, .setting⟩
def LOOP_TST_STAT_ACTIVE : Fld := ⟨.one, 0xc050, 0x0, 31, 1, .ro, none, false, .setting⟩
def LOOP_TST_STAT_STOP : Fld := ⟨.one, 0xc050, 0x0, 28, 3, .ro, none, false, .setting⟩
def LOOP_TST_STAT_PERIODS : Fld := ⟨.one, 0xc050, 0x0, 0, 28, .ro, none, false, .setting⟩
/-- The registers of the LOOP page by offset. -/
def loopRegs : List RegDef := [
  ⟨0x14, [LOOP_FLT_TSTSTOP, LOOP_FLT_TSTREF, LOOP_FLT_CFGSAT]⟩,
  ⟨0x40, [LOOP_CTL_SLEW_DN, LOOP_CTL_SLEW_UP, LOOP_CTL_KI]⟩,
  ⟨0x44, [LOOP_TST_CTL_ARM, LOOP_TST_CTL_MODE, LOOP_TST_CTL_TGT, LOOP_TST_CTL_ELEM, LOOP_TST_CTL_DIST]⟩,
  ⟨0x48, [LOOP_TST_AMP_DUR, LOOP_TST_AMP_HOLD, LOOP_TST_AMP_AMP]⟩,
  ⟨0x4c, [LOOP_TST_GEN_FTW]⟩,
  ⟨0x50, [LOOP_TST_STAT_ACTIVE, LOOP_TST_STAT_STOP, LOOP_TST_STAT_PERIODS]⟩]


/-! ### BUD page (R460) -/

def BUD_FLT_COOL : Fld := ⟨.one, 0xd014, 0x0, 6, 1, .w1c, none, false, .setting⟩
def BUD_FLT_ABSLIM : Fld := ⟨.one, 0xd014, 0x0, 5, 1, .w1c, none, false, .setting⟩
def BUD_FLT_QUOTA : Fld := ⟨.one, 0xd014, 0x0, 4, 1, .w1c, none, false, .setting⟩
def BUD_FLT_DIEBIND : Fld := ⟨.one, 0xd014, 0x0, 3, 1, .w1c, none, false, .setting⟩
def BUD_FLT_CLSBIND : Fld := ⟨.one, 0xd014, 0x0, 2, 1, .w1c, none, false, .setting⟩
def BUD_FLT_SHRBAD : Fld := ⟨.one, 0xd014, 0x0, 1, 1, .w1c, none, false, .setting⟩
def BUD_FLT_CFGSAT : Fld := ⟨.one, 0xd014, 0x0, 0, 1, .w1c, none, false, .setting⟩
def BUD_CTL_CNT_CLR : Fld := ⟨.one, 0xd040, 0xf04000a, 31, 1, .wo, none, false, .setting⟩
def BUD_CTL_COOL_SRC : Fld := ⟨.one, 0xd040, 0xf04000a, 26, 2, .rwp, none, false, .setting⟩
def BUD_CTL_ADMCAP_EN : Fld := ⟨.one, 0xd040, 0xf04000a, 25, 1, .rwp, none, false, .setting⟩
def BUD_CTL_DIV_EN : Fld := ⟨.one, 0xd040, 0xf04000a, 24, 1, .rwp, none, false, .setting⟩
def BUD_CTL_REALLOC : Fld := ⟨.one, 0xd040, 0xf04000a, 23, 1, .rwp, none, false, .setting⟩
def BUD_CTL_KB : Fld := ⟨.one, 0xd040, 0xf04000a, 16, 4, .rwp, some (1, 8), false, .setting⟩
def BUD_CTL_WIN : Fld := ⟨.one, 0xd040, 0xf04000a, 0, 7, .rwp, some (1, 100), false, .setting⟩
def BUD_DCAP_ABS : Fld := ⟨.one, 0xd044, 0x0, 16, 14, .rwp, some (32, 12288), false, .setting⟩
def BUD_DCAP_DCAP : Fld := ⟨.one, 0xd044, 0x0, 0, 14, .rwp, some (32, 12288), false, .setting⟩
def BUD_CCAP0_MCAP : Fld := ⟨.one, 0xd048, 0x30003000, 16, 14, .rwp, some (0, 12288), false, .setting⟩
def BUD_CCAP0_CCAP : Fld := ⟨.one, 0xd048, 0x30003000, 0, 14, .rwp, some (0, 12288), false, .setting⟩
def BUD_CCAP1_LCAP : Fld := ⟨.one, 0xd04c, 0x3000, 0, 14, .rwp, some (0, 12288), false, .setting⟩
def BUD_FLR0_MFLR : Fld := ⟨.one, 0xd050, 0x0, 16, 14, .rwp, some (0, 12288), false, .setting⟩
def BUD_FLR0_CFLR : Fld := ⟨.one, 0xd050, 0x0, 0, 14, .rwp, some (0, 12288), false, .setting⟩
def BUD_FLR1_LFLR : Fld := ⟨.one, 0xd054, 0x0, 0, 14, .rwp, some (0, 12288), false, .setting⟩
def BUD_PRIO_REL : Fld := ⟨.one, 0xd058, 0x100024, 16, 8, .rwp, some (1, 255), false, .setting⟩
def BUD_PRIO_ORDER : Fld := ⟨.one, 0xd058, 0x100024, 0, 6, .rwp, none, false, .setting⟩
def BUD_ACT_VSTEP : Fld := ⟨.one, 0xd05c, 0x28824020, 24, 8, .rwp, some (4, 80), false, .setting⟩
def BUD_ACT_SK_UP : Fld := ⟨.one, 0xd05c, 0x28824020, 20, 4, .rwp, some (1, 15), false, .setting⟩
def BUD_ACT_SK_DN : Fld := ⟨.one, 0xd05c, 0x28824020, 16, 4, .rwp, some (1, 15), false, .setting⟩
def BUD_ACT_DIV_MAX : Fld := ⟨.one, 0xd05c, 0x28824020, 14, 2, .rwp, none, false, .setting⟩
def BUD_ACT_SKIP_MAX : Fld := ⟨.one, 0xd05c, 0x28824020, 0, 6, .rwp, some (0, 48), false, .setting⟩
def BUD_SHR0_SH4 : Fld := ⟨.one, 0xd060, 0x0, 24, 8, .rwp, none, false, .setting⟩
def BUD_SHR0_SH3 : Fld := ⟨.one, 0xd060, 0x0, 16, 8, .rwp, none, false, .setting⟩
def BUD_SHR0_SH2 : Fld := ⟨.one, 0xd060, 0x0, 8, 8, .rwp, none, false, .setting⟩
def BUD_SHR0_SH1 : Fld := ⟨.one, 0xd060, 0x0, 0, 8, .rwp, none, false, .setting⟩
def BUD_SHR1_SH7 : Fld := ⟨.one, 0xd064, 0x0, 16, 8, .rwp, none, false, .setting⟩
def BUD_SHR1_SH6 : Fld := ⟨.one, 0xd064, 0x0, 8, 8, .rwp, none, false, .setting⟩
def BUD_SHR1_SH5 : Fld := ⟨.one, 0xd064, 0x0, 0, 8, .rwp, none, false, .setting⟩
def BUD_SHR2_PEND : Fld := ⟨.one, 0xd068, 0x100, 31, 1, .ro, none, false, .setting⟩
def BUD_SHR2_SH0 : Fld := ⟨.one, 0xd068, 0x100, 0, 9, .ro, none, false, .setting⟩
def BUD_GSEL_GAL : Fld := ⟨.one, 0xd06c, 0x0, 0, 3, .rw, none, false, .setting⟩
def BUD_GQUOTA_QUOTA : Fld := ⟨.bank, 0xd070, 0x0, 0, 32, .rwp, none, false, .setting⟩
def BUD_GCNT_COUNT : Fld := ⟨.bank, 0xd074, 0x0, 0, 32, .ro, none, false, .setting⟩
def BUD_MEAN0_MMEAN : Fld := ⟨.one, 0xd078, 0x0, 16, 14, .ro, none, false, .setting⟩
def BUD_MEAN0_CMEAN : Fld := ⟨.one, 0xd078, 0x0, 0, 14, .ro, none, false, .setting⟩
def BUD_MEAN1_DMEAN : Fld := ⟨.one, 0xd07c, 0x0, 16, 14, .ro, none, false, .setting⟩
def BUD_MEAN1_LMEAN : Fld := ⟨.one, 0xd07c, 0x0, 0, 14, .ro, none, false, .setting⟩
def BUD_TRQ_TRD : Fld := ⟨.one, 0xd080, 0x0, 16, 14, .ro, none, false, .setting⟩
def BUD_TRQ_TRA : Fld := ⟨.one, 0xd080, 0x0, 0, 14, .ro, none, false, .setting⟩
def BUD_TRC0_TRCM : Fld := ⟨.one, 0xd084, 0x0, 16, 14, .ro, none, false, .setting⟩
def BUD_TRC0_TRCC : Fld := ⟨.one, 0xd084, 0x0, 0, 14, .ro, none, false, .setting⟩
def BUD_TRC1_TRCL : Fld := ⟨.one, 0xd088, 0x0, 0, 14, .ro, none, false, .setting⟩
def BUD_DSEL_DIST : Fld := ⟨.one, 0xd08c, 0x0, 0, 6, .rw, none, false, .setting⟩
def BUD_DACT_RED : Fld := ⟨.bank, 0xd090, 0x0, 20, 12, .ro, none, false, .setting⟩
def BUD_DACT_FB : Fld := ⟨.bank, 0xd090, 0x0, 19, 1, .ro, none, false, .setting⟩
def BUD_DACT_PV : Fld := ⟨.bank, 0xd090, 0x0, 16, 3, .ro, none, false, .setting⟩
def BUD_DACT_DIV : Fld := ⟨.bank, 0xd090, 0x0, 14, 2, .ro, none, false, .setting⟩
def BUD_DACT_SKOK : Fld := ⟨.bank, 0xd090, 0x0, 13, 1, .ro, none, false, .setting⟩
def BUD_DACT_SK : Fld := ⟨.bank, 0xd090, 0x0, 0, 6, .ro, none, false, .setting⟩
/-- The registers of the BUD page by offset. -/
def budRegs : List RegDef := [
  ⟨0x14, [BUD_FLT_COOL, BUD_FLT_ABSLIM, BUD_FLT_QUOTA, BUD_FLT_DIEBIND, BUD_FLT_CLSBIND, BUD_FLT_SHRBAD, BUD_FLT_CFGSAT]⟩,
  ⟨0x40, [BUD_CTL_CNT_CLR, BUD_CTL_COOL_SRC, BUD_CTL_ADMCAP_EN, BUD_CTL_DIV_EN, BUD_CTL_REALLOC, BUD_CTL_KB, BUD_CTL_WIN]⟩,
  ⟨0x44, [BUD_DCAP_ABS, BUD_DCAP_DCAP]⟩,
  ⟨0x48, [BUD_CCAP0_MCAP, BUD_CCAP0_CCAP]⟩,
  ⟨0x4c, [BUD_CCAP1_LCAP]⟩,
  ⟨0x50, [BUD_FLR0_MFLR, BUD_FLR0_CFLR]⟩,
  ⟨0x54, [BUD_FLR1_LFLR]⟩,
  ⟨0x58, [BUD_PRIO_REL, BUD_PRIO_ORDER]⟩,
  ⟨0x5c, [BUD_ACT_VSTEP, BUD_ACT_SK_UP, BUD_ACT_SK_DN, BUD_ACT_DIV_MAX, BUD_ACT_SKIP_MAX]⟩,
  ⟨0x60, [BUD_SHR0_SH4, BUD_SHR0_SH3, BUD_SHR0_SH2, BUD_SHR0_SH1]⟩,
  ⟨0x64, [BUD_SHR1_SH7, BUD_SHR1_SH6, BUD_SHR1_SH5]⟩,
  ⟨0x68, [BUD_SHR2_PEND, BUD_SHR2_SH0]⟩,
  ⟨0x6c, [BUD_GSEL_GAL]⟩,
  ⟨0x70, [BUD_GQUOTA_QUOTA]⟩,
  ⟨0x74, [BUD_GCNT_COUNT]⟩,
  ⟨0x78, [BUD_MEAN0_MMEAN, BUD_MEAN0_CMEAN]⟩,
  ⟨0x7c, [BUD_MEAN1_DMEAN, BUD_MEAN1_LMEAN]⟩,
  ⟨0x80, [BUD_TRQ_TRD, BUD_TRQ_TRA]⟩,
  ⟨0x84, [BUD_TRC0_TRCM, BUD_TRC0_TRCC]⟩,
  ⟨0x88, [BUD_TRC1_TRCL]⟩,
  ⟨0x8c, [BUD_DSEL_DIST]⟩,
  ⟨0x90, [BUD_DACT_RED, BUD_DACT_FB, BUD_DACT_PV, BUD_DACT_DIV, BUD_DACT_SKOK, BUD_DACT_SK]⟩]


/-! ### GRP page (R460) -/

def GRP_FLT_NOTTF : Fld := ⟨.one, 0xe014, 0x0, 3, 1, .w1c, none, false, .setting⟩
def GRP_FLT_OVR : Fld := ⟨.one, 0xe014, 0x0, 2, 1, .w1c, none, false, .setting⟩
def GRP_FLT_GEXC : Fld := ⟨.one, 0xe014, 0x0, 1, 1, .w1c, none, false, .setting⟩
def GRP_FLT_CFGSAT : Fld := ⟨.one, 0xe014, 0x0, 0, 1, .w1c, none, false, .setting⟩
def GRP_CTL_GMODE : Fld := ⟨.one, 0xe040, 0xa0080, 31, 1, .rwp, none, false, .setting⟩
def GRP_CTL_EXC_T : Fld := ⟨.one, 0xe040, 0xa0080, 16, 8, .rwp, some (1, 255), false, .setting⟩
def GRP_CTL_GFREQ : Fld := ⟨.one, 0xe040, 0xa0080, 0, 8, .rwp, some (32, 128), false, .setting⟩
def GRP_STAT_ACTIVE : Fld := ⟨.one, 0xe044, 0x0, 31, 1, .ro, none, false, .setting⟩
def GRP_STAT_EXC : Fld := ⟨.one, 0xe044, 0x0, 30, 1, .ro, none, false, .setting⟩
def GRP_STAT_HOLDBK : Fld := ⟨.one, 0xe044, 0x0, 29, 1, .ro, none, false, .setting⟩
def GRP_STAT_COOLLOSS : Fld := ⟨.one, 0xe044, 0x0, 28, 1, .w1c, none, false, .setting⟩
def GRP_STAT_RESID : Fld := ⟨.one, 0xe044, 0x0, 0, 14, .ro, none, false, .setting⟩
def GRP_IVL_VALID : Fld := ⟨.one, 0xe048, 0x0, 31, 1, .ro, none, false, .setting⟩
def GRP_IVL_TF : Fld := ⟨.one, 0xe048, 0x0, 30, 1, .ro, none, false, .setting⟩
def GRP_IVL_NOGRP : Fld := ⟨.one, 0xe048, 0x0, 29, 1, .ro, none, false, .setting⟩
def GRP_IVL_FCHG : Fld := ⟨.one, 0xe048, 0x0, 28, 1, .ro, none, false, .setting⟩
def GRP_IVL_CAPT : Fld := ⟨.one, 0xe048, 0x0, 27, 1, .ro, none, false, .setting⟩
def GRP_IVL_THRM : Fld := ⟨.one, 0xe048, 0x0, 26, 1, .ro, none, false, .setting⟩
def GRP_IVL_ABSL : Fld := ⟨.one, 0xe048, 0x0, 25, 1, .ro, none, false, .setting⟩
def GRP_IVL_SAFE : Fld := ⟨.one, 0xe048, 0x0, 24, 1, .ro, none, false, .setting⟩
def GRP_IVL_EPOCH : Fld := ⟨.one, 0xe048, 0x0, 0, 24, .ro, none, false, .setting⟩
def GRP_CNT_EXCURSIONS : Fld := ⟨.one, 0xe04c, 0x0, 16, 16, .ro, none, false, .setting⟩
def GRP_CNT_NTF : Fld := ⟨.one, 0xe04c, 0x0, 0, 16, .ro, none, false, .setting⟩
def GRP_FREQ_NOW_GRATIO : Fld := ⟨.one, 0xe050, 0x80, 0, 8, .ro, none, false, .setting⟩
/-- The registers of the GRP page by offset. -/
def grpRegs : List RegDef := [
  ⟨0x14, [GRP_FLT_NOTTF, GRP_FLT_OVR, GRP_FLT_GEXC, GRP_FLT_CFGSAT]⟩,
  ⟨0x40, [GRP_CTL_GMODE, GRP_CTL_EXC_T, GRP_CTL_GFREQ]⟩,
  ⟨0x44, [GRP_STAT_ACTIVE, GRP_STAT_EXC, GRP_STAT_HOLDBK, GRP_STAT_COOLLOSS, GRP_STAT_RESID]⟩,
  ⟨0x48, [GRP_IVL_VALID, GRP_IVL_TF, GRP_IVL_NOGRP, GRP_IVL_FCHG, GRP_IVL_CAPT, GRP_IVL_THRM, GRP_IVL_ABSL, GRP_IVL_SAFE, GRP_IVL_EPOCH]⟩,
  ⟨0x4c, [GRP_CNT_EXCURSIONS, GRP_CNT_NTF]⟩,
  ⟨0x50, [GRP_FREQ_NOW_GRATIO]⟩]


/-! ### FCS page (R460) -/

def FCS_FLT_DBGZ : Fld := ⟨.one, 0xf014, 0x0, 6, 1, .w1c, none, false, .setting⟩
def FCS_FLT_WDBE : Fld := ⟨.one, 0xf014, 0x0, 5, 1, .w1c, none, false, .setting⟩
def FCS_FLT_ATTINV : Fld := ⟨.one, 0xf014, 0x0, 4, 1, .w1c, none, false, .setting⟩
def FCS_FLT_TRUST : Fld := ⟨.one, 0xf014, 0x0, 3, 1, .w1c, none, false, .setting⟩
def FCS_FLT_SHAPE : Fld := ⟨.one, 0xf014, 0x0, 2, 1, .w1c, none, false, .setting⟩
def FCS_FLT_PAIR : Fld := ⟨.one, 0xf014, 0x0, 1, 1, .w1c, none, false, .setting⟩
def FCS_FLT_CFGSAT : Fld := ⟨.one, 0xf014, 0x0, 0, 1, .w1c, none, false, .setting⟩
def FCS_CTL_CNT_CLR : Fld := ⟨.one, 0xf040, 0x1, 31, 1, .wo, none, false, .setting⟩
def FCS_CTL_ATT_EN : Fld := ⟨.one, 0xf040, 0x1, 0, 1, .rwp, none, false, .setting⟩
def FCS_STAT_STATE : Fld := ⟨.one, 0xf044, 0x0, 29, 3, .ro, none, false, .setting⟩
def FCS_STAT_CAUSE : Fld := ⟨.one, 0xf044, 0x0, 26, 3, .ro, none, false, .setting⟩
def FCS_STAT_LOADS : Fld := ⟨.one, 0xf044, 0x0, 0, 16, .ro, none, false, .setting⟩
def FCS_SHAPE_FIN : Fld := ⟨.one, 0xf048, 0x0, 16, 9, .ro, none, false, .setting⟩
def FCS_SHAPE_FH : Fld := ⟨.one, 0xf048, 0x0, 8, 7, .ro, none, false, .setting⟩
def FCS_SHAPE_FO : Fld := ⟨.one, 0xf048, 0x0, 0, 5, .ro, none, false, .setting⟩
def FCS_PAIRC_PAIR : Fld := ⟨.one, 0xf04c, 0x0, 0, 32, .ro, none, false, .setting⟩
def FCS_PAIRW_PAIR : Fld := ⟨.one, 0xf050, 0x0, 0, 32, .ro, none, false, .setting⟩
def FCS_TRUST_ALPHA : Fld := ⟨.one, 0xf054, 0x3801007d, 28, 4, .rwp, some (1, 8), false, .setting⟩
def FCS_TRUST_TR_N : Fld := ⟨.one, 0xf054, 0x3801007d, 24, 4, .rwp, some (1, 15), false, .setting⟩
def FCS_TRUST_HOLD : Fld := ⟨.one, 0xf054, 0x3801007d, 16, 8, .rwp, some (1, 255), false, .setting⟩
def FCS_TRUST_THR : Fld := ⟨.one, 0xf054, 0x3801007d, 0, 13, .rwp, some (1, 5600), false, .setting⟩
def FCS_DSEL_DIST : Fld := ⟨.one, 0xf058, 0x0, 0, 6, .rw, none, false, .setting⟩
def FCS_DSTAT_TR : Fld := ⟨.bank, 0xf05c, 0x10000000, 31, 1, .ro, none, false, .setting⟩
def FCS_DSTAT_OFF : Fld := ⟨.bank, 0xf05c, 0x10000000, 30, 1, .ro, none, false, .setting⟩
def FCS_DSTAT_ATTV : Fld := ⟨.bank, 0xf05c, 0x10000000, 29, 1, .ro, none, false, .setting⟩
def FCS_DSTAT_GAIN : Fld := ⟨.bank, 0xf05c, 0x10000000, 26, 3, .ro, none, false, .setting⟩
def FCS_DSTAT_CNT : Fld := ⟨.bank, 0xf05c, 0x10000000, 20, 4, .ro, none, false, .setting⟩
def FCS_DSTAT_REDUCTIONS : Fld := ⟨.bank, 0xf05c, 0x10000000, 0, 16, .ro, none, false, .setting⟩
def FCS_ERR_RERR : Fld := ⟨.bank, 0xf060, 0x0, 16, 16, .ro, none, false, .setting⟩
def FCS_ERR_LASTE : Fld := ⟨.bank, 0xf060, 0x0, 0, 16, .ro, none, false, .setting⟩
def FCS_PRED_PRED : Fld := ⟨.bank, 0xf064, 0x0, 16, 16, .ro, none, true, .setting⟩
def FCS_PRED_IMEAS : Fld := ⟨.bank, 0xf064, 0x0, 0, 16, .ro, none, false, .setting⟩
def FCS_DCFG_TMASK : Fld := ⟨.bank, 0xf068, 0x0, 16, 16, .ro, none, false, .setting⟩
def FCS_DCFG_NKIND : Fld := ⟨.bank, 0xf068, 0x0, 0, 3, .ro, none, false, .setting⟩
def FCS_SCALE_VALID : Fld := ⟨.bank, 0xf06c, 0x0, 31, 1, .ro, none, false, .setting⟩
def FCS_SCALE_SCALE : Fld := ⟨.bank, 0xf06c, 0x0, 0, 16, .ro, none, false, .setting⟩
def FCS_QSEL_QUEUE : Fld := ⟨.one, 0xf070, 0x0, 0, 14, .rw, none, false, .setting⟩
def FCS_ATT_EQ : Fld := ⟨.bank, 0xf074, 0x0, 0, 24, .ro, none, false, .setting⟩
def FCS_EPOCH_EPOCH : Fld := ⟨.one, 0xf078, 0x0, 0, 32, .ro, none, false, .setting⟩
def FCS_BASEE_E : Fld := ⟨.bank, 0xf07c, 0x0, 0, 24, .ro, none, false, .setting⟩
def FCS_EMEAS_E : Fld := ⟨.bank, 0xf080, 0x0, 0, 24, .ro, none, false, .setting⟩
/-- The registers of the FCS page by offset. -/
def fcsRegs : List RegDef := [
  ⟨0x14, [FCS_FLT_DBGZ, FCS_FLT_WDBE, FCS_FLT_ATTINV, FCS_FLT_TRUST, FCS_FLT_SHAPE, FCS_FLT_PAIR, FCS_FLT_CFGSAT]⟩,
  ⟨0x40, [FCS_CTL_CNT_CLR, FCS_CTL_ATT_EN]⟩,
  ⟨0x44, [FCS_STAT_STATE, FCS_STAT_CAUSE, FCS_STAT_LOADS]⟩,
  ⟨0x48, [FCS_SHAPE_FIN, FCS_SHAPE_FH, FCS_SHAPE_FO]⟩,
  ⟨0x4c, [FCS_PAIRC_PAIR]⟩,
  ⟨0x50, [FCS_PAIRW_PAIR]⟩,
  ⟨0x54, [FCS_TRUST_ALPHA, FCS_TRUST_TR_N, FCS_TRUST_HOLD, FCS_TRUST_THR]⟩,
  ⟨0x58, [FCS_DSEL_DIST]⟩,
  ⟨0x5c, [FCS_DSTAT_TR, FCS_DSTAT_OFF, FCS_DSTAT_ATTV, FCS_DSTAT_GAIN, FCS_DSTAT_CNT, FCS_DSTAT_REDUCTIONS]⟩,
  ⟨0x60, [FCS_ERR_RERR, FCS_ERR_LASTE]⟩,
  ⟨0x64, [FCS_PRED_PRED, FCS_PRED_IMEAS]⟩,
  ⟨0x68, [FCS_DCFG_TMASK, FCS_DCFG_NKIND]⟩,
  ⟨0x6c, [FCS_SCALE_VALID, FCS_SCALE_SCALE]⟩,
  ⟨0x70, [FCS_QSEL_QUEUE]⟩,
  ⟨0x74, [FCS_ATT_EQ]⟩,
  ⟨0x78, [FCS_EPOCH_EPOCH]⟩,
  ⟨0x7c, [FCS_BASEE_E]⟩,
  ⟨0x80, [FCS_EMEAS_E]⟩]


/-! ### GQ page (R460) -/

def GQ_FLT_LEDGER : Fld := ⟨.one, 0x10014, 0x0, 6, 1, .w1c, none, false, .setting⟩
def GQ_FLT_REVOKE : Fld := ⟨.one, 0x10014, 0x0, 5, 1, .w1c, none, false, .setting⟩
def GQ_FLT_BARMIS : Fld := ⟨.one, 0x10014, 0x0, 4, 1, .w1c, none, false, .setting⟩
def GQ_FLT_BARTMO : Fld := ⟨.one, 0x10014, 0x0, 3, 1, .w1c, none, false, .setting⟩
def GQ_FLT_FMT : Fld := ⟨.one, 0x10014, 0x0, 2, 1, .w1c, none, false, .setting⟩
def GQ_FLT_NOCRED : Fld := ⟨.one, 0x10014, 0x0, 1, 1, .w1c, none, false, .setting⟩
def GQ_FLT_CFGSAT : Fld := ⟨.one, 0x10014, 0x0, 0, 1, .w1c, none, false, .setting⟩
def GQ_CTL_CNT_CLR : Fld := ⟨.one, 0x10040, 0x1, 31, 1, .wo, none, false, .setting⟩
def GQ_CTL_ADM_EN : Fld := ⟨.one, 0x10040, 0x1, 0, 1, .rwp, none, false, .setting⟩
def GQ_SUN_BAR : Fld := ⟨.one, 0x10044, 0x282080, 16, 9, .rwp, some (0, 160), false, .setting⟩
def GQ_SUN_RAMP : Fld := ⟨.one, 0x10044, 0x282080, 8, 8, .rwp, some (1, 255), false, .setting⟩
def GQ_SUN_TMO : Fld := ⟨.one, 0x10044, 0x282080, 0, 8, .rwp, some (1, 156), false, .setting⟩
def GQ_QSEL_QUEUE : Fld := ⟨.one, 0x10048, 0x0, 0, 14, .rw, none, false, .setting⟩
def GQ_QCTL_FLUSH : Fld := ⟨.bank, 0x1004c, 0x0, 31, 1, .wo, none, false, .setting⟩
def GQ_QCTL_GAL : Fld := ⟨.bank, 0x1004c, 0x0, 0, 3, .rwp, none, false, .setting⟩
def GQ_QSTAT_PEND : Fld := ⟨.bank, 0x10050, 0x800000, 28, 4, .ro, none, false, .setting⟩
def GQ_QSTAT_INFL : Fld := ⟨.bank, 0x10050, 0x800000, 24, 4, .ro, none, false, .setting⟩
def GQ_QSTAT_CRED : Fld := ⟨.bank, 0x10050, 0x800000, 20, 4, .ro, none, false, .setting⟩
def GQ_QSTAT_NEXTSEQ : Fld := ⟨.bank, 0x10050, 0x800000, 8, 8, .ro, none, false, .setting⟩
def GQ_QSTAT_HOLDB : Fld := ⟨.bank, 0x10050, 0x800000, 0, 1, .ro, none, false, .setting⟩
def GQ_QCNT0_GRANTED : Fld := ⟨.bank, 0x10054, 0x0, 16, 16, .ro, none, false, .setting⟩
def GQ_QCNT0_REFUSED : Fld := ⟨.bank, 0x10054, 0x0, 0, 16, .ro, none, false, .setting⟩
def GQ_QCNT1_EXPIRED : Fld := ⟨.bank, 0x10058, 0x0, 16, 16, .ro, none, false, .setting⟩
def GQ_QCNT1_REVOKED : Fld := ⟨.bank, 0x10058, 0x0, 0, 16, .ro, none, false, .setting⟩
def GQ_DSEL_DIST : Fld := ⟨.one, 0x1005c, 0x0, 0, 6, .rw, none, false, .setting⟩
def GQ_BOOK_CAP : Fld := ⟨.one, 0x10060, 0x0, 16, 12, .ro, none, false, .setting⟩
def GQ_BOOK_RSV : Fld := ⟨.one, 0x10060, 0x0, 0, 12, .ro, none, false, .setting⟩
def GQ_COM_PEAK : Fld := ⟨.one, 0x10064, 0x0, 16, 16, .ro, none, false, .setting⟩
def GQ_COM_NOW : Fld := ⟨.one, 0x10064, 0x0, 0, 16, .ro, none, false, .setting⟩
def GQ_FREE_MIN : Fld := ⟨.one, 0x10068, 0x0, 16, 16, .ro, none, true, .setting⟩
def GQ_FREE_NOW : Fld := ⟨.one, 0x10068, 0x0, 0, 16, .ro, none, true, .setting⟩
def GQ_BASE_ALLOW : Fld := ⟨.one, 0x1006c, 0x0, 16, 9, .ro, none, false, .setting⟩
def GQ_BASE_BASE : Fld := ⟨.one, 0x1006c, 0x0, 0, 13, .ro, none, false, .setting⟩
def GQ_DSTAT_IMB : Fld := ⟨.one, 0x10070, 0x0, 31, 1, .ro, none, false, .setting⟩
def GQ_DSTAT_NGRANT : Fld := ⟨.one, 0x10070, 0x0, 16, 11, .ro, none, false, .setting⟩
def GQ_DSTAT_NPEND : Fld := ⟨.one, 0x10070, 0x0, 0, 12, .ro, none, false, .setting⟩
def GQ_BSEL_BID : Fld := ⟨.one, 0x10074, 0x0, 0, 6, .rw, none, false, .setting⟩
def GQ_BSTAT_STATE : Fld := ⟨.one, 0x10078, 0x0, 30, 2, .ro, none, false, .setting⟩
def GQ_BSTAT_ARRIVED : Fld := ⟨.one, 0x10078, 0x0, 15, 15, .ro, none, false, .setting⟩
def GQ_BSTAT_BCNT : Fld := ⟨.one, 0x10078, 0x0, 0, 15, .ro, none, false, .setting⟩
def GQ_BOPEN0_OPEN : Fld := ⟨.one, 0x1007c, 0x0, 0, 32, .ro, none, false, .setting⟩
def GQ_BOPEN1_OPEN : Fld := ⟨.one, 0x10080, 0x0, 0, 32, .ro, none, false, .setting⟩
def GQ_LAT_MAX : Fld := ⟨.one, 0x10084, 0x0, 8, 8, .ro, none, false, .setting⟩
def GQ_LAT_LAST : Fld := ⟨.one, 0x10084, 0x0, 0, 8, .ro, none, false, .setting⟩
/-- The registers of the GQ page by offset. -/
def gqRegs : List RegDef := [
  ⟨0x14, [GQ_FLT_LEDGER, GQ_FLT_REVOKE, GQ_FLT_BARMIS, GQ_FLT_BARTMO, GQ_FLT_FMT, GQ_FLT_NOCRED, GQ_FLT_CFGSAT]⟩,
  ⟨0x40, [GQ_CTL_CNT_CLR, GQ_CTL_ADM_EN]⟩,
  ⟨0x44, [GQ_SUN_BAR, GQ_SUN_RAMP, GQ_SUN_TMO]⟩,
  ⟨0x48, [GQ_QSEL_QUEUE]⟩,
  ⟨0x4c, [GQ_QCTL_FLUSH, GQ_QCTL_GAL]⟩,
  ⟨0x50, [GQ_QSTAT_PEND, GQ_QSTAT_INFL, GQ_QSTAT_CRED, GQ_QSTAT_NEXTSEQ, GQ_QSTAT_HOLDB]⟩,
  ⟨0x54, [GQ_QCNT0_GRANTED, GQ_QCNT0_REFUSED]⟩,
  ⟨0x58, [GQ_QCNT1_EXPIRED, GQ_QCNT1_REVOKED]⟩,
  ⟨0x5c, [GQ_DSEL_DIST]⟩,
  ⟨0x60, [GQ_BOOK_CAP, GQ_BOOK_RSV]⟩,
  ⟨0x64, [GQ_COM_PEAK, GQ_COM_NOW]⟩,
  ⟨0x68, [GQ_FREE_MIN, GQ_FREE_NOW]⟩,
  ⟨0x6c, [GQ_BASE_ALLOW, GQ_BASE_BASE]⟩,
  ⟨0x70, [GQ_DSTAT_IMB, GQ_DSTAT_NGRANT, GQ_DSTAT_NPEND]⟩,
  ⟨0x74, [GQ_BSEL_BID]⟩,
  ⟨0x78, [GQ_BSTAT_STATE, GQ_BSTAT_ARRIVED, GQ_BSTAT_BCNT]⟩,
  ⟨0x7c, [GQ_BOPEN0_OPEN]⟩,
  ⟨0x80, [GQ_BOPEN1_OPEN]⟩,
  ⟨0x84, [GQ_LAT_MAX, GQ_LAT_LAST]⟩]


/-! ### ADC page (R460) -/

def ADC_FLT_REFBAD : Fld := ⟨.one, 0x11014, 0x0, 5, 1, .w1c, none, false, .setting⟩
def ADC_FLT_CALFAIL : Fld := ⟨.one, 0x11014, 0x0, 4, 1, .w1c, none, false, .setting⟩
def ADC_FLT_INJMRG : Fld := ⟨.one, 0x11014, 0x0, 3, 1, .w1c, none, false, .setting⟩
def ADC_FLT_OVRUN : Fld := ⟨.one, 0x11014, 0x0, 2, 1, .w1c, none, false, .setting⟩
def ADC_FLT_RTWD : Fld := ⟨.one, 0x11014, 0x0, 1, 1, .w1c, none, false, .setting⟩
def ADC_FLT_CFGSAT : Fld := ⟨.one, 0x11014, 0x0, 0, 1, .w1c, none, false, .setting⟩
def ADC_CTL_START : Fld := ⟨.one, 0x11040, 0x5, 31, 1, .wo, none, false, .setting⟩
def ADC_CTL_INJ_START : Fld := ⟨.one, 0x11040, 0x5, 30, 1, .wo, none, false, .setting⟩
def ADC_CTL_ALERT_EN : Fld := ⟨.one, 0x11040, 0x5, 2, 1, .rwp, none, false, .setting⟩
def ADC_CTL_ALIGN : Fld := ⟨.one, 0x11040, 0x5, 1, 1, .rwp, none, false, .setting⟩
def ADC_CTL_RT_EN : Fld := ⟨.one, 0x11040, 0x5, 0, 1, .rwp, none, false, .setting⟩
def ADC_STAT_BUSY : Fld := ⟨.one, 0x11044, 0x4000000, 31, 1, .ro, none, false, .setting⟩
def ADC_STAT_INJ_BUSY : Fld := ⟨.one, 0x11044, 0x4000000, 30, 1, .ro, none, false, .setting⟩
def ADC_STAT_INJ_PEND : Fld := ⟨.one, 0x11044, 0x4000000, 29, 1, .ro, none, false, .setting⟩
def ADC_STAT_INJ_DONE : Fld := ⟨.one, 0x11044, 0x4000000, 28, 1, .w1c, none, false, .setting⟩
def ADC_STAT_OUT : Fld := ⟨.one, 0x11044, 0x4000000, 24, 3, .ro, none, false, .setting⟩
def ADC_STAT_BAD : Fld := ⟨.one, 0x11044, 0x4000000, 16, 5, .ro, none, false, .setting⟩
def ADC_STAT_ROUND : Fld := ⟨.one, 0x11044, 0x4000000, 0, 16, .ro, none, false, .setting⟩
def ADC_AUXEN_EN : Fld := ⟨.one, 0x11048, 0x0, 0, 32, .rwp, none, false, .setting⟩
def ADC_DIFF_PAIR : Fld := ⟨.one, 0x1104c, 0x0, 0, 16, .rwp, none, false, .setting⟩
def ADC_INJCFG_LEN : Fld := ⟨.one, 0x11050, 0x0, 0, 4, .rwp, some (0, 8), false, .setting⟩
def ADC_INJSEQ0_CH1 : Fld := ⟨.one, 0x11054, 0x0, 16, 9, .rwp, none, false, .setting⟩
def ADC_INJSEQ0_CH0 : Fld := ⟨.one, 0x11054, 0x0, 0, 9, .rwp, none, false, .setting⟩
def ADC_INJSEQ1_CH1 : Fld := ⟨.one, 0x11058, 0x0, 16, 9, .rwp, none, false, .setting⟩
def ADC_INJSEQ1_CH0 : Fld := ⟨.one, 0x11058, 0x0, 0, 9, .rwp, none, false, .setting⟩
def ADC_INJSEQ2_CH1 : Fld := ⟨.one, 0x1105c, 0x0, 16, 9, .rwp, none, false, .setting⟩
def ADC_INJSEQ2_CH0 : Fld := ⟨.one, 0x1105c, 0x0, 0, 9, .rwp, none, false, .setting⟩
def ADC_INJSEQ3_CH1 : Fld := ⟨.one, 0x11060, 0x0, 16, 9, .rwp, none, false, .setting⟩
def ADC_INJSEQ3_CH0 : Fld := ⟨.one, 0x11060, 0x0, 0, 9, .rwp, none, false, .setting⟩
def ADC_INJRES0_RES1 : Fld := ⟨.one, 0x11064, 0x0, 16, 16, .ro, none, false, .setting⟩
def ADC_INJRES0_RES0 : Fld := ⟨.one, 0x11064, 0x0, 0, 16, .ro, none, false, .setting⟩
def ADC_INJRES1_RES1 : Fld := ⟨.one, 0x11068, 0x0, 16, 16, .ro, none, false, .setting⟩
def ADC_INJRES1_RES0 : Fld := ⟨.one, 0x11068, 0x0, 0, 16, .ro, none, false, .setting⟩
def ADC_INJRES2_RES1 : Fld := ⟨.one, 0x1106c, 0x0, 16, 16, .ro, none, false, .setting⟩
def ADC_INJRES2_RES0 : Fld := ⟨.one, 0x1106c, 0x0, 0, 16, .ro, none, false, .setting⟩
def ADC_INJRES3_RES1 : Fld := ⟨.one, 0x11070, 0x0, 16, 16, .ro, none, false, .setting⟩
def ADC_INJRES3_RES0 : Fld := ⟨.one, 0x11070, 0x0, 0, 16, .ro, none, false, .setting⟩
def ADC_RSEL_CH : Fld := ⟨.one, 0x11074, 0x0, 0, 9, .rw, none, false, .setting⟩
def ADC_RES_ROUND : Fld := ⟨.bank, 0x11078, 0x0, 16, 16, .ro, none, false, .setting⟩
def ADC_RES_RES : Fld := ⟨.bank, 0x11078, 0x0, 0, 16, .ro, none, false, .setting⟩
def ADC_CAL_GAIN : Fld := ⟨.bank, 0x1107c, 0x80000000, 16, 16, .ro, none, false, .setting⟩
def ADC_CAL_SLICE : Fld := ⟨.one, 0x1107c, 0x80000000, 13, 3, .rw, some (0, 4), false, .setting⟩
def ADC_CAL_OFS : Fld := ⟨.bank, 0x1107c, 0x80000000, 0, 12, .ro, none, true, .setting⟩
/-- The registers of the ADC page by offset. -/
def adcRegs : List RegDef := [
  ⟨0x14, [ADC_FLT_REFBAD, ADC_FLT_CALFAIL, ADC_FLT_INJMRG, ADC_FLT_OVRUN, ADC_FLT_RTWD, ADC_FLT_CFGSAT]⟩,
  ⟨0x40, [ADC_CTL_START, ADC_CTL_INJ_START, ADC_CTL_ALERT_EN, ADC_CTL_ALIGN, ADC_CTL_RT_EN]⟩,
  ⟨0x44, [ADC_STAT_BUSY, ADC_STAT_INJ_BUSY, ADC_STAT_INJ_PEND, ADC_STAT_INJ_DONE, ADC_STAT_OUT, ADC_STAT_BAD, ADC_STAT_ROUND]⟩,
  ⟨0x48, [ADC_AUXEN_EN]⟩,
  ⟨0x4c, [ADC_DIFF_PAIR]⟩,
  ⟨0x50, [ADC_INJCFG_LEN]⟩,
  ⟨0x54, [ADC_INJSEQ0_CH1, ADC_INJSEQ0_CH0]⟩,
  ⟨0x58, [ADC_INJSEQ1_CH1, ADC_INJSEQ1_CH0]⟩,
  ⟨0x5c, [ADC_INJSEQ2_CH1, ADC_INJSEQ2_CH0]⟩,
  ⟨0x60, [ADC_INJSEQ3_CH1, ADC_INJSEQ3_CH0]⟩,
  ⟨0x64, [ADC_INJRES0_RES1, ADC_INJRES0_RES0]⟩,
  ⟨0x68, [ADC_INJRES1_RES1, ADC_INJRES1_RES0]⟩,
  ⟨0x6c, [ADC_INJRES2_RES1, ADC_INJRES2_RES0]⟩,
  ⟨0x70, [ADC_INJRES3_RES1, ADC_INJRES3_RES0]⟩,
  ⟨0x74, [ADC_RSEL_CH]⟩,
  ⟨0x78, [ADC_RES_ROUND, ADC_RES_RES]⟩,
  ⟨0x7c, [ADC_CAL_GAIN, ADC_CAL_SLICE, ADC_CAL_OFS]⟩]


/-! ### THM page (R460) -/

def THM_FLT_LATCH : Fld := ⟨.one, 0x12014, 0x0, 6, 1, .w1c, none, false, .setting⟩
def THM_FLT_TRIP : Fld := ⟨.one, 0x12014, 0x0, 5, 1, .w1c, none, false, .setting⟩
def THM_FLT_THROT : Fld := ⟨.one, 0x12014, 0x0, 4, 1, .w1c, none, false, .setting⟩
def THM_FLT_WARN : Fld := ⟨.one, 0x12014, 0x0, 3, 1, .w1c, none, false, .setting⟩
def THM_FLT_COMPHOLD : Fld := ⟨.one, 0x12014, 0x0, 2, 1, .w1c, none, false, .setting⟩
def THM_FLT_BROKEN : Fld := ⟨.one, 0x12014, 0x0, 1, 1, .w1c, none, false, .setting⟩
def THM_FLT_CFGSAT : Fld := ⟨.one, 0x12014, 0x0, 0, 1, .w1c, none, false, .setting⟩
def THM_LIM0_THROT : Fld := ⟨.one, 0x12040, 0x69005f0, 16, 12, .rwp, some (800, 1920), false, .setting⟩
def THM_LIM0_WARN : Fld := ⟨.one, 0x12040, 0x69005f0, 0, 12, .rwp, some (800, 1920), false, .setting⟩
def THM_LIM1_RESTART : Fld := ⟨.one, 0x12044, 0x6400780, 16, 12, .rwp, some (800, 1920), false, .setting⟩
def THM_LIM1_SHUT : Fld := ⟨.one, 0x12044, 0x6400780, 0, 12, .rwp, some (1440, 1920), false, .setting⟩
def THM_HYS_THYS : Fld := ⟨.one, 0x12048, 0x5030, 8, 8, .rwp, some (16, 160), false, .setting⟩
def THM_HYS_WHYS : Fld := ⟨.one, 0x12048, 0x5030, 0, 8, .rwp, some (16, 160), false, .setting⟩
def THM_THR_TREL : Fld := ⟨.one, 0x1204c, 0x40007d, 16, 12, .rwp, some (1, 4095), false, .setting⟩
def THM_THR_TSTEP : Fld := ⟨.one, 0x1204c, 0x40007d, 0, 12, .rwp, some (1, 4095), false, .setting⟩
def THM_SEL_IDX : Fld := ⟨.one, 0x12050, 0x0, 0, 8, .rw, none, false, .setting⟩
def THM_RD_BROKEN : Fld := ⟨.bank, 0x12054, 0x0, 31, 1, .ro, none, false, .setting⟩
def THM_RD_RET : Fld := ⟨.bank, 0x12054, 0x0, 30, 1, .ro, none, false, .setting⟩
def THM_RD_RES : Fld := ⟨.bank, 0x12054, 0x0, 16, 12, .ro, none, true, .setting⟩
def THM_RD_TEMP : Fld := ⟨.bank, 0x12054, 0x0, 0, 12, .ro, none, true, .setting⟩
def THM_RET0_RET : Fld := ⟨.one, 0x12058, 0x0, 0, 32, .rwp, none, false, .setting⟩
def THM_RET1_RET : Fld := ⟨.one, 0x1205c, 0x0, 0, 32, .rwp, none, false, .setting⟩
def THM_RET2_RET : Fld := ⟨.one, 0x12060, 0x0, 0, 32, .rwp, none, false, .setting⟩
def THM_RET3_RET : Fld := ⟨.one, 0x12064, 0x0, 0, 32, .rwp, none, false, .setting⟩
def THM_RET4_RET : Fld := ⟨.one, 0x12068, 0x0, 0, 32, .rwp, none, false, .setting⟩
def THM_RET5_RET : Fld := ⟨.one, 0x1206c, 0x0, 0, 32, .rwp, none, false, .setting⟩
def THM_RET6_RET : Fld := ⟨.one, 0x12070, 0x0, 0, 32, .rwp, none, false, .setting⟩
def THM_RET7_RET : Fld := ⟨.one, 0x12074, 0x0, 0, 32, .rwp, none, false, .setting⟩
def THM_DSEL_DIST : Fld := ⟨.one, 0x12078, 0x0, 0, 6, .rw, none, false, .setting⟩
def THM_DLVL_LEVEL : Fld := ⟨.bank, 0x1207c, 0x0, 30, 2, .ro, none, false, .setting⟩
def THM_DLVL_DIE : Fld := ⟨.bank, 0x1207c, 0x0, 29, 1, .ro, none, false, .setting⟩
def THM_DLVL_TMAX : Fld := ⟨.bank, 0x1207c, 0x0, 16, 12, .ro, none, false, .setting⟩
def THM_DLVL_TH : Fld := ⟨.bank, 0x1207c, 0x0, 0, 12, .ro, none, false, .setting⟩
def THM_STAT_STATE : Fld := ⟨.one, 0x12080, 0x0, 30, 2, .ro, none, false, .setting⟩
def THM_STAT_TRIPS : Fld := ⟨.one, 0x12080, 0x0, 28, 2, .ro, none, false, .setting⟩
def THM_STAT_COOLMS : Fld := ⟨.one, 0x12080, 0x0, 16, 8, .ro, none, false, .setting⟩
def THM_STAT_DMAX : Fld := ⟨.one, 0x12080, 0x0, 0, 12, .ro, none, false, .setting⟩
def THM_TRIP0_SEC : Fld := ⟨.one, 0x12084, 0x0, 0, 32, .ro, none, false, .setting⟩
def THM_TRIP1_SEC : Fld := ⟨.one, 0x12088, 0x0, 0, 32, .ro, none, false, .setting⟩
def THM_TRIP2_SEC : Fld := ⟨.one, 0x1208c, 0x0, 0, 32, .ro, none, false, .setting⟩
def THM_COMP_FIO_NBR : Fld := ⟨.one, 0x12090, 0x0, 24, 8, .ro, none, false, .setting⟩
def THM_COMP_BG_NBR : Fld := ⟨.one, 0x12090, 0x0, 16, 8, .ro, none, false, .setting⟩
def THM_COMP_FIOTRIM : Fld := ⟨.one, 0x12090, 0x0, 8, 8, .ro, none, true, .setting⟩
def THM_COMP_BGTRIM : Fld := ⟨.one, 0x12090, 0x0, 0, 8, .ro, none, true, .setting⟩
/-- The registers of the THM page by offset. -/
def thmRegs : List RegDef := [
  ⟨0x14, [THM_FLT_LATCH, THM_FLT_TRIP, THM_FLT_THROT, THM_FLT_WARN, THM_FLT_COMPHOLD, THM_FLT_BROKEN, THM_FLT_CFGSAT]⟩,
  ⟨0x40, [THM_LIM0_THROT, THM_LIM0_WARN]⟩,
  ⟨0x44, [THM_LIM1_RESTART, THM_LIM1_SHUT]⟩,
  ⟨0x48, [THM_HYS_THYS, THM_HYS_WHYS]⟩,
  ⟨0x4c, [THM_THR_TREL, THM_THR_TSTEP]⟩,
  ⟨0x50, [THM_SEL_IDX]⟩,
  ⟨0x54, [THM_RD_BROKEN, THM_RD_RET, THM_RD_RES, THM_RD_TEMP]⟩,
  ⟨0x58, [THM_RET0_RET]⟩,
  ⟨0x5c, [THM_RET1_RET]⟩,
  ⟨0x60, [THM_RET2_RET]⟩,
  ⟨0x64, [THM_RET3_RET]⟩,
  ⟨0x68, [THM_RET4_RET]⟩,
  ⟨0x6c, [THM_RET5_RET]⟩,
  ⟨0x70, [THM_RET6_RET]⟩,
  ⟨0x74, [THM_RET7_RET]⟩,
  ⟨0x78, [THM_DSEL_DIST]⟩,
  ⟨0x7c, [THM_DLVL_LEVEL, THM_DLVL_DIE, THM_DLVL_TMAX, THM_DLVL_TH]⟩,
  ⟨0x80, [THM_STAT_STATE, THM_STAT_TRIPS, THM_STAT_COOLMS, THM_STAT_DMAX]⟩,
  ⟨0x84, [THM_TRIP0_SEC]⟩,
  ⟨0x88, [THM_TRIP1_SEC]⟩,
  ⟨0x8c, [THM_TRIP2_SEC]⟩,
  ⟨0x90, [THM_COMP_FIO_NBR, THM_COMP_BG_NBR, THM_COMP_FIOTRIM, THM_COMP_BGTRIM]⟩]


/-! ### AGE page (R460) -/

def AGE_FLT_FLWR : Fld := ⟨.one, 0x13014, 0x0, 4, 1, .w1c, none, false, .setting⟩
def AGE_FLT_NOREC : Fld := ⟨.one, 0x13014, 0x0, 3, 1, .w1c, none, false, .setting⟩
def AGE_FLT_AGESAT : Fld := ⟨.one, 0x13014, 0x0, 2, 1, .w1c, none, false, .setting⟩
def AGE_FLT_MONBAD : Fld := ⟨.one, 0x13014, 0x0, 1, 1, .w1c, none, false, .setting⟩
def AGE_FLT_CFGSAT : Fld := ⟨.one, 0x13014, 0x0, 0, 1, .w1c, none, false, .setting⟩
def AGE_CTL_READ_NOW : Fld := ⟨.one, 0x13040, 0x10404, 31, 1, .wo, none, false, .setting⟩
def AGE_CTL_EN : Fld := ⟨.one, 0x13040, 0x10404, 16, 1, .rwp, none, false, .setting⟩
def AGE_CTL_STEP_MAX : Fld := ⟨.one, 0x13040, 0x10404, 8, 8, .rwp, some (1, 40), false, .setting⟩
def AGE_CTL_PER_TAP : Fld := ⟨.one, 0x13040, 0x10404, 0, 8, .rwp, some (1, 40), false, .setting⟩
def AGE_LAST_SEC : Fld := ⟨.one, 0x13044, 0x0, 0, 32, .ro, none, false, .setting⟩
def AGE_CNT_READS : Fld := ⟨.one, 0x13048, 0x0, 16, 16, .ro, none, false, .setting⟩
def AGE_CNT_WRITES : Fld := ⟨.one, 0x13048, 0x0, 0, 16, .ro, none, false, .setting⟩
def AGE_SEL_DIST : Fld := ⟨.one, 0x1304c, 0x0, 8, 6, .rw, none, false, .setting⟩
def AGE_SEL_MON : Fld := ⟨.one, 0x1304c, 0x0, 0, 8, .rw, none, false, .setting⟩
def AGE_MON_BAD : Fld := ⟨.bank, 0x13050, 0x0, 31, 1, .ro, none, false, .setting⟩
def AGE_MON_CODE : Fld := ⟨.bank, 0x13050, 0x0, 16, 8, .ro, none, false, .setting⟩
def AGE_MON_OFS : Fld := ⟨.bank, 0x13050, 0x0, 8, 8, .ro, none, false, .setting⟩
def AGE_MON_DEG : Fld := ⟨.bank, 0x13050, 0x0, 0, 8, .ro, none, false, .setting⟩
def AGE_DIST_TARGET : Fld := ⟨.bank, 0x13054, 0x0, 16, 9, .ro, none, false, .setting⟩
def AGE_DIST_AGE : Fld := ⟨.bank, 0x13054, 0x0, 0, 9, .ro, none, false, .setting⟩
/-- The registers of the AGE page by offset. -/
def ageRegs : List RegDef := [
  ⟨0x14, [AGE_FLT_FLWR, AGE_FLT_NOREC, AGE_FLT_AGESAT, AGE_FLT_MONBAD, AGE_FLT_CFGSAT]⟩,
  ⟨0x40, [AGE_CTL_READ_NOW, AGE_CTL_EN, AGE_CTL_STEP_MAX, AGE_CTL_PER_TAP]⟩,
  ⟨0x44, [AGE_LAST_SEC]⟩,
  ⟨0x48, [AGE_CNT_READS, AGE_CNT_WRITES]⟩,
  ⟨0x4c, [AGE_SEL_DIST, AGE_SEL_MON]⟩,
  ⟨0x50, [AGE_MON_BAD, AGE_MON_CODE, AGE_MON_OFS, AGE_MON_DEG]⟩,
  ⟨0x54, [AGE_DIST_TARGET, AGE_DIST_AGE]⟩]


/-! ### LNK page (R460) -/

def LNK_FLT_ALERT : Fld := ⟨.one, 0x14014, 0x0, 24, 4, .w1c, none, false, .setting⟩
def LNK_FLT_DEPART : Fld := ⟨.one, 0x14014, 0x0, 20, 4, .w1c, none, false, .setting⟩
def LNK_FLT_DOWN : Fld := ⟨.one, 0x14014, 0x0, 16, 4, .w1c, none, false, .setting⟩
def LNK_FLT_CAPSLOW : Fld := ⟨.one, 0x14014, 0x0, 8, 4, .w1c, none, false, .setting⟩
def LNK_FLT_TELSTALE : Fld := ⟨.one, 0x14014, 0x0, 4, 4, .w1c, none, false, .setting⟩
def LNK_FLT_CFGSAT : Fld := ⟨.one, 0x14014, 0x0, 0, 1, .w1c, none, false, .setting⟩
def LNK_CTL_PORT_EN : Fld := ⟨.one, 0x14040, 0xf0010a32, 28, 4, .rwp, none, false, .setting⟩
def LNK_CTL_TRIM_EN : Fld := ⟨.one, 0x14040, 0xf0010a32, 16, 1, .rwp, none, false, .setting⟩
def LNK_CTL_KA : Fld := ⟨.one, 0x14040, 0xf0010a32, 8, 8, .rwp, some (1, 255), false, .setting⟩
def LNK_CTL_TMO : Fld := ⟨.one, 0x14040, 0xf0010a32, 0, 8, .rwp, some (20, 255), false, .setting⟩
def LNK_VSET_TMAX : Fld := ⟨.one, 0x14044, 0x501c20, 16, 16, .rwp, some (0, 200), false, .setting⟩
def LNK_VSET_VSET : Fld := ⟨.one, 0x14044, 0x501c20, 0, 16, .rwp, some (6800, 7600), false, .setting⟩
def LNK_PSEL_PORT : Fld := ⟨.one, 0x14048, 0x0, 0, 2, .rw, none, false, .setting⟩
def LNK_PSTAT_STATE : Fld := ⟨.bank, 0x1404c, 0x0, 29, 3, .ro, none, false, .setting⟩
def LNK_PSTAT_PRSNT : Fld := ⟨.bank, 0x1404c, 0x0, 28, 1, .ro, none, false, .setting⟩
def LNK_PSTAT_DOWNR : Fld := ⟨.bank, 0x1404c, 0x0, 24, 4, .ro, none, false, .setting⟩
def LNK_PSTAT_PMIN : Fld := ⟨.bank, 0x1404c, 0x0, 16, 8, .ro, none, false, .setting⟩
def LNK_PSTAT_PMAJ : Fld := ⟨.bank, 0x1404c, 0x0, 8, 8, .ro, none, false, .setting⟩
def LNK_PSTAT_CFLAGS : Fld := ⟨.bank, 0x1404c, 0x0, 5, 2, .ro, none, false, .setting⟩
def LNK_PSTAT_UNACK : Fld := ⟨.bank, 0x1404c, 0x0, 0, 5, .ro, none, false, .setting⟩
def LNK_CAPS0_DIDT : Fld := ⟨.bank, 0x14050, 0x0, 16, 16, .ro, none, false, .setting⟩
def LNK_CAPS0_ILIM : Fld := ⟨.bank, 0x14050, 0x0, 0, 16, .ro, none, false, .setting⟩
def LNK_CAPS1_VMAX : Fld := ⟨.bank, 0x14054, 0x0, 16, 16, .ro, none, false, .setting⟩
def LNK_CAPS1_VMIN : Fld := ⟨.bank, 0x14054, 0x0, 0, 16, .ro, none, false, .setting⟩
def LNK_TEL0_IOUT : Fld := ⟨.bank, 0x14058, 0x0, 16, 16, .ro, none, false, .setting⟩
def LNK_TEL0_VOUT : Fld := ⟨.bank, 0x14058, 0x0, 0, 16, .ro, none, false, .setting⟩
def LNK_TEL1_STAT : Fld := ⟨.bank, 0x1405c, 0x0, 16, 16, .ro, none, false, .setting⟩
def LNK_TEL1_VIN : Fld := ⟨.bank, 0x1405c, 0x0, 0, 16, .ro, none, false, .setting⟩
def LNK_TEL2_IIN : Fld := ⟨.bank, 0x14060, 0x0, 16, 16, .ro, none, false, .setting⟩
def LNK_TEL2_TMOD : Fld := ⟨.bank, 0x14060, 0x0, 0, 16, .ro, none, false, .setting⟩
def LNK_ALERT_TIME : Fld := ⟨.bank, 0x14064, 0x0, 16, 16, .ro, none, false, .setting⟩
def LNK_ALERT_SEV : Fld := ⟨.bank, 0x14064, 0x0, 8, 8, .ro, none, false, .setting⟩
def LNK_ALERT_CODE : Fld := ⟨.bank, 0x14064, 0x0, 0, 8, .ro, none, false, .setting⟩
def LNK_SP_FCAST : Fld := ⟨.bank, 0x14068, 0x0, 16, 16, .ro, none, false, .setting⟩
def LNK_SP_VSETS : Fld := ⟨.bank, 0x14068, 0x0, 0, 16, .ro, none, false, .setting⟩
def LNK_TRIM_VNEAR : Fld := ⟨.bank, 0x1406c, 0x0, 16, 16, .ro, none, false, .setting⟩
def LNK_TRIM_DV : Fld := ⟨.bank, 0x1406c, 0x0, 0, 16, .ro, none, true, .setting⟩
def LNK_CNT0_CRCERR : Fld := ⟨.bank, 0x14070, 0x0, 16, 16, .ro, none, false, .setting⟩
def LNK_CNT0_RTX : Fld := ⟨.bank, 0x14070, 0x0, 0, 16, .ro, none, false, .setting⟩
def LNK_CNT1_DOWNS : Fld := ⟨.bank, 0x14074, 0x0, 16, 16, .ro, none, false, .setting⟩
def LNK_CNT1_IGN : Fld := ⟨.bank, 0x14074, 0x0, 0, 16, .ro, none, false, .setting⟩
def LNK_ID_ID : Fld := ⟨.bank, 0x14078, 0x0, 0, 32, .ro, none, false, .setting⟩
/-- The registers of the LNK page by offset. -/
def lnkRegs : List RegDef := [
  ⟨0x14, [LNK_FLT_ALERT, LNK_FLT_DEPART, LNK_FLT_DOWN, LNK_FLT_CAPSLOW, LNK_FLT_TELSTALE, LNK_FLT_CFGSAT]⟩,
  ⟨0x40, [LNK_CTL_PORT_EN, LNK_CTL_TRIM_EN, LNK_CTL_KA, LNK_CTL_TMO]⟩,
  ⟨0x44, [LNK_VSET_TMAX, LNK_VSET_VSET]⟩,
  ⟨0x48, [LNK_PSEL_PORT]⟩,
  ⟨0x4c, [LNK_PSTAT_STATE, LNK_PSTAT_PRSNT, LNK_PSTAT_DOWNR, LNK_PSTAT_PMIN, LNK_PSTAT_PMAJ, LNK_PSTAT_CFLAGS, LNK_PSTAT_UNACK]⟩,
  ⟨0x50, [LNK_CAPS0_DIDT, LNK_CAPS0_ILIM]⟩,
  ⟨0x54, [LNK_CAPS1_VMAX, LNK_CAPS1_VMIN]⟩,
  ⟨0x58, [LNK_TEL0_IOUT, LNK_TEL0_VOUT]⟩,
  ⟨0x5c, [LNK_TEL1_STAT, LNK_TEL1_VIN]⟩,
  ⟨0x60, [LNK_TEL2_IIN, LNK_TEL2_TMOD]⟩,
  ⟨0x64, [LNK_ALERT_TIME, LNK_ALERT_SEV, LNK_ALERT_CODE]⟩,
  ⟨0x68, [LNK_SP_FCAST, LNK_SP_VSETS]⟩,
  ⟨0x6c, [LNK_TRIM_VNEAR, LNK_TRIM_DV]⟩,
  ⟨0x70, [LNK_CNT0_CRCERR, LNK_CNT0_RTX]⟩,
  ⟨0x74, [LNK_CNT1_DOWNS, LNK_CNT1_IGN]⟩,
  ⟨0x78, [LNK_ID_ID]⟩]


/-! ### I3C page (R460) -/

def I3C_FLT_SHORT : Fld := ⟨.one, 0x15014, 0x0, 3, 1, .w1c, none, false, .setting⟩
def I3C_FLT_UNB : Fld := ⟨.one, 0x15014, 0x0, 2, 1, .w1c, none, false, .setting⟩
def I3C_FLT_CCCN : Fld := ⟨.one, 0x15014, 0x0, 1, 1, .w1c, none, false, .setting⟩
def I3C_FLT_CFGSAT : Fld := ⟨.one, 0x15014, 0x0, 0, 1, .w1c, none, false, .setting⟩
def I3C_CTL_BIND_EN : Fld := ⟨.one, 0x15040, 0x8000, 31, 1, .rwp, none, false, .setting⟩
def I3C_CTL_GAL : Fld := ⟨.one, 0x15040, 0x8000, 28, 3, .rwp, none, false, .setting⟩
def I3C_CTL_INST : Fld := ⟨.one, 0x15040, 0x8000, 16, 4, .rwp, none, false, .setting⟩
def I3C_CTL_HJ_EN : Fld := ⟨.one, 0x15040, 0x8000, 15, 1, .rwp, none, false, .setting⟩
def I3C_CTL_SADDR : Fld := ⟨.one, 0x15040, 0x8000, 0, 7, .ro, none, false, .setting⟩
def I3C_STAT_DAV : Fld := ⟨.one, 0x15044, 0xc00000, 31, 1, .ro, none, false, .setting⟩
def I3C_STAT_DA : Fld := ⟨.one, 0x15044, 0xc00000, 24, 7, .ro, none, false, .setting⟩
def I3C_STAT_ENINT : Fld := ⟨.one, 0x15044, 0xc00000, 23, 1, .ro, none, false, .setting⟩
def I3C_STAT_ENHJ : Fld := ⟨.one, 0x15044, 0xc00000, 22, 1, .ro, none, false, .setting⟩
def I3C_STAT_LEGACY : Fld := ⟨.one, 0x15044, 0xc00000, 21, 1, .ro, none, false, .setting⟩
def I3C_STAT_XFERS : Fld := ⟨.one, 0x15044, 0xc00000, 0, 16, .ro, none, false, .setting⟩
def I3C_PID0_PART : Fld := ⟨.one, 0x15048, 0x24000000, 16, 16, .ro, none, false, .setting⟩
def I3C_PID0_INST : Fld := ⟨.one, 0x15048, 0x24000000, 12, 4, .ro, none, false, .setting⟩
def I3C_PID0_REV : Fld := ⟨.one, 0x15048, 0x24000000, 0, 8, .ro, none, false, .setting⟩
def I3C_PID1_BCR : Fld := ⟨.one, 0x1504c, 0x6000000, 24, 8, .ro, none, false, .setting⟩
def I3C_PID1_DCR : Fld := ⟨.one, 0x1504c, 0x6000000, 16, 8, .ro, none, false, .setting⟩
def I3C_PID1_PIDH : Fld := ⟨.one, 0x1504c, 0x6000000, 0, 16, .ro, none, false, .setting⟩
/-- The registers of the I3C page by offset. -/
def i3cRegs : List RegDef := [
  ⟨0x14, [I3C_FLT_SHORT, I3C_FLT_UNB, I3C_FLT_CCCN, I3C_FLT_CFGSAT]⟩,
  ⟨0x40, [I3C_CTL_BIND_EN, I3C_CTL_GAL, I3C_CTL_INST, I3C_CTL_HJ_EN, I3C_CTL_SADDR]⟩,
  ⟨0x44, [I3C_STAT_DAV, I3C_STAT_DA, I3C_STAT_ENINT, I3C_STAT_ENHJ, I3C_STAT_LEGACY, I3C_STAT_XFERS]⟩,
  ⟨0x48, [I3C_PID0_PART, I3C_PID0_INST, I3C_PID0_REV]⟩,
  ⟨0x4c, [I3C_PID1_BCR, I3C_PID1_DCR, I3C_PID1_PIDH]⟩]


/-! ### HPT page (R460) -/

def HPT_FLT_ERRACC : Fld := ⟨.one, 0x16014, 0x0, 2, 1, .w1c, none, false, .setting⟩
def HPT_FLT_DENACC : Fld := ⟨.one, 0x16014, 0x0, 1, 1, .w1c, none, false, .setting⟩
def HPT_FLT_CFGSAT : Fld := ⟨.one, 0x16014, 0x0, 0, 1, .w1c, none, false, .setting⟩
def HPT_ELOG_VALID : Fld := ⟨.one, 0x16040, 0x0, 31, 1, .w1c, none, false, .setting⟩
def HPT_ELOG_CODE : Fld := ⟨.one, 0x16040, 0x0, 29, 2, .ro, none, false, .setting⟩
def HPT_ELOG_WR : Fld := ⟨.one, 0x16040, 0x0, 28, 1, .ro, none, false, .setting⟩
def HPT_ELOG_GAL : Fld := ⟨.one, 0x16040, 0x0, 25, 3, .ro, none, false, .setting⟩
def HPT_ELOG_ADDR : Fld := ⟨.one, 0x16040, 0x0, 0, 20, .ro, none, false, .setting⟩
def HPT_CNT_ERRORS : Fld := ⟨.one, 0x16044, 0x0, 16, 16, .ro, none, false, .setting⟩
def HPT_CNT_DENIALS : Fld := ⟨.one, 0x16044, 0x0, 0, 16, .ro, none, false, .setting⟩
/-- The registers of the HPT page by offset. -/
def hptRegs : List RegDef := [
  ⟨0x14, [HPT_FLT_ERRACC, HPT_FLT_DENACC, HPT_FLT_CFGSAT]⟩,
  ⟨0x40, [HPT_ELOG_VALID, HPT_ELOG_CODE, HPT_ELOG_WR, HPT_ELOG_GAL, HPT_ELOG_ADDR]⟩,
  ⟨0x44, [HPT_CNT_ERRORS, HPT_CNT_DENIALS]⟩]


/-! ### ANV page (R460) -/

def ANV_FLT_ANVFAIL : Fld := ⟨.one, 0x17014, 0x0, 1, 1, .w1c, none, false, .setting⟩
def ANV_FLT_CFGSAT : Fld := ⟨.one, 0x17014, 0x0, 0, 1, .w1c, none, false, .setting⟩
def ANV_CFG_CHG_TMO : Fld := ⟨.one, 0x17040, 0xc83250, 16, 8, .rwp, some (100, 255), false, .setting⟩
def ANV_CFG_FLOOR : Fld := ⟨.one, 0x17040, 0xc83250, 8, 8, .rwp, some (20, 100), false, .setting⟩
def ANV_CFG_SPAN : Fld := ⟨.one, 0x17040, 0xc83250, 0, 8, .rwp, some (16, 200), false, .setting⟩
def ANV_SEL_IDX : Fld := ⟨.one, 0x17044, 0x0, 0, 8, .rw, none, false, .setting⟩
def ANV_STAT_STATE : Fld := ⟨.bank, 0x17048, 0x0, 29, 3, .ro, none, false, .setting⟩
def ANV_STAT_LASTLEN : Fld := ⟨.bank, 0x17048, 0x0, 16, 8, .ro, none, false, .setting⟩
def ANV_STAT_VST : Fld := ⟨.bank, 0x17048, 0x0, 0, 16, .ro, none, false, .setting⟩
def ANV_CNT_RELEASES : Fld := ⟨.bank, 0x1704c, 0x0, 0, 32, .ro, none, false, .setting⟩
/-- The registers of the ANV page by offset. -/
def anvRegs : List RegDef := [
  ⟨0x14, [ANV_FLT_ANVFAIL, ANV_FLT_CFGSAT]⟩,
  ⟨0x40, [ANV_CFG_CHG_TMO, ANV_CFG_FLOOR, ANV_CFG_SPAN]⟩,
  ⟨0x44, [ANV_SEL_IDX]⟩,
  ⟨0x48, [ANV_STAT_STATE, ANV_STAT_LASTLEN, ANV_STAT_VST]⟩,
  ⟨0x4c, [ANV_CNT_RELEASES]⟩]


/-! ### GAL page (R460) -/

def GAL_FLT_BADTAIL : Fld := ⟨.page, 0x18014, 0x0, 4, 1, .w1c, none, false, .setting⟩
def GAL_FLT_CGAP : Fld := ⟨.page, 0x18014, 0x0, 3, 1, .w1c, none, false, .setting⟩
def GAL_FLT_TLOST : Fld := ⟨.page, 0x18014, 0x0, 2, 1, .w1c, none, false, .setting⟩
def GAL_FLT_FENCETMO : Fld := ⟨.page, 0x18014, 0x0, 1, 1, .w1c, none, false, .setting⟩
def GAL_FLT_CFGSAT : Fld := ⟨.page, 0x18014, 0x0, 0, 1, .w1c, none, false, .setting⟩
def GAL_ACC0_MASK : Fld := ⟨.page, 0x18040, 0x0, 0, 32, .rwp, none, false, .setting⟩
def GAL_ACC1_MASK : Fld := ⟨.page, 0x18044, 0x0, 0, 32, .rwp, none, false, .setting⟩
def GAL_ACC2_MASK : Fld := ⟨.page, 0x18048, 0x0, 0, 32, .rwp, none, false, .setting⟩
def GAL_ACC3_MASK : Fld := ⟨.page, 0x1804c, 0x0, 0, 32, .rwp, none, false, .setting⟩
def GAL_ACC4_MASK : Fld := ⟨.page, 0x18050, 0x0, 0, 32, .rwp, none, false, .setting⟩
def GAL_ACC5_MASK : Fld := ⟨.page, 0x18054, 0x0, 0, 32, .rwp, none, false, .setting⟩
def GAL_ACC6_MASK : Fld := ⟨.page, 0x18058, 0x0, 0, 32, .rwp, none, false, .setting⟩
def GAL_ACC7_MASK : Fld := ⟨.page, 0x1805c, 0x0, 0, 32, .rwp, none, false, .setting⟩
def GAL_PRV0_MASK : Fld := ⟨.page, 0x18060, 0x0, 0, 32, .rwp, none, false, .setting⟩
def GAL_PRV1_MASK : Fld := ⟨.page, 0x18064, 0x0, 0, 32, .rwp, none, false, .setting⟩
def GAL_PRV2_MASK : Fld := ⟨.page, 0x18068, 0x0, 0, 32, .rwp, none, false, .setting⟩
def GAL_PRV3_MASK : Fld := ⟨.page, 0x1806c, 0x0, 0, 32, .rwp, none, false, .setting⟩
def GAL_PRV4_MASK : Fld := ⟨.page, 0x18070, 0x0, 0, 32, .rwp, none, false, .setting⟩
def GAL_PRV5_MASK : Fld := ⟨.page, 0x18074, 0x0, 0, 32, .rwp, none, false, .setting⟩
def GAL_PRV6_MASK : Fld := ⟨.page, 0x18078, 0x0, 0, 32, .rwp, none, false, .setting⟩
def GAL_PRV7_MASK : Fld := ⟨.page, 0x1807c, 0x0, 0, 32, .rwp, none, false, .setting⟩
def GAL_FENCE_GO : Fld := ⟨.page, 0x18080, 0x0, 31, 1, .wo, none, false, .setting⟩
def GAL_ISTAT_IRQ : Fld := ⟨.page, 0x18084, 0x0, 0, 7, .w1c, none, false, .setting⟩
def GAL_IEN_IRQ : Fld := ⟨.page, 0x18088, 0x0, 0, 7, .rw, none, false, .setting⟩
def GAL_TBASE0_BASE : Fld := ⟨.page, 0x1808c, 0x4, 12, 20, .rwp, none, false, .setting⟩
def GAL_TBASE0_EN : Fld := ⟨.page, 0x1808c, 0x4, 4, 1, .rwp, none, false, .setting⟩
def GAL_TBASE0_LOG2 : Fld := ⟨.page, 0x1808c, 0x4, 0, 4, .rwp, some (4, 15), false, .setting⟩
def GAL_TBASE1_BASE : Fld := ⟨.page, 0x18090, 0x0, 0, 32, .rwp, none, false, .setting⟩
def GAL_TPTR_HEAD : Fld := ⟨.page, 0x18094, 0x0, 16, 16, .ro, none, false, .setting⟩
def GAL_TPTR_TAIL : Fld := ⟨.page, 0x18094, 0x0, 0, 16, .rw, none, false, .setting⟩
def GAL_CBASE0_BASE : Fld := ⟨.page, 0x18098, 0x4, 12, 20, .rwp, none, false, .setting⟩
def GAL_CBASE0_EN : Fld := ⟨.page, 0x18098, 0x4, 4, 1, .rwp, none, false, .setting⟩
def GAL_CBASE0_LOG2 : Fld := ⟨.page, 0x18098, 0x4, 0, 4, .rwp, some (4, 15), false, .setting⟩
def GAL_CBASE1_BASE : Fld := ⟨.page, 0x1809c, 0x0, 0, 32, .rwp, none, false, .setting⟩
def GAL_CPTR_HEAD : Fld := ⟨.page, 0x180a0, 0x0, 16, 16, .ro, none, false, .setting⟩
def GAL_CPTR_TAIL : Fld := ⟨.page, 0x180a0, 0x0, 0, 16, .rw, none, false, .setting⟩
def GAL_STAT_TLOST : Fld := ⟨.page, 0x180a4, 0x0, 16, 16, .ro, none, false, .setting⟩
def GAL_STAT_OUTW : Fld := ⟨.page, 0x180a4, 0x0, 0, 5, .ro, none, false, .setting⟩
/-- The registers of the GAL page by offset (part 1). -/
def galRegsP0 : List RegDef := [
  ⟨0x14, [GAL_FLT_BADTAIL, GAL_FLT_CGAP, GAL_FLT_TLOST, GAL_FLT_FENCETMO, GAL_FLT_CFGSAT]⟩,
  ⟨0x40, [GAL_ACC0_MASK]⟩,
  ⟨0x44, [GAL_ACC1_MASK]⟩,
  ⟨0x48, [GAL_ACC2_MASK]⟩,
  ⟨0x4c, [GAL_ACC3_MASK]⟩,
  ⟨0x50, [GAL_ACC4_MASK]⟩,
  ⟨0x54, [GAL_ACC5_MASK]⟩,
  ⟨0x58, [GAL_ACC6_MASK]⟩,
  ⟨0x5c, [GAL_ACC7_MASK]⟩,
  ⟨0x60, [GAL_PRV0_MASK]⟩,
  ⟨0x64, [GAL_PRV1_MASK]⟩,
  ⟨0x68, [GAL_PRV2_MASK]⟩,
  ⟨0x6c, [GAL_PRV3_MASK]⟩,
  ⟨0x70, [GAL_PRV4_MASK]⟩,
  ⟨0x74, [GAL_PRV5_MASK]⟩,
  ⟨0x78, [GAL_PRV6_MASK]⟩,
  ⟨0x7c, [GAL_PRV7_MASK]⟩,
  ⟨0x80, [GAL_FENCE_GO]⟩,
  ⟨0x84, [GAL_ISTAT_IRQ]⟩,
  ⟨0x88, [GAL_IEN_IRQ]⟩,
  ⟨0x8c, [GAL_TBASE0_BASE, GAL_TBASE0_EN, GAL_TBASE0_LOG2]⟩,
  ⟨0x90, [GAL_TBASE1_BASE]⟩,
  ⟨0x94, [GAL_TPTR_HEAD, GAL_TPTR_TAIL]⟩,
  ⟨0x98, [GAL_CBASE0_BASE, GAL_CBASE0_EN, GAL_CBASE0_LOG2]⟩]
/-- The registers of the GAL page by offset (part 2). -/
def galRegsP1 : List RegDef := [
  ⟨0x9c, [GAL_CBASE1_BASE]⟩,
  ⟨0xa0, [GAL_CPTR_HEAD, GAL_CPTR_TAIL]⟩,
  ⟨0xa4, [GAL_STAT_TLOST, GAL_STAT_OUTW]⟩]
/-- The registers of the GAL page by offset. -/
def galRegs : List RegDef := galRegsP0 ++ galRegsP1


/-! ### DST page (R460) -/

def DST_FLT_DARK : Fld := ⟨.page, 0x40014, 0x0, 21, 1, .w1c, none, false, .setting⟩
def DST_FLT_CAPTHR : Fld := ⟨.page, 0x40014, 0x0, 20, 1, .w1c, none, false, .setting⟩
def DST_FLT_CAPLOSS : Fld := ⟨.page, 0x40014, 0x0, 19, 1, .w1c, none, false, .setting⟩
def DST_FLT_FCOFF : Fld := ⟨.page, 0x40014, 0x0, 18, 1, .w1c, none, false, .setting⟩
def DST_FLT_ATTINV : Fld := ⟨.page, 0x40014, 0x0, 17, 1, .w1c, none, false, .setting⟩
def DST_FLT_TRUST : Fld := ⟨.page, 0x40014, 0x0, 16, 1, .w1c, none, false, .setting⟩
def DST_FLT_BARLIFT : Fld := ⟨.page, 0x40014, 0x0, 15, 1, .w1c, none, false, .setting⟩
def DST_FLT_UNOBS : Fld := ⟨.page, 0x40014, 0x0, 14, 1, .w1c, none, false, .setting⟩
def DST_FLT_GRREV : Fld := ⟨.page, 0x40014, 0x0, 13, 1, .w1c, none, false, .setting⟩
def DST_FLT_SWWAIT : Fld := ⟨.page, 0x40014, 0x0, 12, 1, .w1c, none, false, .setting⟩
def DST_FLT_FILLNAK : Fld := ⟨.page, 0x40014, 0x0, 11, 1, .w1c, none, false, .setting⟩
def DST_FLT_ANVFAIL : Fld := ⟨.page, 0x40014, 0x0, 10, 1, .w1c, none, false, .setting⟩
def DST_FLT_THMAX : Fld := ⟨.page, 0x40014, 0x0, 9, 1, .w1c, none, false, .setting⟩
def DST_FLT_THFIRE : Fld := ⟨.page, 0x40014, 0x0, 8, 1, .w1c, none, false, .setting⟩
def DST_FLT_RGNBAD : Fld := ⟨.page, 0x40014, 0x0, 4, 1, .w1c, none, false, .setting⟩
def DST_FLT_NOSENS : Fld := ⟨.page, 0x40014, 0x0, 3, 1, .w1c, none, false, .setting⟩
def DST_FLT_SUSP : Fld := ⟨.page, 0x40014, 0x0, 2, 1, .w1c, none, false, .setting⟩
def DST_FLT_CEIL : Fld := ⟨.page, 0x40014, 0x0, 1, 1, .w1c, none, false, .setting⟩
def DST_FLT_CFGSAT : Fld := ⟨.page, 0x40014, 0x0, 0, 1, .w1c, none, false, .setting⟩
def DST_INTEG_BOUNDARY : Fld := ⟨.page, 0x40040, 0x0, 16, 16, .ro, none, false, .setting⟩
def DST_INTEG_CGRP : Fld := ⟨.page, 0x40040, 0x0, 10, 6, .ro, none, false, .setting⟩
def DST_INTEG_CCSUP : Fld := ⟨.page, 0x40040, 0x0, 6, 1, .ro, none, false, .setting⟩
def DST_INTEG_RCLASS : Fld := ⟨.page, 0x40040, 0x0, 4, 2, .ro, none, false, .setting⟩
def DST_INTEG_ZONE : Fld := ⟨.page, 0x40040, 0x0, 0, 2, .ro, none, false, .setting⟩
def DST_SET_ANN_EN : Fld := ⟨.page, 0x40044, 0x2bc060a0, 31, 1, .rwp, none, false, .setting⟩
def DST_SET_VMIN : Fld := ⟨.page, 0x40044, 0x2bc060a0, 18, 13, .rwp, some (1600, 4200), false, .setting⟩
def DST_SET_GB_ANN : Fld := ⟨.page, 0x40044, 0x2bc060a0, 9, 9, .rwp, some (32, 160), false, .setting⟩
def DST_SET_GB_UNA : Fld := ⟨.page, 0x40044, 0x2bc060a0, 0, 9, .rwp, some (80, 320), false, .setting⟩
def DST_ADJ_THM_WARM : Fld := ⟨.page, 0x40048, 0x28, 18, 9, .rwp, some (-80, 160), true, .setting⟩
def DST_ADJ_THM_NORM : Fld := ⟨.page, 0x40048, 0x28, 9, 9, .rwp, some (-80, 160), true, .setting⟩
def DST_ADJ_THM_COLD : Fld := ⟨.page, 0x40048, 0x28, 0, 9, .rwp, some (-80, 160), true, .setting⟩
def DST_REF_CEIL : Fld := ⟨.page, 0x4004c, 0x0, 31, 1, .ro, none, false, .setting⟩
def DST_REF_FLR : Fld := ⟨.page, 0x4004c, 0x0, 30, 1, .ro, none, false, .setting⟩
def DST_REF_GRP : Fld := ⟨.page, 0x4004c, 0x0, 29, 1, .ro, none, false, .setting⟩
def DST_REF_TGT : Fld := ⟨.page, 0x4004c, 0x0, 16, 13, .ro, none, false, .setting⟩
def DST_REF_VREF : Fld := ⟨.page, 0x4004c, 0x0, 0, 13, .ro, none, false, .setting⟩
def DST_COMP_TBAND : Fld := ⟨.page, 0x40050, 0x40000000, 30, 2, .ro, none, false, .setting⟩
def DST_COMP_GBSRC : Fld := ⟨.page, 0x40050, 0x40000000, 27, 3, .ro, none, false, .setting⟩
def DST_COMP_THM : Fld := ⟨.page, 0x40050, 0x40000000, 18, 9, .ro, none, true, .setting⟩
def DST_COMP_AGE : Fld := ⟨.page, 0x40050, 0x40000000, 9, 9, .ro, none, false, .setting⟩
def DST_COMP_GB : Fld := ⟨.page, 0x40050, 0x40000000, 0, 9, .ro, none, false, .setting⟩
def DST_MIN_MINLOW : Fld := ⟨.page, 0x40054, 0x0, 16, 16, .ro, none, false, .setting⟩
def DST_MIN_MINAVG : Fld := ⟨.page, 0x40054, 0x0, 0, 16, .ro, none, false, .setting⟩
def DST_ERR_NVALID : Fld := ⟨.page, 0x40058, 0x0, 25, 7, .ro, none, false, .setting⟩
def DST_ERR_BAR : Fld := ⟨.page, 0x40058, 0x0, 16, 9, .ro, none, false, .setting⟩
def DST_ERR_ERR : Fld := ⟨.page, 0x40058, 0x0, 0, 16, .ro, none, true, .setting⟩
def DST_SRET0_RET : Fld := ⟨.page, 0x4005c, 0x0, 0, 32, .rwp, none, false, .setting⟩
def DST_SRET1_RET : Fld := ⟨.page, 0x40060, 0x0, 0, 32, .rwp, none, false, .setting⟩
def DST_SSUSP0_SUSP : Fld := ⟨.page, 0x40064, 0x0, 0, 32, .w1c, none, false, .setting⟩
def DST_SSUSP1_SUSP : Fld := ⟨.page, 0x40068, 0x0, 0, 32, .w1c, none, false, .setting⟩
def DST_RGN0_T2 : Fld := ⟨.page, 0x4006c, 0x4e20271, 16, 13, .rwp, some (1, 5600), false, .setting⟩
def DST_RGN0_T1 : Fld := ⟨.page, 0x4006c, 0x4e20271, 0, 13, .rwp, some (1, 5600), false, .setting⟩
def DST_RGN1_VT : Fld := ⟨.page, 0x40070, 0xc800753, 16, 13, .rwp, some (2000, 4200), false, .setting⟩
def DST_RGN1_T3 : Fld := ⟨.page, 0x40070, 0xc800753, 0, 13, .rwp, some (1, 5600), false, .setting⟩
def DST_RGN2_FORCE_EN : Fld := ⟨.page, 0x40074, 0x0, 31, 1, .rwp, none, false, .setting⟩
def DST_RGN2_FORCE_RGN : Fld := ⟨.page, 0x40074, 0x0, 28, 3, .rwp, none, false, .setting⟩
def DST_RGN2_MAP : Fld := ⟨.page, 0x40074, 0x0, 0, 24, .rwp, none, false, .setting⟩
def DST_RGN_STAT_NSETS : Fld := ⟨.page, 0x40078, 0x10000000, 28, 4, .ro, none, false, .setting⟩
def DST_RGN_STAT_SET : Fld := ⟨.page, 0x40078, 0x10000000, 24, 3, .ro, none, false, .setting⟩
def DST_RGN_STAT_REGION : Fld := ⟨.page, 0x40078, 0x10000000, 20, 3, .ro, none, false, .setting⟩
def DST_RGN_STAT_CHANGES : Fld := ⟨.page, 0x40078, 0x10000000, 0, 16, .ro, none, false, .setting⟩
def DST_TH_CFG_DEPTH_UNA : Fld := ⟨.page, 0x4007c, 0x40102810, 24, 8, .rwp, some (8, 255), false, .setting⟩
def DST_TH_CFG_DEPTH_ANN : Fld := ⟨.page, 0x4007c, 0x40102810, 16, 8, .rwp, some (4, 64), false, .setting⟩
def DST_TH_CFG_SLOPE : Fld := ⟨.page, 0x4007c, 0x40102810, 8, 8, .rwp, some (4, 255), false, .setting⟩
def DST_TH_CFG_HYST : Fld := ⟨.page, 0x4007c, 0x40102810, 0, 8, .rwp, some (4, 64), false, .setting⟩
def DST_TH_TIME_TAPER : Fld := ⟨.page, 0x40080, 0x1414040f, 24, 8, .rwp, some (2, 60), false, .setting⟩
def DST_TH_TIME_MAXHOLD : Fld := ⟨.page, 0x40080, 0x1414040f, 16, 8, .rwp, some (2, 100), false, .setting⟩
def DST_TH_TIME_STORM : Fld := ⟨.page, 0x40080, 0x1414040f, 8, 4, .rwp, some (2, 15), false, .setting⟩
def DST_TH_TIME_ANV_EN : Fld := ⟨.page, 0x40080, 0x1414040f, 0, 4, .rwp, none, false, .setting⟩
def DST_TH_STAT_STATE : Fld := ⟨.page, 0x40084, 0x0, 30, 2, .ro, none, false, .setting⟩
def DST_TH_STAT_SRC : Fld := ⟨.page, 0x40084, 0x0, 28, 2, .ro, none, false, .setting⟩
def DST_TH_STAT_STORMD : Fld := ⟨.page, 0x40084, 0x0, 27, 1, .ro, none, false, .setting⟩
def DST_TH_STAT_ANV_RDY : Fld := ⟨.page, 0x40084, 0x0, 20, 4, .ro, none, false, .setting⟩
def DST_TH_STAT_TRIP : Fld := ⟨.page, 0x40084, 0x0, 0, 13, .ro, none, false, .setting⟩
def DST_TH_CNT_MAXEXIT : Fld := ⟨.page, 0x40088, 0x0, 16, 16, .ro, none, false, .setting⟩
def DST_TH_CNT_FIRES : Fld := ⟨.page, 0x40088, 0x0, 0, 16, .ro, none, false, .setting⟩
def DST_FILL_FILL_EN : Fld := ⟨.page, 0x4008c, 0x82710050, 31, 1, .rwp, none, false, .setting⟩
def DST_FILL_SWON : Fld := ⟨.page, 0x4008c, 0x82710050, 16, 12, .rwp, some (0, 2500), false, .setting⟩
def DST_FILL_FILL_RATE : Fld := ⟨.page, 0x4008c, 0x82710050, 0, 10, .rwp, some (8, 1023), false, .setting⟩
def DST_FILL_STAT_SWWAIT : Fld := ⟨.page, 0x40090, 0x0, 31, 1, .ro, none, false, .setting⟩
def DST_FILL_STAT_ACK : Fld := ⟨.page, 0x40090, 0x0, 30, 1, .ro, none, false, .setting⟩
def DST_FILL_STAT_LEVEL : Fld := ⟨.page, 0x40090, 0x0, 16, 12, .ro, none, false, .setting⟩
def DST_FILL_STAT_WAITED : Fld := ⟨.page, 0x40090, 0x0, 0, 16, .ro, none, false, .setting⟩
def DST_FO_CFG0_FLOOR_T : Fld := ⟨.page, 0x40094, 0x20708000, 24, 8, .rwp, some (0, 255), false, .setting⟩
def DST_FO_CFG0_FLOOR : Fld := ⟨.page, 0x40094, 0x20708000, 12, 12, .rwp, some (188, 3000), false, .setting⟩
def DST_FO_CFG1_THR_REL : Fld := ⟨.page, 0x40098, 0x102f, 8, 8, .rwp, some (1, 255), false, .setting⟩
def DST_FO_CFG1_THR_MARGIN : Fld := ⟨.page, 0x40098, 0x102f, 0, 8, .rwp, some (0, 188), false, .setting⟩
def DST_FO_STAT_STATE : Fld := ⟨.page, 0x4009c, 0x0, 30, 2, .ro, none, false, .setting⟩
def DST_FO_STAT_QUAL : Fld := ⟨.page, 0x4009c, 0x0, 29, 1, .ro, none, false, .setting⟩
def DST_FO_STAT_NAVAIL : Fld := ⟨.page, 0x4009c, 0x0, 24, 5, .ro, none, false, .setting⟩
def DST_FO_STAT_GOODPH : Fld := ⟨.page, 0x4009c, 0x0, 16, 7, .ro, none, false, .setting⟩
def DST_FO_STAT_CAP : Fld := ⟨.page, 0x4009c, 0x0, 0, 12, .ro, none, false, .setting⟩
def DST_FO_THR_QUALCNT : Fld := ⟨.page, 0x400a0, 0x0, 24, 8, .ro, none, false, .setting⟩
def DST_FO_THR_EXC : Fld := ⟨.page, 0x400a0, 0x0, 12, 12, .ro, none, true, .setting⟩
def DST_FO_THR_THRQ : Fld := ⟨.page, 0x400a0, 0x0, 0, 12, .ro, none, false, .setting⟩
def DST_FO_CNT_LOSSES : Fld := ⟨.page, 0x400a4, 0x0, 16, 16, .ro, none, false, .setting⟩
def DST_FO_CNT_DARKS : Fld := ⟨.page, 0x400a4, 0x0, 8, 8, .ro, none, false, .setting⟩
def DST_FO_CNT_RESTARTS : Fld := ⟨.page, 0x400a4, 0x0, 0, 8, .ro, none, false, .setting⟩
def DST_FO_CTL_RESTART : Fld := ⟨.page, 0x400a8, 0x1, 31, 1, .wo, none, false, .setting⟩
def DST_FO_CTL_FLOOR_EN : Fld := ⟨.page, 0x400a8, 0x1, 0, 1, .rwp, none, false, .setting⟩
/-- The registers of the DST page by offset (part 1). -/
def dstRegsP0 : List RegDef := [
  ⟨0x14, [DST_FLT_DARK, DST_FLT_CAPTHR, DST_FLT_CAPLOSS, DST_FLT_FCOFF, DST_FLT_ATTINV, DST_FLT_TRUST, DST_FLT_BARLIFT, DST_FLT_UNOBS, DST_FLT_GRREV, DST_FLT_SWWAIT, DST_FLT_FILLNAK, DST_FLT_ANVFAIL, DST_FLT_THMAX, DST_FLT_THFIRE, DST_FLT_RGNBAD, DST_FLT_NOSENS, DST_FLT_SUSP, DST_FLT_CEIL, DST_FLT_CFGSAT]⟩,
  ⟨0x40, [DST_INTEG_BOUNDARY, DST_INTEG_CGRP, DST_INTEG_CCSUP, DST_INTEG_RCLASS, DST_INTEG_ZONE]⟩,
  ⟨0x44, [DST_SET_ANN_EN, DST_SET_VMIN, DST_SET_GB_ANN, DST_SET_GB_UNA]⟩,
  ⟨0x48, [DST_ADJ_THM_WARM, DST_ADJ_THM_NORM, DST_ADJ_THM_COLD]⟩,
  ⟨0x4c, [DST_REF_CEIL, DST_REF_FLR, DST_REF_GRP, DST_REF_TGT, DST_REF_VREF]⟩,
  ⟨0x50, [DST_COMP_TBAND, DST_COMP_GBSRC, DST_COMP_THM, DST_COMP_AGE, DST_COMP_GB]⟩,
  ⟨0x54, [DST_MIN_MINLOW, DST_MIN_MINAVG]⟩,
  ⟨0x58, [DST_ERR_NVALID, DST_ERR_BAR, DST_ERR_ERR]⟩,
  ⟨0x5c, [DST_SRET0_RET]⟩,
  ⟨0x60, [DST_SRET1_RET]⟩,
  ⟨0x64, [DST_SSUSP0_SUSP]⟩,
  ⟨0x68, [DST_SSUSP1_SUSP]⟩,
  ⟨0x6c, [DST_RGN0_T2, DST_RGN0_T1]⟩,
  ⟨0x70, [DST_RGN1_VT, DST_RGN1_T3]⟩,
  ⟨0x74, [DST_RGN2_FORCE_EN, DST_RGN2_FORCE_RGN, DST_RGN2_MAP]⟩,
  ⟨0x78, [DST_RGN_STAT_NSETS, DST_RGN_STAT_SET, DST_RGN_STAT_REGION, DST_RGN_STAT_CHANGES]⟩,
  ⟨0x7c, [DST_TH_CFG_DEPTH_UNA, DST_TH_CFG_DEPTH_ANN, DST_TH_CFG_SLOPE, DST_TH_CFG_HYST]⟩,
  ⟨0x80, [DST_TH_TIME_TAPER, DST_TH_TIME_MAXHOLD, DST_TH_TIME_STORM, DST_TH_TIME_ANV_EN]⟩,
  ⟨0x84, [DST_TH_STAT_STATE, DST_TH_STAT_SRC, DST_TH_STAT_STORMD, DST_TH_STAT_ANV_RDY, DST_TH_STAT_TRIP]⟩,
  ⟨0x88, [DST_TH_CNT_MAXEXIT, DST_TH_CNT_FIRES]⟩,
  ⟨0x8c, [DST_FILL_FILL_EN, DST_FILL_SWON, DST_FILL_FILL_RATE]⟩,
  ⟨0x90, [DST_FILL_STAT_SWWAIT, DST_FILL_STAT_ACK, DST_FILL_STAT_LEVEL, DST_FILL_STAT_WAITED]⟩,
  ⟨0x94, [DST_FO_CFG0_FLOOR_T, DST_FO_CFG0_FLOOR]⟩,
  ⟨0x98, [DST_FO_CFG1_THR_REL, DST_FO_CFG1_THR_MARGIN]⟩]
/-- The registers of the DST page by offset (part 2). -/
def dstRegsP1 : List RegDef := [
  ⟨0x9c, [DST_FO_STAT_STATE, DST_FO_STAT_QUAL, DST_FO_STAT_NAVAIL, DST_FO_STAT_GOODPH, DST_FO_STAT_CAP]⟩,
  ⟨0xa0, [DST_FO_THR_QUALCNT, DST_FO_THR_EXC, DST_FO_THR_THRQ]⟩,
  ⟨0xa4, [DST_FO_CNT_LOSSES, DST_FO_CNT_DARKS, DST_FO_CNT_RESTARTS]⟩,
  ⟨0xa8, [DST_FO_CTL_RESTART, DST_FO_CTL_FLOOR_EN]⟩]
/-- The registers of the DST page by offset. -/
def dstRegs : List RegDef := dstRegsP0 ++ dstRegsP1


/-! ### CEL page (R460) -/

def CEL_FLT_CFGSAT : Fld := ⟨.page, 0x80014, 0x0, 18, 1, .w1c, none, false, .setting⟩
def CEL_FLT_DRZBAD : Fld := ⟨.page, 0x80014, 0x0, 17, 1, .w1c, none, false, .setting⟩
def CEL_FLT_SYNCLOSS : Fld := ⟨.page, 0x80014, 0x0, 16, 1, .w1c, none, false, .setting⟩
def CEL_FLT_CELEV : Fld := ⟨.page, 0x80014, 0x0, 0, 16, .w1c, none, false, .setting⟩
def CEL_CFG_HIC_N : Fld := ⟨.page, 0x80040, 0x10321032, 24, 8, .rwp, some (4, 255), false, .setting⟩
def CEL_CFG_SS_SLEW : Fld := ⟨.page, 0x80040, 0x10321032, 16, 8, .rwp, some (10, 200), false, .setting⟩
def CEL_CFG_DRZ_EN : Fld := ⟨.page, 0x80040, 0x10321032, 12, 1, .rwp, none, false, .setting⟩
def CEL_CFG_TRIM_MAX : Fld := ⟨.page, 0x80040, 0x10321032, 0, 8, .rwp, some (0, 100), false, .setting⟩
def CEL_LOOP_G_TRIM : Fld := ⟨.page, 0x80044, 0x14, 0, 8, .rwp, some (0, 64), false, .setting⟩
def CEL_DRZ_DRZ_ADD : Fld := ⟨.page, 0x80048, 0x19000fa, 16, 12, .rwp, some (100, 1400), false, .setting⟩
def CEL_DRZ_DRZ_SHED : Fld := ⟨.page, 0x80048, 0x19000fa, 0, 12, .rwp, some (50, 1350), false, .setting⟩
def CEL_SYNC_LOCK : Fld := ⟨.page, 0x8004c, 0x0, 31, 1, .ro, none, false, .setting⟩
def CEL_SYNC_HOLDOVER : Fld := ⟨.page, 0x8004c, 0x0, 30, 1, .ro, none, false, .setting⟩
def CEL_SYNC_SKEW : Fld := ⟨.page, 0x8004c, 0x0, 0, 6, .rwp, none, false, .setting⟩
def CEL_ILV0_ILV3 : Fld := ⟨.page, 0x80050, 0xc040800, 24, 6, .rwp, none, false, .setting⟩
def CEL_ILV0_ILV2 : Fld := ⟨.page, 0x80050, 0xc040800, 16, 6, .rwp, none, false, .setting⟩
def CEL_ILV0_ILV1 : Fld := ⟨.page, 0x80050, 0xc040800, 8, 6, .rwp, none, false, .setting⟩
def CEL_ILV0_ILV0 : Fld := ⟨.page, 0x80050, 0xc040800, 0, 6, .ro, none, false, .setting⟩
def CEL_ILV1_ILV3 : Fld := ⟨.page, 0x80054, 0xe060a02, 24, 6, .rwp, none, false, .setting⟩
def CEL_ILV1_ILV2 : Fld := ⟨.page, 0x80054, 0xe060a02, 16, 6, .rwp, none, false, .setting⟩
def CEL_ILV1_ILV1 : Fld := ⟨.page, 0x80054, 0xe060a02, 8, 6, .rwp, none, false, .setting⟩
def CEL_ILV1_ILV0 : Fld := ⟨.page, 0x80054, 0xe060a02, 0, 6, .rwp, none, false, .setting⟩
def CEL_ILV2_ILV3 : Fld := ⟨.page, 0x80058, 0xd050901, 24, 6, .rwp, none, false, .setting⟩
def CEL_ILV2_ILV2 : Fld := ⟨.page, 0x80058, 0xd050901, 16, 6, .rwp, none, false, .setting⟩
def CEL_ILV2_ILV1 : Fld := ⟨.page, 0x80058, 0xd050901, 8, 6, .rwp, none, false, .setting⟩
def CEL_ILV2_ILV0 : Fld := ⟨.page, 0x80058, 0xd050901, 0, 6, .rwp, none, false, .setting⟩
def CEL_ILV3_ILV3 : Fld := ⟨.page, 0x8005c, 0xf070b03, 24, 6, .rwp, none, false, .setting⟩
def CEL_ILV3_ILV2 : Fld := ⟨.page, 0x8005c, 0xf070b03, 16, 6, .rwp, none, false, .setting⟩
def CEL_ILV3_ILV1 : Fld := ⟨.page, 0x8005c, 0xf070b03, 8, 6, .rwp, none, false, .setting⟩
def CEL_ILV3_ILV0 : Fld := ⟨.page, 0x8005c, 0xf070b03, 0, 6, .rwp, none, false, .setting⟩
def CEL_CTL_PH_DIS : Fld := ⟨.cell, 0x80080, 0x0, 4, 4, .rwp, none, false, .setting⟩
def CEL_CTL_CELL_DIS : Fld := ⟨.cell, 0x80080, 0x0, 0, 1, .rwp, none, false, .setting⟩
def CEL_STAT_PH_FAIL : Fld := ⟨.cell, 0x80084, 0x0, 28, 4, .ro, none, false, .setting⟩
def CEL_STAT_PH_ACT : Fld := ⟨.cell, 0x80084, 0x0, 24, 4, .ro, none, false, .setting⟩
def CEL_STAT_HIC_CNT : Fld := ⟨.cell, 0x80084, 0x0, 16, 4, .ro, none, false, .setting⟩
def CEL_STAT_LAST_CAUSE : Fld := ⟨.cell, 0x80084, 0x0, 8, 4, .ro, none, false, .setting⟩
def CEL_STAT_LOCAL : Fld := ⟨.cell, 0x80084, 0x0, 5, 1, .ro, none, false, .setting⟩
def CEL_STAT_AVAIL : Fld := ⟨.cell, 0x80084, 0x0, 4, 1, .ro, none, false, .setting⟩
def CEL_STAT_STATE : Fld := ⟨.cell, 0x80084, 0x0, 0, 3, .ro, none, false, .setting⟩
def CEL_CUR_I_MEAS : Fld := ⟨.cell, 0x80088, 0x0, 16, 16, .ro, none, false, .setting⟩
def CEL_CUR_I_CMD : Fld := ⟨.cell, 0x80088, 0x0, 0, 16, .ro, none, false, .setting⟩
def CEL_PH_CAUSE3 : Fld := ⟨.cell, 0x8008c, 0x0, 6, 2, .ro, none, false, .setting⟩
def CEL_PH_CAUSE2 : Fld := ⟨.cell, 0x8008c, 0x0, 4, 2, .ro, none, false, .setting⟩
def CEL_PH_CAUSE1 : Fld := ⟨.cell, 0x8008c, 0x0, 2, 2, .ro, none, false, .setting⟩
def CEL_PH_CAUSE0 : Fld := ⟨.cell, 0x8008c, 0x0, 0, 2, .ro, none, false, .setting⟩
/-- The registers of the CEL page by offset. -/
def celRegs : List RegDef := [
  ⟨0x14, [CEL_FLT_CFGSAT, CEL_FLT_DRZBAD, CEL_FLT_SYNCLOSS, CEL_FLT_CELEV]⟩,
  ⟨0x40, [CEL_CFG_HIC_N, CEL_CFG_SS_SLEW, CEL_CFG_DRZ_EN, CEL_CFG_TRIM_MAX]⟩,
  ⟨0x44, [CEL_LOOP_G_TRIM]⟩,
  ⟨0x48, [CEL_DRZ_DRZ_ADD, CEL_DRZ_DRZ_SHED]⟩,
  ⟨0x4c, [CEL_SYNC_LOCK, CEL_SYNC_HOLDOVER, CEL_SYNC_SKEW]⟩,
  ⟨0x50, [CEL_ILV0_ILV3, CEL_ILV0_ILV2, CEL_ILV0_ILV1, CEL_ILV0_ILV0]⟩,
  ⟨0x54, [CEL_ILV1_ILV3, CEL_ILV1_ILV2, CEL_ILV1_ILV1, CEL_ILV1_ILV0]⟩,
  ⟨0x58, [CEL_ILV2_ILV3, CEL_ILV2_ILV2, CEL_ILV2_ILV1, CEL_ILV2_ILV0]⟩,
  ⟨0x5c, [CEL_ILV3_ILV3, CEL_ILV3_ILV2, CEL_ILV3_ILV1, CEL_ILV3_ILV0]⟩,
  ⟨0x80, [CEL_CTL_PH_DIS, CEL_CTL_CELL_DIS]⟩,
  ⟨0x84, [CEL_STAT_PH_FAIL, CEL_STAT_PH_ACT, CEL_STAT_HIC_CNT, CEL_STAT_LAST_CAUSE, CEL_STAT_LOCAL, CEL_STAT_AVAIL, CEL_STAT_STATE]⟩,
  ⟨0x88, [CEL_CUR_I_MEAS, CEL_CUR_I_CMD]⟩,
  ⟨0x8c, [CEL_PH_CAUSE3, CEL_PH_CAUSE2, CEL_PH_CAUSE1, CEL_PH_CAUSE0]⟩]


/-! ### The common header of every page (R461); instance: the page number -/

def PG_CTL_LOCK : Fld := ⟨.page, 0xc, 0x0, 0, 1, .rwp, none, false, .command⟩
def PG_FLT_FLT : Fld := ⟨.page, 0x14, 0x0, 0, 32, .w1c, none, false, .setting⟩
def PG_FLTMASK_MASK : Fld := ⟨.page, 0x18, 0x0, 0, 32, .rw, none, false, .setting⟩
def PG_EXH_SEQ_SEQ : Fld := ⟨.page, 0x1c, 0x0, 0, 32, .ro, none, false, .setting⟩

end Sys2Proof.Machine.R
end

