-- ==== Sys2Proof/Machine/State.lean ====
section
/-!
DEFINITION. The state of the block as plain data: the integration data, every register of the map, the hidden state of
each unit, the signals the block drives, and the queue of waiting commands; the outcomes; and the state after reset.
-/
namespace Sys2Proof.Machine

/-- Why the block stops. -/
inductive Fault where
  /-- Raised by no command: one that names a district, cell, queue or other unit that the configuration does not have (R4, R23,
  R24) leaves the state unchanged, as no such event exists (assumption 6). -/
  | noSuchUnit
deriving DecidableEq, Repr

/-- Why a command is refused. -/
inductive Refusal where
  /-- Raised by no command: every arm has its meaning. Safe: nothing is claimed of a command that has none. -/
  | notModelled (mnemonic : String)
deriving DecidableEq, Repr

/-- The integration data, fixed in the hard macro (R3, R46, R467). Lists run over the districts. -/
structure Integ where
  /-- configured districts, 8 to 64 (R3) -/
  n : Nat
  zone : List Nat
  rclass : List Nat
  cgrp : List Nat
  boundary : List Nat
  /-- the control-complex supply district (R46) -/
  ccsup : Nat
  /-- I3C static address (R389) -/
  saddr : Nat
  /-- MIPI manufacturer identifier, PID bits [47:33] (R389) -/
  mipi : Nat
  /-- the coupled neighbours of boundary cells: district, cell, neighbouring district (R25, R46) -/
  neigh : List (Nat × Nat × Nat)
  /-- neighbouring thermal sensors of FIO and of the bandgap (R296) -/
  fioNbr : Nat
  bgNbr : Nat
  /-- the 11-bit manufacturer identity of IDCODE (R454) -/
  jedec : Nat
deriving DecidableEq, Repr, Inhabited

/-- The hidden state of a cell (R65 to R87). Voltages of the local reference in 0.05 mV, demands in 1/40 mA. -/
structure CellS where
  /-- orders in flight from the hub: a start order with its target, a stop order (R73) -/
  startSent : Option Nat := none
  stopSent : Bool := false
  /-- a start order stands; it is held for LOCK -/
  ordered : Bool := false
  held : Bool := false
  /-- the reference sent with the start order, and the one that the local reference moves to (R66, R75) -/
  start : Nat := 0
  target : Nat := 0
  vloc : Int := 0
  ssLeft : Nat := 0
  ssDone : Bool := false
  shortCnt : Nat := 0
  limCnt : Nat := 0
  remHold : Nat := 0
  window : Nat := 0
  winOpen : Bool := false
  offCnt : Nat := 0
  /-- active set of the next cycle, and the Drizzle count of rule 3 (R78, R79) -/
  act : Nat := 0
  shed : Nat := 0
  integ : Int := 0
  dem : Int := 0
  loadInteg : Bool := false
  vref : Nat := 0
  vcell : Nat := 0
  /-- sum and count of the current measured in the die period, mA (R233) -/
  curSum : Int := 0
  /-- main-sense current over the active phases at the end of the last on-time, and as captured at the end of FIRED -/
  ends : Int := 0
  iexit : Int := 0
  /-- the phase positions lie this far from R69 while the line relocks (R72) -/
  drift : Nat := 0
  /-- configuration sampled at the entry into SOFTSTART (R71) -/
  phDis : Nat := 0
  hicN : Nat := 16
  slew : Nat := 50
  drzEn : Bool := true
  trimMax : Nat := 50
  gTrim : Nat := 20
  drzAdd : Nat := 400
  drzShed : Nat := 250
  skew : Nat := 0
  ilv : Nat := 0
  /-- the self-test of the cell has been run since cold reset (R330) -/
  tested : Bool := false
deriving DecidableEq, Repr, Inhabited

/-- The failure counts of a phase (R84), and the cause that completed its count first (0 none). -/
structure PhaseS where
  opn : Nat := 0
  stk : Nat := 0
  imp : Nat := 0
  done : Nat := 0
deriving DecidableEq, Repr, Inhabited

/-- The hidden state of a district's law (R100 to R120, R127 to R129, R144 to R148). -/
structure LawS where
  img : DistImg := { n := 0, m := 0, p := 0, q := 0, s := 0, sets := [], map := 0, gather := [], flist := [],
                     rlist := [], slew := 0, allow := 0, ileak := 250, kinds := [], tmask := 0 }
  xhat : Vec := ⟨-128, []⟩
  /-- exponents of x̂⁻, e, x̂ and u of the previous period (R109) -/
  pexp : List Int := [-128, -128, -128, -128]
  /-- the commands and reference that the hub applied last; held frames repeat them -/
  applied : List Int := []
  appliedV : Nat := 0
  /-- the reference and target in force at the district loop, and those of the last die period with the district boundary
  at which they take effect (R28, R142) -/
  vref : Nat := 0
  tgt : Nat := 0
  vNext : Nat := 0
  tgtNext : Nat := 0
  vAt : Nat := 0
  /-- consecutive discarded periods; a persistent fault and a missed deadline not yet reported (R110, R120) -/
  hold : Nat := 0
  persDue : Bool := false
  /-- the persistent fault of the present run of discarded periods has been raised (R120) -/
  persDone : Bool := false
  late : Bool := false
  /-- a command frame was issued in the last period, and what the hub held before it (R105) -/
  sent : Bool := false
  held : List Int := []
  heldV : Nat := 0
  /-- ORR_DLY before that frame: LAST and MAX -/
  heldDly : Nat × Nat := (0, 0)
  /-- words of coefficient sets, of x̂ and of u_prev found uncorrectable and not rewritten since (R122) -/
  badWord : List SramPlace := []
  /-- u_prev as DBGACC has left it, until a command frame writes it afresh (R457) -/
  uDbg : Option (List Int) := none
  /-- y, f and r of the last sequence, as the capture engine samples them (R400) -/
  lastY : List Int := []
  lastF : List Int := []
  lastR : List Int := []
  /-- the scalar summaries (R106) -/
  sumU : Nat := 0
  nclip : Nat := 0
  emax : Nat := 0
  xexp : Int := -128
  stale : Bool := false
  /-- current and voltage bands (R145) -/
  cb : Nat := 0
  vb : Nat := 0
  /-- district periods in a row without a valid frame at the hub, for the cells with a command and for the others (R66,
  R104) -/
  missed : Nat := 0
  missedHi : Nat := 0
  /-- measured district current: last period, and the sum over the die period, mA -/
  imPer : Int := 0
  imSum : Int := 0
  imCnt : Nat := 0
deriving DecidableEq, Repr, Inhabited

/-- The hidden state of a hub's sensing and of Thunderhead (R131 to R136, R154 to R162). -/
structure HubS where
  min : Nat := 0
  last4 : List Nat := []
  sum : Nat := 0
  cnt : Nat := 0
  low : Nat := 0xFFFF
  droop : List Nat := []
  /-- retirements in force (64 bits), from the last district boundary (R133) -/
  ret : Nat := 0
  cntFail : Tab Nat := []
  cntLow : Tab Nat := []
  cntHigh : Tab Nat := []
  deff : Nat := 0
  /-- samples since the fire, recovery samples in a row, MAXHOLD exits in a row, samples of the taper -/
  fireCnt : Nat := 0
  recov : Nat := 0
  storm : Nat := 0
  taper : Nat := 0
  taperTot : Nat := 1
  /-- trip level and D_eff sent at the die period boundary, with the district boundary of effect (R154) -/
  tripNext : Option (Nat × Nat × Nat) := none
  /-- VFEED has been seen outside its window at this hub since its last start (R42, R336) -/
  feedBad : Bool := false
deriving DecidableEq, Repr, Inhabited

/-- The hidden state of an anvil cell (R164 to R167). -/
structure AnvS where
  vst : Nat := 0
  win : List Nat := []
  leak : Nat := 0
  relNs : Nat := 0
  /-- samples since the charge began, and the current delivered, mA (R164, R167) -/
  chg : Nat := 0
  cur : Nat := 0
deriving DecidableEq, Repr, Inhabited

/-- A grant record (R195, R200), with the slot of its reference boundary. -/
structure Grant where
  gid : Nat
  start : Nat
  dur : Nat
  d : Int
  gal : Nat
  queue : Nat
  cls : Nat
  capAdm : Nat
  rsvAdm : Nat
  age : Nat
  consumed : Bool := false
  /-- I_ref, CU (R200) -/
  iref : Option Int := none
  /-- counted in GCNT: CU slots booked (R261) -/
  booked : Nat := 0
deriving DecidableEq, Repr, Inhabited

/-- The books of a district (R188 to R191), its grants, and its falls that draw fill (R170). -/
structure BookS where
  cap : Nat := 0
  rsv : Nat := 0
  admCap : Nat := 0
  admRsv : Nat := 0
  imb : Bool := false
  base : Nat := 0
  imeas : Nat := 0
  gnow : Nat := 0
  bookSum : Nat := 0
  bookCnt : Nat := 0
  grants : List Grant := []
  /-- the grants as the last district boundary found them: BOOK, COM and FREE as the registers show them (R188) -/
  shown : List Grant := []
  shares : List Nat := [256, 0, 0, 0, 0, 0, 0, 0]
  /-- fill profiles in progress: (boundary T, fall) -/
  fills : List (Nat × Nat) := []
  /-- by slot, what DBGACC has changed the ledger by (R457) -/
  adj : Tab Int := []
deriving DecidableEq, Repr, Inhabited

/-- Where a pending forecast stands in admission (R192, R206). -/
inductive EntSt where
  | waiting | issued | scanned | failed | barrier | answered
deriving DecidableEq, Repr, Inhabited

/-- A pending entry of a queue: the forecast, the edge and the slot of its registration (R180, R182). -/
structure Ent where
  fc : Nat
  edge : Nat
  tref : Nat
  st : EntSt
  /-- its scan has been issued again; an injected error strikes the scan in flight; an upset of the scan that delivered, by
  element (the second vector from 256 on) and change (R115, R121) -/
  retry : Bool := false
  inj : Bool := false
  ups : Nat × Int := (0, 0)
  /-- I_meas of the last period that ended at or before the requested start, CU (R200) -/
  iref : Option Int := none
  /-- a reason for refusal fixed at registration: FORMAT of a sequence error, BARRIER (R179, R209) -/
  pre : Option Nat := none
  /-- the answer, until it is emitted in the order of entry, and the notices that must follow it (R211) -/
  decided : Option (BitVec 32) := none
  after : List (BitVec 32) := []
deriving DecidableEq, Repr, Inhabited

/-- The hidden state of a grant queue (R182 to R187, R217, R229 to R231). -/
structure QueueS where
  ents : List Ent := []
  /-- responses and notices emitted and not yet registered at the fabric; a response returns a credit and carries the
  edge from which its latency counts -/
  out : List (BitVec 32 × Option Nat) := []
  /-- the word last registered at the fabric -/
  rsp : Option (BitVec 32) := none
  nextSeq : Nat := 0
  /-- INIT has been sent since the reset of the queue store; an INIT is due after a flush (R184, R185) -/
  inited : Bool := false
  initDue : Bool := false
  fcnt : List Nat := [0, 0, 0]
  act : Nat := 0
  refu : List Nat := [0, 0, 0]
  snapPend : Nat := 0
  snapFcnt : List Nat := [0, 0, 0]
  snapGcur : List Nat := [0, 0, 0]
  snapGnext : List Nat := [0, 0, 0]
  snapAct : Nat := 0
  snapRefu : List Nat := [0, 0, 0]
deriving DecidableEq, Repr, Inhabited

/-- The state of a barrier record (R206 to R209). -/
inductive BarSt where
  | free | opened | closed | booked
deriving DecidableEq, Repr, Inhabited

/-- A barrier record: participants registered, the slot of the first, the edge of the last, and T0. -/
structure Barrier where
  st : BarSt := .free
  bcnt : Nat := 0
  arrived : Nat := 0
  firstSlot : Nat := 0
  closeEdge : Nat := 0
  t0 : Nat := 0
deriving DecidableEq, Repr, Inhabited

/-- What the step of a die period leaves for its attribution pass in district periods 5 to 9 (R112, R229): the features, the
outputs, the clamp masks of the layers, the values of the kind entries, and an upset of the pass. -/
structure FcCtx where
  x : Vec
  o : Vec
  g1 : List Bool
  g2 : List Bool
  vals : List (List Nat)
  up : Upset
deriving DecidableEq, Repr, Inhabited

/-- The hidden state of a district's Forecaster and attribution (R219 to R230): the outputs in f, and those that enter at
district period 5; the step that awaits its attribution; the predictions of the window in progress and of the next one, with the raw shares of the local
queues; whether the window in progress is eligible; the sums of the attribution epoch, and its results before they are
published. -/
structure FcsS where
  out : Vec := ⟨-128, []⟩
  outNext : Vec := ⟨-128, []⟩
  ctx : Option FcCtx := none
  pred0 : Option Int := none
  pred1 : Option Int := none
  r0 : Tab Nat := []
  r1 : Tab Nat := []
  elig : Bool := false
  epochsTR : Nat := 0
  clean : Nat := 0
  /-- die periods in a row in which an uncorrectable weights word was read, and whether the present one is among them; the words
  found so and not rewritten since (R122, R224) -/
  uncor : Nat := 0
  uncorNow : Bool := false
  badWord : List SramPlace := []
  eMeas : Nat := 0
  eModel : Int := 0
  aq : Tab Nat := []
  pubEq : Tab Nat := []
  pubMeas : Nat := 0
  pubBase : Nat := 0
  pubScale : Nat := 0
  pubValid : Bool := false
deriving DecidableEq, Repr, Inhabited

/-- The hidden state of a district's failover and budget (R233 to R247, R253 to R258): the currents of its cells summed over the
last ended die period and how many periods that is, availability and good phases as latched; the losses of cells and of phases since then; the count of failed floor tests; a fallback step that falls; the darkening step and the grants that it revoked; the requests of R254;
skip, divide code and fallback steps driven, the steps that VMIN counts, those in force over the ended die period, and the
targets of the next boundary; the mean
and lowest values of the budget epoch; the Orrery computed the district when its darkening began (R246). -/
structure FoS where
  capSum : Tab Int := []
  capCnt : Nat := 0
  avail : Nat := 0
  goodPh : Tab Nat := []
  lossC : Tab Nat := []
  lossP : Tab Nat := []
  qual : Nat := 0
  pvFall : Bool := false
  darkStep : Nat := 0
  darkRun : Bool := false
  revoked : Nat := 0
  /-- grants that R203 revoked at the last district boundary (R246); FLOOR and FLOOR_T in force (R247) -/
  revNow : Nat := 0
  floor : Nat := 0x708
  floorT : Nat := 0x20
  supRep : Bool := false
  rb : Nat := 0
  ra : Nat := 0
  sk : Nat := 0
  divc : Nat := 0
  pv : Nat := 0
  pvMin : Nat := 0
  skP : Nat := 0
  divP : Nat := 0
  pvP : Nat := 0
  skT : Nat := 0
  divT : Nat := 0
  pvT : Nat := 0
  skOk : Bool := false
  epochMeas : Nat := 0
  epochCnt : Nat := 0
  epochLow : Nat := 0xFFFF
  redSeen : Bool := false
deriving DecidableEq, Repr, Inhabited

/-- A step of a district sequence of Power states and wake (R308, R309). -/
inductive PwrStep where
  | idle | entBegun | entIso | entSw | entCells | onBegun | onRail | onPower | onIso
deriving DecidableEq, Repr, Inhabited

/-- The hidden power state of a district (R306 to R318). -/
structure PwrS where
  step : PwrStep := .idle
  toRetain : Bool := false
  fromRetain : Bool := false
  vs : Nat := 0
  /-- requested and not yet begun: entry (code of the target), switch-on with its place in the order of arrival -/
  reqEntry : Bool := false
  reqOn : Option Nat := none
  /-- the die period in which the latched change of the target arrived (R174, R318) -/
  latchAt : Option Nat := none
  failed : Bool := false
deriving DecidableEq, Repr, Inhabited

/-- A report driven on a report line (R406, R409, R411). -/
structure Report where
  cls : Nat
  cause : Nat
  src : Nat
  /-- the reaction where it is not the class's own: a wiring fault takes its line's (R407) -/
  react : Option Nat := none
  injected : Bool := false
deriving DecidableEq, Repr, Inhabited

/-- A history entry (R420). -/
structure Entry where
  cls : Nat
  react : Nat
  cause : Nat
  src : Nat
  opsec : Nat
  ticks : Nat
  dev : Nat
  seq : Nat
deriving DecidableEq, Repr, Inhabited

/-- A staged Archive record (R423 to R427): its kind, payload, stamps and, where it has been numbered, its number. -/
structure Rec where
  kind : Nat
  payload : List Byte
  opsec : Nat
  ticks : Nat
  acc : Option Nat := none
deriving DecidableEq, Repr, Inhabited

/-- The phases of SAFE_OFF (R417). -/
inductive OffPhase where
  | none | down | heldOff
deriving DecidableEq, Repr, Inhabited

/-- The hidden state of the fault collector (R406 to R421). -/
structure FltS where
  /-- reports driven on the report lines and not yet registered -/
  lines : List Report := []
  /-- report lines masked after a wiring fault, by source and class (R407) -/
  masked : List (Nat × Nat) := []
  /-- the last 32 entries, newest first (R421) -/
  hist : List Entry := []
  first : Option Entry := none
  /-- wiring causes that stand until cold reset (R407) -/
  wireHold : Bool := false
  wireOff : Bool := false
  /-- classes whose standing cause was injected (R417) -/
  injected : List Nat := []
  /-- an injection armed and not yet reported (R411) -/
  armed : Option Nat := none
  /-- OFF classes whose restart release holds (R411, R417) -/
  relOk : List Nat := []
  /-- OFF causes released for the present restart, as FLT_CAUSE (R425) -/
  released : Nat := 0
  offPhase : OffPhase := .none
  heartbeat : Bool := true
  /-- level driven on ERR_ALIVE (R419) -/
  pin : Bool := false
  safeStopLow : Bool := false
  /-- rounds in a row that passed the reference checks (R411, R281) -/
  adcPass : Nat := 0
deriving DecidableEq, Repr, Inhabited

/-- The hidden state of the Archive (R422 to R431). -/
structure ArcS where
  staged : List Rec := []
  /-- the last accession number assigned -/
  lastAcc : Option Nat := none
  pcyc : Nat := 0
  /-- an OVERFLOW record is due: records dropped, OPSEC of the first (R429) -/
  dropCnt : Nat := 0
  dropFirst : Nat := 0
  /-- staged records lost at the last power-down of the control complex (R429) -/
  lost : Nat := 0
  /-- gallery whose ERASE is running, and the newest number before it (R430) -/
  eraseGal : Nat := 0
  eraseAcc : Option Nat := none
  scanned : Bool := false
  /-- the retained write position still awaits its torn-record check (R428) -/
  tornDue : Bool := false
deriving DecidableEq, Repr, Inhabited

/-- The hidden state of the Exhibit (R432 to R434, R464): triggers registered for the next edge, and the copies. -/
structure ExhS where
  trig : Nat := 0
  copies : Tab Word := []
deriving DecidableEq, Repr, Inhabited

/-- The device-level state of start-up and of the power-state sequencer (R302 to R336). -/
structure DevS where
  /-- cold reset asserted; control complex powered; control complex released from reset -/
  cold : Bool := true
  powered : Bool := false
  released : Bool := false
  /-- zones whose hubs have started and whose self-test is complete, as bit masks (R329, R330) -/
  hubs : Nat := 0
  tested : Nat := 0
  feedWait : Nat := 0
  /-- cause of the present BOOT, as START codes it (R425), and what it has passed -/
  bootCause : Nat := 1
  sfdp : Bool := false
  flashUsable : Bool := false
  dens : Nat := 0
  /-- what the SFDP read found (R324) -/
  par : Option SfdpRead := none
  calDone : Bool := false
  imgDone : Bool := false
  orrRun : Bool := false
  thermOk : Bool := false
  returned : Bool := false
  booted : Bool := false
  /-- operating ticks at which the control complex was released into the present BOOT (R352) -/
  bootTick : Nat := 0
  /-- the slot choice of IMG_CTL.NEXT as the present BOOT found it (R340, R351) -/
  nextSel : Nat := 0
  /-- the supply group is switched on again once its OFF entry is complete and VFEED is good (R336) -/
  supDue : Bool := false
  /-- a command on an image slot in progress: IMG_PCMD code and flash address (R350) -/
  pgm : Option (Nat × Nat) := none
  /-- the ageing record has been looked for since cold reset (R422) -/
  ageLoaded : Bool := false
  /-- return order: next entry, and whether it waits for its zone (R319) -/
  retIdx : Nat := 0
  retWait : Bool := false
  /-- entry into DOZE (1) or SLEEP (2); the state before it; its ledgers stayed empty through the die period -/
  entry : Nat := 0
  before : Nat := 1
  ledgerBusy : Bool := false
  /-- every ledger was empty throughout the ended die period (R313); the reduced rate of QUIET is in force (R312) -/
  ledgersClear : Bool := false
  quiet : Bool := false
  /-- the Forecaster step ran at the last die period boundary (ORR_STAT.FC_ACT) -/
  fcRan : Bool := false
  sleepStep : Nat := 0
  wakeDue : Bool := false
  /-- source of a wake latched during an entry, and its Contrail ports (R318) -/
  wakeSrc : Nat := 0
  wakeLnk : Nat := 0
  gated : Bool := false
  dozeExit : Bool := false
  /-- the supply group stayed ON under R293 -/
  supStayed : Bool := false
  reqSeq : Nat := 0
  /-- TAP controller outside Test-Logic-Reset, and its instruction (R455) -/
  tapOut : Bool := false
  tapIr : Nat := 1
  /-- what its data register captured -/
  tapDr : Nat := 0
  /-- image in use: zone limits and etas, declared shape, PAIR, FCDECL, KEYIDX -/
  zoneLim : List Nat := [0x3000, 0x3000, 0x3000, 0x3000]
  zoneEta : List Nat := [850, 850, 850, 850]
  fcdecl : Bool := false
  imgKey : Nat := 0
  /-- periods since the start of the Orrery, slots and edges since the slot-grid origin -/
  dper : Nat := 0
  die : Nat := 0
  epoch : Nat := 0
  /-- budget epochs since the start of the Orrery (R27) -/
  ep : Nat := 0
  slot : Nat := 0
  /-- slot boundaries since the start of the Orrery, each with its pulse of fab_slot_stb (R176) -/
  slotStb : Nat := 0
  /-- an attribution epoch has closed and is not yet published; a telemetry record is due (R231, R398) -/
  pubDue : Bool := false
  telDue : Bool := false
  /-- per zone, the sum over its districts of measured current (mA over 10 district periods) times V_ref (R44) -/
  zoneFeed : List Nat := [0, 0, 0, 0]
deriving DecidableEq, Repr, Inhabited

/-- The hidden state of the test-signal generator (R149 to R152). -/
structure TstS where
  armed : Bool := false
  s : Nat := 0
  p : Nat := 0
  hold : Nat := 0
  bit : Bool := false
  g : Int := 0
  dur : Nat := 0
  stop : Nat := 0
deriving DecidableEq, Repr, Inhabited

/-- What the last die period boundary took from the BUD and GRP pages for use until the next one (R271): the caps of the classes
and of the die, ADMCAP_EN, the quotas of the galleries, COOL_SRC, SKIP_MAX, EXC_T. -/
structure BudLat where
  caps : List Nat
  adm : Bool
  quota : List Nat
  cool : Nat
  skipMax : Nat
  excT : Nat
deriving DecidableEq, Repr, Inhabited

/-- The hidden state of the budget sequencer (R249 to R266). -/
structure BudS where
  /-- window history, newest first: class and die currents in 0.25 A -/
  hist : List (Nat × Nat × Nat × Nat) := []
  lat : Option BudLat := none
  tra : Nat := 0
  rx : List Nat := [0, 0, 0]
  rxD : Nat := 0
  excOn : Nat := 0
  excOff : Nat := 0
  gmode : Bool := false
  gfreq : Nat := 128
  gmodeNew : Bool := false
  /-- shares: in force or moving, pending the next epoch, held behind a move; the next district to move -/
  shares : List Nat := [256, 0, 0, 0, 0, 0, 0, 0]
  pend : Option (List Nat) := none
  heldW : Option (List Nat) := none
  moving : Option Nat := none
  /-- interval: entered at group mode entry, and causes seen -/
  ivNoGrp : Bool := true
  ivFchg : Bool := false
  ivCapt : Bool := false
  ivThrm : Bool := false
  ivAbsl : Bool := false
  ivSafe : Bool := false
  ivThr : Bool := false
  excEpoch : Bool := false
  warnEpoch : Bool := false
  flts : Nat := 0
  dSum : Nat := 0
  cSum : List Nat := [0, 0, 0]
  dCnt : Nat := 0
  /-- COOLANT_OK as last qualified (R268) -/
  coolPin : Bool := true
deriving DecidableEq, Repr, Inhabited

/-- Admission across the die (R192, R206, R207): registration edge and queue of each forecast that waits for its scan, in
admission order; the queue of each scan in flight, in order of issue; the barrier records. -/
structure AdmS where
  order : List (Nat × Nat) := []
  inflight : List Nat := []
  bars : Tab Barrier := []
  /-- barrier lifts: BID, district, and the slot at which it ends once that is known (R207) -/
  lifts : List (Nat × Nat × Option Nat) := []
  age : Nat := 0
  /-- the edge of the last return from DOZE (R210) -/
  back : Nat := 0
deriving DecidableEq, Repr, Inhabited

/-- Response codes of the register port (R383). -/
inductive RspCode where
  | ok | denied | error
deriving DecidableEq, Repr, Inhabited

/-- An access that waits behind a fence: over I3C or on the register port, write or read (R388), with the outcome of rows
3 and 4 of R383, the privilege and the access mask (a bit for each page), all of the edge of acceptance. The data of a read over
I3C is the number of the header that began it. -/
structure Held where
  i3c : Bool
  we : Bool
  addr : Nat
  data : Word
  right : RspCode
  priv : Bool
  mask : Nat
deriving DecidableEq, Repr, Inhabited

/-- A fence of a gallery that waits, whether it was written over I3C, its address, and the accesses accepted behind it (R388). -/
structure FenceS where
  waiting : Bool := false
  i3c : Bool := false
  addr : Nat := 0
  held : List Held := []
deriving DecidableEq, Repr, Inhabited

/-- A response of the register port. -/
structure Rsp where
  gal : Nat
  code : RspCode
  data : Nat
deriving DecidableEq, Repr, Inhabited

/-- A telemetry or capture ring (R397): base and size sampled when EN rose, how often it has risen, the entries that
wait for their writes (contents, next write to issue, writes outstanding), and the records lost since the last one
written. -/
structure RingS where
  base : Nat := 0
  log2 : Nat := 4
  gen : Nat := 0
  queue : List (List Byte × Nat × Nat) := []
  lost : Nat := 0
deriving DecidableEq, Repr, Inhabited

/-- What a telemetry record takes at its budget epoch boundary (R399). -/
structure TelS where
  /-- galleries whose ring was enabled at the boundary with TEL_EN = 1 -/
  gals : Nat := 0
  flags : Nat := 0
  opsec : Nat := 0
  ticks : Nat := 0
  dev : Nat := 0
  dmean : Nat := 0
  dmax : Nat := 0
  cmean : List Nat := [0, 0, 0]
  resid : Nat := 0
  /-- per gallery, E_q summed over the queues bound to it (R231) -/
  geq : List Nat := []
  don : Nat := 0
  dred : Nat := 0
  ivl : Nat := 0
  flts : Nat := 0
  /-- by district: mean IMEAS, V_ref, lowest hub minimum -/
  dist : List (Nat × Nat × Nat) := []
deriving DecidableEq, Repr, Inhabited

/-- A write outstanding on the memory write port (R396, R481): its ring, the rise of EN and the entry that it serves; one that counted as an error after 1 ms keeps its identifier until
its completion. -/
structure MemW where
  id : Nat
  ring : Nat
  gen : Nat
  ent : Nat
  addr : Nat
  data : List Byte
  dead : Bool := false
deriving DecidableEq, Repr, Inhabited

/-- The hidden state of the capture engine (R400 to R403): the configuration in force since arming; periods until the
next frame; frames of the chunk being filled; frames kept before the trigger; closed chunks that wait for the ring; the
number of the next chunk; frames still to take; the gap record that is open, whether it has its chunk, its first period
and the samples lost in it; the period of the trigger frame; a trigger that has arisen; the end chunk has been put. -/
structure CapS where
  gal : Nat := 0
  trig : Nat := 0
  nch : Nat := 1
  div : Nat := 0
  pre : Nat := 0
  post : Nat := 0
  divCnt : Nat := 0
  frames : List (Nat × List Nat) := []
  preBuf : List (Nat × List Nat) := []
  chunks : List (List Byte) := []
  seq : Nat := 0
  left : Nat := 0
  gapOpen : Bool := false
  gapHeld : Bool := false
  gapPer : Nat := 0
  gapLost : Nat := 0
  tper : Nat := 0
  trigDue : Bool := false
  endPut : Bool := false
deriving DecidableEq, Repr, Inhabited

/-- A slice of the housekeeping ADC (R272 to R275). -/
structure SliceS where
  /-- powered, and past its start-up delay (R273) -/
  on : Bool := false
  ready : Bool := false
  /-- the conversion in progress: true for an injected entry; its channel or entry index -/
  cur : Option (Bool × Nat) := none
  reg : List Nat := []
  inj : List Nat := []
  bad : Bool := false
  /-- coefficients formed while out of service, in force at the return to service (R274) -/
  calDone : Bool := false
  newOfs : Int := 0
  newGain : Nat := 0x8000
deriving DecidableEq, Repr, Inhabited

/-- The hidden state of the housekeeping ADC (R277 to R284). -/
structure AdcS where
  slices : Tab SliceS := []
  /-- a START was written before CLK_HK ran; a rotation waits for the conversions in progress (R274, R277) -/
  startDue : Bool := false
  rotDue : Bool := false
  /-- injected sequences that interrupted the present round (R284) -/
  injRound : Nat := 0
  /-- results by channel: 12-bit code, round number, and whether it was converted as a differential one; those of the injected
  entries: 12-bit code, and the same (R285) -/
  res : Tab (Nat × Nat × Bool) := []
  injRes : Tab (Nat × Bool) := []
  /-- the thermal point of the round in progress is still to come; the last round failed its checks (R281) -/
  therm : Bool := false
  refBad : Bool := false
deriving DecidableEq, Repr, Inhabited

/-- The hidden state of the thermal sequencer (R286 to R296). -/
structure ThmS where
  /-- operating ticks at which the cooling timer started (R295) -/
  cool : Option Nat := none
  /-- level driven low on THERMTRIP_N -/
  trip : Bool := false
  /-- a thermal point has passed since the reset of the control complex (R137, R296, R333) -/
  seen : Bool := false
  /-- a sensor that is not retired stood at SHUT at the last thermal point (R293) -/
  hot : Bool := false
  /-- operating seconds of the last three trips, newest first, counted without the base (R294) -/
  trips : List Nat := []
  /-- the WARN threshold in force since the last thermal point (R301) -/
  warn : Nat := 0x5F0
deriving DecidableEq, Repr, Inhabited

/-- The hidden state of the ageing sequencer (R297 to R299). -/
structure AgeS where
  reading : Bool := false
  /-- operating second of the last timed read and of the last record write -/
  lastRead : Nat := 0
  lastWrite : Nat := 0
  changed : Bool := false
  /-- no valid record was found and no read has followed (R298) -/
  fresh : Bool := true
  /-- slot of the newest record and its SEQ -/
  slot : Nat := 1
  seq : Nat := 0
  /-- the last write failed its read-back (R299) -/
  retry : Bool := false
  /-- the write at SLEEP entry is still to come (R299, R314) -/
  due : Bool := false
deriving DecidableEq, Repr, Inhabited

/-- The calibration data in force (R347, R348): conversion of the thermal sensors, trims, ageing offsets, gains. -/
structure CalS where
  inUse : Bool := false
  digest : List Byte := []
  tg : Tab Nat := []
  tofs : Tab Int := []
  f0 : Int := 0
  f1 : Int := 0
  b0 : Int := 0
  b1 : Int := 0
  b2 : Int := 0
  sgain : Tab Int := []
  dofs : Tab Int := []
  /-- the 64 KiB staging buffer while it is open (R349): bytes that are not 0xFF -/
  stag : Option (List Host.Cell) := none
  /-- a commit in progress -/
  commit : Bool := false
deriving DecidableEq, Repr, Inhabited

/-- A sequenced frame sent on Contrail and not yet acknowledged (R359, R361). -/
structure TxFrame where
  ty : Nat
  seq : Nat
  pay : List Nat
  tries : Nat := 0
deriving DecidableEq, Repr, Inhabited

/-- The hidden state of a Contrail port (R353 to R375). -/
structure PortS where
  /-- module present (R372); the receiver is aligned (R355); frames sent and unacknowledged, oldest first; frames waiting for room
  among the 16 -/
  present : Bool := false
  aligned : Bool := false
  tx : List TxFrame := []
  waiting : List (Nat × List Nat) := []
  txSeq : Nat := 0
  rxSeq : Nat := 0
  /-- a NAK has been sent and the expected frame not yet accepted -/
  nakOut : Bool := false
  /-- reason of the last BYE that Korrath sent, and the bytes of the last frame that it sent (R356) -/
  bye : Option Nat := none
  wire : List Byte := []
  lastAck : Option Nat := none
  /-- the last ACK (true) or NAK sent and the number it named -/
  ctl : Option (Bool × Nat) := none
  /-- CAPS received since the last die period boundary; zone feed limit in force, 0.25 A -/
  capsNew : Bool := false
  limit : Nat := 0
  /-- a departure by ALERT holds the limit at 0 until the next CAPS (R370) -/
  alertHold : Bool := false
  /-- a departure stands, VFEED left its window meanwhile, and it has not been reported, since a reset took the port out of UP
  (R374, R418) -/
  departed : Bool := false
  feedBad : Bool := false
  unsaid : Bool := false
  /-- SETPOINT last sent: VSET, FCAST, NDIST -/
  sp : Option (Nat × Nat × Nat) := none
  /-- VFEED_meas of R44: 0.25 mV, from the TELEM accepted before the last boundary; TELEM seen and not stale -/
  vmeas : Nat := 6400
  telNew : Option Nat := none
  stale : Bool := true
  /-- TRIM frames carried a DV other than 0 since TRIM_EN rose -/
  trimmed : Bool := false
  coolBad : Bool := false
deriving DecidableEq, Repr, Inhabited

/-- The hidden state of the I3C target (R389 to R394). -/
structure I3cS where
  mwl : Nat := 256
  mrl : Nat := 250
  raddr : Nat := 0
  /-- an IBI and a Hot-Join are being requested -/
  ibi : Bool := false
  hj : Bool := false
  /-- the bus is ignored until the HDR Exit Pattern -/
  hdr : Bool := false
  /-- bytes that the last transaction returned; the last address header was NACKed -/
  resp : List Byte := []
  nack : Bool := false
  /-- the five bytes of the read that has been begun, or that it still waits behind a write; the number of the header that began
  it; registers still to shift out of the present private read, and its length (R392) -/
  pre : Option (List Byte) := none
  pend : Bool := false
  hdrNo : Nat := 0
  todo : Nat := 0
  len : Nat := 0
deriving DecidableEq, Repr, Inhabited

/-- The SPDM session (R449). -/
structure SessS where
  reqSid : Nat
  rspSid : Nat
  established : Bool
  seqIn : Nat
  seqOut : Nat
  /-- transcript of the key exchange, from which the keys derive -/
  th : List Byte
deriving DecidableEq, Repr, Inhabited

/-- The weights delivery (R453). -/
structure DelivS where
  opened : Bool := false
  /-- the bytes of the stream so far -/
  str : List Byte := []
  full : Bool := false
deriving DecidableEq, Repr, Inhabited

/-- The hidden state of attestation and debug (R437 to R457). -/
structure SecS where
  idReady : Bool := false
  entFail : Bool := false
  req : Tab Byte := []
  rsp : List Byte := []
  /-- the request handed over: secured, length; the answer formed and not yet in the buffer: secured, bytes -/
  busy : Option (Bool × Nat) := none
  done : Option (Bool × List Byte) := none
  zeroPend : Bool := false
  chain : Tab Byte := []
  committed : List Byte := []
  vca : List Byte := []
  m1m2 : List Byte := []
  l1l2 : List Byte := []
  sess : Option SessS := none
  key : Option (Nat × List Byte × List Byte) := none
  deliv : DelivS := {}
  /-- invasive debug has been requested and not yet enabled: 1 JTAG, 2 gallery (R456) -/
  dbgReq : Nat := 0
  /-- the values of the measurement blocks 1 to 8, and the committed chain, at the edge of the SEND (R446, R458) -/
  snap : List (List Byte) := []
  snapChain : List Byte := []
  /-- SRAM words that DBGACC has written, by array and address (R457) -/
  dbg : Tab (BitVec 64) := []
  /-- digests of the image in use and of the weights image in the array (R447) -/
  imgDigest : List Byte := []
  wDigest : List Byte := []
  /-- a weights image that arrived while no control image was in use, with its digest (R346) -/
  wHeld : Option (List Byte × WeightsImg) := none
deriving DecidableEq, Repr, Inhabited

/-- The fill level driven to the fabric of a district, fab_fill_ack as last sampled, and SWON as the last slot boundary took it
from DST_FILL (R170). -/
structure FabS where
  fill : Nat := 0
  fillAck : Bool := true
  swon : Nat := 0x271
deriving DecidableEq, Repr, Inhabited

/-- The state of the block. -/
structure State where
  cfg : Integ
  /-- the fuse map once it has been read (R323) -/
  fuse : Option FuseMap := none
  /-- every register field, by register address (an indexed register by selection); unlisted: its reset word -/
  regs : Tab Word := []
  cells : Tab CellS := []
  phases : Tab PhaseS := []
  law : Tab LawS := []
  hub : Tab HubS := []
  anv : Tab AnvS := []
  book : Tab BookS := []
  queues : Tab QueueS := []
  fcs : Tab FcsS := []
  fo : Tab FoS := []
  pwr : Tab PwrS := []
  fab : Tab FabS := []
  ports : Tab PortS := []
  coef : Tab CoefSet := []
  weights : Tab WeightSet := []
  adm : AdmS := {}
  bud : BudS := {}
  tst : TstS := {}
  adc : AdcS := {}
  thm : ThmS := {}
  age : AgeS := {}
  cal : CalS := {}
  dev : DevS := {}
  flt : FltS := {}
  arc : ArcS := {}
  exh : ExhS := {}
  /-- fences by gallery, and the responses of the register port to the last access -/
  fence : Tab FenceS := []
  rsps : List Rsp := []
  i3c : I3cS := {}
  /-- rings: 2g telemetry, 2g + 1 capture of gallery g -/
  rings : Tab RingS := []
  tel : TelS := {}
  mw : List MemW := []
  cap : CapS := {}
  sec : SecS := {}
  /-- the package flash: bytes that are not 0xFF (R327); the 256-byte page buffer of the IMG page -/
  flash : List Host.Cell := []
  pageBuf : List Byte := []
  /-- operating time in ticks since cold reset, and the base in seconds (R422) -/
  ticks : Nat := 0
  base : Nat := 0
  /-- the model's own counter of free values (no part of the hardware) -/
  free : Nat := 0
  /-- the commands that wait, first in, first out -/
  pending : List Instr := []
deriving DecidableEq, Repr, Inhabited

/-! ### Reset -/

/-- The registers whose reset word depends on the configuration: BUD_DCAP stands at 192 and 150 codes for each district
(R250). -/
def initRegs (c : Integ) : Tab Word :=
  [(R.BUD_DCAP_ABS.base, withBits (withBits 0 R.BUD_DCAP_ABS.lo R.BUD_DCAP_ABS.w (192 * c.n)) R.BUD_DCAP_DCAP.lo
    R.BUD_DCAP_DCAP.w (150 * c.n))]

/-- The block under cold reset, with the integration data of its hard macro and the content of its package flash: every
register at its reset word, every cell and district OFF, no command waiting. -/
def State.resetOf (c : Integ) (flash : List Host.Cell) : State := { cfg := c, regs := initRegs c, flash := flash }

/-- The integration data of the macro that the model's reset stands for: a ZK2400-08 in one feed zone. -/
def Integ.zk08 : Integ :=
  { n := 8, zone := List.replicate 8 0, rclass := [0, 0, 0, 0, 0, 1, 2, 0], cgrp := List.range 8,
    boundary := List.replicate 8 0, ccsup := 7, saddr := 0x52, mipi := 0, neigh := [], fioNbr := 0, bgNbr := 1, jedec := 0 }

/-- The limits of the integration data (R3, R6, R46, R48): 8 to 64 districts, each with a zone of at most 16, a rail class, a
coupling group named by its lowest member and lying in one zone and one class, boundary cells among its 16, each with its
neighbours named in that group; the control complex is supplied by one district of class compute. -/
def Integ.wf (c : Integ) : Bool :=
  let ds := List.range c.n
  let z (d : Nat) := c.zone.getD d 0
  let k (d : Nat) := c.rclass.getD d 0
  let g (d : Nat) := c.cgrp.getD d d
  decide (8 ≤ c.n) && decide (c.n ≤ 64) && decide (c.ccsup < c.n) && k c.ccsup == 0
    && (ds.all fun d => decide (z d < 4) && decide (k d < 3) && decide (c.boundary.getD d 0 < 2 ^ 16)
      && decide (g d ≤ d) && g (g d) == g d && z (g d) == z d && k (g d) == k d)
    && ([0, 1, 2, 3].all fun i => decide ((ds.filter fun d => z d == i).length ≤ 16))
    && (c.neigh.all fun x => decide (x.1 < c.n) && (c.boundary.getD x.1 0).testBit x.2.1 && decide (x.2.2 < c.n) && x.2.2 != x.1
      && g x.2.2 == g x.1)
    && (ds.all fun d => (List.range 16).all fun j =>
      !(c.boundary.getD d 0).testBit j || c.neigh.any fun x => x.1 == d && x.2.1 == j)

/-- The state right after reset: cold reset stands, and the package flash is erased. -/
def State.reset : State := State.resetOf Integ.zk08 []

end Sys2Proof.Machine
end

