-- ==== Sys2Proof/Machine/Ops.lean ====
section
/-!
DEFINITION. The named operations over the state that every family uses: the register file, the tables, the integration
data, masks and privileges, fault reports, Archive records, interrupts, triggers and free values.
-/
namespace Sys2Proof.Machine

/-! ### Tables and bytes -/

/-- The entry at key `k`, or the default of its kind. -/
def tabAt {α : Type} [Inhabited α] (t : Tab α) (k : Nat) : α := (tabGet t k).getD default

/-- The table with the entry at `k` changed by `f`. -/
def tabUpd {α : Type} [Inhabited α] (t : Tab α) (k : Nat) (f : α → α) : Tab α := tabPut t k (f (tabAt t k))

/-- The `n` bytes of a number, least significant first. -/
def leBytes : Nat → Nat → List Byte
  | 0, _ => []
  | n + 1, v => BitVec.ofNat 8 v :: leBytes n (v / 256)

/-- The number whose bytes these are, least significant first. -/
def ofLe : List Byte → Nat
  | [] => 0
  | b :: r => b.toNat + 256 * ofLe r

/-- `n` bytes of a list from offset `o`, 0x00 beyond its end. -/
def bytesAt (l : List Byte) (o n : Nat) : List Byte := ((l.drop o) ++ List.replicate n 0#8).take n

/-- A byte of a string, and a little-endian number of `n` bytes in it. -/
def byteAt (m : List Byte) (k : Nat) : Nat := (m.getD k 0).toNat
def numAt (m : List Byte) (k n : Nat) : Nat := ofLe (bytesAt m k n)

/-- The list cut or filled with 0x00 to `n` bytes. -/
def fit (n : Nat) (l : List Byte) : List Byte := bytesAt l 0 n

/-- AES-256 in counter mode (R441, R453): every byte meets its byte of the key stream, in either direction. -/
def ctrCrypt (key iv l : List Byte) : List Byte := l.mapIdx fun i b => b ^^^ Config.keyStream key iv i

/-- AES-256-GCM: the ciphertext and its tag, and the plaintext where a tag is correct. -/
def gcmSeal (key iv aad l : List Byte) : List Byte :=
  ctrCrypt key iv l ++ fit 16 (Config.gcmTag key iv aad (ctrCrypt key iv l))
def gcmOpen (key iv aad l : List Byte) : Option (List Byte) :=
  let c := l.take (l.length - 16)
  if 16 ≤ l.length ∧ l.drop (l.length - 16) = fit 16 (Config.gcmTag key iv aad c) then some (ctrCrypt key iv c) else none

/-- The list filled with 0x00 to a multiple of `k` bytes. -/
def padTo (k : Nat) (l : List Byte) : List Byte := l ++ List.replicate ((k - l.length % k) % k) 0#8

/-- CRC-16 with polynomial 0x1021 and initial value 0xFFFF, most significant bit first (R299, R357). -/
def crc16Step (c : Nat) : Nat → Nat
  | 0 => c
  | n + 1 => crc16Step (if c.testBit 15 then (2 * c) % 65536 ^^^ 0x1021 else 2 * c % 65536) n
def crc16 (l : List Byte) : Nat := l.foldl (fun c b => crc16Step (c ^^^ (b.toNat * 256)) 8) 0xFFFF

/-- The package flash at an address: an unlisted byte is erased, 0xFF. -/
def memByte (m : List Host.Cell) (a : Nat) : Byte := (tabGet m a).getD 0xFF#8

/-- A memory with one byte written, in canonical form: a byte of 0xFF is not listed. -/
def memPut (m : List Host.Cell) (a : Nat) (b : Byte) : List Host.Cell := if b = 0xFF#8 then tabDel m a else tabPut m a b

/-- A memory with a list of bytes written from an address. -/
def memWrite (m : List Host.Cell) (a : Nat) : List Byte → List Host.Cell
  | [] => m
  | b :: r => memWrite (memPut m a b) (a + 1) r

/-- A memory with a list of bytes programmed from an address: programming only clears bits. -/
def memProg (m : List Host.Cell) (a : Nat) : List Byte → List Host.Cell
  | [] => m
  | b :: r => memProg (memPut m a (memByte m a &&& b)) (a + 1) r

/-- A memory with every byte of [a, a + n) erased. -/
def memErase (m : List Host.Cell) (a n : Nat) : List Host.Cell :=
  List.filter (fun c => decide (c.1 < a) || decide (a + n ≤ c.1)) m

/-- A memory in which `n` bytes from an address hold the digits of a number: what an interrupted command leaves. -/
def memLeave (m : List Host.Cell) (a n v : Nat) : List Host.Cell := memWrite m a (leBytes n v)

/-- `n` bytes of a memory from an address. -/
def memRead (m : List Host.Cell) (a n : Nat) : List Byte := (List.range n).map fun k => memByte m (a + k)

/-- The canonical form of a memory: strictly rising addresses, no listed byte erased. -/
def memWf (m : List Host.Cell) : Bool := tabWf m && m.all fun c => c.2 != 0xFF#8

/-! ### The register file -/

/-- The register word under a key; an unlisted one holds its reset word. -/
def State.word (s : State) (k : Nat) (rst : Nat) : Word := (tabGet s.regs k).getD (BitVec.ofNat 32 rst)

/-- The content of a field. -/
def State.get (s : State) (F : Fld) (i : Nat := 0) : Nat := bitsOf (s.word (F.key i) F.rst) F.lo F.w

/-- The content of a field read as a signed code. -/
def State.getI (s : State) (F : Fld) (i : Nat := 0) : Int := signedOf F.w (s.get F i)

/-- Whether a field is not 0. -/
def State.flag (s : State) (F : Fld) (i : Nat := 0) : Bool := s.get F i != 0

/-- A field takes a value, cut to its width. -/
def State.set (s : State) (F : Fld) (i : Nat) (v : Nat) : State :=
  { s with regs := tabPut s.regs (F.key i) (withBits (s.word (F.key i) F.rst) F.lo F.w v) }

/-- A field takes a signed value, saturated to its range. -/
def State.setI (s : State) (F : Fld) (i : Nat) (x : Int) : State :=
  s.set F i (codeOf F.w (clampTo (-(2 : Int) ^ (F.w - 1)) ((2 : Int) ^ (F.w - 1) - 1) x))

/-- A field takes a count, saturated at its largest code. -/
def State.setSat (s : State) (F : Fld) (i : Nat) (v : Nat) : State := s.set F i (satU F.w v)

/-- A counter rises and saturates. -/
def State.inc (s : State) (F : Fld) (i : Nat := 0) (by_ : Nat := 1) : State := s.setSat F i (s.get F i + by_)

/-- A counter rises and wraps. -/
def State.incWrap (s : State) (F : Fld) (i : Nat := 0) (by_ : Nat := 1) : State := s.set F i (s.get F i + by_)

/-- An event bit of a page or a status bit sets. -/
def State.raise (s : State) (F : Fld) (i : Nat := 0) : State := s.set F i 1

/-- A bit of a field with a bit for each unit sets. -/
def State.raiseBit (s : State) (F : Fld) (i b : Nat) : State := s.set F i (s.get F i ||| 2 ^ b)

/-- A bit of a field with a bit for each unit clears. -/
def State.clearBit (s : State) (F : Fld) (i b : Nat) : State :=
  if (s.get F i).testBit b then s.set F i (s.get F i - 2 ^ b) else s

/-- An event bit sets where a condition holds. -/
def State.raiseIf (s : State) (c : Bool) (F : Fld) (i : Nat := 0) : State := if c then s.raise F i else s

/-- The state changed by `f` for each number of a list in turn. -/
def State.each (s : State) (l : List Nat) (f : State → Nat → State) : State := l.foldl f s

/-! ### Configuration (R3 to R7, R46 to R48) -/

/-- The configured districts. -/
def State.districts (s : State) : List Nat := List.range s.cfg.n

def State.zoneOf (s : State) (d : Nat) : Nat := s.cfg.zone.getD d 0
def State.classOf (s : State) (d : Nat) : Nat := s.cfg.rclass.getD d 0
def State.groupOf (s : State) (d : Nat) : Nat := s.cfg.cgrp.getD d d
def State.boundaryOf (s : State) (d : Nat) : Nat := s.cfg.boundary.getD d 0

/-- The districts of a feed zone. -/
def State.inZone (s : State) (z : Nat) : List Nat := s.districts.filter fun d => s.zoneOf d == z

/-- Whether a feed zone has districts (R6). -/
def State.zoneUsed (s : State) (z : Nat) : Bool := !(s.inZone z).isEmpty

/-- The districts of the coupling group of a district (R48). -/
def State.inGroup (s : State) (d : Nat) : List Nat := s.districts.filter fun e => s.groupOf e == s.groupOf d

/-- Whether a district belongs to the supply coupling group (R46, R48). -/
def State.isSupply (s : State) (d : Nat) : Bool := s.groupOf d == s.groupOf s.cfg.ccsup

/-- The supply coupling group. -/
def State.supply (s : State) : List Nat := s.inGroup s.cfg.ccsup

/-- Whether the configuration is a large one (R5). -/
def State.large (s : State) : Bool := decide (17 ≤ s.cfg.n)

/-- The global index of cell `c` of a district (R4), and its district and place. -/
def cellIx (d c : Nat) : Nat := 16 * d + c

/-- The cells of a district, by global index. -/
def cellsOf (d : Nat) : List Nat := (List.range 16).map (cellIx d)

/-! ### Device state and time -/

/-- PWR_STAT.DEV codes (R311). -/
abbrev devBoot : Nat := 0
abbrev devRun : Nat := 1
abbrev devQuiet : Nat := 2
abbrev devDoze : Nat := 3
abbrev devSleep : Nat := 4
abbrev devHold : Nat := 5
abbrev devOff : Nat := 6

/-- PWR_STAT.DEV. -/
def State.devSt (s : State) : Nat := s.get R.PWR_STAT_DEV

/-- PWR_DSTAT.STATE of a district: 0 OFF, 1 RETAIN, 2 ON (R304). -/
def State.dst (s : State) (d : Nat) : Nat := s.get R.PWR_DSTAT_STATE d

def State.isOn (s : State) (d : Nat) : Bool := s.dst d == 2

/-- Operating seconds and ticks of 1/65,536 s (R422). -/
def State.opsec (s : State) : Nat := (s.base + s.ticks / 65536) % 2 ^ 32
def State.tick (s : State) : Nat := s.ticks % 65536

/-- Whether CLK_CTL runs from the PLL (R320). -/
def State.onPll (s : State) : Bool := s.flag R.CLK_STAT_SRC

/-- A free value of `w` bits: nothing constrains it; the counter moves on. -/
def State.freeBits (s : State) (w : Nat) : Nat × State := (Config.freeVal s.free % 2 ^ w, { s with free := s.free + 1 })

/-! ### Galleries: masks and privilege (R379, R380, R463) -/

/-- Whether page `p` is a GAL page. -/
def isGalPage (p : Nat) : Bool := decide (0x18 ≤ p) && decide (p ≤ 0x1F)

/-- The eight mask words of a gallery, by word. -/
def accFld (j : Nat) : Fld := { R.GAL_ACC0_MASK with base := R.GAL_ACC0_MASK.base + 4 * j }
def prvFld (j : Nat) : Fld := { R.GAL_PRV0_MASK with base := R.GAL_PRV0_MASK.base + 4 * j }

/-- The pages whose bit is fixed in the access masks, and in the privilege masks, of galleries 1 to 7 (R380). -/
def accFixed (p : Nat) : Bool := isGalPage p
def prvFixed (p : Nat) : Bool := isGalPage p || p == 0x03 || p == 0x05 || p == 0x15

/-- The access mask of a gallery at a page, with the fixed bits of R380. -/
def State.access (s : State) (g p : Nat) : Bool :=
  if g = 0 then true
  else if accFixed p then p == 0x18 + g
  else (s.get (accFld (p / 32)) g).testBit (p % 32)

/-- The privilege mask of a gallery at a page, with the fixed bits of R380. -/
def State.privMask (s : State) (g p : Nat) : Bool :=
  if g = 0 then true
  else if prvFixed p then false
  else (s.get (prvFld (p / 32)) g).testBit (p % 32)

/-- Whether a page can be locked (R460). -/
def lockable (p : Nat) : Bool := !(p == 2 || p == 3 || p == 6 || p == 7 || p == 8)

/-- The privilege in force: none on a locked page (R463). -/
def State.priv (s : State) (g p : Nat) : Bool := s.privMask g p && !(lockable p && s.flag R.PG_CTL_LOCK p)

/-! ### Interrupts (R393, R395) -/

/-- The gallery bound to the I3C target (R392). -/
def State.bound (s : State) : Option Nat := if s.flag R.I3C_CTL_BIND_EN then some (s.get R.I3C_CTL_GAL) else none

/-- GAL_ISTAT AND GAL_IEN of a gallery; hpt_irq of the gallery is high while it is not 0. -/
def State.irqBits (s : State) (g : Nat) : Nat := s.get R.GAL_ISTAT_IRQ g &&& s.get R.GAL_IEN_IRQ g

/-- After a change from `s0`: an IBI is requested where a bit of the bound gallery has risen and IBIs are enabled. -/
def State.ibiCheck (s : State) (s0 : State) : State :=
  match s.bound with
  | none => s
  | some g =>
    if (s.irqBits g &&& (0x7F - s0.irqBits g)) != 0 && s.flag R.I3C_STAT_ENINT
    then { s with i3c := { s.i3c with ibi := true } } else s

/-- A bit of GAL_ISTAT sets in one gallery. -/
def State.irq (s : State) (g b : Nat) : State := (s.raiseBit R.GAL_ISTAT_IRQ g b).ibiCheck s

/-- A bit of GAL_ISTAT sets in every gallery whose access mask holds the page. -/
def State.irqAll (s : State) (b page : Nat) : State :=
  s.each (List.range 8) fun s g => if s.access g page then s.irq g b else s

/-! ### Triggers -/

/-- The capture engine has its trigger: it runs, and its next frame is the trigger frame (R401, R402). -/
def State.capRuns (s : State) : State :=
  { (s.set R.CAP_STAT_STATE 0 2).set R.CAP_STAT_TRIGD 0 1 with cap := { s.cap with trigDue := true } }

/-- The capture trigger of code `c` arises (R401): it moves an ARMED engine to RUN. -/
def State.capTrig (s : State) (c : Nat) : State :=
  if s.get R.CAP_STAT_STATE == 1 && s.cap.trig == c then s.capRuns else s

/-- An Exhibit trigger of the given source bit is registered (R432). -/
def State.exhTrig (s : State) (b : Nat) : State := { s with exh := { s.exh with trig := s.exh.trig ||| 2 ^ b } }

/-- A grant-queue event named in EXH_GQ arises: bit 0 REVOKE, 1 BARTMO, 2 LEDGER (R432). -/
def State.exhGq (s : State) (ev : Fld) : State :=
  if s.flag R.EXH_CTL_GQ_EN && s.flag ev then s.exhTrig 3 else s

/-! ### Fault reports (R406 to R411) -/

/-- Source identifiers (R409). -/
def srcOf (ty ix : Nat) : Nat := ty * 0x1000 + ix % 0x1000

/-- Class codes (R411). -/
abbrev clsWiring : Nat := 0x01
abbrev clsPll : Nat := 0x02
abbrev clsSync : Nat := 0x03
abbrev clsNolock : Nat := 0x04
abbrev clsVfeed : Nat := 0x05
abbrev clsModloss : Nat := 0x06
abbrev clsCoolant : Nat := 0x07
abbrev clsThermal : Nat := 0x08
abbrev clsSafestop : Nat := 0x09
abbrev clsArith : Nat := 0x0A
abbrev clsArithp : Nat := 0x0B
abbrev clsMemdbe : Nat := 0x0C
abbrev clsLedger : Nat := 0x0D
abbrev clsCell : Nat := 0x0E
abbrev clsSensor : Nat := 0x0F
abbrev clsStorm : Nat := 0x10
abbrev clsAnvil : Nat := 0x11
abbrev clsSupcap : Nat := 0x12
abbrev clsDark : Nat := 0x13
abbrev clsSwfail : Nat := 0x14
abbrev clsAdccal : Nat := 0x15
abbrev clsAdcref : Nat := 0x16

/-- The reaction of a class (R410, R411): 0 REC, 1 ALM, 2 HOLD, 3 OFF. -/
def reactOf (cls : Nat) : Nat :=
  if cls ∈ [0x02, 0x05, 0x07, 0x08, 0x09] then 3
  else if cls ∈ [0x06, 0x0B, 0x0D, 0x12, 0x16] then 2
  else if cls ∈ [0x0A, 0x0E] then 0
  else 1

/-- Whether a report of the class starts the injected ADC sequence (R411). -/
def adcOf (cls : Nat) : Bool := decide (cls ∈ [0x05, 0x06, 0x07, 0x09, 0x12])

/-- A source drives a report on its line, unless the line is masked (R406, R407). -/
def State.report (s : State) (cls cause src : Nat) : State :=
  if (src, cls) ∈ s.flt.masked then s
  else { s with flt := { s.flt with lines := s.flt.lines ++ [{ cls := cls, cause := cause, src := src }] } }

/-- Whether the cause of a class stands (R415). -/
def State.stands (s : State) (cls : Nat) : Bool := (s.get R.FLT_CAUSE_CAUSE).testBit cls

/-- Whether a cause of the given reaction stands (R415), the wiring causes included (R407). -/
def State.standing (s : State) (react : Nat) : Bool :=
  ((List.range 0x17).any fun c => 1 < c && reactOf c == react && s.stands c)
    || (react == 2 && s.flt.wireHold) || (react == 3 && s.flt.wireOff)

/-! ### Archive records (R423 to R429) -/

/-- The length of a staged record in bytes. -/
def Rec.len (r : Rec) : Nat := 16 + (padTo 16 r.payload).length

/-- The bytes staged. -/
def ArcS.bytes (a : ArcS) : Nat := a.staged.foldl (fun n r => n + r.len) 0

/-- The size of the staging queue and the room always kept for an OVERFLOW record. -/
abbrev stagingSize : Nat := 32768
abbrev overflowRoom : Nat := 32

/-- A record enters the staging queue; in staging-only mode it takes its number there. -/
def State.enqueue (s : State) (kind : Nat) (payload : List Byte) : State :=
  let only := s.get R.ARC_STAT_MODE == 3
  let num : Nat := match s.arc.lastAcc with
    | some a => a + 1
    | none => 0
  let r : Rec := { kind := kind, payload := payload, opsec := s.ticks / 65536, ticks := s.tick,
                   acc := if only then some num else none }
  let s := { s with arc := { s.arc with staged := s.arc.staged ++ [r],
                                        lastAcc := if only then some num else s.arc.lastAcc } }
  let s := if only then (s.set R.ARC_HEAD_ACC 0 num).set R.ARC_STAT_EMPTY 0 0 else s
  s.setSat R.ARC_STAT_STGB 0 s.arc.bytes

/-- The OVERFLOW record is staged once there is room again (R429). -/
def State.stageOverflow (s : State) : State :=
  if s.arc.dropCnt != 0 && decide (s.arc.bytes + 2 * overflowRoom ≤ stagingSize) then
    let s' := s.enqueue 0x05 (leBytes 4 s.arc.dropCnt ++ leBytes 4 s.arc.dropFirst)
    { s' with arc := { s'.arc with dropCnt := 0, dropFirst := 0 } }
  else s

/-- A record is stamped and placed in the staging queue, or dropped and counted when there is no room (R423, R429);
the Archive runs while the control complex does. -/
def State.stage (s : State) (kind : Nat) (payload : List Byte) : State :=
  if !s.dev.released then s
  else
    let s := s.stageOverflow
    if s.arc.bytes + (16 + (padTo 16 payload).length) + overflowRoom ≤ stagingSize then s.enqueue kind payload
    else
      let s := (s.inc R.ARC_DROP_STAGE).raise R.ARC_FLT_OVF
      { s with arc := { s.arc with dropCnt := s.arc.dropCnt + 1,
                                   dropFirst := if s.arc.dropCnt = 0 then s.ticks / 65536 else s.arc.dropFirst } }

/-- An EVENT record (R425, R426). -/
def State.event (s : State) (code a0 : Nat) (a1 : Nat := 0) (a2 : Nat := 0) : State :=
  s.stage 0x03 (leBytes 2 code ++ leBytes 2 (Config.eventSrc code a0) ++ leBytes 4 a0 ++ leBytes 4 a1 ++ leBytes 4 a2)

/-! ### Zone feed and the zones' modules (R44, R45) -/

/-- The port of a zone. -/
def State.port (s : State) (p : Nat) : PortS := tabAt s.ports p

/-- A port changed. -/
def State.updPort (s : State) (p : Nat) (f : PortS → PortS) : State := { s with ports := tabUpd s.ports p f }

/-- The zone feed limit in force, in 0.25 A: 0 unless the port is UP with CAPS in force (R44, R45). -/
def State.zoneLimit (s : State) (z : Nat) : Nat :=
  if s.get R.LNK_PSTAT_STATE z == 4 && !(s.port z).alertHold
  then min (s.port z).limit (s.dev.zoneLim.getD z 0x3000) else 0

/-! ### Wake (R316, R318) -/

/-- Sources of a wake, as PWR_STAT.WSRC codes them. -/
abbrev wakeI3c : Nat := 1
abbrev wakeForecast : Nat := 2
abbrev wakeLink : Nat := 3
abbrev wakeWrite : Nat := 4

/-- Whether a source acts in SLEEP (2) or DOZE (1): the columns of R316. -/
def wakeActs (target src : Nat) : Bool := target == 1 || src == wakeI3c || src == wakeLink

/-- DEV_REQ code of a device state that the device returns to. -/
def reqCode (dev : Nat) : Nat := if dev = devQuiet then 1 else 0

/-- A wake is registered: WSRC is loaded and counted; DOZE begins its exit, SLEEP ends in BOOT, and DEV_REQ is rewritten to the
state that the device returns to (R311, R313). -/
def State.wakeNow (s : State) (src lnk : Nat) : State :=
  let s := (s.set R.PWR_STAT_WSRC 0 src).inc R.PWR_STAT_WAKES
  let s := if src = wakeLink then s.set R.PWR_STAT_WLNK 0 lnk else s
  if s.devSt == devSleep then
    { (s.set R.PWR_STAT_DEV 0 devBoot).set R.PWR_CTL_DEV_REQ 0 0 with dev := { s.dev with wakeDue := true, bootCause := 3 } }
  else { s.set R.PWR_CTL_DEV_REQ 0 (reqCode s.dev.before) with dev := { s.dev with dozeExit := true, gated := false } }

/-- A wake source arises (R316): it acts in the states in which it is listed; during the entry of such a state it is
latched (R318); elsewhere it has no effect. -/
def State.wake (s : State) (src lnk : Nat) : State :=
  if s.dev.entry ≠ 0 then
    if wakeActs s.dev.entry src then
      let s := (s.set R.PWR_STAT_WPEND 0 1).raise R.PWR_FLT_WDUR
      { s with dev := { s.dev with wakeSrc := src, wakeLnk := lnk } }
    else s
  else if (s.devSt == devSleep && wakeActs 2 src) || (s.devSt == devDoze && !s.dev.dozeExit && wakeActs 1 src)
  then s.wakeNow src lnk else s

/-- A latched wake acts once the entry has completed (R318). -/
def State.wakePending (s : State) : State :=
  if s.flag R.PWR_STAT_WPEND then (s.set R.PWR_STAT_WPEND 0 0).wakeNow s.dev.wakeSrc s.dev.wakeLnk else s

end Sys2Proof.Machine
end

