-- ==== Sys2Proof/Machine/Operands.lean ====
section
/-!
DEFINITION. How an access of a host names a register and its fields (R15, R460 to R463), the checks it meets (R383,
R17, R381), and how its data is stored in each field (R16 to R19, R88).
-/
namespace Sys2Proof.Machine

/-! ### Pages and registers -/

/-- The registers of a page by offset, but for the common header (R460). -/
def pageRegs (p : Nat) : List RegDef :=
  match p with
  | 0x00 => R.sysRegs
  | 0x01 => R.clkRegs
  | 0x02 => R.pwrRegs
  | 0x03 => R.secRegs
  | 0x04 => R.calRegs
  | 0x05 => R.imgRegs
  | 0x06 => R.exhRegs
  | 0x07 => R.fltRegs
  | 0x08 => R.arcRegs
  | 0x09 => R.telRegs
  | 0x0A => R.capRegs
  | 0x0B => R.orrRegs
  | 0x0C => R.loopRegs
  | 0x0D => R.budRegs
  | 0x0E => R.grpRegs
  | 0x0F => R.fcsRegs
  | 0x10 => R.gqRegs
  | 0x11 => R.adcRegs
  | 0x12 => R.thmRegs
  | 0x13 => R.ageRegs
  | 0x14 => R.lnkRegs
  | 0x15 => R.i3cRegs
  | 0x16 => R.hptRegs
  | 0x17 => R.anvRegs
  | _ =>
    if isGalPage p then R.galRegs
    else if 0x40 ≤ p ∧ p < 0x80 then R.dstRegs
    else if 0x80 ≤ p ∧ p < 0xC0 then R.celRegs
    else []

/-- The registers of the common header that are stored (R461). -/
def hdrRegs : List RegDef :=
  [⟨0xC, [R.PG_CTL_LOCK]⟩, ⟨0x18, [R.PG_FLTMASK_MASK]⟩, ⟨0x1C, [R.PG_EXH_SEQ_SEQ]⟩]

/-- Whether a page exists in the configuration (R8, R460). -/
def State.pageOk (s : State) (p : Nat) : Bool :=
  decide (p < 0x20) || (decide (0x40 ≤ p) && decide (p < 0x40 + s.cfg.n))
    || (decide (0x80 ≤ p) && decide (p < 0x80 + s.cfg.n))

/-- The offset under which a register of a page is listed: the cells of a CEL page share one list of four. -/
def listOff (p off : Nat) : Nat :=
  if 0x80 ≤ p ∧ p < 0xC0 ∧ 0x80 ≤ off ∧ off < 0x180 then 0x80 + (off - 0x80) % 0x10 else off

/-- The register at an address, if one lies there. -/
def findReg (addr : Nat) : Option RegDef :=
  let p := addr / 0x1000
  let off := addr % 0x1000
  if off < 0x14 ∨ (0x14 < off ∧ off < 0x40) then hdrRegs.find? fun r => r.off == off
  else (pageRegs p).find? fun r => r.off == listOff p off

/-- The unit that the selection register of an indexed register names. -/
def State.bankSel (s : State) (base : Nat) : Nat :=
  let o := base % 0x1000
  match base / 0x1000 with
  | 0x02 => s.get R.PWR_DSEL_DIST
  | 0x04 => s.get R.CAL_PSEL_PH
  | 0x0B => s.get R.ORR_DSEL_DIST
  | 0x0D => if o == 0x90 then s.get R.BUD_DSEL_DIST else s.get R.BUD_GSEL_GAL
  | 0x0F => if o == 0x74 then s.get R.FCS_QSEL_QUEUE else s.get R.FCS_DSEL_DIST
  | 0x10 => s.get R.GQ_QSEL_QUEUE
  | 0x11 => if o == 0x78 then s.get R.ADC_RSEL_CH else s.get R.ADC_CAL_SLICE
  | 0x12 => if o == 0x54 then s.get R.THM_SEL_IDX else s.get R.THM_DSEL_DIST
  | 0x13 => if o == 0x50 then s.get R.AGE_SEL_MON else s.get R.AGE_SEL_DIST
  | 0x14 => s.get R.LNK_PSEL_PORT
  | 0x17 => s.get R.ANV_SEL_IDX
  | _ => 0

/-- Whether the unit that the selection names is configured; an indexed read beyond the configuration answers 0
(R271, R301, R378 and the like). -/
def State.bankOk (s : State) (base : Nat) : Bool :=
  let i := s.bankSel base
  match base / 0x1000 with
  | 0x02 => decide (i < s.cfg.n)
  | 0x04 => decide (i < 64 * s.cfg.n)
  | 0x0B => decide (i < s.cfg.n)
  | 0x0D => if base % 0x1000 == 0x90 then decide (i < s.cfg.n) else true
  | 0x0F => if base % 0x1000 == 0x74 then decide (i < 256 * s.cfg.n) else decide (i < s.cfg.n)
  | 0x10 => decide (i < 256 * s.cfg.n)
  | 0x11 => if base % 0x1000 == 0x78 then true else decide (i < 5)
  | 0x12 => if base % 0x1000 == 0x54 then decide (i < 4 * s.cfg.n) else decide (i < s.cfg.n)
  | 0x13 => if base % 0x1000 == 0x50 then decide (i < 4 * s.cfg.n) else decide (i < s.cfg.n)
  | 0x14 => s.zoneUsed i
  | 0x17 => decide (i < 4 * s.cfg.n)
  | _ => true

/-- The instance of a field that an access at an address reaches. -/
def State.instOf (s : State) (F : Fld) (addr : Nat) : Nat :=
  let p := addr / 0x1000
  match F.inst with
  | .one => 0
  | .page => p - F.base / 0x1000
  | .cell => 16 * (p - 0x80) + (addr % 0x1000 - 0x80) / 0x10
  | .bank => s.bankSel F.base

/-- The content of a register as stored: every field at its place; a WO field reads 0 (R16, R18). -/
def State.content (s : State) (r : RegDef) (addr : Nat) : Word :=
  r.flds.foldl (fun w F => if F.acc == .wo || (F.inst == .bank && !s.bankOk F.base) then w
    else withBits w F.lo F.w (s.get F (s.instOf F addr))) 0

/-- The address at which a host reaches instance `i` of a field. -/
def Fld.addr (F : Fld) (i : Nat) : Nat :=
  match F.inst with
  | .bank => F.base
  | _ => F.key i

/-- The data of a write that acts on one field and leaves the settings beside it as they stand (R17, R381). -/
def State.rowWord (s : State) (F : Fld) (i v : Nat) : Word :=
  let addr := F.addr i
  let w0 : Word := match findReg addr with
    | none => 0
    | some r => r.flds.foldl (fun w G => if G.acc == .rw || G.acc == .rwp || G.acc == .rws
        then withBits w G.lo G.w (s.get G (s.instOf G addr)) else w) 0
  withBits w0 F.lo F.w v

/-! ### The checks (R383) -/



/-- A word with bit `k` set for each `k` that a test selects. -/
def wordOf (p : Nat → Bool) : Word := (List.range 32).foldl (fun w k => if p k then withBits w k 1 1 else w) 0

/-- A mask register of a GAL page, with the fixed bits of R380. -/
def State.maskWord (s : State) (g off : Nat) : Word :=
  if off < 0x60 then wordOf fun k => s.access g (8 * (off - 0x40) + k) else wordOf fun k => s.privMask g (8 * (off - 0x60) + k)

/-- The bits of a mask register of a GAL page that a write can change (R380). -/
def maskFree (g off : Nat) : Word :=
  if g = 0 then 0
  else if off < 0x60 then wordOf fun k => !accFixed (8 * (off - 0x40) + k) else wordOf fun k => !prvFixed (8 * (off - 0x60) + k)

/-- Whether the data of a write reaches a field (R17): where it would act on it. A setting is reached by data other than its
content, a mask register by a change outside its fixed bits (R380), a field that commands an action by a 1 or a non-zero
code; CLK_SRC.SEL, which then reads 1, only by the 1 that selects (R320). PG_CTL.LOCK, a setting on which a 0 has no effect and
which is RO on a page that is not lockable, is reached by a 1 that differs from its content, on a lockable page (R461, R463;
DEDUCED, assumption 129). -/
def State.reaches (s : State) (F : Fld) (addr : Nat) (data : Word) : Bool :=
  let v := bitsOf data F.lo F.w
  let c := s.get F (s.instOf F addr)
  let off := addr % 0x1000
  match F.reach with
  | .setting =>
    if F.acc == .w1c || F.acc == .wo then v != 0
    else if isGalPage (addr / 0x1000) && decide (0x40 ≤ off) && decide (off < 0x80) then
      let g := addr / 0x1000 - 0x18
      ((data ^^^ s.maskWord g off) &&& maskFree g off) != 0
    else v != c
  | .command => v != 0 && (v != c || (F.base != R.CLK_SRC_SEL.base && F.base != R.PG_CTL_LOCK.base))
      && (F.base != R.PG_CTL_LOCK.base || lockable (addr / 0x1000))
  | .buffer => true

/-- The owner-only fields (R381). -/
def ownerOnly : List Fld :=
  [R.PWR_CTL_WRST, R.PWR_WAKE_LNK_EN, R.BUD_SHR0_SH1, R.BUD_SHR0_SH2, R.BUD_SHR0_SH3, R.BUD_SHR0_SH4, R.BUD_SHR1_SH5,
   R.BUD_SHR1_SH6, R.BUD_SHR1_SH7, R.BUD_GQUOTA_QUOTA, R.GQ_QCTL_GAL, R.GRP_STAT_COOLLOSS]

/-- The registers whose every write needs the privilege (R349, R350). -/
def alwaysPriv (addr : Nat) : Bool := addr ∈ [0x404C, 0x4050, 0x4054, 0x5054, 0x5058, 0x505C]

/-- Whether a register holds the selected queue (R212). -/
def queueReg (addr : Nat) : Bool := addr ∈ [0x1004C, 0x10050, 0x10054, 0x10058]

/-- Whether a write is turned away for want of privilege or ownership: row 4 of R383. -/
def State.noRight (s : State) (g addr : Nat) (data : Word) : Bool :=
  let p := addr / 0x1000
  match findReg addr with
  | none => false
  | some r =>
    (!s.priv g p && (alwaysPriv addr || r.flds.any fun F => F.acc == .rwp && s.reaches F addr data))
      || (g != 0 && r.flds.any fun F => decide (F ∈ ownerOnly) && s.reaches F addr data)

/-- Rows 3 and 4 of R383, by the masks and the contents of the edge of acceptance (R383, R17). -/
def State.rights (s : State) (g : Nat) (we : Bool) (addr : Nat) (data : Word) : RspCode :=
  if !s.access g (addr / 0x1000) then .denied
  else if we && s.noRight g addr data then .denied
  else .ok

/-- Rows 1 and 2 of R383 before an outcome of the rows after them. -/
def State.rowsOneTwo (s : State) (addr : Nat) (right : RspCode) : RspCode :=
  let p := addr / 0x1000
  if !s.dev.released && p != 2 then .error
  else if addr % 4 != 0 || decide (0x100000 ≤ addr) || !s.pageOk p || (queueReg addr && !s.bankOk addr) then .error
  else right

/-- The response to an access (R383): the first row whose condition holds. -/
def State.check (s : State) (g : Nat) (we : Bool) (addr : Nat) (data : Word) : RspCode :=
  s.rowsOneTwo addr (s.rights g we addr data)

/-- A DENIED or ERROR is counted, shown and, where the log is free, logged (R383). -/
def State.logBad (s : State) (g : Nat) (we : Bool) (addr : Nat) (code : RspCode) : State :=
  let s := match code with
    | .denied => (s.inc R.HPT_CNT_DENIALS).raise R.HPT_FLT_DENACC
    | .error => (s.inc R.HPT_CNT_ERRORS).raise R.HPT_FLT_ERRACC
    | .ok => s
  if s.flag R.HPT_ELOG_VALID || code == .ok then s
  else ((((s.raise R.HPT_ELOG_VALID).set R.HPT_ELOG_CODE 0 (if code == .denied then 1 else 2)).set R.HPT_ELOG_WR 0
    (if we then 1 else 0)).set R.HPT_ELOG_GAL 0 g).set R.HPT_ELOG_ADDR 0 addr

/-- The register port answers an access. -/
def State.respond (s : State) (g : Nat) (code : RspCode) (data : Nat) : State :=
  { s with rsps := s.rsps ++ [{ gal := g, code := code, data := data }] }

/-- The responses to earlier accesses have been taken. -/
def State.newAccess (s : State) : State := { s with rsps := [] }

/-- A write of a gallery, past its fence and with its outcome: answered, and it takes effect where that is OK. -/
def State.writeWith (s : State) (g addr : Nat) (code : RspCode) (eff : State → State) : State :=
  match code with
  | .ok => (eff s).respond g .ok 0
  | c => (s.logBad g true addr c).respond g c 0

/-- A write of a gallery, past its fence: checked in the order of R383. -/
def State.writeNow (s : State) (g addr : Nat) (data : Word) (eff : State → State) : State :=
  s.writeWith g addr (s.check g true addr data) eff

/-- The access mask of a gallery as a number, a bit for each page (R380). -/
def State.maskBits (s : State) (g : Nat) : Nat :=
  (List.range 256).foldl (fun m p => if s.access g p then m + 2 ^ p else m) 0

/-- An access as it waits. -/
def State.heldOf (s : State) (g : Nat) (i3c we : Bool) (addr : Nat) (data : Word) : Held :=
  ⟨i3c, we, addr, data, s.rights g we addr data, s.priv g (addr / 0x1000), s.maskBits g⟩

/-- The places of the register port that a gallery holds: its fence, and the accesses behind it (R382, R388). -/
def FenceS.places (f : FenceS) : Nat := (f.held.filter fun h => !h.i3c).length + (if f.waiting && !f.i3c then 1 else 0)

/-- An access behind a waiting fence is held; a gallery holds at most 16 accesses of the register port without a response, and one
that presents more is not ready (R382, R388). Over I3C there is no response, and no such bound. -/
def State.holdAccess (s : State) (g : Nat) (i3c we : Bool) (addr : Nat) (data : Word) : State :=
  let f : FenceS := tabAt s.fence g
  if i3c || decide (f.places < 16) then
    { s with fence := tabPut s.fence g { f with held := f.held ++ [s.heldOf g i3c we addr data] } }
  else s

/-- A write of a gallery on the register port. -/
def State.hostWrite (s : State) (g addr : Nat) (data : Word) (eff : State → State) : State :=
  let s := s.newAccess
  if (tabAt s.fence g).waiting then s.holdAccess g false true addr data else s.writeNow g addr data eff

/-- An effect that only a gallery with the privilege for a page has: a write without it that reaches no RWP field is answered OK
and leaves those fields as they stand (R17). -/
def State.ifPriv (s : State) (g p : Nat) (eff : State → State) : State := if s.priv g p then eff s else s

/-- A write that carries the value `v` for one field, with the settings beside it as they stand, and its effect. -/
def State.hostRow (s : State) (g : Nat) (F : Fld) (i v : Nat) (eff : State → State) : State :=
  s.hostWrite g (F.addr i) (s.rowWord F i v) eff

/-! ### Storing -/

/-- The CFGSAT bit of a page: bit 8 of the ORR page, bit 18 of the CEL pages, bit 0 elsewhere. -/
def cfgsatBit (p : Nat) : Nat := if p = 0x0B then 8 else if 0x80 ≤ p ∧ p < 0xC0 then 18 else 0

/-- A configuration code of the page was saturated. -/
def State.cfgsat (s : State) (p : Nat) : State := s.raiseBit R.PG_FLT_FLT p (cfgsatBit p)

/-- A code within the range of a field: the nearer end, and whether it moved (R88). -/
def Fld.inRange (F : Fld) (v : Nat) : Nat × Bool :=
  match F.rng with
  | none => (v, false)
  | some (lo, hi) =>
    let x : Int := if F.sgn then signedOf F.w v else (v : Int)
    let y := clampTo lo hi x
    (codeOf F.w y, decide (x ≠ y))

/-- The data of a write stored in one field, under its access type (R16 to R19). -/
def State.storeFld (s : State) (priv : Bool) (addr : Nat) (data : Word) (F : Fld) : State :=
  let v := bitsOf data F.lo F.w
  let i := s.instOf F addr
  let put : State :=
    let (c, sat) := F.inRange v
    let s := s.set F i c
    if sat then s.cfgsat (addr / 0x1000) else s
  match F.acc with
  | .ro | .wo => s
  | .w1c => s.set F i (s.get F i &&& (2 ^ F.w - 1 - v))
  | .rw | .rws => put
  | .rwp => if priv && F.reach == .setting then put else s

/-- The data of a write stored in a register's settings and event bits; `priv` is the privilege in force. -/
def State.storeReg (s : State) (priv : Bool) (addr : Nat) (data : Word) : State :=
  match findReg addr with
  | none => s
  | some r => r.flds.foldl (fun s F => s.storeFld priv addr data F) s

end Sys2Proof.Machine
end

