-- ==== Sys2Proof/Machine/Reset.lean ====
section
/-!
DEFINITION. The reset of the control complex (R302, R303, R418): what keeps its content, and what returns to its reset
value.
-/
namespace Sys2Proof.Machine

/-- The page of a field, of its instance 0. -/
def Fld.page (F : Fld) : Nat := F.base / 0x1000

/-- Fields outside the RWS type and the always-on pages that keep their content across warm reset: those that the spec
describes so, the counts since cold reset, and the state of hardware that a warm reset does not reach. -/
def keptFlds : List Fld :=
  [R.DST_REF_VREF, R.DST_TH_STAT_STATE, R.DST_TH_STAT_SRC, R.DST_TH_STAT_STORMD, R.DST_TH_STAT_ANV_RDY,
   R.DST_TH_STAT_TRIP, R.DST_TH_CNT_MAXEXIT, R.DST_TH_CNT_FIRES, R.DST_RGN_STAT_CHANGES,
   R.DST_FO_CNT_LOSSES, R.DST_FO_CNT_DARKS, R.DST_FO_CNT_RESTARTS, R.ANV_STAT_STATE, R.ANV_STAT_LASTLEN,
   R.ANV_STAT_VST, R.ANV_CNT_RELEASES, R.LNK_PSTAT_PRSNT, R.LNK_CNT1_DOWNS, R.THM_STAT_STATE, R.THM_STAT_TRIPS,
   R.THM_STAT_COOLMS, R.THM_STAT_DMAX, R.THM_TRIP0_SEC, R.THM_TRIP1_SEC, R.THM_TRIP2_SEC, R.AGE_CNT_READS,
   R.AGE_CNT_WRITES, R.AGE_LAST_SEC, R.ORR_SCRUB_PASSES, R.TEL_CNT_RECORDS, R.CAL_CSTAT_COMMITS, R.GRP_STAT_COOLLOSS,
   R.GRP_IVL_VALID, R.GRP_IVL_TF, R.GRP_IVL_NOGRP, R.GRP_IVL_FCHG, R.GRP_IVL_CAPT, R.GRP_IVL_THRM, R.GRP_IVL_ABSL,
   R.GRP_IVL_SAFE, R.GRP_IVL_EPOCH, R.FCS_EPOCH_EPOCH, R.EXH_SEQ_SEQ, R.SEC_DBG_INV, R.SEC_DBG_JTAG, R.SEC_DBG_GAL,
   R.SEC_DBG_TAPACT, R.I3C_STAT_DA, R.I3C_STAT_DAV, R.ARC_STAT_MODE, R.ARC_STAT_EMPTY, R.ARC_STAT_STGB, R.ARC_HEAD_ACC,
   R.ARC_BASE_ACC, R.ARC_WPOS_OFS, R.ADC_STAT_BAD, R.ADC_STAT_OUT]

/-- Whether a field keeps its content across warm reset (R302, R303, R468): the always-on PWR page, the RWS fields, the
state of the cells and of the fault collector, and the fields above. -/
def Fld.kept (F : Fld) : Bool :=
  F.acc == .rws || F.page == 2 || (F.acc == .ro && (F.page == 7 || decide (0x80 ≤ F.page))) || decide (F ∈ keptFlds)

/-- A register word after a warm reset: every field of the PWR page keeps its content, the common header's too, but for PG_EXH_SEQ,
which every reset of the control complex clears (R433). -/
def warmWord (key : Nat) (w : Word) : Word :=
  if key % 0x100000 / 0x1000 = 2 then (if key % 0x1000 = 0x1C then 0 else w)
  else match findReg (key % 0x100000) with
  | none => 0
  | some r => r.flds.foldl (fun a F => if F.kept then withBits a F.lo F.w (bitsOf w F.lo F.w) else a)
      (match r.flds with
        | [] => 0
        | F :: _ => BitVec.ofNat 32 F.rst)

/-- The register file after a warm reset. -/
def warmRegs (c : Integ) (m : Tab Word) : Tab Word :=
  (initRegs c).foldl (fun m r => tabPut m r.1 r.2) (m.map fun r => (r.1, warmWord r.1 r.2))

/-- The classes whose causes survive the reset of the control complex (R418, R407). -/
def keptCauses (c : Nat) : Nat :=
  (List.range 0x17).foldl (fun m k => if c.testBit k && (k == 1 || reactOf k == 3) then m + 2 ^ k else m) 0

/-- A district's law after the reset: what its hub applied last stays at the hub. -/
def LawS.warm (l : LawS) : LawS :=
  { (default : LawS) with applied := l.applied, appliedV := l.appliedV, vref := l.vref, missed := 2, missedHi := 2 }

/-! ### The calibration set in flash (R347, R348) -/

/-- CRC-32, reflected, of a byte string (R347). -/
def crc32Step (c : Nat) : Nat → Nat
  | 0 => c
  | n + 1 => crc32Step (if c % 2 = 1 then c / 2 ^^^ 0xEDB88320 else c / 2) n
def crc32 (l : List Byte) : Nat := l.foldl (fun c b => crc32Step (c ^^^ b.toNat) 8) 0xFFFFFFFF ^^^ 0xFFFFFFFF

/-- A field of `n` bytes in a calibration set. -/
def calField (m : List Host.Cell) (o n : Nat) : Nat := ofLe (memRead m o n)
def calSigned (m : List Host.Cell) (o n : Nat) : Int := signedOf (8 * n) (calField m o n)

/-- What the checks of R348 find, as CAL_STAT.STATE codes it: 1 in use, 2 not bound to this die, 3 corrupt. -/
def calState (m : List Host.Cell) (dieId : Nat) : Nat :=
  if calField m 0 4 != 0x4C414354 || calField m 5 1 != 1 || calField m 0xFFFC 4 != crc32 (memRead m 0 0xFFFC) then 3
  else if calField m 8 8 != dieId then 2 else 1

/-! ### What an interruption leaves in the flash (R349, R351) -/

/-- What an interrupted commit leaves in the calibration region: open, but no valid set (R349). -/
def commitLeft (m : List Host.Cell) (v dieId : Nat) : List Host.Cell :=
  let t := memLeave m 0 0x10000 v
  if calState t dieId = 1 then memPut t 0 0x00 else t

/-- A commit is refused, or its programming fails. -/
def State.calRefuse (s : State) (r : Nat) : State := (s.set R.CAL_CSTAT_RESULT 0 r).raise R.CAL_FLT_CMTFAIL

/-- The Archive record of a commit that was accepted (R349, R425). -/
def State.commitRec (s : State) : State := s.event 0x000A (s.word R.CAL_CSTAT_BUSY.base R.CAL_CSTAT_BUSY.rst).toNat

/-- A calibration commit or slot command in progress ends at once: what it leaves in its range is open (R351). The record of the
commit names a flash error (assumption 124). -/
def State.stopFlash (s : State) : State :=
  let s := if s.cal.commit then
      let (v, s) := s.freeBits (8 * 0x10000)
      { ((s.set R.CAL_CSTAT_BUSY 0 0).calRefuse 4).commitRec with
        cal := { s.cal with commit := false }, flash := commitLeft s.flash v (s.fuse.getD default).dieId }
    else s
  match s.dev.pgm with
  | none => s
  | some (k, a) =>
    let n := if k = 1 then 0x1000 else 0x100
    let (v, s) := s.freeBits (8 * n)
    { s.set R.IMG_PSTAT_BUSY 0 0 with dev := { s.dev with pgm := none }, flash := memLeave s.flash a n v }

/-! ### Records of the Archive (R424), and what a power-down leaves of one (R435) -/

/-- CRC-8 with polynomial 0x07 over one byte. -/
def crc8Step (c : Nat) : Nat → Nat
  | 0 => c
  | n + 1 => crc8Step (if c.testBit 7 then (2 * c) % 256 ^^^ 0x07 else 2 * c % 256) n

/-- CRC-8 of a byte string, initial value 0. -/
def crc8 (l : List Byte) : Nat := l.foldl (fun c b => crc8Step (c ^^^ b.toNat) 8) 0

/-- The length of the region and its address in the package flash (R327, R423). -/
abbrev arcSize : Nat := 0x400000
def State.arcAt (s : State) : Nat := s.dev.dens - arcSize

/-- The bytes of a record. -/
def recBytes (mark kind acc opsec ticks pcyc : Nat) (payload : List Byte) : List Byte :=
  let p := padTo 16 payload
  let len := p.length / 16
  let tail := leBytes 4 acc ++ leBytes 4 opsec ++ leBytes 2 ticks ++ leBytes 2 pcyc ++ p
  let crc := crc8 ([BitVec.ofNat 8 kind, BitVec.ofNat 8 len, 0] ++ tail)
  [BitVec.ofNat 8 mark, BitVec.ofNat 8 kind, BitVec.ofNat 8 len, BitVec.ofNat 8 crc] ++ tail

/-- The accession number that follows the last one. -/
def State.nextAcc (s : State) : Nat :=
  match s.arc.lastAcc with
  | some a => (a + 1) % 2 ^ 32
  | none => 0

/-- The payload of a record as it is programmed: the OPSEC that an OVERFLOW record carries is an operating time, to which the base
is added as to the stamp of the record (R422, R425, R427). -/
def Rec.full (r : Rec) (base : Nat) : List Byte :=
  if r.kind = 0x05 then r.payload.take 4 ++ leBytes 4 (numAt r.payload 4 4 + base) else r.payload

/-- A staged record under a number, as it is programmed (R427). -/
def State.recOf (s : State) (r : Rec) (acc : Nat) : List Byte :=
  recBytes 0xA7 r.kind acc (r.opsec + s.base) r.ticks s.arc.pcyc (r.full s.base)

/-- The control complex loses its power (R435): whether the oldest staged record was being programmed is open, and so is how much
of it stands then, each bit as the record has it or still erased; its MARK is not yet programmed (assumption 132). -/
def State.tearRecord (s : State) : State :=
  match s.arc.staged with
  | [] => s
  | r :: _ =>
    if s.get R.ARC_STAT_MODE != 1 || decide (arcSize - 16 < s.get R.ARC_WPOS_OFS + r.len) then s
    else
      let (busy, s) := s.freeBits 1
      let (v, s) := s.freeBits (8 * r.len)
      if busy = 0 then s
      else
        let b := (s.recOf r s.nextAcc).zip (leBytes r.len v) |>.map fun (x : Byte × Byte) => x.1 ||| x.2
        { s with flash := memProg s.flash (s.arcAt + s.get R.ARC_WPOS_OFS + 1) (b.drop 1) }

/-! ### The reset -/

/-- A port at the reset of the control complex (R373, R418): it goes to RESET, which is a departure of one in UP, but for Korrath's
BYE, while a district of its zone is not OFF. DEDUCED (assumption 95): the report of that departure is lost in the reset; the
departure stands, and is reported where the module is absent after the release. -/
def State.portWarm (s : State) (p : Nat) (x : PortS) : PortS :=
  let left := s.get R.LNK_PSTAT_STATE p == 4 && x.bye.isNone && (s.inZone p).any fun d => s.dst d != 0
  { (default : PortS) with present := x.present, departed := x.departed || left, feedBad := x.departed && x.feedBad,
                            unsaid := x.unsaid || left }

/-- A district whose darkening has stopped its clocks and set its clamps, and not yet its cells, is NORMAL and ON again with the
reset (R244, R303): both are released. -/
def State.undarken (s : State) (d : Nat) : State :=
  let p : PwrS := tabAt s.pwr d
  if s.get R.DST_FO_STAT_STATE d == 2 && s.isOn d && p.step == .idle
  then (s.set R.PWR_DSTAT_CSTOP d 0).set R.PWR_DSTAT_ISO d 0 else s

/-- The control complex is reset (R302, R303, R418): registers as above; its hidden state starts afresh. The always-on
domain, the cells, hubs, anvil cells and the integrator's flash are not reached, but for a command on the flash that it interrupts.
A write outstanding on the memory port keeps its identifier until its completion (R481), and ERR_ALIVE goes low with the collector
(R419). -/
def State.ccReset (s : State) : State :=
  let s := s.each s.districts State.undarken
  let s := s.stopFlash
  let d := s.dev
  let s1 : State := { s with
    regs := warmRegs s.cfg s.regs, law := s.law.map fun (x : Nat × LawS) => (x.1, x.2.warm), book := [], queues := [], fcs := [],
    hub := s.hub.map fun (x : Nat × HubS) => (x.1, { x.2 with ret := 0 }),
    fo := s.fo.map fun (x : Nat × FoS) => (x.1, { (default : FoS) with lossC := x.2.lossC, lossP := x.2.lossP, goodPh := x.2.goodPh, avail := x.2.avail }), ports := s.ports.map fun (x : Nat × PortS) => (x.1, s.portWarm x.1 x.2), coef := [],
    weights := [], adm := {}, bud := { (default : BudS) with coolPin := s.bud.coolPin }, tst := {}, adc := {},
    thm := { s.thm with seen := false, hot := false, warn := 0x5F0 }, age := { s.age with reading := false, changed := false, due := false },
    flt := { s.flt with pin := false }, cal := {}, fence := [], rsps := [], rings := [], tel := {}, mw := s.mw.map fun (w : MemW) => { w with dead := true }, cap := {}, exh := { s.exh with trig := 0, copies := [] },
    sec := { (default : SecS) with dbgReq := s.sec.dbgReq }, pageBuf := [], i3c := {},
    dev := { d with calDone := false, imgDone := false, sfdp := false, orrRun := false, thermOk := false,
                    returned := false, booted := false, retIdx := 0, retWait := false, entry := 0, wakeDue := false,
                    pgm := none, gated := false, dozeExit := false, ledgerBusy := false, sleepStep := 0, zoneLim := [0x3000, 0x3000, 0x3000, 0x3000],
                    zoneEta := [850, 850, 850, 850], fcdecl := false, dper := 0, die := 0, ep := 0, slot := 0, quiet := false, fcRan := false, zoneFeed := [0, 0, 0, 0] } }
  (s1.set R.FLT_CAUSE_CAUSE 0 (keptCauses (s1.get R.FLT_CAUSE_CAUSE))).set R.FLT_STAT_ALIVE 0 0

end Sys2Proof.Machine
end

