-- ==== Sys2Proof/Machine/Keys.lean ====
section
/-!
DEFINITION. Secrets and the weights array: what zeroises the session keys, the released key and the weights (R223, R450,
R453), as several chapters name it.
-/
namespace Sys2Proof.Machine

/-- The least exponent of a block floating point vector. -/
abbrev leastExp : Int := -128

/-- The weights array is zeroised and the Forecaster takes a state with a cause (R223): its outputs fall away, and
no word of the array is bad any more (R122). -/
def State.dropWeights (s : State) (st cause : Nat) : State :=
  let s := (s.set R.FCS_STAT_STATE 0 st).set R.FCS_STAT_CAUSE 0 cause
  { s with weights := [], sec := { s.sec with wDigest := [], wHeld := none },
           fcs := s.fcs.map fun (x : Nat × FcsS) =>
             (x.1, { x.2 with out := ⟨leastExp, []⟩, outNext := ⟨leastExp, []⟩, pred1 := none, r1 := [], badWord := [] }) }

/-- The released key is zeroised (R452). -/
def State.dropKey (s : State) : State := { s.set R.SEC_KEY_HELD 0 0 with sec := { s.sec with key := none } }

/-- An open delivery ends as failed, with its RESULT: the weights array is zeroised, and the key with it (R452, R453). -/
def State.failDelivery (s : State) (result : Nat) : State :=
  if s.sec.deliv.opened then
    let s := ((s.set R.SEC_WSTAT_STATE 0 4).set R.SEC_WSTAT_RESULT 0 result).raise R.SEC_FLT_WFAIL
    { s with sec := { s.sec with deliv := {} } }.dropKey.dropWeights 0 0
  else s

/-- The session ends: its keys and the released key are zeroised, and an open delivery ends (R450, R453). -/
def State.endSession (s : State) : State :=
  let s := (s.failDelivery 6).dropKey.set R.SEC_SESS_RSPSID 0 0
  let s := if 4 ≤ s.get R.SEC_SESS_CONN then s.set R.SEC_SESS_CONN 0 3 else s
  { s with sec := { s.sec with sess := none, zeroPend := false } }

end Sys2Proof.Machine
end

