-- ==== Sys2Proof/Machine/Arith.lean ====
section
/-!
DEFINITION. Arithmetic faults of the Orrery (R110, R113, R119 to R124): their flags, counts, location and reports, and
the armed injection of ORR_INJ.
-/
namespace Sys2Proof.Machine

/-- ORR_ERRLOC loads at the first event while it is free. -/
def State.errLoc (s : State) (cause stage d : Nat) : State :=
  if s.flag R.ORR_ERRLOC_VALID then s
  else (((s.raise R.ORR_ERRLOC_VALID).set R.ORR_ERRLOC_CAUSE 0 cause).set R.ORR_ERRLOC_STAGE 0 stage).set
    R.ORR_ERRLOC_DIST 0 d

/-- A residue mismatch and an uncorrectable error are flagged and counted (R119, R122). -/
def State.resFlag (s : State) : State := (s.raise R.ORR_FLT_RES).inc R.ORR_CNT1_RES
def State.dbeFlag (s : State) : State := (s.raise R.ORR_FLT_DBE).inc R.ORR_CNT0_DBE

/-- A corrected single-bit error (R122). -/
def State.sbeFlag (s : State) (n : Nat) : State :=
  if n = 0 then s else (s.raise R.ORR_FLT_SBE).inc R.ORR_CNT0_SBE 0 n

/-- A count of saturated renormalisations (R98). -/
def State.satFlag (s : State) (n : Nat) : State := if n = 0 then s else (s.raise R.ORR_FLT_SAT).inc R.ORR_CNT1_SAT 0 n

/-- The code of ORR_ERRLOC.CAUSE for a residue mismatch, an uncorrectable word, or both (R124). -/
def errCause (residue uncor : Bool) : Nat := if residue && uncor then 3 else if uncor then 1 else 0

/-- A check of the stage of a district sequence fails: one arithmetic fault with its cause (R119, R124). DESIGN CHOICE (assumption
146): a sequence that meets several uncorrectable words counts one in ORR_CNT0.DBE. -/
def State.seqFault (s : State) (d stage : Nat) (residue uncor : Bool) : State :=
  let cause := errCause residue uncor
  let s := if residue then s.resFlag else s
  let s := if uncor then s.dbeFlag else s
  (s.errLoc cause stage d).report clsArith cause (srcOf 4 d)

/-- A check of a Forecaster step or of its attribution fails (R113). DESIGN CHOICE (assumption 111): a residue mismatch there
raises and counts RES as one in a sequence does. -/
def State.fcFault (s : State) (d stage : Nat) (residue uncor : Bool) : State :=
  let s := if residue then s.resFlag else s
  let s := if uncor then s.dbeFlag else s
  (s.errLoc (errCause residue uncor) stage d).report clsArith 4 (srcOf 4 d)

/-- A scan fails its residue check (R121). DESIGN CHOICE (assumption 111): the mismatch raises and counts RES beside
SCANFLT. DESIGN CHOICE (assumption 111): the report of a failed scan of the feature build carries CAUSE 0x05, that of a scan. -/
def State.scanFault (s : State) (d : Nat) : State :=
  ((s.raise R.ORR_FLT_SCANFLT).resFlag.errLoc 0 0xC d).report clsArith 5 (srcOf 4 d)

/-- The armed injection acts on a stage of a district: its KIND, and ARM cleared (ORR_INJ). -/
def State.takeInj (s : State) (stage d : Nat) : Nat × State :=
  if s.flag R.ORR_INJ_ARM && s.get R.ORR_INJ_STAGE == stage && s.get R.ORR_INJ_DIST == d
  then (s.get R.ORR_INJ_KIND, s.set R.ORR_INJ_ARM 0 0) else (0, s)

end Sys2Proof.Machine
end

