-- ==== Sys2Proof/Machine/Bfp.lean ====
section
/-!
DEFINITION. The arithmetic of the Orrery (R91 to R99, R114, R116): terms, stage sums, renormalisation, and the sine of
the test-signal generator (R150).
-/
namespace Sys2Proof.Machine

/-- An exact accumulator value: A × 2^E. -/
abbrev Acc := Int × Int

/-- The empty or all-zero vector's exponent (R94). -/
abbrev minExp : Int := -128

/-- Two to a power, for a shift. -/
def pow2 (k : Int) : Int := 2 ^ k.toNat

/-- An accumulator aligned to a higher exponent, rounded to nearest with ties to even (R96). -/
def align (e : Int) (a : Acc) : Int := if a.2 < e then rdiv a.1 (2 ^ (e - a.2).toNat) else a.1 * pow2 (a.2 - e)

/-- A row of a term: the sum of the products (R95). -/
def dot : List Int → List Int → Int
  | x :: xs, y :: ys => x * y + dot xs ys
  | _, _ => 0

/-- A matrix read transposed (R116). -/
def matT (a : Mat) : Mat :=
  { cols := a.rows.length, exps := a.exps, rows := (List.range a.cols).map fun j => a.rows.map fun r => r.getD j 0, t := a.t }

/-- The exponent of the block that holds row `i` (R93): one exponent stands for every row where only one is stored. -/
def matExp (a : Mat) (i : Nat) : Int := if a.exps.length = 1 then a.exps.getD 0 0 else a.exps.getD (i / 8) 0

/-- A term W·v: one accumulator for each row, or none where the reduction length is zero (R95, R107). `k` is 30, 14 or
22 as the formats of the operands set. -/
def term (k : Int) (neg : Bool) (a : Mat) (v : Vec) : Option (List Acc) :=
  if a.cols = 0 ∨ v.m.isEmpty then none
  else some ((List.range a.rows.length).map fun i =>
    ((if neg then -1 else 1) * dot (a.rows.getD i []) v.m, matExp a i + v.e - k))

/-- A vector as a term or bias of a stage: `k` is 15 for BFP16 and 7 for BFP8 (R91, R92). -/
def vecTerm (k : Int) (v : Vec) : Option (List Acc) := if v.m.isEmpty then none else some (v.m.map fun x => (x, v.e - k))

/-- One element of a stage sum (R96): the accumulators aligned to the largest exponent and added. -/
def maxExp : List Acc → Int
  | [] => minExp
  | a :: r => r.foldl (fun m b => max m b.2) a.2
def sumAcc (l : List Acc) : Acc := (l.foldl (fun n b => n + align (maxExp l) b) 0, maxExp l)

/-- The mantissa of an accumulator at a vector exponent, rounded: `k` is 15 or 7. -/
def mantAt (k e : Int) (a : Acc) : Int := align (e - k) a

/-- Whether every element fits `w`-bit mantissas at an exponent. -/
def fitsAt (w : Nat) (e : Int) (l : List Acc) : Bool :=
  l.all fun a => let x := mantAt (w - 1) e a; decide (-(2 : Int) ^ (w - 1) ≤ x) && decide (x < (2 : Int) ^ (w - 1))

/-- Renormalisation to `w`-bit mantissas (R97, R98): the vector, and whether it saturated. -/
def renorm (w : Nat) (l : List Acc) : Vec × Bool :=
  if l.all fun a => a.1 == 0 then (⟨minExp, l.map fun _ => 0⟩, false)
  else
    match ((List.range 256).map fun k => (k : Int) - 128).find? fun e => fitsAt w e l with
    | some e => (⟨e, l.map (mantAt (w - 1) e)⟩, false)
    | none =>
      (⟨127, l.map fun a => clampTo (-(2 : Int) ^ (w - 1)) ((2 : Int) ^ (w - 1) - 1) (mantAt (w - 1) 127 a)⟩, true)

/-- A vector of BFP16 from codes and other exact values. -/
def vec16 (l : List Acc) : Vec := (renorm 16 l).1

/-- The value of an element rounded to a whole code (R13). -/
def elemCode (k : Int) (v : Vec) (i : Nat) : Int := align 0 (v.m.getD i 0, v.e - k)

/-! ### Residues (R117, R118) -/

/-- The residue of an integer, modulo 7, and what a product, a sum and a negation carry. -/
def res7 (x : Int) : Nat := (x % 7).toNat
def mulRes (a b : Nat) : Nat := a * b % 7
def addRes (a b : Nat) : Nat := (a + b) % 7
def negRes (r : Nat) : Nat := (7 - r) % 7

/-- The residue that a row of a term carries beside its products; `flip` inverts bit 0 of the first product's (ORR_INJ). -/
def dotRes (flip : Bool) : List Int → List Int → Nat
  | x :: xs, y :: ys =>
    let r := mulRes (res7 x) (res7 y)
    addRes (if flip then r ^^^ 1 else r) (dotRes false xs ys)
  | _, _ => 0

/-- The check of a shift of `a` right by `s` bits that gave `q` (R118): the remainder is what the shift dropped; a shift to the
left is exact. -/
def shiftOk (a q s : Int) : Bool :=
  if 0 ≤ s then res7 a == addRes (res7 q * (2 ^ s.toNat % 7)) (res7 (a - rdiv a (2 ^ s.toNat) * 2 ^ s.toNat))
  else res7 q == mulRes (res7 a) (2 ^ (-s).toNat % 7)

/-- A term of a stage: W·v, negated or not, or a vector as it stands. -/
inductive Term where
  | mul (k : Int) (neg : Bool) (a : Mat) (v : Vec)
  | vec (k : Int) (v : Vec)

/-- The accumulators of a term, and the residue that element `i` of it carries. -/
def Term.accs : Term → Option (List Acc)
  | .mul k neg a v => term k neg a v
  | .vec k v => vecTerm k v
def Term.res (flip : Bool) (i : Nat) : Term → Nat
  | .mul _ neg a v => let r := dotRes flip (a.rows.getD i []) v.m; if neg then negRes r else r
  | .vec _ v => res7 (v.m.getD i 0)

/-- Whether a term forms products. -/
def Term.isMul : Term → Bool
  | .mul _ _ _ _ => true
  | .vec _ _ => false

/-- Element `i` of the terms that are present: each accumulator, and the residue that it carries; `flip` falls on the first
term that forms products. -/
def elemAccs (i : Nat) : Bool → List (List Acc × Term) → List (Acc × Nat)
  | _, [] => []
  | flip, t :: ts =>
    let r := elemAccs i (flip && !t.2.isMul) ts
    match t.1[i]? with
    | some a => (a, t.2.res (flip && t.2.isMul && i == 0) i) :: r
    | none => r

/-- An upset changes the first of them. -/
def strikeHead (delta : Int) : List (Acc × Nat) → List (Acc × Nat)
  | [] => []
  | (a, r) :: l => ((a.1 + delta, a.2), r) :: l

/-- The checks of one element of a stage sum: every term, every alignment, and the sum. -/
def sumOk (l : List (Acc × Nat)) : Bool :=
  let e := maxExp (l.map Prod.fst)
  l.all (fun x => res7 x.1.1 == x.2 && shiftOk x.1.1 (align e x.1) (e - x.1.2))
    && l.foldl (fun r x => addRes r (res7 (align e x.1))) 0 == res7 (sumAcc (l.map Prod.fst)).1

/-- Whether an upset falls in a stage, on an accumulator or on a rounded element. -/
def upHits (u : Upset) (st : Nat) (late : Bool) (i : Nat) : Bool := u.stage == st && u.late == late && u.elem == i

/-- A stage sum of `n` elements over its terms, under an upset, and whether its checks pass; `flip` inverts a bit of the first
product's residue. -/
def stage (flip : Bool) (u : Upset) (st n : Nat) (ts : List Term) : List Acc × Bool :=
  let al := ts.filterMap fun t => t.accs.map fun l => (l, t)
  let els := (List.range n).map fun i =>
    let l := elemAccs i flip al
    if upHits u st false i then strikeHead u.delta l else l
  (els.map fun l => sumAcc (l.map Prod.fst), els.all sumOk)

/-- Element `i` of a rounded vector under an upset. -/
def strikeElem (u : Upset) (st i : Nat) (x : Int) : Int := if upHits u st true i then x + u.delta else x

/-- The renormalisation of a stage to `w`-bit mantissas under an upset: the vector, whether it saturated, and whether its
checks pass; a saturated element is checked on its rounded value (R118). -/
def renormC (u : Upset) (st w : Nat) (l : List Acc) : Vec × Bool × Bool :=
  let (v, sat) := renorm w l
  let k : Int := (w : Int) - 1
  let ok := (List.range l.length).all fun i =>
    let a := l.getD i (0, minExp)
    a.1 == 0 && !upHits u st true i || shiftOk a.1 (strikeElem u st i (mantAt k v.e a)) (v.e - k - a.2)
  (⟨v.e, (List.range v.m.length).map fun i => strikeElem u st i (v.m.getD i 0)⟩, sat, ok)

/-! ### The scan network (R114, R117) -/

/-- What the scan network returns for one segment: its total, its highest prefix, and the index of the first element whose
prefix exceeds the threshold, 0x1FF where none does. -/
structure Seg where
  total : Int
  top : Int
  first : Nat
deriving DecidableEq, Repr, Inhabited

/-- What a scan returns: the inclusive prefixes, whether one was saturated to 32 bits, the segments in order, and whether the
residues of its adds agree. -/
structure ScanOut where
  prefixes : List Int := []
  sat : Bool := false
  segs : List Seg := []
  ok : Bool := true
deriving DecidableEq, Repr, Inhabited

/-- The first 32-bit value of a prefix. -/
def sat32 (x : Int) : Int := clampTo (-(2 : Int) ^ 31) ((2 : Int) ^ 31 - 1) x

/-- The scan from element `i` on: the prefix and the carried residue before it, the segment before it; `delta` is the change
that an upset makes to element `at_`. -/
def scanFrom (thr : Int) (at_ : Nat) (delta : Int) (i : Nat) (acc : Int) (seg : Seg) : List (Int × Bool) → ScanOut
  | [] => { segs := [seg] }
  | (v, f) :: r =>
    let x := (if f then v else acc + v) + (if i = at_ then delta else 0)
    let y := sat32 x
    let hit := if thr < y then i else 0x1FF
    let seg' : Seg := if f then { total := y, top := y, first := hit }
      else { total := y, top := max seg.top y, first := min seg.first hit }
    let o := scanFrom thr at_ delta (i + 1) y seg' r
    { prefixes := y :: o.prefixes, sat := o.sat || decide (x ≠ y), segs := if f && i != 0 then seg :: o.segs else o.segs,
      ok := o.ok && res7 x == (if f then res7 v else addRes (res7 acc) (res7 v)) }

/-- A scan of a vector with its segment-start flags (R114): flag 0 counts as set. -/
def scan (thr : Int) (at_ : Nat) (delta : Int) (l : List (Int × Bool)) : ScanOut :=
  match l with
  | [] => {}
  | (v, _) :: r => scanFrom thr at_ delta 0 0 default ((v, true) :: r)

/-! ### The sine -/

/-- The sine of a quarter turn `x / 2^22`, in units of 2^-40, by its series. -/
def quarterSine (x : Nat) : Int :=
  let t : Int := (x : Int) * 1727108826179 / 2 ^ 22
  let t2 := t * t / 2 ^ 40
  let a3 := t * t2 / 2 ^ 40 / 6
  let a5 := a3 * t2 / 2 ^ 40 / 20
  let a7 := a5 * t2 / 2 ^ 40 / 42
  let a9 := a7 * t2 / 2 ^ 40 / 72
  let a11 := a9 * t2 / 2 ^ 40 / 110
  let a13 := a11 * t2 / 2 ^ 40 / 156
  t - a3 + a5 - a7 + a9 - a11 + a13

/-- AMP × sin(2π × p / 2^24), rounded (R150). -/
def sineCode (amp : Int) (p : Nat) : Int :=
  let x := p % 2 ^ 22
  let q := p / 2 ^ 22 % 4
  let v := quarterSine (if q % 2 = 0 then x else 2 ^ 22 - x)
  rdiv (amp * (if q < 2 then v else -v)) (2 ^ 40)

end Sys2Proof.Machine
end

