-- ==== Sys2Proof/Machine/Cells.lean ====
section
/-!
DEFINITION. Regulator cells (R61 to R89): the cell loop of one switching cycle, Drizzle, soft start, hiccup, the removal
of phases, the orders of the hub, and the district's delay-locked line.
-/
namespace Sys2Proof.Machine

/-! ### Shared operations -/

/-- CEL_STAT.STATE codes (R73). -/
abbrev cOff : Nat := 0
abbrev cSoft : Nat := 1
abbrev cRun : Nat := 2
abbrev cHiccup : Nat := 3
abbrev cFailed : Nat := 4
abbrev cFused : Nat := 5

/-- The state code of a cell. -/
def State.cst (s : State) (c : Nat) : Nat := s.get R.CEL_STAT_STATE c

/-- The hidden state of a cell, and a change of it. -/
def State.cell (s : State) (c : Nat) : CellS := tabAt s.cells c
def State.updCell (s : State) (c : Nat) (f : CellS → CellS) : State := { s with cells := tabUpd s.cells c f }

/-- Whether a cell exists in the configuration (R4). -/
def State.cellOk (s : State) (c : Nat) : Bool := decide (c < 16 * s.cfg.n)

/-- A cell is available only in RUN (R87). -/
def State.avail (s : State) (c : Nat) : Bool := s.cst c == cRun

/-- The good phases of a cell, as a mask: those not removed (R85). -/
def State.good (s : State) (c : Nat) : Nat := 15 - s.get R.CEL_STAT_PH_FAIL c

/-- The number of bits set among the first `n` of a mask. -/
def popN (n m : Nat) : Nat := (List.range n).foldl (fun k i => if m.testBit i then k + 1 else k) 0

/-- The mask of the phases that may switch: good, and not disabled as sampled (R71, R75). -/
def State.usable (s : State) (c : Nat) : Nat :=
  (List.range 4).foldl
    (fun m p => if (s.good c).testBit p && !((s.cell c).phDis.testBit p) then m + 2 ^ p else m) 0

/-- The first `n` phases of a mask in the order 0, 2, 1, 3 (R78). -/
def firstActive (n m : Nat) : Nat := (([0, 2, 1, 3].filter fun p => m.testBit p).take n).foldl (fun a p => a + 2 ^ p) 0

/-- The failure counts of a cell's phases restart (R84). -/
def State.clearPhase (s : State) (c p : Nat) : State := { s with phases := tabDel s.phases (4 * c + p) }
def State.clearPhases (s : State) (c : Nat) : State := s.each [0, 1, 2, 3] fun s p => s.clearPhase c p

/-- The cell enters a state, with its availability (R87). -/
def State.setCst (s : State) (c st : Nat) : State :=
  (s.set R.CEL_STAT_STATE c st).set R.CEL_STAT_AVAIL c (if st = cRun then 1 else 0)

/-- An event of a cell: its bit of CELEV and its report (R83, R87). -/
def State.cellEvent (s : State) (c cause : Nat) : State :=
  (s.raiseBit R.CEL_FLT_CELEV (c / 16) (c % 16)).report clsCell cause (srcOf 1 c)

/-- All switches of the cell open: no phase active, no demand, every count of its phases restarts (R73, R84). DESIGN
CHOICE (assumption 139): CEL_STAT.LOCAL keeps its value while the cell does not switch. -/
def State.openSwitches (s : State) (c : Nat) : State :=
  ((s.set R.CEL_STAT_PH_ACT c 0).clearPhases c).updCell c fun x =>
    { x with act := 0, shed := 0, limCnt := 0, shortCnt := 0, window := 0, winOpen := false, dem := 0, integ := 0,
             ssDone := false }

/-- A loss of a cell, and of one of its phases, waits for the next district period boundary (R236, R237, R245). -/
def State.noteLoss (s : State) (c : Nat) : State :=
  { s with fo := tabUpd s.fo (c / 16) fun (x : FoS) => { x with lossC := tabUpd x.lossC (c % 16) fun n => n + 1 } }
def State.notePhase (s : State) (c : Nat) : State :=
  { s with fo := tabUpd s.fo (c / 16) fun (x : FoS) => { x with lossP := tabUpd x.lossP (c % 16) fun n => n + 1 } }

/-- The cell enters FAILED with a cause (R83, R85). -/
def State.cellFail (s : State) (c cause : Nat) : State :=
  (((((s.noteLoss c).openSwitches c).setCst c cFailed).set R.CEL_STAT_LAST_CAUSE c cause).set R.CEL_CUR_I_CMD c 0).cellEvent c
    (0x30 + cause)

/-- A hiccup trigger (R83): HICCUP with one more counted, or FAILED where the count is 8. -/
def State.trigger (s : State) (c cause : Nat) : State :=
  if s.get R.CEL_STAT_HIC_CNT c == 8 then s.cellFail c cause
  else
    let s := (((s.noteLoss c).openSwitches c).setCst c cHiccup).set R.CEL_STAT_LAST_CAUSE c cause
    let s := (s.inc R.CEL_STAT_HIC_CNT c).set R.CEL_CUR_I_CMD c 0
    (s.updCell c fun x => { x with offCnt := 2000 }).cellEvent c (0x20 + cause)

/-- The ILV entry of a cell (R69). -/
def State.ilv (s : State) (c : Nat) : Nat :=
  let F : Fld := { R.CEL_ILV0_ILV0 with base := R.CEL_ILV0_ILV0.base + 4 * (c % 16 / 4), lo := 8 * (c % 4),
                                        rst := [0x0C040800, 0x0E060A02, 0x0D050901, 0x0F070B03].getD (c % 16 / 4) 0 }
  s.get F (c / 16)

/-- The phases a start order could use now (R73). -/
def State.startable (s : State) (c : Nat) : Bool :=
  !s.flag R.CEL_CTL_CELL_DIS c &&
    ((List.range 4).any fun p => (s.good c).testBit p && !(s.get R.CEL_CTL_PH_DIS c).testBit p)

/-- Whether a Drizzle pair keeps the rule of R80. -/
def pairOk (add shed : Nat) : Bool := decide (shed + 50 ≤ add)

/-- Whether the pair that stands in a CEL page breaks the rule of R80. -/
def State.pairBad (s : State) (d : Nat) : Bool := !pairOk (s.get R.CEL_DRZ_DRZ_ADD d) (s.get R.CEL_DRZ_DRZ_SHED d)

/-- Drizzle of a cell may act: DRZBAD of its page is 0 (R79), and the pair of its page and the pair that it sampled keep
the rule (R80). -/
def State.drzOk (s : State) (c : Nat) : Bool :=
  !s.flag R.CEL_FLT_DRZBAD (c / 16) && !s.pairBad (c / 16) && pairOk (s.cell c).drzAdd (s.cell c).drzShed

/-- Entry into SOFTSTART (R71, R75): the configuration is sampled and the ramp starts. -/
def State.beginSoft (s : State) (c : Nat) : State :=
  let d := c / 16
  let x := s.cell c
  let vs := min x.vcell x.start
  let slew := s.get R.CEL_CFG_SS_SLEW d
  let s := s.updCell c fun x =>
    { x with held := false, target := x.start, vloc := 5 * (vs : Int), ssLeft := 5 * (x.start - vs) / slew + 500 + 1, ssDone := false,
             shortCnt := 0, limCnt := 0, remHold := 0, shed := 0, integ := 0, window := 0, winOpen := false,
             loadInteg := false, drift := 0,
             phDis := s.get R.CEL_CTL_PH_DIS c, hicN := s.get R.CEL_CFG_HIC_N d, slew := slew,
             drzEn := s.flag R.CEL_CFG_DRZ_EN d, trimMax := s.get R.CEL_CFG_TRIM_MAX d,
             gTrim := s.get R.CEL_LOOP_G_TRIM d, drzAdd := s.get R.CEL_DRZ_DRZ_ADD d,
             drzShed := s.get R.CEL_DRZ_DRZ_SHED d, skew := s.get R.CEL_SYNC_SKEW d, ilv := s.ilv c }
  let s := s.updCell c fun x => { x with act := s.usable c }
  let s := s.raiseIf (s.pairBad d) R.CEL_FLT_DRZBAD d
  ((s.setCst c cSoft).set R.CEL_STAT_LOCAL c 1).set R.CEL_CUR_I_CMD c 0

/-- The position at which a phase turns on after SYNC_IN, in 64ths of the switching period (R69). -/
def position (skew ilv p : Nat) : Nat := (skew + ilv + 16 * p) % 64

/-- The cell leaves LOCAL mode for CURRENT mode, or the reverse, with a new command and reference (R66, R67). -/
def State.cellCurrent (s : State) (c cmd vref : Nat) : State :=
  ((s.updCell c fun x => { x with vref := vref, integ := if s.flag R.CEL_STAT_LOCAL c then 0 else x.integ }).set
    R.CEL_STAT_LOCAL c 0).set R.CEL_CUR_I_CMD c cmd

def State.cellLocal (s : State) (c vloc : Nat) : State :=
  ((s.updCell c fun x => { x with vloc := 5 * (vloc : Int), target := vloc,
                                  loadInteg := x.loadInteg || !s.flag R.CEL_STAT_LOCAL c }).set
    R.CEL_STAT_LOCAL c 1).set R.CEL_CUR_I_CMD c 0

/-! ### One switching cycle -/

/-- The demand limit of `n` phases, in 1/40 mA (R65). -/
def demMax (n : Nat) : Int := 56000 * (n : Int)

/-- The demand of a cycle in 1/40 mA and the integral after it (R65, R67): LOCAL from the local reference, CURRENT from
the command and the trim. DESIGN CHOICE (assumption 105): the integral that a cycle's demand uses ends before that cycle;
the cycle's own e enters it afterwards. DESIGN CHOICE (assumption 139): the integral holds where this sum itself stands at the clamp,
whatever demand Thunderhead puts in its place. -/
def cellDemand (loc : Bool) (x : CellS) (cmd n : Nat) : Int × Int :=
  if loc then
    let e : Int := x.vloc - 5 * (x.vcell : Int)
    let integ := if x.loadInteg then x.dem - 1000 * e else x.integ
    let raw := 1000 * e + integ
    let dem := clampTo 0 (demMax n) raw
    (dem, if 0 < raw ∧ raw < demMax n then integ + e else integ)
  else
    let t := 10 * (x.gTrim : Int) * ((x.vref : Int) - (x.vcell : Int))
    let trim := clampTo (-400 * (x.trimMax : Int)) (400 * (x.trimMax : Int)) t
    (clampTo 0 (demMax n) (40 * (cmd : Int) + trim), x.integ)

/-- The state of Thunderhead of a district: 0 DISARMED, 1 ARMED, 2 FIRED, 3 TAPER (R160). -/
def State.thSt (s : State) (d : Nat) : Nat := s.get R.DST_TH_STAT_STATE d

/-- The demand under Thunderhead (R157, R158): the limit while FIRED, the decaying exit current in the taper. DESIGN CHOICE
(assumption 140): t counts whole hub samples, and the product is rounded down to 1/40 mA. -/
def State.thDemand (s : State) (c n : Nat) (dem : Int) : Int :=
  let h := tabAt s.hub (c / 16)
  if s.thSt (c / 16) == 2 then demMax n
  else if 0 < h.taper then
    max dem (clampTo 0 (demMax n) (40 * (s.cell c).iexit * (h.taper : Int) / (h.taperTot : Int)))
  else dem

/-- The inductance code of a global phase (R84, R347). -/
def State.lp (s : State) (ph : Nat) : Nat := s.get R.CAL_LP_LP ph

/-- The course of one phase in one cycle (R64), from what its senses and comparators show: a phase whose threshold, a share
of 1 in `n` of the demand, lies below its current at the turn-on edge stays off; any other is on for 0.40 ns to 9.00 ns,
to the moment that the senses give. DESIGN CHOICE (assumption 139): a limit comparator that trips at 9.00 ns exactly finds the on-time
ended by its longest value, and the cycle is not current-limited. -/
def phaseRun (dem : Int) (n : Nat) (o : PhaseObs) : PhaseObs :=
  if dem < 40 * (n : Int) * o.start then { o with onTime := 0, stop := o.start, limit := false }
  else { o with onTime := max 400 (min 9000 o.onTime), limit := o.limit && decide (o.onTime < 9000) }

/-- The checks of one phase in one cycle (R84): the counts after it. DESIGN CHOICE (assumption 106): of two counts that
complete in one cycle, open is recorded before stuck, and stuck before implausible. -/
def phaseCheck (l vfeed vcell : Nat) (o : PhaseObs) (x : PhaseS) : PhaseS :=
  let dv : Int := (vfeed : Int) - (vcell : Int)
  let vt : Int := dv * (o.onTime : Int)
  if o.onTime = 0 ∨ vt < 200000 * (l : Int) then x
  else
    let rise := o.stop - o.start
    let low := decide (8000 * rise * (l : Int) < vt)
    let opn := if low && !o.presence then x.opn + 1 else 0
    let stk := if low && o.presence then x.stk + 1 else 0
    let bad := decide (vt < 1000 * rise * (l : Int)) || o.full || decide (o.stop < -100)
    let imp := if bad then x.imp + 1 else 0
    let done := if x.done ≠ 0 then x.done else if 2 ≤ opn then 1 else if 4 ≤ stk then 2 else if 4 ≤ imp then 3 else 0
    { opn := opn, stk := stk, imp := imp, done := done }

/-- The active set of the next cycle, and the count of rule 3 (R79, R80): `u` usable phases, `a` active ones. -/
def drizzle (acts full : Bool) (x : CellS) (u a : Nat) (dem : Int) : Nat × Nat :=
  let n := popN 4 a
  if !acts || full then (u, 0)
  else if decide (40 * (n : Int) * (x.drzAdd : Int) ≤ dem) && decide (n < popN 4 u) then (firstActive (n + 1) u, 0)
  else if decide (40 * (n : Int) * (x.drzAdd : Int) ≤ dem) then (firstActive n u, 0)
  else if decide (dem ≤ 40 * ((n : Int) - 1) * (x.drzShed : Int)) && decide (1 < n)
    then (firstActive n u, min 16 (x.shed + 1))
  else (firstActive n u, 0)

/-- What one cycle does to the counts of a cell in SOFTSTART (R76, R77, R83): from the cycle in which its time runs out, a soft start
no longer completes. -/
def softCount (limited : Bool) (x : CellS) : CellS :=
  let tgt : Int := 5 * (x.target : Int)
  let v := min tgt (x.vloc + (x.slew : Int))
  { x with vloc := v, ssLeft := x.ssLeft - 1, remHold := x.remHold - 1,
           shortCnt := if limited && decide (2 * x.vcell < x.target) then min 201 (x.shortCnt + 1) else 0,
           ssDone := decide (1 < x.ssLeft) && decide (v = tgt) && decide (x.vcell ≤ x.target + 100) && decide (x.target ≤ x.vcell + 100) }

/-- The local reference of a cell in RUN moves to its target at the soft-start rate (R308, R309). -/
def rampLoc (x : CellS) : Int :=
  let t : Int := 5 * (x.target : Int)
  if x.vloc ≤ t then min t (x.vloc + (x.slew : Int)) else max t (x.vloc - (x.slew : Int))

/-- What one cycle does to the counts of a cell in RUN (R81, R83). -/
def runCount (limited thunder : Bool) (x : CellS) : CellS :=
  let lim := if thunder || decide (0 < x.remHold) then x.limCnt else if limited then min x.hicN (x.limCnt + 1) else 0
  { x with vloc := rampLoc x, limCnt := lim, remHold := x.remHold - 1,
           window := if x.hicN ≤ lim then x.window else x.window - 1 }

/-- One switching cycle of a cell that switches (R64, R65, R78 to R84). -/
def State.switchCell (s : State) (c vcell vfeed : Nat) (obs : List PhaseObs) : State :=
  let d := c / 16
  let run := s.cst c == cRun
  let s := s.updCell c fun x => { x with vcell := vcell }
  let x := s.cell c
  let active := (List.range 4).filter fun p => x.act.testBit p
  let fired := s.thSt d == 2
  let loc := s.flag R.CEL_STAT_LOCAL c
  let n := popN 4 x.act
  let (dem0, integ) := cellDemand loc x (s.get R.CEL_CUR_I_CMD c) n
  let dem := if run then s.thDemand c n dem0 else dem0
  let ph (p : Nat) : PhaseObs := phaseRun dem n (obs.getD p default)
  let limited := active.any fun p => (ph p).limit
  let s := s.each active fun s p =>
    { s with phases := tabUpd s.phases (4 * c + p) (phaseCheck (s.lp (4 * c + p)) vfeed vcell (ph p)) }
  let s := s.set R.CEL_STAT_PH_ACT c x.act
  let u := s.usable c
  let acts := x.drzEn && s.drzOk c
  let (act, shed) := if run then drizzle acts (limited || fired) x u x.act dem else (u, 0)
  let s := s.updCell c fun x =>
    let x := { x with dem := dem, integ := integ, loadInteg := false, act := act, shed := shed,
                      ends := active.foldl (fun a p => a + (ph p).stop) 0,
                      drift := x.drift - 1 }
    if run then runCount limited fired x else softCount limited x
  s

/-- Switching cycle (R64): a cell that switches computes its demand; in HICCUP the off time runs (R82); in every other
state the cell only measures its output node (R62). -/
def effSwitching (s : State) (c vcell vfeed : Nat) (obs : List PhaseObs) : State :=
  if s.cst c == cRun || s.cst c == cSoft then s.switchCell c vcell vfeed obs
  else s.updCell c fun x => { x with vcell := vcell, offCnt := if s.cst c == cHiccup then x.offCnt - 1 else x.offCnt }

/-- Drizzle sheds one phase after 16 cycles at or below the threshold (R79 rule 3); its counts restart (R84). -/
def effDrizzleShed (s : State) (c : Nat) : State :=
  let x := s.cell c
  let n := popN 4 x.act
  if s.cst c == cRun && x.drzEn && s.drzOk c && x.shed == 16 && decide (1 < n) then
    let a := firstActive (n - 1) (s.usable c)
    let s := s.updCell c fun x => { x with act := a, shed := 0 }
    s.each [0, 1, 2, 3] fun s p => if x.act.testBit p && !a.testBit p then s.clearPhase c p else s
  else s

/-- A phase that completed a failure count is removed (R84 to R86); the cell fails with the last good phase, and goes on
without an active phase while the good ones that remain are held off by PH_DIS (R71, R73, R85). -/
def effPhaseRemoval (s : State) (c p : Nat) : State :=
  let cause := (tabAt s.phases (4 * c + p) : PhaseS).done
  if (s.cst c == cRun || s.cst c == cSoft) && decide (p < 4) && cause != 0 && (s.good c).testBit p then
    let n := popN 4 (s.cell c).act
    let s := s.raiseBit R.CEL_STAT_PH_FAIL c p
    let s := s.set { R.CEL_PH_CAUSE0 with lo := 2 * p } c cause
    let s := ((s.clearPhase c p).notePhase c).cellEvent c (0x10 + p)
    if s.good c == 0 then s.cellFail c 4
    else s.updCell c fun x => { x with act := firstActive n (s.usable c), remHold := 5 }
  else s

/-! ### Orders and transitions (R73) -/

/-- An available cell goes to LOCAL mode and ramps its reference to a target at the soft-start rate (R308, R309). -/
def State.rampCell (s : State) (c target : Nat) : State :=
  let loc := s.flag R.CEL_STAT_LOCAL c
  ((s.updCell c fun x => { x with vloc := if loc then x.vloc else 5 * (x.vref : Int), target := target,
                                  loadInteg := x.loadInteg || !loc }).set R.CEL_STAT_LOCAL c 1).set R.CEL_CUR_I_CMD c 0

/-- The hub sends a start order with a target, or a stop order. -/
def State.sendStart (s : State) (c target : Nat) : State :=
  s.updCell c fun x => { x with startSent := some target, stopSent := false }
def State.sendStop (s : State) (c : Nat) : State := s.updCell c fun x => { x with stopSent := true, startSent := none }

/-- Whether a start order may act on a cell: its line is locked, its self-test is complete, and its zone's hubs do not
wait for VFEED (R73, R330, R336). -/
def State.mayStart (s : State) (c : Nat) : Bool :=
  s.flag R.CEL_SYNC_LOCK (c / 16) && (s.cell c).tested && !s.dev.feedWait.testBit (s.zoneOf (c / 16))

/-- A start order from the hub: soft start, held until it may act, or refused (R73). -/
def effStartOrder (s : State) (c : Nat) : State :=
  match (s.cell c).startSent with
  | none => s
  | some t =>
    let s := s.updCell c fun x => { x with startSent := none, ordered := true, start := t }
    if s.cst c == cOff then
      if !s.startable c then s.updCell c fun x => { x with ordered := false }
      else if s.mayStart c then s.beginSoft c
      else s.updCell c fun x => { x with held := true }
    else s

/-- A held order begins the soft start at the first cycle at which it may act (R73, R330). DESIGN CHOICE (assumption 145): a held
order whose cell has CELL_DIS set, or every good phase disabled, when the line locks stays held until the cell can start or a stop
order discards it. -/
def effHeldStart (s : State) (c : Nat) : State :=
  if s.cst c == cOff && (s.cell c).held && s.mayStart c && s.startable c then s.beginSoft c else s

/-- A stop order (R73): a switching or hiccuping cell goes OFF with HIC_CNT kept; a held order is discarded. -/
def State.stopCell (s : State) (c : Nat) : State :=
  let s := s.updCell c fun x => { x with stopSent := false, startSent := none, ordered := false, held := false }
  if s.cst c == cSoft || s.cst c == cRun || s.cst c == cHiccup then
    (((s.openSwitches c).setCst c cOff).set R.CEL_CUR_I_CMD c 0)
  else s

def effStopOrder (s : State) (c : Nat) : State := if (s.cell c).stopSent then s.stopCell c else s

/-- Whether a district stands in RETAIN, or its entry to RETAIN has taken the cells to the retention reference (R66, R308). -/
def State.retains (s : State) (d : Nat) : Bool :=
  match (tabAt s.pwr d : PwrS).step with
  | .idle | .entBegun | .entIso | .entSw => s.dst d == 1
  | .entCells => (tabAt s.pwr d : PwrS).toRetain || s.dst d == 1
  | _ => false

/-- Completion of a soft start (R76): RUN in LOCAL, and the clean window of 10 µs opens (R83). The reference is that of the rows of
R66: in RETAIN the retention reference, and else the last one that the hub received, which until a frame brings one is that of the
switch-on. DESIGN CHOICE (assumption 144): towards the retention reference V_loc ramps at the soft-start rate, as in the entry. -/
def effSoftComplete (s : State) (c : Nat) : State :=
  if s.cst c == cSoft && (s.cell c).ssDone && decide ((s.cell c).shortCnt ≤ 200) then
    let v := (tabAt s.law (c / 16) : LawS).appliedV
    (s.setCst c cRun).updCell c fun x =>
      let x := { x with window := 1000, winOpen := true, limCnt := 0, shed := 0 }
      if s.retains (c / 16) then { x with target := s.get R.PWR_VREF_VRET } else { x with vloc := 5 * (v : Int), target := v }
  else s

/-- The short condition of a soft start (R77). -/
def effSoftShort (s : State) (c : Nat) : State :=
  if s.cst c == cSoft && decide (200 < (s.cell c).shortCnt) then s.trigger c 2 else s

/-- The start timeout (R76). -/
def effSoftTimeout (s : State) (c : Nat) : State :=
  if s.cst c == cSoft && (s.cell c).ssLeft == 0 && !(s.cell c).ssDone then s.trigger c 3 else s

/-- The counted current-limited cycles reach HIC_N (R81). -/
def effHiccup (s : State) (c : Nat) : State :=
  if s.cst c == cRun && decide ((s.cell c).hicN ≤ (s.cell c).limCnt) then s.trigger c 1 else s

/-- The off time of a hiccup ends (R82): a new soft start while the start order stands and the line is locked. -/
def effHiccupEnd (s : State) (c : Nat) : State :=
  if s.cst c == cHiccup && (s.cell c).offCnt == 0 && (s.cell c).ordered && s.flag R.CEL_SYNC_LOCK (c / 16)
  then s.beginSoft c else s

/-- The clean window closes (R83). -/
def effCleanWindow (s : State) (c : Nat) : State :=
  if s.cst c == cRun && (s.cell c).winOpen && (s.cell c).window == 0 then
    (s.set R.CEL_STAT_HIC_CNT c 0).updCell c fun x => { x with winOpen := false }
  else s

/-! ### The delay-locked line (R72) -/

def effDllLock (s : State) (d : Nat) : State := (s.set R.CEL_SYNC_LOCK d 1).set R.CEL_SYNC_HOLDOVER d 0

def effHoldover (s : State) (d : Nat) : State :=
  if s.flag R.CEL_SYNC_LOCK d then
    (((s.set R.CEL_SYNC_LOCK d 0).set R.CEL_SYNC_HOLDOVER d 1).raise R.CEL_FLT_SYNCLOSS d).report clsSync 0
      (srcOf 9 (0x100 + d))
  else s

/-- SYNC_IN returns: the line relocks, and the phases of switching cells come back by at most one position a cycle; how
far they have drifted is a free value. -/
def effSyncReturn (s : State) (d : Nat) : State :=
  if s.flag R.CEL_SYNC_HOLDOVER d then
    let (v, s) := s.freeBits 6
    let s := (s.set R.CEL_SYNC_LOCK d 1).set R.CEL_SYNC_HOLDOVER d 0
    s.each (cellsOf d) fun s c =>
      if s.cst c == cRun || s.cst c == cSoft then s.updCell c fun x => { x with drift := v } else s
  else s

/-! ### The meanings -/

/-- A command that names a cell. No cell beyond the configuration exists (R4): nothing acts there (R10, assumption 6). -/
def onCell (s : State) (c : Nat) (f : State) : Host.Outcome State Fault Refusal := .next (if s.cellOk c then f else s)

/-- A command that names a district. No district beyond the configuration exists (R4): nothing acts there (R10,
assumption 6). -/
def onDist (s : State) (d : Nat) (f : State) : Host.Outcome State Fault Refusal := .next (if d < s.cfg.n then f else s)

def execSwitchingCycle (c vcell vfeed : Nat) (obs : List PhaseObs) (s : State) : Host.Outcome State Fault Refusal :=
  onCell s c (effSwitching s c vcell vfeed obs)

def execDrizzleShed (c : Nat) (s : State) : Host.Outcome State Fault Refusal := onCell s c (effDrizzleShed s c)

def execPhaseRemoval (c p : Nat) (s : State) : Host.Outcome State Fault Refusal := onCell s c (effPhaseRemoval s c p)

def execCellStartOrder (c : Nat) (s : State) : Host.Outcome State Fault Refusal := onCell s c (effStartOrder s c)

def execCellHeldStart (c : Nat) (s : State) : Host.Outcome State Fault Refusal := onCell s c (effHeldStart s c)

def execCellStopOrder (c : Nat) (s : State) : Host.Outcome State Fault Refusal := onCell s c (effStopOrder s c)

def execSoftstartComplete (c : Nat) (s : State) : Host.Outcome State Fault Refusal := onCell s c (effSoftComplete s c)

def execSoftstartShort (c : Nat) (s : State) : Host.Outcome State Fault Refusal := onCell s c (effSoftShort s c)

def execSoftstartTimeout (c : Nat) (s : State) : Host.Outcome State Fault Refusal := onCell s c (effSoftTimeout s c)

def execCellHiccup (c : Nat) (s : State) : Host.Outcome State Fault Refusal := onCell s c (effHiccup s c)

def execHiccupEnd (c : Nat) (s : State) : Host.Outcome State Fault Refusal := onCell s c (effHiccupEnd s c)

def execCleanWindowClose (c : Nat) (s : State) : Host.Outcome State Fault Refusal := onCell s c (effCleanWindow s c)

def execDllLock (d : Nat) (s : State) : Host.Outcome State Fault Refusal := onDist s d (effDllLock s d)

def execSyncHoldover (d : Nat) (s : State) : Host.Outcome State Fault Refusal := onDist s d (effHoldover s d)

def execSyncReturn (d : Nat) (s : State) : Host.Outcome State Fault Refusal := onDist s d (effSyncReturn s d)

end Sys2Proof.Machine
end

