-- ==== Sys2Proof/Machine/Book.lean ====
section
/-!
DEFINITION. The books of the districts (R176, R177, R188 to R194, R203 to R205, R259, R261): the slot grid, the ledgers
and their terms, capacity, revocation, and the zone headroom of R44.
-/
namespace Sys2Proof.Machine

/-! ### The slot grid (R176, R180) -/

/-- The CLK_REG edge of slot boundary `k`, counted from the origin. -/
def slotEdge (k : Nat) : Nat := (32 * k + 4) / 5

/-- The first slot boundary at or after an edge. -/
def slotAt (e : Nat) : Nat := if e = 0 then 0 else 5 * (e - 1) / 32 + 1

/-- The slots of a ledger (R177). -/
abbrev ledgerLen : Nat := 256

/-! ### Books, queues -/

def State.bk (s : State) (d : Nat) : BookS := tabAt s.book d
def State.updBk (s : State) (d : Nat) (f : BookS → BookS) : State := { s with book := tabUpd s.book d f }
def State.q (s : State) (q : Nat) : QueueS := tabAt s.queues q
def State.updQ (s : State) (q : Nat) (f : QueueS → QueueS) : State := { s with queues := tabUpd s.queues q f }

/-- Whether a booking covers a slot; an announced fall books nothing (R181). -/
def Grant.covers (g : Grant) (t : Nat) : Bool := decide (0 < g.d) && decide (g.start ≤ t) && decide (t < g.start + g.dur)

/-- The district period from which a grant is published: it begins at the last district boundary at or before S − 200 ns
(R35, R197), counted from the origin. -/
def Grant.pubAt (g : Grant) : Nat := (5 * slotEdge g.start - 200) / 100

/-- The booked current of the grants that a test selects, in one slot (R188, R190). -/
def bookSum (gs : List Grant) (p : Grant → Bool) (t : Nat) : Nat :=
  gs.foldl (fun n g => if g.covers t && p g then n + g.d.toNat else n) 0

/-- The ledger of a district at a slot, over the grants that a test selects, with what DBGACC has changed it by (R457). -/
def ledgerAt (b : BookS) (p : Grant → Bool) (t : Nat) : Nat := ((bookSum b.grants p t : Int) + tabAt b.adj t).toNat

/-- BOOK(t) and COM(t) of a district (R188). -/
def State.bookAt (s : State) (d t : Nat) : Nat := ledgerAt (s.bk d) (fun _ => true) t
def State.comAt (s : State) (d t : Nat) : Nat := (s.bk d).base + s.bookAt d t

/-- COM(t) and FREE(t), signed, as the last district boundary left them, which is what the GQ page shows (R188); FREE takes the
capacity that admission uses (R191). Admission itself sees every booking at once (R192). -/
def State.comShown (s : State) (d t : Nat) : Nat := (s.bk d).base + ledgerAt { s.bk d with grants := (s.bk d).shown } (fun _ => true) t
def State.freeAt (s : State) (d t : Nat) : Int := ((s.bk d).admCap : Int) - (s.bk d).admRsv - s.comShown d t

/-- The slots of the ledger from the present one. -/
def State.ledger (s : State) : List Nat := (List.range ledgerLen).map (s.dev.slot + ·)

/-- The largest value of a function over the ledger. -/
def State.peak (s : State) (f : Nat → Nat) : Nat := s.ledger.foldl (fun m t => max m (f t)) 0

/-- LIM_g (R190): the remainder of the floors goes to gallery 0. -/
def BookS.limit (b : BookS) (g : Nat) : Int :=
  let x : Int := (b.admCap : Int) - b.admRsv - b.base
  let part (k : Nat) : Int := (b.shares.getD k 0 : Int) * x / 256
  if g = 0 then x - (([1, 2, 3, 4, 5, 6, 7] : List Nat).foldl (fun a k => a + part k) 0) else part g

/-- Whether a district is in a window of R191: a capacity change, or a share move that has not reached it. -/
def State.imb (s : State) (d : Nat) : Bool :=
  (s.bk d).imb || (match s.bud.moving with
    | some m => decide (m ≤ d)
    | none => false)

/-! ### Zone headroom (R44) and ZPEND (R194) -/

/-- The zone headroom in CU at a reference `vd`. -/
def State.headroomAt (s : State) (z vd : Nat) : Nat :=
  let a := 5 * s.zoneLimit z * (s.port z).vmeas * s.dev.zoneEta.getD z 850
  let b := 2 * s.dev.zoneFeed.getD z 0
  if vd = 0 then 0 else (a - b) / (320 * vd)

/-- The reference of a district. -/
def State.vref (s : State) (d : Nat) : Nat := s.get R.DST_REF_VREF d

/-- Increases already promised in a zone. -/
def State.zpend (s : State) (z : Nat) : Nat :=
  (s.inZone z).foldl (fun n e => n + (s.peak (s.bookAt e) - s.bookAt e s.dev.slot)) 0

/-- SWON in force in a district since the last slot boundary (R170). -/
def State.swon (s : State) (d : Nat) : Nat := (tabAt s.fab d : FabS).swon

/-- SWON of the districts of a zone that wait under R174. -/
def State.swWaiting (s : State) (z : Nat) : Nat :=
  (s.inZone z).foldl (fun n e => if s.flag R.DST_FILL_STAT_SWWAIT e then n + s.swon e else n) 0

/-! ### Class and die caps, quotas (R259, R261) -/

/-- What the BUD and GRP pages hold for the next die period boundary, and what is in force (R271). -/
def State.budNow (s : State) : BudLat :=
  { caps := [s.get R.BUD_CCAP0_CCAP, s.get R.BUD_CCAP0_MCAP, s.get R.BUD_CCAP1_LCAP, s.get R.BUD_DCAP_DCAP],
    adm := s.flag R.BUD_CTL_ADMCAP_EN, quota := (List.range 8).map fun g => s.get R.BUD_GQUOTA_QUOTA g,
    cool := s.get R.BUD_CTL_COOL_SRC, skipMax := s.get R.BUD_ACT_SKIP_MAX, excT := s.get R.GRP_CTL_EXC_T }
def State.budLat (s : State) : BudLat := s.bud.lat.getD s.budNow

/-- The cap of a class, and of the die, in codes of 0.25 A (R250). -/
def State.classCap (s : State) (c : Nat) : Nat := s.budLat.caps.getD c 0
def State.dieCap (s : State) : Nat := s.budLat.caps.getD 3 0

/-- A code of 0.25 A in CU, rounded down, and rounded up. -/
def codeToCu (x : Nat) : Nat := 125 * x / 8
def codeToCuUp (x : Nat) : Nat := (125 * x + 7) / 8

/-- The holdback of a class and of the die: 0 outside group mode (R263, R264). -/
def State.holdback (s : State) (c : Nat) : Nat := if s.bud.gmode then codeToCuUp (s.bud.rx.getD c 0) else 0
def State.holdbackD (s : State) : Nat := if s.bud.gmode then codeToCuUp s.bud.rxD else 0

/-- LC_c(t) and LD(t). -/
def State.lc (s : State) (c t : Nat) : Nat :=
  s.districts.foldl (fun n e => if s.classOf e == c then n + s.comAt e t else n) 0
def State.ld (s : State) (t : Nat) : Nat := s.districts.foldl (fun n e => n + s.comAt e t) 0

/-- Whether the class and die caps leave room for a current `dc` of class `c` in a slot. -/
def State.capsAt (s : State) (c dc t : Nat) : Bool :=
  !s.budLat.adm ||
    (decide (s.lc c t + dc + s.holdback c ≤ codeToCu (s.classCap c))
      && decide (s.ld t + dc + s.holdbackD ≤ codeToCu s.dieCap))

/-- Whether the quota of a gallery admits a booking of `cu` CU slots. -/
def State.quotaOk (s : State) (g cu : Nat) : Bool :=
  s.budLat.quota.getD g 0 == 0 || decide (s.get R.BUD_GCNT_COUNT g + cu ≤ 16 * s.budLat.quota.getD g 0)

/-! ### Booking -/

/-- The lowest free grant identifier of a district. -/
def BookS.freeGid (b : BookS) : Nat :=
  ((List.range 1024).find? fun k => !(b.grants.any fun g => g.gid == k)).getD 1024

/-- A booking (R195): the record takes the lowest free GID and the admission capacity; GCNT counts it (R261). -/
def State.bookGrant (s : State) (d q start dur : Nat) (dc : Int) (cls : Nat) (iref : Option Int) : Nat × State :=
  let b := s.bk d
  let gid := b.freeGid
  let gal := s.get R.GQ_QCTL_GAL q
  let cu := dc.toNat * dur
  let g : Grant := { gid := gid, start := start, dur := dur, d := dc, gal := gal, queue := q, cls := cls,
                     capAdm := b.admCap, rsvAdm := b.admRsv, age := s.adm.age, booked := cu, iref := iref }
  let s := s.updBk d fun b => { b with grants := b.grants ++ [g] }
  let s := s.setSat R.BUD_GCNT_COUNT gal (s.get R.BUD_GCNT_COUNT gal + cu)
  (gid, { s with adm := { s.adm with age := s.adm.age + 1 } })

/-! ### Responses and notices (R182 to R187, R211) -/

/-- STATUS codes. -/
abbrev stGranted : Nat := 0
abbrev stDeferred : Nat := 1
abbrev stRefused : Nat := 2
abbrev stRevoked : Nat := 3
abbrev stInit : Nat := 4

/-- REASON codes. -/
abbrev whyFormat : Nat := 0
abbrev whyState : Nat := 1
abbrev whyCapacity : Nat := 2
abbrev whyZone : Nat := 3
abbrev whyCap : Nat := 4
abbrev whyTable : Nat := 5
abbrev whyBarrier : Nat := 6
abbrev whyCheck : Nat := 7

/-- A response or notice word (R186): START has 8 bits. -/
def rspWord (status reason sq gid start : Nat) : BitVec 32 :=
  BitVec.ofNat 32 (status * 2 ^ 29 + reason * 2 ^ 26 + sq * 2 ^ 18 + gid * 2 ^ 8 + start % 2 ^ 8)

/-- Fields of a forecast (R178). -/
def fcDelta (f : Nat) : Int := signedOf 14 (f / 2 ^ 50 % 2 ^ 14)
def fcLead (f : Nat) : Nat := f / 2 ^ 42 % 2 ^ 8
def fcDur (f : Nat) : Nat := f / 2 ^ 32 % 2 ^ 10
def fcClass (f : Nat) : Nat := f / 2 ^ 30 % 4
def fcBar (f : Nat) : Bool := f.testBit 29
def fcSeq (f : Nat) : Nat := f / 2 ^ 21 % 2 ^ 8
def fcEarly (f : Nat) : Nat := f / 2 ^ 16 % 2 ^ 5
def fcBid (f : Nat) : Nat := f / 2 ^ 15 % 2 ^ 6
def fcBcnt (f : Nat) : Nat := f % 2 ^ 15

/-- A count per class with the entry of a class raised. -/
def bump (l : List Nat) (c : Nat) : List Nat := l.set c (l.getD c 0 + 1)

/-- The answered entries at the head of a queue are emitted in the order of entry, each with the notices that follow it
(R182, R187, R211). -/
def State.emitHeads (s : State) (q : Nat) : Nat → State
  | 0 => s
  | n + 1 =>
    match (s.q q).ents with
    | [] => s
    | e :: r =>
      match e.decided with
      | none => s
      | some w =>
        let refused := w.toNat / 2 ^ 29 == stRefused
        let s := s.updQ q fun x =>
          { x with ents := r, out := x.out ++ ((w, some e.edge) :: e.after.map fun v => (v, none)),
                   refu := if refused then bump x.refu (fcClass e.fc) else x.refu }
        let s := if refused then s.inc R.GQ_QCNT0_REFUSED q else s.inc R.GQ_QCNT0_GRANTED q
        s.emitHeads q n

/-- A notice goes out behind the response of its grant, if that has not been emitted yet. -/
def State.notice (s : State) (q gid : Nat) (w : BitVec 32) : State :=
  let mine (e : Ent) : Bool := match e.decided with
    | some v => v.toNat / 2 ^ 8 % 1024 == gid && decide (v.toNat / 2 ^ 29 < 2)
    | none => false
  s.updQ q fun x =>
    if x.ents.any mine then { x with ents := x.ents.map fun e => if mine e then { e with after := e.after ++ [w] } else e }
    else { x with out := x.out ++ [(w, none)] }

/-! ### Capacity and revocation (R188, R203) -/

/-- CAP and RSV of the good phases of the available cells (R188). -/
def capOf (phases : List Nat) : Nat := 375 * phases.foldl (· + ·) 0 / 8
def rsvOf (phases : List Nat) : Nat := (375 * phases.foldl max 0 + 7) / 8

/-- The good phases of the available cells as latched at the last district boundary (R28). -/
def State.goodPhases (s : State) (d : Nat) : List Nat :=
  let f : FoS := tabAt s.fo d
  (List.range 16).map fun c => if f.avail.testBit c then tabAt f.goodPh c else 0

/-- A grant is removed and revoked (R203, R204). -/
def State.revoke (s : State) (d : Nat) (g : Grant) : State :=
  let s := s.updBk d fun b => { b with grants := b.grants.filter fun x => x.gid != g.gid }
  let s := (s.notice g.queue g.gid (rspWord stRevoked 2 0 g.gid 0)).inc R.GQ_QCNT1_REVOKED g.queue
  ((s.raise R.DST_FLT_GRREV d).raise R.GQ_FLT_REVOKE).exhGq R.EXH_GQ_REVOKE

/-- Whether a slot of a booking, or any slot, has COM(t) above CAP. -/
def State.overAt (s : State) (d t : Nat) : Bool := decide ((s.bk d).cap < s.comAt d t)

/-- The revocation pass over the eligible grants, youngest admission first. -/
def State.revokePass (s : State) (d : Nat) : List Grant → State
  | [] => s
  | g :: r =>
    if !(s.ledger.any fun t => s.overAt d t) then s
    else if s.ledger.any fun t => g.covers t && s.overAt d t then (s.revoke d g).revokePass d r
    else s.revokePass d r

/-- Grants by age, youngest first. -/
def insertYoung (g : Grant) : List Grant → List Grant
  | [] => [g]
  | x :: r => if x.age ≤ g.age then g :: x :: r else x :: insertYoung g r
def youngest (gs : List Grant) : List Grant := gs.foldl (fun a g => insertYoung g a) []

/-- The books at a district period boundary (R191, R203): the window of the last change closes and admission takes its
CAP and RSV; a change of availability or good phases opens a new window and revokes the grants that no longer fit. -/
def State.capUpdate (s : State) (d : Nat) (chg : Bool) : State :=
  let s := s.updBk d fun b => { b with admCap := b.cap, admRsv := b.rsv, imb := false }
  let ph := s.goodPhases d
  let cap := capOf ph
  let rsv := rsvOf ph
  let old := s.bk d
  if !chg && cap == old.cap && rsv == old.rsv then s
  else
    let s := s.updBk d fun b => { b with cap := cap, rsv := rsv, imb := true }
    if cap < old.cap then
      s.revokePass d (youngest (old.grants.filter fun g => decide ((cap : Int) < (g.capAdm : Int) - g.rsvAdm)))
    else s

/-- A check of the books fails outside its windows (R191). -/
def State.ledgerFault (s : State) (d : Nat) : State :=
  ((s.raise R.GQ_FLT_LEDGER).report clsLedger 0 (srcOf 10 d)).exhGq R.EXH_GQ_LEDGER

/-- BASE at a die period boundary (R189), from the mean current of the ended period, rounded up, and the mean of BOOK
over its slots, rounded down. DESIGN CHOICE (assumption 142): a slot is one of the die period in which its boundary lies. -/
def State.baseUpdate (s : State) (d : Nat) : State :=
  let l : LawS := tabAt s.law d
  let b := s.bk d
  let n := l.imCnt
  let im := if n = 0 then 0 else (l.imSum.toNat + (16 * n - 1)) / (16 * n)
  let gnow := if b.bookCnt = 0 then s.bookAt d s.dev.slot else b.bookSum / b.bookCnt
  s.updBk d fun b => { b with imeas := im, gnow := gnow, base := (im - gnow) + l.img.allow, bookSum := 0, bookCnt := 0 }

end Sys2Proof.Machine
end

