-- ==== Sys2Proof/Machine/Grants.lean ====
section
/-!
DEFINITION. Forecasts and grants (R178 to R211): registration and credits, admission, barriers and Sunrise, slot
boundaries, expiry, responses, and the commands of the GQ page.
-/
namespace Sys2Proof.Machine

/-! ### Registration (R179 to R183, R206) -/

/-- Whether the queue store runs (R210): not in SLEEP or SAFE_OFF, not during a reset, and only with CLK_REG (R320). -/
def State.storeRuns (s : State) : Bool :=
  s.dev.released && s.onPll && s.devSt != devSleep && s.devSt != devOff

/-- Whether the state admits forecasts of a district (R187, R210, R313 to R315). -/
def State.admits (s : State) (d : Nat) : Bool :=
  let p : PwrS := tabAt s.pwr d
  s.devSt == devRun && s.dev.entry == 0 && s.flag R.GQ_CTL_ADM_EN && s.isOn d
    && (p.step == .idle || p.step == .onIso) && !p.reqEntry && decide (s.get R.DST_FO_STAT_STATE d < 2)

/-- The causes of FORMAT but for the sequence number (R179). -/
def fcBadFormat (f : Nat) : Bool :=
  fcDelta f == 0 || fcClass f == 3 || fcDur f == 0 || (!fcBar f && decide (fcLead f < 13))
    || (fcBar f && decide (fcDelta f < 0)) || (fcBar f && (fcBcnt f == 0 || decide (16384 < fcBcnt f)))

/-- The responses of a queue in flight (R182). -/
def QueueS.infl (x : QueueS) : Nat := (x.out.filter fun o => o.2.isSome).length

/-- A barrier record. -/
def State.bar (s : State) (b : Nat) : Barrier := tabAt s.adm.bars b
def State.updBar (s : State) (b : Nat) (f : Barrier → Barrier) : State :=
  { s with adm := { s.adm with bars := tabUpd s.adm.bars b f } }

/-- A barrier forecast opens or joins the record of its BID, and closes it as the BCNT-th (R206, R207). -/
def State.joinBar (s : State) (d b bcnt edge tref : Nat) : State :=
  let x := s.bar b
  let x := if x.st == .free then { st := .opened, bcnt := bcnt, firstSlot := tref } else x
  let x := { x with arrived := x.arrived + 1 }
  let x := if x.bcnt ≤ x.arrived then { x with st := .closed, closeEdge := edge } else x
  let s := s.updBar b fun _ => x
  if s.adm.lifts.any fun l => l.1 == b && l.2.1 == d && l.2.2 == none then s
  else { s with adm := { s.adm with lifts := s.adm.lifts ++ [(b, d, none)] } }

/-- A forecast takes its place in admission order (R192): by the edge of registration, then by queue number; the forecasts of
one queue keep theirs. -/
def putInOrder (edge q : Nat) : List (Nat × Nat) → List (Nat × Nat)
  | [] => [(edge, q)]
  | x :: r => if edge < x.1 ∨ (edge = x.1 ∧ q < x.2) then (edge, q) :: x :: r else x :: putInOrder edge q r

/-- A forecast is registered as a pending entry (R180, R182): a barrier forecast of good format joins its record; every
other one takes its place in admission order (R192). DESIGN CHOICE (assumption 150): a forecast that the fabric posts ahead of the
INIT of its queue is refused with STATE, as R184 lets no admission go before that INIT. -/
def State.register (s : State) (q f edge : Nat) : State :=
  let x := s.q q
  let d := q / 256
  let badSeq := fcSeq f != x.nextSeq
  let tref := slotAt edge
  let open_ := s.bar (fcBid f)
  let fits := open_.st == .free || (open_.st == .opened && open_.bcnt == fcBcnt f)
  let state := (s.admits d || s.devSt == devDoze) && x.inited
  let joins := fcBar f && !badSeq && !fcBadFormat f && state && fits
  let pre := if badSeq || fcBadFormat f then some whyFormat
    else if fcBar f && state && !fits then some whyBarrier
    else if fcBar f && !joins then some whyState else none
  let e : Ent := { fc := f, edge := edge, tref := tref, st := if joins then .barrier else .waiting, pre := pre }
  let s := s.updQ q fun x => { x with ents := x.ents ++ [e], nextSeq := (fcSeq f + 1) % 256, fcnt := bump x.fcnt (fcClass f) }
  if joins then s.joinBar d (fcBid f) (fcBcnt f) edge tref
  else { s with adm := { s.adm with order := putInOrder edge q s.adm.order } }

/-- The fabric posts a forecast (R182, R183, R210, R316). -/
def effForecastPost (s : State) (q : Nat) (fc : BitVec 64) (edge : Nat) : State :=
  let x := s.q q
  if !s.storeRuns then s
  else if x.ents.length + x.infl == 8 then s.raise R.GQ_FLT_NOCRED
  else
    let s := s.register q fc.toNat edge
    if s.flag R.PWR_WAKE_FCW_EN then s.wake wakeForecast 0 else s

/-! ### The turn of a forecast (R192, R206) -/

/-- Whether the first entry of a queue that waits for admission stands behind an unanswered barrier forecast. -/
def blocked : List Ent → Bool
  | [] => true
  | e :: r => if e.st == .waiting then false else if e.st == .barrier && e.decided == none then true else blocked r

/-- The place in admission order of the forecast that is next to be issued, and its queue. -/
def State.nextTurn (s : State) : Option (Nat × Nat) := s.adm.order.find? fun x => !blocked (s.q x.2).ents
def State.nextIssue (s : State) : Option Nat := s.nextTurn.map Prod.snd

/-- The first entry in a state is changed. -/
def updFirst (st : EntSt) (f : Ent → Ent) : List Ent → List Ent
  | [] => []
  | e :: r => if e.st == st then f e :: r else e :: updFirst st f r

/-- The forecast whose turn it is leaves admission order, and its scan is in flight. -/
def AdmS.issue (a : AdmS) (x : Nat × Nat) : AdmS := { a with order := a.order.erase x, inflight := a.inflight ++ [x.2] }

/-- A forecast reaches its turn: its scan is issued, and an armed injection acts on it (R192, ORR_INJ). -/
def effIssue (s : State) (q : Nat) : State :=
  match s.nextTurn with
  | none => s
  | some x =>
    if x.2 = q ∧ s.adm.inflight.length < 12 ∧ s.devSt ≠ devDoze then
      let (k, s) := s.takeInj 0xC (q / 256)
      let s := s.updQ q fun x =>
        { x with ents := updFirst .waiting (fun e => { e with st := .issued, retry := false, inj := k != 0 }) x.ents }
      { s with adm := s.adm.issue x }
    else s

/-- The vector that a scan of booked current takes: its change at each slot of the ledger, so that the prefixes of the scan are the
booked current of the slots (R114, R115, R177). -/
def State.ledgerDiff (s : State) (b : Nat → Nat) : List (Int × Bool) :=
  s.ledger.map fun t => ((b t : Int) - (if t = s.dev.slot then 0 else b (t - 1)), false)

/-- The scan request of an admission (R115): the ledger of the district and the booked current of the gallery, side by side,
each with the highest current that leaves room for `dc`, under an upset. -/
def State.admScan (s : State) (d g dc : Nat) (u : Nat × Int) : ScanOut × ScanOut :=
  let b := s.bk d
  (scan ((b.admCap : Int) - b.admRsv - b.base - dc) u.1 (if u.1 < 256 then u.2 else 0) (s.ledgerDiff (s.bookAt d)),
   scan (b.limit g - dc) (u.1 - 256) (if u.1 < 256 then 0 else u.2) (s.ledgerDiff (bookSum b.grants fun x => x.gal == g)))

/-- A scan completes (R114, R117, R121) under an upset of an element: a residue mismatch discards it and issues it again, once;
the second mismatch fails it. -/
def effScan (s : State) (q at_ : Nat) (delta : Int) : State :=
  match (s.q q).ents.find? fun e => e.st == .issued with
  | none => s
  | some e =>
    let o := s.admScan (q / 256) (s.get R.GQ_QCTL_GAL q) (fcDelta e.fc).toNat (at_, delta)
    let s := s.raiseIf (o.1.sat || o.2.sat) R.ORR_FLT_SCANFLT
    if o.1.ok && o.2.ok && !e.inj then
      s.updQ q fun x => { x with ents := updFirst .issued (fun e => { e with st := .scanned, ups := (at_, delta) }) x.ents }
    else
      let s := s.scanFault (q / 256)
      let again (x : Ent) : Ent := if e.retry then { x with st := .failed } else { x with retry := true, inj := false }
      s.updQ q fun x => { x with ents := updFirst .issued again x.ents }

/-! ### The decision (R193 to R195) -/

/-- The prefix vectors of a scan request: the booked current of a district and of a gallery in it, over the slots of the
ledger. -/
abbrev Prefixes := List Int × List Int

/-- The prefix vectors that the decision applies R194 to: those of the forecast's scan with every booking made since, which is
the scan of the books as they stand (R192). -/
def State.prefixes (s : State) (d g dc : Nat) (u : Nat × Int := (0, 0)) : Prefixes :=
  let o := s.admScan d g dc u
  (o.1.prefixes, o.2.prefixes)

/-- The district and gallery test of R194 for a start: in every slot of the booking within the ledger. -/
def State.ledgerFits (s : State) (v : Prefixes) (d g dc st dur : Nat) : Bool :=
  let b := s.bk d
  let lim := b.limit g
  (List.range (min dur (s.dev.slot + ledgerLen - st))).all fun k =>
    let i := st - s.dev.slot + k
    decide (v.1.getD i 0 + b.base + dc ≤ (b.admCap : Int) - b.admRsv) && decide (v.2.getD i 0 + dc ≤ lim)

/-- The zone test of R194. -/
def State.zoneFits (s : State) (d dc : Nat) : Bool :=
  let z := s.zoneOf d
  decide (dc + s.zpend z + s.swWaiting z ≤ s.headroomAt z (s.vref d))

/-- The class and die caps and the quota (R259, R261). -/
def State.capsFit (s : State) (d g dc st dur : Nat) : Bool :=
  s.quotaOk g (dc * dur) &&
    (List.range (min dur (s.dev.slot + ledgerLen - st))).all fun k => s.capsAt (s.classOf d) dc (st + k)

/-- Whether a start fits (R194), on the prefix vectors of a scan. -/
def State.fitsIn (s : State) (v : Prefixes) (d g dc smin st dur : Nat) : Bool :=
  decide (smin ≤ st) && decide (s.dev.slot ≤ st) && decide (st ≤ s.dev.slot + 255)
    && s.ledgerFits v d g dc st dur && s.zoneFits d dc && s.capsFit d g dc st dur

/-- Whether a start fits a forecast of current `dc` on the books as they stand. -/
def State.fits (s : State) (d g dc smin st dur : Nat) : Bool := s.fitsIn (s.prefixes d g dc) d g dc smin st dur

/-- The answer to a forecast: its word, and the books after it. -/
def State.granted (s : State) (d q start dur tref : Nat) (dc : Int) (f status : Nat) (iref : Option Int := none) :
    BitVec 32 × State :=
  let (gid, s) := s.bookGrant d q start dur dc (fcClass f) iref
  (rspWord status 0 (fcSeq f) gid (start - tref), s)

def refuseWord (f why : Nat) : BitVec 32 := rspWord stRefused why (fcSeq f) 0 0

/-- The decision of a rise at booking instant `edge` (R195). -/
def State.admitRise (s : State) (q : Nat) (e : Ent) (edge : Nat) : BitVec 32 × State :=
  let d := q / 256
  let f := e.fc
  let dc := (fcDelta f).toNat
  let dur := fcDur f
  let g := s.get R.GQ_QCTL_GAL q
  let s := if s.quotaOk g (dc * dur) then s else s.raise R.BUD_FLT_QUOTA
  let smin := slotAt (edge + 60)
  let sreq := e.tref + fcLead f
  let shi := min (s.dev.slot + 255) (e.tref + 255)
  let v := s.prefixes d g dc e.ups
  if s.fitsIn v d g dc smin sreq dur then s.granted d q sreq dur e.tref dc f stGranted
  else
    let lo := max (sreq - fcEarly f) smin
    match ((List.range (shi + 1 - lo)).map (lo + ·)).find? fun st => st != sreq && s.fitsIn v d g dc smin st dur with
    | some st => s.granted d q st dur e.tref dc f stDeferred
    | none =>
      let s0 := max sreq smin
      (refuseWord f (if shi < s0 || !s.ledgerFits v d g dc s0 dur then whyCapacity
        else if !s.zoneFits d dc then whyZone else whyCap), s)

/-- The decision of one forecast in its admission turn (R181, R195, R209). -/
def State.decideFc (s : State) (q : Nat) (e : Ent) (edge : Nat) : BitVec 32 × State :=
  let d := q / 256
  let f := e.fc
  if e.pre == some whyFormat then (refuseWord f whyFormat, s.raise R.GQ_FLT_FMT)
  else if !s.admits d || !(s.q q).inited || e.pre == some whyState then (refuseWord f whyState, s)
  else if e.pre == some whyBarrier then (refuseWord f whyBarrier, s.raise R.GQ_FLT_BARMIS)
  else if 1024 ≤ (s.bk d).grants.length then (refuseWord f whyTable, s)
  else if e.st == .failed then (refuseWord f whyCheck, s)
  else if fcDelta f < 0 then s.granted d q (e.tref + fcLead f) 1 e.tref (fcDelta f) f stGranted e.iref
  else s.admitRise q e edge

/-- The entry whose scan stands at the head of the decision logic. -/
def isHead (e : Ent) : Bool := e.st == .scanned || e.st == .failed

/-- The decision logic answers the forecast whose turn it is (R192). -/
def effDecision (s : State) (q edge : Nat) : State :=
  match s.adm.inflight, (s.q q).ents.find? isHead with
  | q' :: r, some e =>
    if q' = q ∧ s.devSt ≠ devDoze then
      let (w, s) := s.decideFc q e edge
      let s := { s with adm := { s.adm with inflight := r } }
      let s := s.updQ q fun x => { x with ents := updFirst e.st (fun e => { e with st := .answered, decided := some w }) x.ents }
      s.emitHeads q 8
    else s
  | _, _ => s

/-! ### Barriers and Sunrise (R206 to R209) -/

/-- The participants of a barrier in a district: queue and entry, in ascending local queue number. -/
def State.participants (s : State) (b d : Nat) : List (Nat × Ent) :=
  (s.queues.filter fun x => x.1 / 256 == d).flatMap fun x =>
    (x.2.ents.filter fun e => e.st == .barrier && e.decided == none && fcBid e.fc == b).map fun e => (x.1, e)

/-- The requests of Sunrise to the admission unit, under what befalls them (R115, R121, R208): a request that fails its residue
check, or that an armed injection strikes, is issued again, once. Its prefixes, or none where both issues fail. -/
def State.sunScan (s : State) (ups : List ScanUp) (d k : Nat) (v : List (Int × Bool)) : Option (List Int) × State :=
  let run (again : Bool) : ScanOut :=
    let u := (ups.find? fun u => u.dist == d && u.req == k && u.again == again).getD { dist := d }
    scan 0 u.at_ u.delta v
  let (inj, s) := s.takeInj 0xC d
  let s := s.raiseIf (run false).sat R.ORR_FLT_SCANFLT
  if inj = 0 ∧ (run false).ok = true then (some (run false).prefixes, s)
  else
    let s := (s.scanFault d).raiseIf (run true).sat R.ORR_FLT_SCANFLT
    if (run true).ok then (some (run true).prefixes, s) else (none, s.scanFault d)

/-- The offsets of a staircase from the prefixes of DELTA over the participants (R208). -/
def offsets (r : Nat) (ps : List Int) : List Nat := ps.map fun p => min 63 ((p.toNat + r - 1) / r - 1)

/-- What the participants of a staircase add to a slot: those of a gallery, or of all with `none`. -/
def State.stairAdd (s : State) (ps : List ((Nat × Ent) × Nat)) (g : Option Nat) (t : Nat) : Nat :=
  ps.foldl (fun n p =>
    if p.2 ≤ t ∧ t < p.2 + fcDur p.1.2.fc ∧ (g = none ∨ g = some (s.get R.GQ_QCTL_GAL p.1.1))
    then n + (fcDelta p.1.2.fc).toNat else n) 0

/-- The vector of a trial scan: the ledger with every participant booked. -/
def State.trialVec (s : State) (d : Nat) (ps : List ((Nat × Ent) × Nat)) : List (Int × Bool) :=
  s.ledgerDiff fun t => s.bookAt d t + s.stairAdd ps none t

/-- Whether the quotas admit a staircase (R261). -/
def State.stairQuota (s : State) (ps : List (Nat × Ent)) : Bool :=
  (List.range 8).all fun g => s.quotaOk g (ps.foldl (fun n p =>
    if s.get R.GQ_QCTL_GAL p.1 = g then n + (fcDelta p.2.fc).toNat * fcDur p.2.fc else n) 0)

/-- The trial of a staircase (R208) on the prefixes of its scan: every test of R194 but S_min and the zone, in every slot that
it books; no start lies before the present slot or beyond the ledger, and none beyond the 8 bits of START (R186, assumption 138). -/
def State.trialFits (s : State) (d : Nat) (ps : List ((Nat × Ent) × Nat)) (v : List Int) : Bool :=
  let b := s.bk d
  s.stairQuota (ps.map Prod.fst) && (ps.all fun p =>
      decide (s.dev.slot ≤ p.2) && decide (p.2 ≤ s.dev.slot + 255) && decide (p.2 ≤ p.1.2.tref + 255))
    && s.ledger.all fun t =>
    let x := s.stairAdd ps none t
    if x = 0 then true
    else decide (v.getD (t - s.dev.slot) 0 + b.base ≤ (b.admCap : Int) - b.admRsv) && s.capsAt (s.classOf d) x t
      && (List.range 8).all fun g => let y := s.stairAdd ps (some g) t
        y == 0 || decide (((bookSum b.grants (fun x => x.gal == g) t + y : Nat) : Int) ≤ b.limit g)

/-- The trial of a staircase on the books as they stand. -/
def State.trial (s : State) (d : Nat) (ps : List ((Nat × Ent) × Nat)) : Bool :=
  s.trialFits d ps (scan 0 0 0 (s.trialVec d ps)).prefixes

/-- Participants answered: the entries take their words, in the order of the list. -/
def State.answer (s : State) (b close : Nat) (q : Nat) (w : BitVec 32) : State :=
  let first (x : Ent) : Bool := x.st == .barrier && x.decided == none && fcBid x.fc == b
  let rec go : List Ent → List Ent
    | [] => []
    | x :: r => if first x then { x with st := .answered, decided := some w, edge := close } :: r else x :: go r
  (s.updQ q fun x => { x with ents := go x.ents }).emitHeads q 8

/-- All participants of a list are refused. -/
def State.refuseAll (s : State) (b close why : Nat) (ps : List (Nat × Ent)) : State :=
  ps.foldl (fun s p => s.answer b close p.1 (refuseWord p.2.fc why)) s

/-- A staircase: the participants of a district with their starts. -/
abbrev Stair := List ((Nat × Ent) × Nat)

/-- The trials of a district taken in their order (R208), each with the prefixes of its scan: the staircase that is booked, or
the reason of the refusal. DESIGN CHOICE (assumption 119): a trial whose scan failed twice ends the search with CHECK. -/
def State.takeTrial (s : State) (d : Nat) (room : Bool) (seen : Bool) : List (Stair × Option (List Int)) → Sum Stair Nat
  | [] => .inr (if seen then whyZone else whyCapacity)
  | (_, none) :: _ => .inr whyCheck
  | (st, some v) :: r =>
    let ok := s.trialFits d st v
    if ok && room then .inl st else s.takeTrial d room (seen && ok) r

/-- Sunrise in one district (R208, R210): `pre` is the outcome of its prefix scan, `left` what remains of its zone's headroom;
the three trial scans are issued together. -/
def State.sunriseDist (s : State) (ups : List ScanUp) (b t0 close d : Nat) (pre : Option (List Int)) (left : Nat) : Nat × State :=
  let ps := s.participants b d
  if !s.admits d then (left, s.refuseAll b close whyState ps)
  else if 1024 < (s.bk d).grants.length + ps.length then (left, s.refuseAll b close whyTable ps)
  else
    match pre with
    | none => (left, s.refuseAll b close whyCheck ps)
    | some v =>
      let total := (v.getLastD 0).toNat
      let ramp := s.get R.GQ_SUN_RAMP
      let s := s.raiseIf (!s.stairQuota ps) R.BUD_FLT_QUOTA
      let stair (r : Nat) : Stair := ps.zip ((offsets r v).map (t0 + ·))
      let scanned (s : State) (k r : Nat) := s.sunScan ups d k (s.trialVec d (stair r))
      let (v1, s) := scanned s 1 ramp
      let (v2, s) := scanned s 2 (max 1 (ramp / 2))
      let (v3, s) := scanned s 3 (max 1 (ramp / 4))
      match s.takeTrial d (decide (total ≤ left)) true
          [(stair ramp, v1), (stair (max 1 (ramp / 2)), v2), (stair (max 1 (ramp / 4)), v3)] with
      | .inl st =>
        (left - total, st.foldl (fun s p =>
          let (w, s) := s.granted d p.1.1 p.2 (fcDur p.1.2.fc) p.1.2.tref (fcDelta p.1.2.fc) p.1.2.fc stGranted
          s.answer b close p.1.1 w) s)
      | .inr why => (left, s.refuseAll b close why ps)

/-- zone_left of a zone at closure (R208): at the highest reference among its districts with participants. -/
def State.zoneLeft (s : State) (b z : Nat) : Nat :=
  let vd := (s.inZone z).foldl (fun m d => if (s.participants b d).isEmpty then m else max m (s.vref d)) 0
  s.headroomAt z vd - s.zpend z - s.swWaiting z

/-- The lifts of a barrier end at the first die boundary at or after a slot (R207, R209). -/
def State.endLifts (s : State) (b slot : Nat) : State :=
  { s with adm := { s.adm with
    lifts := s.adm.lifts.map fun l =>
      if l.1 = b ∧ l.2.2 = none then (l.1, l.2.1, some slot) else l } }

/-- The prefix scans of the districts that hold participants, in ascending order (R208). -/
def State.prefixScans (s : State) (ups : List ScanUp) (b : Nat) : List Nat → List (Nat × Option (List Int)) × State
  | [] => ([], s)
  | d :: r =>
    let v := (s.participants b d).map fun p => (fcDelta p.2.fc, false)
    if v.isEmpty then s.prefixScans ups b r
    else
      let (o, s) := s.sunScan ups d 0 v
      let (l, s) := s.prefixScans ups b r
      ((d, o) :: l, s)

/-- Sunrise in the districts in turn, with what remains of each zone's headroom. -/
def State.sunriseAll (s : State) (ups : List ScanUp) (b t0 close : Nat) (lefts : List Nat) :
    List (Nat × Option (List Int)) → State
  | [] => s
  | x :: r =>
    let z := s.zoneOf x.1
    let (l, s) := s.sunriseDist ups b t0 close x.1 x.2 (lefts.getD z 0)
    s.sunriseAll ups b t0 close (lefts.set z l) r

/-- The slotting of a closed barrier (R208, R209): first every prefix scan, then the districts with their trials. One that DOZE held
closed is slotted on the return to RUN, and R193 applies from then (R210). DESIGN CHOICE (assumption 138): its T0 is the later of
that of R208 and the S_min of the return, and a staircase with a START above 255 does not pass. -/
def effSunrise (s : State) (b : Nat) (ups : List ScanUp) : State :=
  let x := s.bar b
  if x.st == .closed && s.devSt != devDoze then
    let t0 := max (slotAt (x.closeEdge + 200)) (slotAt (s.adm.back + 60))
    let lefts := (List.range 4).map fun z => s.zoneLeft b z
    let (l, s) := s.prefixScans ups b s.districts
    let s := s.sunriseAll ups b t0 x.closeEdge lefts l
    let s := s.updBar b fun x => { x with st := .booked, t0 := t0 }
    s.endLifts b (t0 + 64)
  else s

/-- A barrier does not close within TMO slots of its first arrival (R209). DESIGN CHOICE (assumption 151): TMO runs in DOZE as well,
and its refusals are given there. -/
def effBarTimeout (s : State) (b : Nat) : State :=
  let x := s.bar b
  if x.st == .opened && decide (x.firstSlot + s.get R.GQ_SUN_TMO ≤ s.dev.slot) then
    let s := s.districts.foldl (fun s d => s.refuseAll b (slotEdge s.dev.slot) whyBarrier (s.participants b d)) s
    let s := { s.endLifts b 0 with adm := { (s.endLifts b 0).adm with bars := tabDel s.adm.bars b } }
    (s.raise R.GQ_FLT_BARTMO).exhGq R.EXH_GQ_BARTMO
  else s

/-! ### Slot boundaries (R170 to R172, R176, R200, R216) -/

/-- The fall of a district at a slot boundary: E − B + A (R170, R181). -/
def State.fallAt (s : State) (d t : Nat) : Int :=
  let b := s.bk d
  b.grants.foldl (fun a g =>
    if 0 < g.d then
      (if g.start + g.dur = t then a + g.d else if g.start = t then a - g.d else a)
    else if g.start = t then a + min (-g.d) (b.base : Int) else a) 0

/-- The level of a fall `k` slots after its boundary. -/
def fillLevel (rate delta k : Nat) : Nat := delta - (k + 1) * rate

/-- Fill of a district in the slot that begins (R170, R172). DESIGN CHOICE (assumption 141): a fall fills at the FILL_RATE of each
slot, and one whose level has reached 0 is over. -/
def State.fill (s : State) (d : Nat) (nak : Bool) : State :=
  let rate := s.get R.DST_FILL_FILL_RATE d
  let t := s.dev.slot
  let delta := s.fallAt d t
  let s := if delta.toNat > rate then s.updBk d fun b => { b with fills := b.fills ++ [(t, delta.toNat)] } else s
  let s := s.updBk d fun b => { b with fills := b.fills.filter fun p => decide (0 < fillLevel rate p.2 (t - p.1)) }
  let sum := (s.bk d).fills.foldl (fun n p => n + fillLevel rate p.2 (t - p.1)) 0
  let level := if s.flag R.DST_FILL_FILL_EN d then min 0xFFF sum else 0
  let s := (s.set R.DST_FILL_STAT_LEVEL d level).set R.DST_FILL_STAT_ACK d (if nak then 0 else 1)
  let swon := s.get R.DST_FILL_SWON d
  let s := { s with fab := tabUpd s.fab d fun f => { f with fill := level, fillAck := !nak, swon := swon } }
  s.raiseIf (nak && decide (0 < level)) R.DST_FLT_FILLNAK d

/-- Whether the ledger of every district is empty: no booking in the present slot or behind it. -/
def State.ledgersEmpty (s : State) : Bool :=
  s.districts.all fun d => !((s.bk d).grants.any fun g => decide (0 < g.d) && decide (s.dev.slot < g.start + g.dur))

/-- The slot that begins at a slot boundary (R176): the first boundary after the start of the Orrery is boundary 0. -/
def State.nextSlot (s : State) : Nat := if s.dev.slotStb = 0 then s.dev.slot else s.dev.slot + 1

/-- A slot boundary: the ledgers advance, fill is driven, fab_act is sampled, consumed grants whose booking has ended
and barrier records that reach T0 are freed. There is none ahead of the origin, the first district period boundary (R176). DEDUCED
(assumption 142): on an edge that begins a die period too, it follows that boundary. -/
def effSlotBoundary (s : State) (act : List (Nat × Nat)) (nak : List Nat) : State :=
  if !s.dev.orrRun || s.dev.dper == 0 then s
  else
    let s := { s with dev := { s.dev with slot := s.nextSlot, slotStb := s.dev.slotStb + 1 } }
    let t := s.dev.slot
    let s := s.each s.districts fun s d => s.fill d (nak.contains d)
    let s := s.each s.districts fun s d => s.updBk d fun b =>
      { b with bookSum := b.bookSum + ledgerAt b (fun _ => true) t, bookCnt := b.bookCnt + 1,
               adj := b.adj.filter fun x => decide (t ≤ x.1), grants := b.grants.filter fun g => !(g.consumed && decide (g.start + g.dur ≤ t)) }
    let s := act.foldl (fun s a => if a.1 < 256 * s.cfg.n then s.updQ a.1 fun x => { x with act := x.act + a.2 % 256 } else s) s
    let s := { s with dev := { s.dev with ledgerBusy := s.dev.ledgerBusy || !s.ledgersEmpty } }
    { s with adm := { s.adm with bars := s.adm.bars.filter fun b => !(b.2.st == .booked && decide (b.2.t0 ≤ t)) } }

/-! ### Observation and expiry (R200 to R202) -/

/-- Observation at the boundary that ends district period `j`, whose mean current was `im` CU (R200). -/
def Grant.observe (g : Grant) (j : Nat) (im : Int) : Grant :=
  let j0 := slotEdge g.start / 20
  if g.consumed then g
  else if j + 1 = j0 then { g with iref := some im }
  else if j < j0 then g
  else match g.iref with
    | none => { g with iref := some im }
    | some r => { g with consumed := if 0 < g.d then decide (g.d ≤ 2 * (im - r)) else decide (2 * (im - r) ≤ g.d) }

/-- A pending forecast keeps I_meas of the last period that ended at or before its requested start, for an announced fall that
is answered later (R181, R200). -/
def Ent.noteRef (j : Nat) (im : Int) (e : Ent) : Ent :=
  if j + 1 = slotEdge (e.tref + fcLead e.fc) / 20 then { e with iref := some im } else e

/-- The grants of a district at the boundary that ends period `j` of mean current `ma` in mA, which counts in CU (R13, R200); a
consumed one whose booking has ended is freed. -/
def State.observe (s : State) (d j : Nat) (ma : Int) : State :=
  let im := rdiv ma 16
  let s := s.updBk d fun b => { b with grants := (b.grants.map fun g => g.observe j im).filter fun g =>
    !(g.consumed && decide (g.start + g.dur ≤ s.dev.slot)) }
  { s with queues := s.queues.map fun x =>
      if x.1 / 256 = d then (x.1, { x.2 with ents := x.2.ents.map (Ent.noteRef j im) }) else x }

/-- The CLK_REG edge on which a grant expires unless it is observed (R201). -/
def Grant.expiry (g : Grant) : Nat := slotEdge (g.start + g.dur) + 400

/-- A grant that has not been observed expires (R201). The observation of a district boundary on the same edge goes first
(R202). -/
def effExpiry (s : State) (d gid : Nat) : State :=
  match (s.bk d).grants.find? fun g => g.gid == gid with
  | none => s
  | some g =>
    if !g.consumed && decide (g.expiry ≤ slotEdge (s.dev.slot + 1)) && decide (g.expiry < 20 * s.dev.dper) then
      let s := s.updBk d fun b => { b with grants := b.grants.filter fun x => x.gid != gid }
      let s := s.set R.BUD_GCNT_COUNT g.gal (s.get R.BUD_GCNT_COUNT g.gal - g.booked)
      (s.inc R.GQ_QCNT1_EXPIRED g.queue).raise R.DST_FLT_UNOBS d
    else s

/-! ### Responses and the GQ page (R184, R185, R187, R211, R212) -/

/-- The fabric registers the next response or notice of a queue (R182, GQ_LAT). -/
def effResponse (s : State) (q edge : Nat) : State :=
  match (s.q q).out with
  | [] => s
  | (w, src) :: r =>
    let s := s.updQ q fun x => { x with out := r, rsp := some w }
    match src with
    | none => s
    | some e =>
      let lat := satU 8 (edge - e)
      (s.set R.GQ_LAT_LAST 0 lat).set R.GQ_LAT_MAX 0 (max lat (s.get R.GQ_LAT_MAX))

/-- INIT is sent to a queue (R184). -/
def effInit (s : State) (q : Nat) : State :=
  let x := s.q q
  if s.storeRuns && (x.initDue || (s.dev.booted && !x.inited)) && x.ents.isEmpty && x.infl == 0 then
    s.updQ q fun x => { x with out := x.out ++ [(rspWord stInit 0 0 0 0, none)], nextSeq := 0, inited := true, initDue := false }
  else s

/-- The pending entries of a queue whose booking instant has not passed are refused. -/
def State.refusePending (s : State) (q : Nat) : State :=
  let drop (e : Ent) : Bool := e.decided == none && !isHead e
  let n := ((s.q q).ents.filter fun e => drop e && e.st == .issued).length
  let s := { s with adm := { s.adm with
    order := s.adm.order.filter (fun x => x.2 != q),
    inflight := (s.adm.inflight.reverse.foldl (fun (k, l) x => if x = q ∧ 0 < k then (k - 1, l) else (k, x :: l)) (n, [])).2 } }
  let close (e : Ent) : Ent :=
    if drop e then { e with st := .answered, decided := some (refuseWord e.fc whyState) } else e
  let s := s.updQ q fun x => { x with ents := x.ents.map close }
  s.emitHeads q 8

/-- A flush of a queue (R185): the entries whose booking instant has passed keep their decision; every other pending
entry is refused, and INIT is due. -/
def effFlush (s : State) (q : Nat) : State := (s.updQ q fun x => { x with initDue := true }).refusePending q

/-- The forecasts held unanswered in DOZE are refused when SAFE_HOLD ends it (R210, R321). -/
def State.refuseHeld (s : State) : State := s.queues.foldl (fun s x => s.refusePending x.1) s

/-- Every instance of an indexed register field is cleared. -/
def State.clearBank (s : State) (F : Fld) : State :=
  { s with regs := s.regs.map fun (r : Nat × Word) =>
      if r.1 % 0x100000 == F.base && decide (0x100000 ≤ r.1) then (r.1, BitVec.ofNat 32 F.rst) else r }

/-- GQ_CTL.CNT_CLR (R212). -/
def effGqClr (s : State) : State :=
  ((s.clearBank R.GQ_QCNT0_GRANTED).clearBank R.GQ_QCNT1_EXPIRED).set R.GQ_LAT_MAX 0 0

/-! ### The meanings -/

/-- A command that names a queue: one that the configuration does not have changes nothing (assumption 6). -/
def onQueue (s : State) (q : Nat) (f : State) : Host.Outcome State Fault Refusal :=
  .next (if q < 256 * s.cfg.n then f else s)

/-- A command that names a barrier record: BID has 6 bits, and no other record exists. -/
def onBar (s : State) (b : Nat) (f : State) : Host.Outcome State Fault Refusal := .next (if b < 64 then f else s)

def execSlotBoundary (act : List (Nat × Nat)) (nak : List Nat) (s : State) : Host.Outcome State Fault Refusal :=
  .next (effSlotBoundary s act nak)

def execGrantExpiry (d gid : Nat) (s : State) : Host.Outcome State Fault Refusal := onDist s d (effExpiry s d gid)

def execForecastPost (q : Nat) (fc : BitVec 64) (edge : Nat) (s : State) : Host.Outcome State Fault Refusal :=
  onQueue s q (effForecastPost s q fc edge)

def execSunriseSlotting (b : Nat) (ups : List ScanUp) (s : State) : Host.Outcome State Fault Refusal :=
  onBar s b (effSunrise s b ups)

def execBarrierTimeout (b : Nat) (s : State) : Host.Outcome State Fault Refusal := onBar s b (effBarTimeout s b)

def execAdmissionIssue (q : Nat) (s : State) : Host.Outcome State Fault Refusal := onQueue s q (effIssue s q)

def execScanComplete (q at_ : Nat) (delta : Int) (s : State) : Host.Outcome State Fault Refusal :=
  onQueue s q (effScan s q at_ delta)

def execAdmissionDecision (q edge : Nat) (s : State) : Host.Outcome State Fault Refusal := onQueue s q (effDecision s q edge)

def execResponseDelivery (q edge : Nat) (s : State) : Host.Outcome State Fault Refusal := onQueue s q (effResponse s q edge)

def execInitNotice (q : Nat) (s : State) : Host.Outcome State Fault Refusal := onQueue s q (effInit s q)

def execGqFlush (g : Gal) (s : State) : Host.Outcome State Fault Refusal :=
  let q := s.get R.GQ_QSEL_QUEUE
  .next (s.hostRow g R.GQ_QCTL_FLUSH q 1 fun s => effFlush s q)

def execGqCntClr (g : Gal) (s : State) : Host.Outcome State Fault Refusal :=
  .next (s.hostRow g R.GQ_CTL_CNT_CLR 0 1 effGqClr)

end Sys2Proof.Machine
end

