-- ==== Sys2Proof/Machine/Transients.lean ====
section
/-!
DEFINITION. Transients (R131 to R136, R154 to R168): the droop sensors and the hub minimum, Thunderhead, the anvil
cells, and the VFEED comparators (R42).
-/
namespace Sys2Proof.Machine

/-- The hidden state of a hub, and a change of it. -/
def State.hubOf (s : State) (d : Nat) : HubS := tabAt s.hub d
def State.updHub (s : State) (d : Nat) (f : HubS → HubS) : State := { s with hub := tabUpd s.hub d f }

/-! ### Droop sensors (R132 to R134) -/

/-- The retirement and suspect registers that hold sensor `k` of a district. -/
def retFld (j : Nat) : Fld := if j = 0 then R.DST_SRET0_RET else R.DST_SRET1_RET
def suspFld (j : Nat) : Fld := if j = 0 then R.DST_SSUSP0_SUSP else R.DST_SSUSP1_SUSP

/-- Whether a sensor is suspect. -/
def State.suspect (s : State) (d k : Nat) : Bool := (s.get (suspFld (k / 32)) d).testBit (k % 32)

/-- Whether a sensor is retired, as in force since the last district boundary (R133). -/
def State.retired (s : State) (d k : Nat) : Bool := (s.hubOf d).ret.testBit k

/-- The valid sensors: neither retired nor suspect (R132). -/
def State.validSensors (s : State) (d : Nat) : List Nat :=
  (List.range 64).filter fun k => !s.retired d k && !s.suspect d k

/-- The available cells of a district (R87). -/
def State.availCells (s : State) (d : Nat) : List Nat := (cellsOf d).filter fun c => s.avail c

/-- The least of a list, or a default for an empty one. -/
def leastOr (dflt : Nat) : List Nat → Nat
  | [] => dflt
  | x :: r => r.foldl min x

/-- The hub minimum of one sample (R132). -/
def State.hubMin (s : State) (d : Nat) (codes : List Nat) : Nat :=
  let cells := leastOr (s.hubOf d).min ((s.availCells d).map fun c => (s.cell c).vcell)
  leastOr cells ((s.validSensors d).map fun k => codes.getD k 0)

/-- The counts of the suspect conditions of one tested sensor after a sample (R134). DESIGN CHOICE (assumption 117): with no
available cell there is no V_cell to compare with, so neither the low nor the high condition is met, and their counts
restart. -/
def suspCounts (lo hi : Option Nat) (h : HubS) (k code : Nat) : HubS :=
  let step (t : Tab Nat) (cond : Bool) (n : Nat) : Tab Nat :=
    if cond then tabPut t k (min n (tabAt t k + 1)) else tabDel t k
  let low := match lo with
    | some v => decide (code + 400 < v)
    | none => false
  let high := match hi with
    | some v => decide (v + 200 < code)
    | none => false
  { h with cntFail := step h.cntFail (code == 0 || code == 0xFFFF) 16,
           cntLow := step h.cntLow low 200, cntHigh := step h.cntHigh high 200 }

/-- The counts of a sensor restart (R134). -/
def HubS.dropCounts (h : HubS) (k : Nat) : HubS :=
  { h with cntFail := tabDel h.cntFail k, cntLow := tabDel h.cntLow k, cntHigh := tabDel h.cntHigh k }

/-- Whether a sensor has met a suspect condition for its count of samples (R134). -/
def HubS.suspectDue (h : HubS) (k : Nat) : Bool :=
  tabAt h.cntFail k == 16 || tabAt h.cntLow k == 200 || tabAt h.cntHigh k == 200

/-- The suspect tests of one sample over the valid sensors (R134). -/
def State.testSensors (s : State) (d : Nat) (codes : List Nat) : State :=
  let vs := (s.availCells d).map fun c => (s.cell c).vcell
  let lo := if vs.isEmpty then none else some (leastOr 0 vs)
  let hi := if vs.isEmpty then none else some (vs.foldl max 0)
  let valid := s.validSensors d
  s.updHub d fun h => valid.foldl (fun h k => suspCounts lo hi h k (codes.getD k 0)) h

/-! ### Anvil cells (R164 to R168) -/

/-- ANV_STAT.STATE codes. -/
abbrev aOff : Nat := 0
abbrev aCharging : Nat := 1
abbrev aReady : Nat := 2
abbrev aRelease : Nat := 3
abbrev aRecharge : Nat := 4
abbrev aFailed : Nat := 5

def State.ast (s : State) (a : Nat) : Nat := s.get R.ANV_STAT_STATE a
def State.updAnv (s : State) (a : Nat) (f : AnvS → AnvS) : State := { s with anv := tabUpd s.anv a f }

/-- The current in mA that a releasing anvil cell delivers (R164): in full at SPAN below the trip level, none at or above it. DESIGN
CHOICE (assumption 140): in whole mA, to the nearest. -/
def anvCurrent (trip span : Nat) (vloc : Int) : Nat := (rdiv (24000 * clampTo 0 span (trip - vloc)) span).toNat

/-- An anvil cell enters a state: ANV_STAT, ANV_RDY of its district, and its counts restart. -/
def State.setAnv (s : State) (a st : Nat) : State :=
  let x : AnvS := tabAt s.anv a
  let s := (s.set R.ANV_STAT_STATE a st).set R.ANV_STAT_VST a x.vst
  let s := if st = aReady then s.raiseBit R.DST_TH_STAT_ANV_RDY (a / 4) (a % 4)
    else s.clearBit R.DST_TH_STAT_ANV_RDY (a / 4) (a % 4)
  s.updAnv a fun x => { x with win := [], leak := 0, relNs := 0, chg := 0, cur := 0 }

/-- An anvil cell fails (R167, R168). -/
def State.anvFail (s : State) (a : Nat) : State :=
  (((s.setAnv a aFailed).raise R.ANV_FLT_ANVFAIL).raise R.DST_FLT_ANVFAIL (a / 4)).report clsAnvil 0 (srcOf 3 a)

/-- The end of a release after `ns` (R165). -/
def State.anvRelEnd (s : State) (a ns : Nat) : State :=
  if s.ast a == aRelease then (s.setAnv a aRecharge).set R.ANV_STAT_LASTLEN a (min ns 40) else s

/-- The anvil cells of a district. -/
def anvilsOf (d : Nat) : List Nat := (List.range 4).map fun k => 4 * d + k

/-- Every release of a district ends with FIRED (R158, R160): its length in whole samples. -/
def State.endReleases (s : State) (d : Nat) : State :=
  s.each (anvilsOf d) fun s a => s.anvRelEnd a (tabAt s.anv a : AnvS).relNs

/-- The anvil cells of a district go OFF (R167). -/
def State.anvilsOff (s : State) (d : Nat) : State :=
  s.each (anvilsOf d) fun s a => if s.ast a == aFailed || s.ast a == aOff then s else s.setAnv a aOff

/-- The anvil cells of a district begin to charge (R167). -/
def State.anvilsCharge (s : State) (d : Nat) : State :=
  s.each (anvilsOf d) fun s a => if s.ast a == aOff then s.setAnv a aCharging else s

/-- Whether an anvil cell charges (R166, R167). -/
def State.anvCharging (s : State) (a : Nat) : Bool := s.ast a == aCharging || s.ast a == aRecharge

/-- V_st at which a release ends, in 0.25 mV: FLOOR above the reference (R165). -/
def State.anvFloor (s : State) (a : Nat) : Nat := (tabAt s.law (a / 4) : LawS).appliedV + 20 * s.get R.ANV_CFG_FLOOR

/-- The current of an anvil cell after a hub sample (R164), from that of the fire on. DESIGN CHOICE (assumption 118): the current
follows the rail at its node from sample to sample. -/
def State.anvDeliver (s : State) (a vloc : Nat) : State :=
  let i := if s.ast a == aRelease then anvCurrent (s.get R.DST_TH_STAT_TRIP (a / 4)) (s.get R.ANV_CFG_SPAN) vloc else 0
  s.updAnv a fun x => { x with cur := i }

/-- One anvil cell at a hub sample: its voltage, the time of its release and of its charge (R165, R167), and its monitor while READY
(R166). -/
def State.anvSample (s : State) (a vst vfeed : Nat) : State :=
  let s := s.updAnv a fun x =>
    { x with vst := vst, relNs := if s.ast a == aRelease then x.relNs + 5 else x.relNs,
             chg := if s.anvCharging a then x.chg + 1 else x.chg }
  if s.ast a == aReady then
    let x : AnvS := tabAt s.anv a
    if decide (vst + 800 ≤ x.win.foldl max 0) then s.anvFail a
    else s.updAnv a fun x => { x with win := (vst :: x.win).take 200,
                                      leak := if vst + 160 < vfeed then min 200 (x.leak + 1) else 0 }
  else s

/-! ### Thunderhead (R154 to R162) -/

/-- DST_TH_STAT.STATE codes. -/
abbrev thDisarmed : Nat := 0
abbrev thArmed : Nat := 1
abbrev thFired : Nat := 2
abbrev thTaper : Nat := 3

/-- The conditions of R156, but for the device state of DISARM by a storm. -/
def State.armOk (s : State) (d : Nat) : Bool :=
  let p : PwrS := tabAt s.pwr d
  s.isOn d && p.step != .entSw && p.step != .entCells && !(s.validSensors d).isEmpty
    && (s.devSt == devRun || s.devSt == devQuiet || s.devSt == devDoze || s.devSt == devHold)
    && !s.flag R.DST_TH_STAT_STORMD d

/-- Forcing and taper end at once, and Thunderhead is DISARMED (R160); a fire that ends so has not ended by MAXHOLD, and the count
of those that do in a row starts again (R159). -/
def State.thDisarm (s : State) (d : Nat) : State :=
  let fired := s.thSt d == thFired
  ((s.endReleases d).set R.DST_TH_STAT_STATE d thDisarmed).updHub d fun h =>
    { h with taper := 0, recov := 0, fireCnt := 0, storm := if fired then 0 else h.storm }

/-- The order of R157: every usable phase of every available cell active, READY anvil cells released. -/
def State.thFire (s : State) (d : Nat) (depth slope : Bool) : State :=
  let s := (s.set R.DST_TH_STAT_STATE d thFired).set R.DST_TH_STAT_SRC d ((if depth then 1 else 0) + (if slope then 2 else 0))
  let s := (s.inc R.DST_TH_CNT_FIRES d).raise R.DST_FLT_THFIRE d
  let s := if s.get R.CAP_TRIG_DIST == d then s.capTrig 2 else s
  let s := s.each (s.availCells d) fun s c => s.updCell c fun x => { x with act := s.usable c, shed := 0 }
  let s := s.each (List.range 4) fun s k =>
    if s.ast (4 * d + k) == aReady && (s.get R.DST_TH_TIME_ANV_EN d).testBit k
    then (s.setAnv (4 * d + k) aRelease).incWrap R.ANV_CNT_RELEASES (4 * d + k) else s
  s.updHub d fun h => { h with fireCnt := 0, recov := 0, taper := 0 }

/-- I_exit is captured and the taper starts (R158); the READY releases end. DESIGN CHOICE (assumption 155): a cell that is not
available here keeps the I_exit of an earlier fire, 0 where there was none, should it complete its soft start in the taper. -/
def State.thTaperBegin (s : State) (d : Nat) : State :=
  let s := s.each (s.availCells d) fun s c => s.updCell c fun x => { x with iexit := x.ends }
  let n := s.get R.DST_TH_TIME_TAPER d
  (s.endReleases d).updHub d fun h => { h with taper := n, taperTot := n, recov := 0 }

/-- Thunderhead at one hub sample (R155, R158, R160, R161). -/
def State.thSample (s : State) (d mn : Nat) : State :=
  let h := s.hubOf d
  let trip := s.get R.DST_TH_STAT_TRIP d
  let depth := decide (mn < trip)
  let slope := decide (h.last4.length = 4) && decide (mn + s.get R.DST_TH_CFG_SLOPE d ≤ h.last4.getD 3 0)
    && decide (mn < trip + h.deff)
  let above := decide (trip + s.get R.DST_TH_CFG_HYST d ≤ mn)
  let st := s.thSt d
  if st == thDisarmed then if s.armOk d then s.set R.DST_TH_STAT_STATE d thArmed else s
  else if !s.armOk d then s.thDisarm d
  else if st == thFired then
    let s := s.updHub d fun h => { h with fireCnt := h.fireCnt + 1, recov := if above then min 2 (h.recov + 1) else 0 }
    if decide (2 ≤ (s.hubOf d).recov) && !depth && !slope
    then ((s.thTaperBegin d).set R.DST_TH_STAT_STATE d thTaper).updHub d fun h => { h with storm := 0 } else s
  else if depth || slope then s.thFire d depth slope
  else s

/-- A hub sample (R131, R132): hub minimum, statistics of the die period, suspect tests, anvil monitors, Thunderhead. -/
def effHubSample (s : State) (d : Nat) (codes vst vloc : List Nat) (vfeed : Nat) : State :=
  let mn := s.hubMin d codes
  let s := s.testSensors d codes
  let s := s.updHub d fun h =>
    { h with min := mn, sum := h.sum + mn, cnt := h.cnt + 1, low := min h.low mn, droop := codes, taper := h.taper - 1 }
  let s := s.each (List.range 4) fun s k => s.anvSample (4 * d + k) (vst.getD k 0) vfeed
  let s := (s.thSample d mn).each (List.range 4) fun s k => s.anvDeliver (4 * d + k) (vloc.getD k 0)
  s.updHub d fun h => { h with last4 := (mn :: h.last4).take 4 }

/-- A sensor is marked suspect (R134). -/
def effSensorSuspect (s : State) (d k : Nat) : State :=
  if (s.hubOf d).suspectDue k && !s.retired d k && !s.suspect d k then
    (((s.raiseBit (suspFld (k / 32)) d (k % 32)).updHub d fun h => h.dropCounts k).raise R.DST_FLT_SUSP d).report
      clsSensor 0 (srcOf 2 d)
  else s

/-- A write to DST_SSUSP readmits the suspect sensors whose bits are written 1, with their counts from zero (R134). -/
def effSsusp (s : State) (d j : Nat) (w : Word) : State :=
  let old := s.get (suspFld j) d
  let s := s.set (suspFld j) d (old &&& (2 ^ 32 - 1 - w.toNat))
  s.updHub d fun h => (List.range 32).foldl (fun h k => if w.getLsbD k && old.testBit k then h.dropCounts (32 * j + k) else h) h

/-- A write to DST_SRET; it takes effect at the next district boundary (R133). -/
def effSret (s : State) (d j : Nat) (w : Word) : State := s.set (retFld j) d w.toNat

/-- The retirements written take effect at a district boundary; a lifted one is tested from zero counts (R133, R134). -/
def State.applyRet (s : State) (d : Nat) : State :=
  let r := s.get R.DST_SRET0_RET d + 2 ^ 32 * s.get R.DST_SRET1_RET d
  let old := (s.hubOf d).ret
  s.updHub d fun h => (List.range 64).foldl
    (fun h k => if old.testBit k != r.testBit k then h.dropCounts k else h) { h with ret := r }

/-- FIRED reaches MAXHOLD (R158, R159). -/
def effMaxhold (s : State) (d : Nat) : State :=
  if s.thSt d == thFired && decide (2 * s.get R.DST_TH_TIME_MAXHOLD d ≤ (s.hubOf d).fireCnt) then
    let s := (s.thTaperBegin d).inc R.DST_TH_CNT_MAXEXIT d
    let s := (s.raise R.DST_FLT_THMAX d).updHub d fun h => { h with storm := h.storm + 1 }
    if s.get R.DST_TH_TIME_STORM d ≤ (s.hubOf d).storm then
      (((s.set R.DST_TH_STAT_STATE d thDisarmed).set R.DST_TH_STAT_STORMD d 1).updHub d fun h =>
        { h with storm := 0 }).report clsStorm 0 (srcOf 2 d)
    else s.set R.DST_TH_STAT_STATE d thTaper
  else s

/-- The taper ends (R158). -/
def effTaperEnd (s : State) (d : Nat) : State :=
  if s.thSt d == thTaper && (s.hubOf d).taper == 0 then s.set R.DST_TH_STAT_STATE d thArmed else s

/-- A release has lasted `ns` and V_st stands at `vst`: it ends after 40 ns, at its floor, or with FIRED (R165). The time agrees
with the samples taken since the release began. -/
def effAnvRelease (s : State) (a ns vst : Nat) : State :=
  let n := (tabAt s.anv a : AnvS).relNs
  if s.ast a == aRelease && decide (n ≤ ns) && decide (ns ≤ n + 5)
      && (decide (40 ≤ ns) || decide (vst ≤ s.anvFloor a) || s.thSt (a / 4) != thFired)
  then (s.updAnv a fun x => { x with vst := vst }).anvRelEnd a ns else s

/-- V_st reaches VFEED − 20 mV (R166, R167). -/
def effAnvCharged (s : State) (a vst vfeed : Nat) : State :=
  if s.anvCharging a && decide (vfeed ≤ vst + 80) then (s.updAnv a fun x => { x with vst := vst }).setAnv a aReady else s

/-- CHG_TMO has passed without READY (R167): a hub samples every 5 ns. -/
def effAnvTimeout (s : State) (a : Nat) : State :=
  if s.anvCharging a && decide (2 * s.get R.ANV_CFG_CHG_TMO ≤ (tabAt s.anv a : AnvS).chg) then s.anvFail a else s

def effAnvLeak (s : State) (a : Nat) : State :=
  if s.ast a == aReady && (tabAt s.anv a : AnvS).leak == 200 then s.setAnv a aRecharge else s

/-- VFEED at a hub has stayed outside its window for 100 ns (R42, R336): before the release no report reaches the
collector, and the zone's hubs wait again for VFEED; from it, the hubs that have started report. -/
def effVfeedExcursion (s : State) (d : Nat) : State :=
  let z := s.zoneOf d
  let s := { s with flt := { s.flt with relOk := s.flt.relOk.erase clsVfeed } }
  let s := s.updHub d fun h => { h with feedBad := true }
  let s := s.updPort z fun p => if p.departed then { p with feedBad := true } else p
  if !s.dev.released then
    if s.dev.hubs.testBit z then { s with dev := { s.dev with feedWait := s.dev.feedWait ||| 2 ^ z } } else s
  else if s.dev.hubs.testBit z then s.report clsVfeed 0 (srcOf 12 d) else s

/-! ### The meanings -/

/-- A command that names an anvil cell: one that the configuration does not have changes nothing (assumption 6). -/
def onAnv (s : State) (a : Nat) (f : State) : Host.Outcome State Fault Refusal :=
  .next (if a < 4 * s.cfg.n then f else s)

/-- A command of a gallery that names a register of a pair of a district. -/
def onPair (s : State) (j : Nat) (f : State) : Host.Outcome State Fault Refusal := .next (if j < 2 then f else s)

def execHubSample (d : Nat) (codes vst vloc : List Nat) (vfeed : Nat) (s : State) : Host.Outcome State Fault Refusal :=
  onDist s d (effHubSample s d codes vst vloc vfeed)

def execSensorSuspect (d k : Nat) (s : State) : Host.Outcome State Fault Refusal := onDist s d (effSensorSuspect s d k)

def execSensorReadmit (g : Gal) (d j : Nat) (w : Word) (s : State) : Host.Outcome State Fault Refusal :=
  onPair s j (s.hostWrite g ((suspFld j).addr d) w fun s => effSsusp s d j w)

def execSensorRetireWrite (g : Gal) (d j : Nat) (w : Word) (s : State) : Host.Outcome State Fault Refusal :=
  onPair s j (s.hostWrite g ((retFld j).addr d) w fun s => effSret s d j w)

def execThunderheadMaxhold (d : Nat) (s : State) : Host.Outcome State Fault Refusal := onDist s d (effMaxhold s d)

def execTaperEnd (d : Nat) (s : State) : Host.Outcome State Fault Refusal := onDist s d (effTaperEnd s d)

def execAnvilReleaseEnd (a ns vst : Nat) (s : State) : Host.Outcome State Fault Refusal := onAnv s a (effAnvRelease s a ns vst)

def execAnvilCharged (a vst vfeed : Nat) (s : State) : Host.Outcome State Fault Refusal := onAnv s a (effAnvCharged s a vst vfeed)

def execAnvilChargeTimeout (a : Nat) (s : State) : Host.Outcome State Fault Refusal := onAnv s a (effAnvTimeout s a)

def execAnvilLeakRecharge (a : Nat) (s : State) : Host.Outcome State Fault Refusal := onAnv s a (effAnvLeak s a)

def execVfeedExcursion (d : Nat) (s : State) : Host.Outcome State Fault Refusal := onDist s d (effVfeedExcursion s d)

end Sys2Proof.Machine
end

