-- ==== Sys2Proof/Machine/Law.lean ====
section
/-!
DEFINITION. The district law (R100 to R111, R127 to R129), region selection (R144 to R148), the test-signal generator
(R149 to R152), and the hub's frames (R66, R104).
-/
namespace Sys2Proof.Machine

def State.lw (s : State) (d : Nat) : LawS := tabAt s.law d
def State.updLaw (s : State) (d : Nat) (f : LawS → LawS) : State := { s with law := tabUpd s.law d f }
def State.fc (s : State) (d : Nat) : FcsS := tabAt s.fcs d
def State.updFc (s : State) (d : Nat) (f : FcsS → FcsS) : State := { s with fcs := tabUpd s.fcs d f }
def State.pw (s : State) (d : Nat) : PwrS := tabAt s.pwr d
def State.updPw (s : State) (d : Nat) (f : PwrS → PwrS) : State := { s with pwr := tabUpd s.pwr d f }

/-- Whether the Orrery computes a district (R308, R309): from RAILOK of its switch-on to the start of its entry, which in a
darkening, of a switch-on too, is the stop order (R243, R246); in the HELD of a restart it computes the supply group from its start
on (R328, R335). -/
def State.computes (s : State) (d : Nat) : Bool :=
  let p := s.pw d
  let f : FoS := tabAt s.fo d
  (p.step == .onRail || p.step == .onPower || p.step == .onIso || (p.step == .idle && (s.isOn d || f.darkRun)))
    && (s.devSt != devOff || s.flt.offPhase == .heldOff)
    && (decide (s.get R.DST_FO_STAT_STATE d < 2) || f.darkStep == 1 || f.darkStep == 2)

/-- The law of a district starts from nothing: x̂ and u_prev cleared (R309). -/
def State.clearLaw (s : State) (d : Nat) : State :=
  s.updLaw d fun l => { l with xhat := ⟨minExp, List.replicate l.img.n 0⟩, applied := List.replicate l.img.m 0,
                               pexp := [minExp, minExp, minExp, minExp], hold := 0, persDue := false, persDone := false,
                               late := false, badWord := l.badWord.filter fun w => !w.isXhat && !w.isUPrev, uDbg := none }

/-! ### The test-signal generator (R150, R152) -/

/-- Whether the generator adds g on a district. -/
def State.testOn (s : State) (d : Nat) : Bool := s.flag R.LOOP_TST_STAT_ACTIVE && s.get R.LOOP_TST_CTL_DIST == d

/-- A stop condition (R152) is recorded, and takes effect at the next district boundary. The first one stands, and any of them
goes before a write to ARM of the same period. DESIGN CHOICE (assumption 114): a condition that arises while the generator is
armed and not yet active ends the arming in the same way, with its STOP code and TSTSTOP. -/
def State.tstStop (s : State) (code : Nat) : State :=
  if (s.flag R.LOOP_TST_STAT_ACTIVE || s.tst.armed) && (s.tst.stop == 0 || s.tst.stop == 1)
  then { s with tst := { s.tst with stop := code } } else s

/-- The generator stops at a district boundary (R152). -/
def State.tstEnd (s : State) : State :=
  if s.tst.stop = 0 then s
  else
    let s := ((s.set R.LOOP_TST_STAT_ACTIVE 0 0).set R.LOOP_TST_STAT_STOP 0 s.tst.stop).set R.LOOP_TST_CTL_ARM 0 0
    let s := s.raiseIf (decide (3 ≤ s.tst.stop)) R.LOOP_FLT_TSTSTOP
    { s with tst := { s.tst with stop := 0, armed := false, g := 0 } }

/-- The output of the generator for the present district period (R150). DESIGN CHOICE (assumption 112): MODE 0b00, written after the
arming, runs as SINE. -/
def State.tstStep (s : State) : State :=
  if !s.flag R.LOOP_TST_STAT_ACTIVE then s
  else
    let amp := s.getI R.LOOP_TST_AMP_AMP
    let t := s.tst
    let t : TstS := match s.get R.LOOP_TST_CTL_MODE with
      | 1 =>
        let t := if t.hold = 0 then
            let b := t.s.testBit 14 != t.s.testBit 13
            { t with s := (t.s * 2 + (if b then 1 else 0)) % 2 ^ 15, bit := b, hold := s.get R.LOOP_TST_AMP_HOLD }
          else { t with hold := t.hold - 1 }
        { t with g := if t.bit then amp else -amp }
      | 2 => { t with g := amp }
      | _ =>
        let p := (t.p + s.get R.LOOP_TST_GEN_FTW) % 2 ^ 24
        { t with p := p, g := sineCode amp p + clampTo (-1) 1 (Config.sineErr p) }
    ({ s with tst := t }).inc R.LOOP_TST_STAT_PERIODS

/-! ### The inputs of the law -/

/-- The current code of a cell in a measurement frame: its four phases (R102, CEL_CUR.I_MEAS). -/
def cellCode (m : Meas) (c : Nat) : Nat := ((List.range 4).foldl (fun n p => n + m.phase.getD (4 * c + p) 0) 0).toNat

/-- A code as Gather reads it: above 0x7FFF it enters as 32,767 (R102). -/
def gatherCode (x : Nat) : Int := (min x 32767 : Nat)

/-- An element of y (R102, R135). -/
def State.gather (s : State) (ms : List Meas) (d : Nat) : GatherSrc → Int
  | .cell c => gatherCode (cellCode (ms.getD d default) c)
  | .boundary e c => gatherCode (cellCode (ms.getD e default) c)
  | .droop k =>
    let h := s.hubOf d
    gatherCode (if s.retired d k || s.suspect d k then h.min else h.droop.getD k h.min)
  | .hubMin => gatherCode (s.hubOf d).min

/-- The current granted in a district for the district period `k` periods after the present one: the largest published BOOK
over the slots that overlap it (R35, R128, R197). -/
def State.grantedIn (s : State) (d k : Nat) : Nat :=
  let j := s.dev.dper - 1
  let t0 := 100 * (j + k)
  let first := t0 / 32
  (List.range ((t0 + 99) / 32 + 1 - first)).foldl
    (fun m i => max m (ledgerAt (s.bk d) (fun g => decide (g.pubAt ≤ j)) (first + i))) 0

/-- An element of f (R128, R112, R113): the Forecaster outputs stand as its step entered them, and as `fcMask` leaves them. -/
def State.fElem (s : State) (d : Nat) : FSrc → Acc
  | .forecaster j =>
    let o := (tabAt s.fcs d : FcsS).out
    (o.m.getD j 0, o.e - 15)
  | .granted k => (s.grantedIn d k, 0)
  | .zero => (0, 0)

/-- An element of r (R129), with g where the generator adds it (R151). -/
def State.rElem (s : State) (d i : Nat) (src : RSrc) : Acc :=
  let l := s.lw d
  let v : Int := match src with
    | .vref => l.vref
    | .tgt => l.tgt
    | .granted => s.grantedIn d 0
    | .one => 1
  let g := if s.testOn d && !s.flag R.LOOP_TST_CTL_TGT && s.get R.LOOP_TST_CTL_ELEM == i then s.tst.g else 0
  (v + g, 0)

/-- The coefficient set in use by a district: districts that name one set share it (R339). -/
def State.coefOf (s : State) (d : Nat) : CoefSet := tabAt s.coef ((s.lw d).img.sets.getD (s.get R.DST_RGN_STAT_SET d) 0)

/-- CCAP of a cell in mA (R233), with the availability and good phases latched at the boundary. -/
def State.ccap (s : State) (d c : Nat) : Nat :=
  let f : FoS := tabAt s.fo d
  let g := tabAt f.goodPh c
  if !f.avail.testBit c then 0 else if ((g * 750 * f.capCnt : Nat) : Int) < tabAt f.capSum c then g * 750 else g * 1400

/-! ### The law (R127) -/

/-- What one sequence computes. -/
structure SeqOut where
  xm : Vec
  e : Vec
  x : Vec
  u : Vec
  /-- the points of the renormalisations that saturated (R98) -/
  sats : List Nat
  cmd : List Int
  nclip : Nat
  /-- the first stage whose residue check fails -/
  bad : Option Nat

/-- The first stage of a list whose checks fail. -/
def firstBad (l : List (Nat × Bool)) : Option Nat := (l.find? fun x => !x.2).map Prod.fst

/-- The point of a renormalisation, if it saturated: twice its stage, and one more where the stage has a second one. -/
def satIn (b : Bool) (pt : Nat) : List Nat := if b then [pt] else []

/-- The stages Predict to Feedback: the four vectors, the renormalisations that saturated, and the first stage whose checks
fail (R117, R118) under an upset and an inverted residue. -/
def lawStages (flip : Option Nat) (z : Upset) (n m p : Nat) (k : CoefSet) (xh up f y r : Vec) : SeqOut :=
  let (a1, c1) := stage (flip == some 1) z 1 n [.mul 30 false k.A xh, .mul 30 false k.B up, .mul 30 false k.F f]
  let (xm, s1, d1) := renormC z 1 16 a1
  let (a2, c2) := stage (flip == some 2) z 2 p [.vec 15 y, .mul 30 true k.C xm]
  let (e, s2, d2) := renormC z 2 16 a2
  let (a3, c3) := stage false {} 2 n [.vec 15 xm, .mul 30 false k.L e]
  let (x, s3, d3) := renormC {} 2 16 a3
  let (a4, c4) := stage (flip == some 3) z 3 m [.mul 30 true k.K x, .mul 30 false k.N r]
  let (u, s4, d4) := renormC z 3 16 a4
  { xm := xm, e := e, x := x, u := u, sats := satIn s1 2 ++ satIn s2 4 ++ satIn s3 5 ++ satIn s4 6, cmd := [], nclip := 0,
    bad := firstBad [(1, c1 && d1), (2, c2 && d2 && c3 && d3), (3, c4 && d4)] }

/-- Limit on one element (R103, R151): the code and the limited code. -/
def limitElem (slew cap : Nat) (prev code : Int) : Int :=
  clampTo 0 cap (clampTo (prev - slew) (prev + slew) code)

/-- The cycles that a sequence spends beyond its base (R109). DESIGN CHOICE (assumption 108): after a discarded or held period
the exponents that predict are those of the last passed period. -/
def extraCycles (pexp : List Int) (o : SeqOut) (corr : Nat) : Nat :=
  let far (i : Nat) (v : Vec) : Nat := if 4 < (v.e - pexp.getD i minExp).natAbs then 3 else 0
  far 0 o.xm + far 1 o.e + far 2 o.x + far 3 o.u
    + (if 4 < (o.u.e - 15).natAbs && !(o.u.m.all fun x => x == 0) then 2 else 0) + 2 * corr

/-- u_prev of a district (R100, R162): the applied commands, or the measured currents under Thunderhead. -/
def State.uPrev (s : State) (ms : List Meas) (d : Nat) : List Int :=
  let l := s.lw d
  if s.thSt d == thFired || s.thSt d == thTaper
  then (List.range l.img.m).map fun c => (cellCode (ms.getD d default) c : Int) else l.uDbg.getD l.applied

/-- The sequence of a district over its present state and a measurement, under an upset and an inverted residue (R127, R117,
R118): the residues pass from Gather through Limit's conversion to codes to the frame. DESIGN CHOICE (assumption 110): a
residue inverted in a stage without products is a mismatch there. -/
def State.sequence (s : State) (ms : List Meas) (d : Nat) (z : Upset) (flip : Option Nat) : SeqOut :=
  let l := s.lw d
  let i := l.img
  let up := s.uPrev ms d
  let late : Upset := { z with late := true }
  let (y, _, cy) := renormC late 0 16 (i.gather.map fun g => (s.gather ms d g, 0))
  let f := vec16 (i.flist.map (s.fElem d))
  let r := vec16 ((List.range i.rlist.length).map fun k => s.rElem d k (i.rlist.getD k .one))
  let o := lawStages flip z i.n i.m i.p (s.coefOf d) l.xhat (vec16 (up.map fun x => (x, 0))) f y r
  let conv (c : Nat) : Int := strikeElem late 4 c (elemCode 15 o.u c)
  let code (c : Nat) : Int := conv c +
    (if s.testOn d && s.flag R.LOOP_TST_CTL_TGT && s.get R.LOOP_TST_CTL_ELEM == c then s.tst.g else 0)
  let cmd := (List.range i.m).map fun c => limitElem i.slew (s.ccap d c) (up.getD c 0) (code c)
  let sent := (List.range i.m).map fun c => strikeElem late 5 c (cmd.getD c 0)
  let c4 := (List.range i.m).all fun c => shiftOk (o.u.m.getD c 0) (conv c) (15 - o.u.e)
  let c5 := (List.range i.m).all fun c => res7 (sent.getD c 0) == res7 (cmd.getD c 0)
  { o with cmd := sent, nclip := ((List.range i.m).filter fun c => cmd.getD c 0 != code c).length,
           bad := firstBad [(0, cy && flip != some 0), (o.bad.getD 1, o.bad.isNone), (4, c4 && flip != some 4),
                            (5, c5 && flip != some 5)] }

/-- EMAX (R106): the largest magnitude of e over the droop elements. DESIGN CHOICE (assumption 107): an entry that takes the
hub minimum counts as a droop element. -/
def emaxOf (g : List GatherSrc) (e : Vec) : Nat :=
  (List.range g.length).foldl (fun m k => match g.getD k .hubMin with
    | .droop _ => max m (min 0xFFFF (elemCode 15 e k).natAbs)
    | .hubMin => max m (min 0xFFFF (elemCode 15 e k).natAbs)
    | _ => m) 0

/-! ### Frames at the hub (R66, R104) -/

/-- A frame, or a held frame, reaches the hub: every cell with a command in RUN takes it; the other cells miss one. -/
def State.frame (s : State) (d : Nat) (cmd : List Int) (v : Nat) : State :=
  let s := s.each (List.range cmd.length) fun s c =>
    if s.cst (cellIx d c) == cRun then s.cellCurrent (cellIx d c) (cmd.getD c 0).toNat v else s
  s.updLaw d fun l => { l with applied := cmd, appliedV := v, missed := if cmd.isEmpty then min 2 (l.missed + 1) else 0,
                               missedHi := min 2 (l.missedHi + 1), sent := false }

/-- A command frame is issued and applied, which writes u_prev afresh, and its delay from latch to application is noted (ORR_DLY);
what stood before it is kept, should the hub report that it dropped the frame. -/
def State.issueFrame (s : State) (d : Nat) (cmd : List Int) (v delay : Nat) : State :=
  let l := s.lw d
  let last := s.get R.ORR_DLY_LAST d
  let top := s.get R.ORR_DLY_MAX d
  let s := (s.set R.ORR_DLY_LAST d (min 0xFF delay)).set R.ORR_DLY_MAX d (max top (min 0xFF delay))
  (s.frame d cmd v).updLaw d fun x =>
    { x with sent := true, held := l.applied, heldV := l.appliedV, heldDly := (last, top), uDbg := none,
             badWord := x.badWord.filter fun w => !w.isUPrev }

/-- The hub's frame flags that it dropped the command frame of the last period, since a safe-state order had reached it first
(R105): the held commands stand, the cells go on with them, and ORR_DLY shows the command applied before. DESIGN CHOICE (assumption 115): the model learns of the drop
from that flag, and applies a frame as it issues it until then. -/
def State.dropFrame (s : State) (d : Nat) (m : Meas) : State :=
  let l := s.lw d
  if m.dropped && l.sent && s.devSt == devHold then
    let s := s.each (List.range l.held.length) fun s c =>
      if s.cst (cellIx d c) == cRun then s.cellCurrent (cellIx d c) (l.held.getD c 0).toNat l.heldV else s
    let s := (s.set R.ORR_DLY_LAST d l.heldDly.1).set R.ORR_DLY_MAX d l.heldDly.2
    s.updLaw d fun x => { x with applied := l.held, appliedV := l.heldV, sent := false, uDbg := none }
  else s

/-- The hub repeats the held commands. -/
def State.holdFrame (s : State) (d : Nat) : State := s.frame d (s.lw d).applied (s.lw d).appliedV

/-- No frame reaches the hub. -/
def State.noFrame (s : State) (d : Nat) : State :=
  s.updLaw d fun l => { l with missed := min 2 (l.missed + 1), missedHi := min 2 (l.missedHi + 1), sent := false }

/-- Two district periods without a valid frame: the cells go to LOCAL on the last V_ref (R66, R104). A cell that is LOCAL already
stands on its reference. -/
def effFrameLoss (s : State) (d : Nat) : State :=
  let l := s.lw d
  let off := !s.dev.orrRun
  s.each (List.range 16) fun s c =>
    let k := cellIx d c
    let lost := off || (if c < l.applied.length then decide (2 ≤ l.missed) else decide (2 ≤ l.missedHi))
    if lost && s.cst k == cRun && !s.flag R.CEL_STAT_LOCAL k then s.cellLocal k l.appliedV else s

/-! ### One district period of a district (R108 to R111, R119, R120) -/

/-- A discarded sequence: x̂, u_prev and the summaries stay, and the hub holds; a run of HOLD_LIM or more raises one persistent
fault (R119, R120). -/
def State.discard (s : State) (d : Nat) : State :=
  let lim := s.get R.ORR_CTL_HOLD_LIM
  (s.holdFrame d).updLaw d fun l =>
    let due := decide (lim ≤ l.hold + 1) && !l.persDone
    { l with hold := l.hold + 1, persDue := l.persDue || due, persDone := l.persDone || due, stale := true }

/-- Whether an armed injection finds an operand in a stage (R107, ORR_INJ). -/
def stageWorks (i : DistImg) (st : Nat) : Bool :=
  match st with
  | 0 => decide (0 < i.p)
  | 1 => decide (0 < i.n)
  | 2 => decide (0 < i.n) && decide (0 < i.p)
  | 3 => decide (0 < i.m) && (decide (0 < i.n) || decide (0 < i.s))
  | _ => decide (0 < i.m)

/-- What the armed injection does to a sequence up to Limit (ORR_INJ): the stage whose first product's residue it inverts, the stage
whose operand word it makes uncorrectable, and the single bits it inverts. -/
def State.seqInj (s : State) (d : Nat) : Option Nat × Option Nat × Nat × State :=
  let st := s.get R.ORR_INJ_STAGE
  if 4 < st then (none, none, 0, s)
  else
    let (k, s) := s.takeInj st d
    if !stageWorks (s.lw d).img st then (none, none, 0, s)
    else if k = 1 then (some st, none, 0, s)
    else if k = 2 then (none, none, 1, s)
    else if k = 3 then (none, some st, 0, s)
    else (none, none, 0, s)

/-- The earlier of two stages, or of two points of a sequence. -/
def minStage (a b : Option Nat) : Option Nat :=
  match a with
  | none => b
  | some x => some (min x (b.getD x))

/-- The coefficient set that a district uses. -/
def State.setOf (s : State) (d : Nat) : Nat := (s.lw d).img.sets.getD (s.get R.DST_RGN_STAT_SET d) 0

/-- The words found uncorrectable once `w` is among them. -/
def addWord (w : SramPlace) (l : List SramPlace) : List SramPlace := w :: l.filter (· != w)

/-- A word of the arrays is found uncorrectable, and stays so until it is rewritten (R122): a coefficient word for every district,
since districts may name one set (R339), the others for their district. DEDUCED (assumption 116): every other word is written afresh
before it is read again, and none of them stays bad. -/
def State.noteBad (s : State) (w : SramPlace) : State :=
  match w with
  | .coef _ _ _ _ | .coefExp _ _ _ => s.each s.districts fun s e => s.updLaw e fun l => { l with badWord := addWord w l.badWord }
  | .xhat d _ | .xhatExp d | .uPrev d _ =>
    if s.cfg.n ≤ d then s else s.updLaw d fun l => { l with badWord := addWord w l.badWord }
  | .weights d _ _ => if s.cfg.n ≤ d then s else s.updFc d fun x => { x with badWord := addWord w x.badWord }
  | _ => s

/-- The point of a district's sequence that reads a word: a coefficient word of its set at its matrix; x̂ at Predict; u_prev at Predict
and Limit, unless Thunderhead has the measured currents in its place. -/
def State.readAt (s : State) (d : Nat) (w : SramPlace) : Option Nat :=
  let i := (s.lw d).img
  let coef (set mat : Nat) : Option Nat := if set = s.setOf d ∧ stageWorks i (matPoint mat / 2) then some (matPoint mat) else none
  match w with
  | .coef set mat _ _ | .coefExp set mat _ => coef set mat
  | .xhat e _ | .xhatExp e => if e = d ∧ 0 < i.n then some 2 else none
  | .uPrev e _ =>
    if e = d ∧ 0 < i.m ∧ s.thSt d ≠ thFired ∧ s.thSt d ≠ thTaper then some (if 0 < i.n then 2 else 8) else none
  | _ => none

/-- The point at which an upset makes a word uncorrectable that the sequence reads; a word that no array keeps is read by the stage
that the upset names. -/
def State.upsetAt (s : State) (d : Nat) (z : Upset) : Option Nat :=
  if !z.uncor then none else if z.word == .other then some (2 * z.stage) else s.readAt d z.word

/-- The first point of a sequence that reads an uncorrectable word: by injection, by an upset, or found so before and not rewritten
since (R122). -/
def State.badPoint (s : State) (d : Nat) (z : Upset) (inj : Option Nat) : Option Nat :=
  minStage (inj.map (2 * ·)) (minStage (s.upsetAt d z)
    (((s.lw d).badWord.filterMap (s.readAt d)).foldl (fun m x => minStage m (some x)) none))

/-- The saturations that count (R98): those ahead of the point that reads an uncorrectable word. DESIGN CHOICE (assumption
135): what is computed from there on is not known, and none of it counts. -/
def satsBefore (unc : Option Nat) (l : List Nat) : Nat :=
  (match unc with
  | none => l
  | some pt => l.filter (· < pt)).length

/-- A sequence passes: x̂, the exponents and the scalar summaries take what it computed (R106, R109, R119). -/
def State.passSeq (s : State) (d : Nat) (o : SeqOut) : State :=
  s.updLaw d fun l =>
    { l with xhat := o.x, pexp := [o.xm.e, o.e.e, o.x.e, o.u.e], hold := 0, persDue := false, persDone := false,
             stale := false, badWord := l.badWord.filter fun w => !w.isXhat,
             sumU := (rdiv (o.cmd.foldl (· + ·) 0) 16).toNat, nclip := o.nclip, emax := emaxOf l.img.gather o.e,
             xexp := o.x.e }

/-- A command frame that would issue after cycle 92 is not issued, and its sequence is discarded (R110). -/
def State.lateSeq (s : State) (d : Nat) : State := (s.discard d).updLaw d fun l => { l with late := true }

/-- Distribute (R104, R105, R110) of a sequence whose stages up to Limit have passed and that would issue in cycle `issue`. It is not
executed where that cycle comes too late, nor in SAFE_HOLD; an injection into it then waits. DESIGN CHOICE (assumption 109): the
deadline of cycle 92 holds in SAFE_HOLD as well, where no frame issues: a sequence that ends later is discarded there too. -/
def State.distribute (s : State) (d : Nat) (o : SeqOut) (unc : Bool) (issue : Nat) : State :=
  if 92 < issue then s.lateSeq d
  else if s.devSt == devHold then (s.passSeq d o).holdFrame d
  else
    let (k, s) := s.takeInj 5 d
    let k := if stageWorks (s.lw d).img 5 then k else 0
    let s := if k = 2 then s.sbeFlag 1 else s
    let issue := if k = 2 then issue + 2 else issue
    let res := k == 1 || o.bad == some 5
    let unc := unc || k == 3
    if res || unc then (s.seqFault d 5 res unc).discard d
    else if 92 < issue then s.lateSeq d
    else (s.passSeq d o).issueFrame d o.cmd (s.lw d).vref (issue + 8)

/-- The sequence of a district that the Orrery computes (R108). DESIGN CHOICE (assumption 146): where a mismatch and an
uncorrectable word fall in different stages, ORR_ERRLOC shows the earlier of the two. -/
def State.runSeq (s : State) (ms : List Meas) (d : Nat) : State :=
  let m := ms.getD d default
  let (flip, inj, ic, s) := s.seqInj d
  let corr := m.corr + ic
  let s := s.sbeFlag corr
  let s := if m.err.uncor then s.noteBad m.err.word else s
  let pt := s.badPoint d m.err inj
  let i := (s.lw d).img
  let s := s.updLaw d fun l =>
    { l with lastY := i.gather.map (s.gather ms d), lastF := i.flist.map fun g => align 0 (s.fElem d g),
             lastR := (List.range i.rlist.length).map fun k => (s.rElem d k (i.rlist.getD k .one)).1 }
  let l := s.lw d
  let o := s.sequence ms d m.err flip
  let s := s.satFlag (satsBefore pt o.sats)
  let unc := (pt.map (· / 2)).filter (· < 5)
  let res := o.bad.filter (· < 5)
  match minStage unc res with
  | some st => (s.seqFault d st res.isSome unc.isSome).discard d
  | none => s.distribute d o pt.isSome (8 + 6 * (d % 8) + 16 + extraCycles l.pexp o corr)

/-- QDIV in use: at most HOLD_LIM + 1 (R312). -/
def State.qdiv (s : State) : Nat := min (s.get R.PWR_CTL_QDIV) (s.get R.ORR_CTL_HOLD_LIM + 1)

/-- Whether the present die period boundary completes an entry into DOZE (R313): every ledger was empty throughout the ended die
period. From that boundary on CLK_CTL is gated to the Orrery, so that neither its sequences nor a step begin there. -/
def State.dozeDue (s : State) : Bool :=
  s.dev.entry == 1 && !s.dev.ledgerBusy && (s.dev.dper - 1) % 10 == 0 && decide (1 < s.dev.dper)

/-- The law of one district in district period `n` (R66, R105, R312): a district that the Orrery does not compute gets no frame,
in DOZE either; the hub holds in DOZE and in the skipped periods of QUIET, whose rate the die period boundaries change (R311). -/
def State.lawPeriod (s : State) (ms : List Meas) (d n : Nat) : State :=
  let s := s.dropFrame d (ms.getD d default)
  if !s.computes d then s.noFrame d
  else if s.dev.gated || s.dozeDue then s.holdFrame d
  else if s.dev.quiet && (s.devSt == devQuiet || s.devSt == devRun) && n % 10 % s.qdiv != 0 then s.holdFrame d
  else s.runSeq ms d

/-! ### Region selection (R145 to R148) -/

/-- The bands after one evaluation (R146). -/
def bandUp (t : Nat → Nat) (i : Nat) : Nat → Nat → Nat
  | 0, cb => cb
  | n + 1, cb => if cb < 3 ∧ t (cb + 1) ≤ i then bandUp t i n (cb + 1) else cb
def bandDown (t : Nat → Nat) (i : Nat) : Nat → Nat → Nat
  | 0, cb => cb
  | n + 1, cb => if 0 < cb ∧ i < t cb - 5 * t cb / 100 then bandDown t i n (cb - 1) else cb

/-- The thresholds of a district, T[1] to T[3]. -/
def State.rgnT (s : State) (d k : Nat) : Nat :=
  if k = 1 then s.get R.DST_RGN0_T1 d else if k = 2 then s.get R.DST_RGN0_T2 d else s.get R.DST_RGN1_T3 d

/-- The map entry of a region. -/
def State.rgnMap (s : State) (d r : Nat) : Nat := s.get R.DST_RGN2_MAP d / 8 ^ r % 8

/-- Whether the region configuration is invalid (R148). -/
def State.rgnBad (s : State) (d : Nat) : Bool :=
  !(decide (s.rgnT d 1 < s.rgnT d 2) && decide (s.rgnT d 2 < s.rgnT d 3))
    || (List.range 8).any fun r => decide (s.get R.DST_RGN_STAT_NSETS d ≤ s.rgnMap d r)

/-- The selection at the end of a district period (R146, R148). DESIGN CHOICE (assumption 113): a district whose sequence was
not computed in the period goes on selecting from its last SUM_U. -/
def State.region (s : State) (d : Nat) : State :=
  if s.rgnBad d then s.raise R.DST_FLT_RGNBAD d
  else
    let l := s.lw d
    let force := s.flag R.DST_RGN2_FORCE_EN d
    let frozen := s.devSt == devHold || s.devSt == devDoze || (s.testOn d && !force)
    let fr := s.get R.DST_RGN2_FORCE_RGN d
    let (cb, vb) :=
      if frozen || l.stale then (l.cb, l.vb)
      else if force then (fr / 2, fr % 2)
      else
        let cb := bandDown (s.rgnT d) l.sumU 3 (bandUp (s.rgnT d) l.sumU 3 l.cb)
        let vt := s.get R.DST_RGN1_VT d
        (cb, if l.vb = 0 ∧ vt ≤ l.vref then 1 else if l.vb = 1 ∧ l.vref + 40 < vt then 0 else l.vb)
    let r := 2 * cb + vb
    let set := s.rgnMap d r
    let s := if set ≠ s.get R.DST_RGN_STAT_SET d then s.inc R.DST_RGN_STAT_CHANGES d else s
    ((s.updLaw d fun l => { l with cb := cb, vb := vb }).set R.DST_RGN_STAT_REGION d r).set R.DST_RGN_STAT_SET d set

/-! ### Rows of the Orrery and the LOOP page -/

/-- A command frame has missed cycle 92 (R110). DESIGN CHOICE (assumption 136): STAGE of ORR_ERRLOC names Distribute, the stage that
has not issued. -/
def effDeadline (s : State) (d : Nat) : State :=
  if (s.lw d).late then
    (((s.updLaw d fun l => { l with late := false }).raise R.ORR_FLT_OVR).errLoc 2 5 d).report clsArith 2 (srcOf 4 d)
  else s

/-- HOLD_LIM discarded periods in a row (R120). -/
def effPersistent (s : State) (d : Nat) : State :=
  if (s.lw d).persDue then
    let s := (((s.updLaw d fun l => { l with persDue := false }).raise R.ORR_FLT_PERSIST).report clsArithp 0 (srcOf 4 d))
    if s.get R.LOOP_TST_CTL_DIST == d then s.tstStop 6 else s
  else s

/-- The scrubber reads a word, whose report names a district, or none where `d` is not configured (R122, R123, R409); `last` ends a
pass over the three arrays. It needs CLK_CTL (R32, R313). -/
def effScrub (s : State) (hit : ScrubHit) (last : Bool) (d : Nat) : State :=
  if !s.flag R.ORR_CTL_SCRUB_EN || !s.onPll || s.dev.gated then s
  else
    let s := match hit with
      | .none => s
      | .corrected => s.sbeFlag 1
      | .uncor w =>
        (s.noteBad w).dbeFlag.report clsMemdbe 0 (srcOf 4 (if d < s.cfg.n then d else 0xFFF))
    if last then s.incWrap R.ORR_SCRUB_PASSES else s

/-- ORR_INJ is written (ORR_INJ): KIND 0b00 clears ARM at once. -/
def effInj (s : State) (w : Word) : State :=
  let s := ((s.set R.ORR_INJ_KIND 0 (bitsOf w 16 2)).set R.ORR_INJ_STAGE 0 (bitsOf w 8 4)).set R.ORR_INJ_DIST 0 (bitsOf w 0 6)
  s.set R.ORR_INJ_ARM 0 (if bitsOf w 31 1 = 1 ∧ bitsOf w 16 2 ≠ 0 then 1 else 0)

/-- ORR_CTL.CNT_CLR. -/
def effOrrClr (s : State) : State :=
  let s := ((((s.set R.ORR_CNT0_DBE 0 0).set R.ORR_CNT0_SBE 0 0).set R.ORR_CNT1_SAT 0 0).set R.ORR_CNT1_RES 0 0)
  s.each s.districts fun s d => (s.set R.ORR_DLY_MAX d 0).updLaw d fun l => { l with heldDly := (l.heldDly.1, 0) }

/-- Whether the arming of the generator is refused (R149). -/
def State.armRefused (s : State) : Bool :=
  let d := s.get R.LOOP_TST_CTL_DIST
  let i := (s.lw d).img
  let mode := s.get R.LOOP_TST_CTL_MODE
  decide (s.cfg.n ≤ d) || !s.isOn d || s.devSt != devRun || s.flag R.DST_SET_ANN_EN d
    || decide ((if s.flag R.LOOP_TST_CTL_TGT then i.m else i.s) ≤ s.get R.LOOP_TST_CTL_ELEM)
    || mode == 0 || (mode == 1 && s.get R.LOOP_TST_GEN_FTW % 2 ^ 15 == 0)

/-- A write of 1 to ARM (R149, R153). DESIGN CHOICE (assumption 112): the checks of R149 and the range of AMP hold at the
arming; what is written between an accepted arming and the start is stored, and the start uses it without a new check. -/
def effArm (s : State) : State :=
  if s.tst.armed || s.flag R.LOOP_TST_STAT_ACTIVE then s
  else if s.armRefused then (s.set R.LOOP_TST_CTL_ARM 0 0).raise R.LOOP_FLT_TSTREF
  else
    let lim : Int := if s.flag R.LOOP_TST_CTL_TGT then 0x578 else 0x140
    let a := s.getI R.LOOP_TST_AMP_AMP
    let c := clampTo (-lim) lim a
    let s := if c ≠ a then (s.setI R.LOOP_TST_AMP_AMP 0 c).raise R.LOOP_FLT_CFGSAT else s
    { s.set R.LOOP_TST_CTL_ARM 0 1 with tst := { s.tst with armed := true, stop := 0 } }

/-- A write of 0 to ARM (R152). DESIGN CHOICE (assumption 147): while the generator is armed and not yet active the write only ends
the arming, and STOP stays as it was. -/
def effDisarm (s : State) : State :=
  if s.flag R.LOOP_TST_STAT_ACTIVE then s.tstStop 1
  else if s.tst.armed then { s.set R.LOOP_TST_CTL_ARM 0 0 with tst := { s.tst with armed := false } } else s

/-- The generator starts at a die period boundary (R149, R150). -/
def effTstStart (s : State) : State :=
  if s.tst.armed && s.tst.stop == 0 && !s.flag R.LOOP_TST_STAT_ACTIVE then
    let s := ((s.set R.LOOP_TST_STAT_ACTIVE 0 1).set R.LOOP_TST_STAT_STOP 0 0).set R.LOOP_TST_STAT_PERIODS 0 0
    let seed := s.get R.LOOP_TST_GEN_FTW % 2 ^ 15
    ({ s with tst := { s.tst with s := seed, p := 0, hold := 0, bit := false, g := 0, dur := 0 } }).capTrig 1
  else s

/-- DUR budget epochs have passed (R152). -/
def effDurExpire (s : State) : State :=
  let n := s.get R.LOOP_TST_AMP_DUR
  if s.flag R.LOOP_TST_STAT_ACTIVE && n != 0 && decide (n ≤ s.tst.dur) then s.tstStop 2 else s

/-! ### The meanings -/

def execCommandDeadlineMiss (d : Nat) (s : State) : Host.Outcome State Fault Refusal := onDist s d (effDeadline s d)

def execPersistentArithFault (d : Nat) (s : State) : Host.Outcome State Fault Refusal := onDist s d (effPersistent s d)

def execHubFrameLoss (d : Nat) (s : State) : Host.Outcome State Fault Refusal := onDist s d (effFrameLoss s d)

def execScrubWord (hit : ScrubHit) (last : Bool) (d : Nat) (s : State) : Host.Outcome State Fault Refusal :=
  .next (effScrub s hit last d)

def execOrrInjArm (g : Gal) (w : Word) (s : State) : Host.Outcome State Fault Refusal :=
  .next (s.hostWrite g R.ORR_INJ_ARM.base w fun s => s.ifPriv g 0x0B (effInj · w))

def execOrrCntClr (g : Gal) (s : State) : Host.Outcome State Fault Refusal :=
  .next (s.hostRow g R.ORR_CTL_CNT_CLR 0 1 effOrrClr)

def execTestSignalArm (g : Gal) (s : State) : Host.Outcome State Fault Refusal :=
  .next (s.hostRow g R.LOOP_TST_CTL_ARM 0 1 effArm)

def execTestSignalDisarm (g : Gal) (s : State) : Host.Outcome State Fault Refusal :=
  .next (s.hostRow g R.LOOP_TST_CTL_ARM 0 0 fun s => s.ifPriv g 0x0C effDisarm)

def execTestSignalStart (s : State) : Host.Outcome State Fault Refusal := .next (effTstStart s)

def execTestSignalDurExpire (s : State) : Host.Outcome State Fault Refusal := .next (effDurExpire s)

end Sys2Proof.Machine
end

