-- ==== Sys2Proof/Machine/Adc.lean ====
section
/-!
DEFINITION. The housekeeping ADC (R272 to R285): slices, rounds, injected sequences, rotation and calibration.
-/
namespace Sys2Proof.Machine

def State.slice (s : State) (k : Nat) : SliceS := tabAt s.adc.slices k
def State.updSlice (s : State) (k : Nat) (f : SliceS → SliceS) : State :=
  { s with adc := { s.adc with slices := tabUpd s.adc.slices k f } }

/-- The stored 12-bit result of a channel. -/
def State.adcRes (s : State) (ch : Nat) : Nat := (tabAt s.adc.res ch : Nat × Nat × Bool).1

/-- The slices in service, in ascending order (R272). -/
def State.inService (s : State) : List Nat := (List.range 5).filter fun k => k != s.get R.ADC_STAT_OUT

/-! ### Channels (R279, R280, R282) -/

/-- Whether the odd channel `ch` of an auxiliary pair is taken by its differential partner. -/
def State.auxTaken (s : State) (k : Nat) : Bool := k % 2 == 1 && (s.get R.ADC_DIFF_PAIR).testBit (k / 2)

/-- Whether a channel is present (R279, R282). -/
def State.chPresent (s : State) (ch : Nat) : Bool :=
  if ch < 0x100 then decide (ch < 4 * s.cfg.n)
  else if ch < 0x104 then true
  else if ch < 0x110 then s.zoneUsed (ch % 4)
  else if ch < 0x130 then !s.auxTaken (ch - 0x110)
  else false

/-- Whether a channel is differential (R279). -/
def State.chDiff (s : State) (ch : Nat) : Bool :=
  decide (ch < 0x100) || (decide (0x110 ≤ ch) && ch % 2 == 0 && (s.get R.ADC_DIFF_PAIR).testBit ((ch - 0x110) / 2))

/-- The channels of a regular round in order (R280). -/
def State.roundChannels (s : State) : List Nat :=
  List.range (4 * s.cfg.n) ++ ((List.range 16).map (0x100 + ·)).filter s.chPresent
    ++ (((List.range 32).filter fun k => (s.get R.ADC_AUXEN_EN).testBit k && !s.auxTaken k).map (0x110 + ·))

/-- Conversions dealt to the slices in service, round robin in ascending slice number (R280, R283). -/
def dealt (n k i : Nat) : List Nat → List Nat
  | [] => []
  | x :: r => if i % n = k then x :: dealt n k (i + 1) r else dealt n k (i + 1) r

/-! ### Conversions -/

/-- A slice takes its next conversion, an injected one first, or powers down (R273, R283). -/
def SliceS.next (x : SliceS) : SliceS :=
  match x.inj, x.reg with
  | c :: r, _ => { x with cur := some (true, c), inj := r }
  | [], c :: r => { x with cur := some (false, c), reg := r }
  | [], [] => { x with cur := none, on := false, ready := false }

/-- A slice with conversions and none in progress powers up, and inserts its start-up delay (R273). -/
def SliceS.wakeUp (x : SliceS) : SliceS :=
  if !x.on && !(x.inj.isEmpty && x.reg.isEmpty) then { x with on := true, ready := false } else x

/-- The slice's start-up delay ends (R273); the ADC runs only on CLK_HK, which waits for the PLL (R32, R278). -/
def effStartup (s : State) (k : Nat) : State :=
  if !s.onPll then s
  else s.updSlice k fun x => if x.on && !x.ready then { x with ready := true }.next else x

/-- A raw code corrected and clamped to the range of its format (R275). -/
def corrected (ofs : Int) (gain : Nat) (diff : Bool) (raw : Int) : Int :=
  let y := rdiv ((16 * raw - ofs) * gain) 524288
  if diff then clampTo (-2048) 2047 y else clampTo 0 4095 y

/-- An injected sequence begins (R282, R283); one of length 0, as a held trigger may find it, is done at once. -/
def State.injStart (s : State) : State :=
  let n := s.get R.ADC_INJCFG_LEN
  let out := s.inService
  let s := s.set R.ADC_STAT_INJ_PEND 0 0
  if n = 0 then s.set R.ADC_STAT_INJ_DONE 0 1
  else
  let s := s.set R.ADC_STAT_INJ_BUSY 0 1
  let s := { s with adc := { s.adc with injRound := s.adc.injRound + (if s.flag R.ADC_STAT_BUSY then 1 else 0) } }
  s.each (List.range out.length) fun s k => s.updSlice (out.getD k 0) fun x =>
    { x with inj := dealt out.length k 0 (List.range n) }.wakeUp

/-- A trigger of the injected sequence (R282, R284); the ADC runs only on CLK_HK (R278). -/
def State.injTrigger (s : State) : State :=
  if !s.onPll then s
  else if s.get R.ADC_INJCFG_LEN == 0 then s.set R.ADC_STAT_INJ_DONE 0 1
  else if s.flag R.ADC_STAT_INJ_BUSY || (s.flag R.ADC_STAT_BUSY && decide (2 ≤ s.adc.injRound)) then
    if s.flag R.ADC_STAT_INJ_PEND then s.raise R.ADC_FLT_INJMRG else s.set R.ADC_STAT_INJ_PEND 0 1
  else s.injStart

/-- A regular round begins (R277, R280). -/
def State.roundBegin (s : State) : State :=
  let out := s.inService
  let chs := s.roundChannels
  let s := (s.set R.ADC_STAT_BUSY 0 1).incWrap R.ADC_STAT_ROUND
  let s := { s with adc := { s.adc with startDue := false, injRound := if s.flag R.ADC_STAT_INJ_BUSY then 1 else 0,
                                        therm := true } }
  s.each (List.range out.length) fun s k => s.updSlice (out.getD k 0) fun x =>
    { x with reg := dealt out.length k 0 chs }.wakeUp

/-- START is written (R277). -/
def State.roundStart (s : State) : State :=
  if !s.onPll then { s with adc := { s.adc with startDue := true } }
  else if s.flag R.ADC_STAT_BUSY then s.raise R.ADC_FLT_OVRUN
  else s.roundBegin

/-- The round timer writes START (R277). -/
def effRoundTimer (s : State) : State := if s.onPll && s.flag R.ADC_CTL_RT_EN then s.roundStart else s

/-- No round has begun for 3 ms: the sequencer begins one itself (R277). -/
def effRoundWatchdog (s : State) : State :=
  if s.onPll && !s.flag R.ADC_STAT_BUSY then s.roundBegin.raise R.ADC_FLT_RTWD else s

/-- Entry `i` of the injected sequence; a channel that is not present is converted as 0x101 (R282). -/
def State.injChannel (s : State) (i : Nat) : Nat :=
  let w := s.word (R.ADC_INJSEQ0_CH0.base + 4 * (i / 2)) 0
  let ch := bitsOf w (16 * (i % 2)) 9
  if s.chPresent ch then ch else 0x101

/-! ### Rotation and calibration (R274 to R276) -/

/-- The in-service slice that follows slice `k` in the cyclic order, BAD ones skipped. -/
def State.nextSlice (s : State) (k : Nat) : Nat :=
  ((([1, 2, 3, 4] : List Nat).map fun i => (k + i) % 5).find? fun j => !(s.get R.ADC_STAT_BAD).testBit j).getD k

/-- The slices rotate: the one out of service returns with its new coefficients (R274). -/
def State.rotate (s : State) : State :=
  let o := s.get R.ADC_STAT_OUT
  let x := s.slice o
  let s := if x.calDone then (s.setI R.ADC_CAL_OFS o x.newOfs).set R.ADC_CAL_GAIN o x.newGain else s
  let s := (s.set R.ADC_STAT_OUT 0 (s.nextSlice o)).updSlice o fun x => { x with calDone := false }
  { s with adc := { s.adc with rotDue := false } }

/-- A rotation falls due (R274, R276): it waits while a conversion is in progress, and stops after a failure. -/
def effRotation (s : State) : State :=
  if !s.onPll || s.get R.ADC_STAT_BAD != 0 then s
  else if s.flag R.ADC_STAT_BUSY || s.flag R.ADC_STAT_INJ_BUSY then { s with adc := { s.adc with rotDue := true } }
  else s.rotate

/-- A rotation that waited takes place (R274). -/
def State.rotateIfDue (s : State) : State :=
  if s.adc.rotDue && s.get R.ADC_STAT_BAD == 0 && !s.flag R.ADC_STAT_BUSY && !s.flag R.ADC_STAT_INJ_BUSY then s.rotate
  else s

/-- The calibration of the slice out of service (R275, R276), from the sums of its 16 conversions of each point. -/
def effCalibration (s : State) (ground half full : Int) : State :=
  let o := s.get R.ADC_STAT_OUT
  let span := full - half
  if !s.onPll then s
  else
  let gain := if span ≤ 0 then 0 else rdiv (1792 * 16 * 32768) span.toNat
  if ground.natAbs ≤ 128 ∧ 32113 ≤ gain ∧ gain ≤ 33423 then
    s.updSlice o fun x => { x with calDone := true, newOfs := ground, newGain := gain.toNat }
  else if (s.get R.ADC_STAT_BAD).testBit o then s
  else ((s.raiseBit R.ADC_STAT_BAD 0 o).raise R.ADC_FLT_CALFAIL).report clsAdccal 0 (srcOf 7 o)

end Sys2Proof.Machine
end

