-- ==== Sys2Proof/Machine/Link.lean ====
section
/-!
DEFINITION. Contrail (R353 to R378): port states, the link layer, the messages and their use, departures, and the
coolant source that ALERT feeds (R268).
-/
namespace Sys2Proof.Machine

/-- LNK_PSTAT.STATE codes. -/
abbrev lkReset : Nat := 0
abbrev lkSync : Nat := 1
abbrev lkHello : Nat := 2
abbrev lkCaps : Nat := 3
abbrev lkUp : Nat := 4
abbrev lkDown : Nat := 5

/-- LNK_PSTAT.DOWNR codes. -/
abbrev dnSync : Nat := 1
abbrev dnVersion : Nat := 2
abbrev dnHello : Nat := 3
abbrev dnCaps : Nat := 4
abbrev dnRange : Nat := 5
abbrev dnRetry : Nat := 6
abbrev dnLink : Nat := 7
abbrev dnAlign : Nat := 8
abbrev dnBye : Nat := 9
abbrev dnAbsent : Nat := 10
abbrev dnPortEn : Nat := 11

def State.pst (s : State) (p : Nat) : Nat := s.get R.LNK_PSTAT_STATE p

/-- The standing cause of a class clears (R415). -/
def State.clearCause (s : State) (cls : Nat) : State := s.clearBit R.FLT_CAUSE_CAUSE 0 cls

/-! ### Frames (R356, R357) -/

/-- The bytes between the start and end symbols of a frame: the header with its upper byte first, the payload, and the CRC with
its upper byte first. -/
def frameBytes (ty sq : Nat) (dir rtx : Bool) (pay : List Byte) : List Byte :=
  let h := ty % 64 * 1024 + sq % 32 * 32 + (if dir then 16 else 0) + (if rtx then 8 else 0)
  let body := BitVec.ofNat 8 (h / 256) :: BitVec.ofNat 8 h :: pay
  body ++ [BitVec.ofNat 8 (crc16 body / 256), BitVec.ofNat 8 (crc16 body)]

/-- TYPE, SEQ and payload of a frame that a module sent (R358): none where the length is wrong, the CRC fails or DIR names
Korrath as the sender. -/
def parseFrame (b : List Byte) : Option (Nat × Nat × List Byte) :=
  let h := (b.getD 0 0).toNat * 256 + (b.getD 1 0).toNat
  if 4 ≤ b.length ∧ b.length ≤ 36 ∧ crc16 b = 0 ∧ h.testBit 4
  then some (h / 1024, h / 32 % 32, (b.drop 2).take (b.length - 4)) else none

/-- The bytes of a sequenced frame of Korrath, and of an ACK or NAK that names a number. -/
def TxFrame.bytes (f : TxFrame) : List Byte :=
  frameBytes f.ty f.seq false (decide (0 < f.tries)) (f.pay.map (BitVec.ofNat 8))
def ctlBytes (ack : Bool) (sq : Nat) : List Byte := frameBytes (if ack then 0x01 else 0x02) sq false false []

/-- An ACK or NAK is sent. -/
def PortS.sendCtl (x : PortS) (ack : Bool) (sq : Nat) : PortS := { x with ctl := some (ack, sq), wire := ctlBytes ack sq }

/-! ### Sending (R359, R361, R362) -/

/-- LNK_PSTAT.UNACK follows the frames held. -/
def State.unack (s : State) (p : Nat) : State := s.set R.LNK_PSTAT_UNACK p (s.port p).tx.length

/-- Waiting frames are sent while fewer than 16 are unacknowledged. -/
def PortS.drain (x : PortS) : Nat → PortS
  | 0 => x
  | n + 1 =>
    match x.waiting with
    | [] => x
    | f :: r =>
      if x.tx.length < 16 then
        let y : TxFrame := { ty := f.1, seq := x.txSeq, pay := f.2 }
        PortS.drain { x with waiting := r, txSeq := (x.txSeq + 1) % 32, tx := x.tx ++ [y], wire := y.bytes } n
      else x

/-- A sequenced frame is sent, or waits for room (R359). -/
def State.sendFrame (s : State) (p ty : Nat) (pay : List Nat) : State :=
  (s.updPort p fun x => PortS.drain { x with waiting := x.waiting ++ [(ty, pay)] } 16).unack p

/-- A BYE of Korrath (R373, R375). -/
def State.sendBye (s : State) (p reason : Nat) : State :=
  (s.sendFrame p 0x0F [reason, 0]).updPort p fun x => { x with bye := some reason }

/-- Two bytes of a payload field, least significant first. -/
def le2 (v : Nat) : List Nat := [v % 256, v / 256 % 256]

/-! ### Port transitions (R373, R374) -/

/-- Whether a district of a zone is not OFF. -/
def State.zoneUp (s : State) (p : Nat) : Bool := (s.inZone p).any fun d => s.dst d != 0

/-- A departure on a port (R374). While every district of the zone is OFF it is recorded, and nothing is reported; DEDUCED (assumption
95): the record is the page's event bit. -/
def State.depart (s : State) (p cause : Nat) : State :=
  let s := s.raiseBit R.LNK_FLT_DEPART 0 p
  if s.zoneUp p then (s.updPort p fun x => { x with departed := true, feedBad := false, unsaid := false }).report clsModloss cause (srcOf 5 p)
  else s

/-- The link of a port is closed: frames, limit and trim go; the last TELEM accepted stands until it is stale (R369). -/
def PortS.close (x : PortS) : PortS :=
  { x with tx := [], waiting := [], nakOut := false, lastAck := none, ctl := none, capsNew := false, limit := 0,
           alertHold := false, sp := none, trimmed := false }

/-- A port leaves its state for RESET or DOWN with a reason; a departure where it was UP. -/
def State.portDown (s : State) (p st reason cause : Nat) : State :=
  let up := s.pst p == lkUp
  let s := s.updPort p fun x => { x.close with aligned := x.aligned && st != lkReset }
  let s := (s.unack p).set R.LNK_PSTAT_STATE p st
  let s := s.set R.LNK_PSTAT_DOWNR p reason
  let s := if st = lkDown then (s.inc R.LNK_CNT1_DOWNS p).raiseBit R.LNK_FLT_DOWN 0 p else s
  if up then s.depart p cause else s

/-- The link goes down from any state of a list. -/
def State.linkDown (s : State) (p reason : Nat) (from_ : List Nat) : State :=
  if from_.contains (s.pst p) then s.portDown p lkDown reason 1 else s

/-- The states from which a loss of alignment, the retry limit or the link timeout takes a port down. -/
abbrev lkOpen : List Nat := [lkSync, lkHello, lkCaps, lkUp]

/-- Whether a port receives frames: in its states from HELLO on, while its receiver is aligned (R355). -/
def State.receives (s : State) (p : Nat) : Bool := (s.port p).aligned && [lkHello, lkCaps, lkUp].contains (s.pst p)

/-- A module of the zone is present (R372); MOD_PRSNT of a zone with no districts is ignored (R6). -/
def effPresent (s : State) (p : Nat) : State :=
  if s.zoneUsed p then (s.updPort p fun x => { x with present := true }).set R.LNK_PSTAT_PRSNT p 1 else s

/-- A module of the zone is absent (R6, R372, R373). A port that the reset of the control complex has taken out of UP has not yet
reported its departure, and does so once the complex is released (R418; DEDUCED, assumption 95). -/
def effAbsent (s : State) (p : Nat) : State :=
  if !s.zoneUsed p then s
  else
  let gone := (s.port p).present && (s.port p).unsaid && s.dev.released && s.zoneUp p
  let s := (s.updPort p fun x => { x with present := false, aligned := false }).set R.LNK_PSTAT_PRSNT p 0
  if s.pst p != lkReset then s.portDown p lkReset dnAbsent 0 else if gone then s.depart p 0 else s

/-- A port opens (R332, R373). -/
def effPortOpen (s : State) (p : Nat) : State :=
  if s.pst p == lkReset && (s.port p).present && s.zoneUsed p && s.onPll && s.dev.released
      && (s.get R.LNK_CTL_PORT_EN).testBit p
  then (s.set R.LNK_PSTAT_STATE p lkSync).set R.LNK_TRIM_DV p 0 else s

/-- A port in SYNC whose receiver is aligned goes on to HELLO, and sends HELLO with SEQ 0 (R359, R364, R373). -/
def State.syncDone (s : State) (p : Nat) : State :=
  if s.pst p == lkSync && (s.port p).aligned then
    let id := (s.fuse.getD default).dieId
    let s := (s.updPort p fun x => { x.close with txSeq := 0, rxSeq := 0, bye := none }).set R.LNK_PSTAT_STATE p lkHello
    s.sendFrame p 0x08 ([1, 0, 0, p] ++ le2 id ++ le2 (id / 65536))
  else s

/-- The receiver of an open port aligns (R355). -/
def effAlign (s : State) (p : Nat) : State :=
  if s.pst p == lkReset then s else (s.updPort p fun x => { x with aligned := true }).syncDone p

/-- 1 ms in SYNC without alignment (R373). -/
def effSyncTimeout (s : State) (p : Nat) : State := if (s.port p).aligned then s else s.linkDown p dnSync [lkSync]

/-- The receiver loses its alignment: nothing is received until it aligns again (R355). -/
def effAlignLoss (s : State) (p : Nat) : State :=
  (s.updPort p fun x => { x with aligned := false }).linkDown p dnAlign lkOpen

/-- 100 µs in DOWN have passed with the module present (R373): SYNC, and HELLO at once where the receiver is aligned still. -/
def effDownRetry (s : State) (p : Nat) : State :=
  if s.pst p == lkDown && (s.port p).present then ((s.set R.LNK_PSTAT_STATE p lkSync).set R.LNK_TRIM_DV p 0).syncDone p else s

/-- PORT_EN of a port falls (R373). -/
def State.portEnFell (s : State) (p : Nat) : State :=
  if s.pst p == lkReset then s else s.portDown p lkReset dnPortEn 1

/-! ### The link layer (R358 to R361) -/

/-- A NAK for the expected frame, unless one is out since `ns`, for less than 2,000 ns (R360). -/
def State.nakFrame (s : State) (p ns : Nat) : State :=
  s.updPort p fun x => if x.nakOut ∧ ns < 2000 then x else { x with nakOut := true }.sendCtl false x.rxSeq

/-- A frame is discarded (R358). -/
def effDiscard (s : State) (p ns : Nat) : State :=
  if s.receives p then (s.inc R.LNK_CNT0_CRCERR p).nakFrame p ns else s

/-- An ACK naming a frame (R361). -/
def effAck (s : State) (p n : Nat) : State :=
  if s.receives p && ((s.port p).tx.any fun f => f.seq == n) then
    (s.updPort p fun x => PortS.drain { x with tx := (x.tx.dropWhile fun f => f.seq != n).drop 1 } 16).unack p
  else s

/-- Frames are sent again from a number on; one that has been sent 8 times again takes the link down (R361). -/
def State.resend (s : State) (p n : Nat) : State :=
  let again := (s.port p).tx.dropWhile fun f => f.seq != n
  if again.any fun f => decide (8 ≤ f.tries) then s.linkDown p dnRetry lkOpen
  else
    let sent := again.map fun f => { f with tries := f.tries + 1 }
    let s := s.updPort p fun x =>
      { x with tx := (x.tx.takeWhile fun f => f.seq != n) ++ sent, wire := (sent.map TxFrame.bytes).getLastD x.wire }
    s.inc R.LNK_CNT0_RTX p again.length

/-- A NAK naming a frame (R361). -/
def effNak (s : State) (p n : Nat) : State := if s.receives p then s.resend p n else s

/-- The retransmission timer expires (R361). -/
def effRetransmit (s : State) (p : Nat) : State :=
  match (s.port p).tx with
  | [] => s
  | f :: _ => s.resend p f.seq

/-! ### Coolant (R268, R269) -/

/-- The sources that COOL_SRC selects; 0b00 acts as both. -/
def State.coolPinSel (s : State) : Bool := s.budLat.cool != 2
def State.coolAlertSel (s : State) : Bool := s.budLat.cool != 1

/-- A loss of coolant (R269). -/
def State.coolLoss (s : State) (src : Nat) : State :=
  ((s.raise R.GRP_STAT_COOLLOSS).raise R.BUD_FLT_COOL).report clsCoolant 0 src

/-- The ALERT source shows good coolant (R268). -/
def State.alertGood (s : State) : Bool :=
  (List.range 4).all fun p => !(s.pst p == lkUp && (s.get R.LNK_PSTAT_CFLAGS p).testBit 0 && (s.port p).coolBad)

/-! ### Messages (R364 to R370) -/

/-- A field of two payload bytes. -/
def payU16 (pay : List Byte) (o : Nat) : Nat := ofLe (bytesAt pay o 2)

/-- HELLO (R359, R366, R373): both directions number from 0 again. DEDUCED (assumption 93): so does Korrath's in HELLO, whose
own HELLO this one answers; and in SYNC and DOWN, where the port state table has no row for it, the port stays. -/
def State.onHello (s : State) (p : Nat) (pay : List Byte) : State :=
  let st := s.pst p
  let s := (s.updPort p fun x => { x with tx := [], waiting := [], txSeq := 0 }).unack p
  let maj := (pay.getD 0 0).toNat
  let s := (((s.set R.LNK_PSTAT_PMAJ p maj).set R.LNK_PSTAT_PMIN p (pay.getD 1 0).toNat).set R.LNK_ID_ID p (ofLe (bytesAt pay 4 4)))
  if st = lkDown ∨ st = lkSync then s
  else if maj ≠ 1 then (s.sendBye p 4).portDown p lkDown dnVersion 1
  else if st = lkUp then
    let s := ((s.updPort p fun x => { x with limit := 0, capsNew := false, alertHold := false, sp := none }).set
      R.LNK_PSTAT_STATE p lkCaps)
    s.depart p 1
  else s.set R.LNK_PSTAT_STATE p lkCaps

/-- The VFEED target within the module's range and Korrath's (R368); none where the interval is empty. -/
def State.vset (s : State) (p : Nat) : Option Nat :=
  let lo := max (s.get R.LNK_CAPS1_VMIN p) 0x1A90
  let hi := min (s.get R.LNK_CAPS1_VMAX p) 0x1DB0
  if hi < lo then none else some (max lo (min hi (s.get R.LNK_VSET_VSET)))

/-- CAPS (R368, R373). -/
def State.onCaps (s : State) (p : Nat) (pay : List Byte) : State :=
  let s := ((((s.set R.LNK_CAPS0_ILIM p (payU16 pay 0)).set R.LNK_CAPS1_VMIN p (payU16 pay 2)).set R.LNK_CAPS1_VMAX p
    (payU16 pay 4)).set R.LNK_CAPS0_DIDT p (payU16 pay 6)).set R.LNK_PSTAT_CFLAGS p ((pay.getD 8 0).toNat % 4)
  match s.vset p with
  | none => s.portDown p lkDown dnRange 1
  | some _ =>
    let s := if payU16 pay 0 < 116 * (s.inZone p).length then s.raiseBit R.LNK_FLT_CAPSLOW 0 p else s
    let s := s.updPort p fun x => { x with capsNew := true }
    if s.pst p == lkCaps then
      (s.updPort p fun x => { x with sp := none, coolBad := true }).set R.LNK_PSTAT_STATE p lkUp
    else s

/-- TELEM (R268, R369). -/
def State.onTelem (s : State) (p : Nat) (pay : List Byte) : State :=
  let s := ((s.set R.LNK_TEL1_VIN p (payU16 pay 0)).set R.LNK_TEL2_IIN p (payU16 pay 2)).set R.LNK_TEL0_VOUT p (payU16 pay 4)
  let s := ((s.set R.LNK_TEL0_IOUT p (payU16 pay 6)).set R.LNK_TEL2_TMOD p (payU16 pay 8)).set R.LNK_TEL1_STAT p (payU16 pay 10)
  s.updPort p fun x => { x with telNew := some (payU16 pay 4), stale := false, coolBad := payU16 pay 10 % 2 == 0 }

/-- ALERT (R370). -/
def State.onAlert (s : State) (p : Nat) (pay : List Byte) : State :=
  let code := (pay.getD 0 0).toNat
  let sev := (pay.getD 1 0).toNat
  let s := ((s.set R.LNK_ALERT_CODE p code).set R.LNK_ALERT_SEV p sev).set R.LNK_ALERT_TIME p (payU16 pay 2)
  let s := (s.raiseBit R.LNK_FLT_ALERT 0 p).event 0x000B p (code + sev * 256) (payU16 pay 2)
  let s := if s.flag R.ADC_CTL_ALERT_EN then s.injTrigger else s
  let s := if code.testBit 0 then
      let s := s.updPort p fun x => { x with coolBad := true }
      if s.coolAlertSel then s.coolLoss (srcOf 5 p) else s
    else s
  if (sev = 2 ∨ code.testBit 4) ∧ ((s.inZone p).any fun d => s.dst d != 0) then
    (s.updPort p fun x => { x with alertHold := true, capsNew := false }).depart p 2
  else s

/-- BYE of the module (R373). Where it crosses Korrath's own, Korrath's cause stands recorded and no departure occurs (R377); that
cause has no DOWNR code. -/
def State.onBye (s : State) (p : Nat) : State :=
  match (s.port p).bye with
  | none => s.portDown p lkDown dnBye 1
  | some _ =>
    let s := ((s.updPort p PortS.close).unack p).set R.LNK_PSTAT_STATE p lkDown
    (s.inc R.LNK_CNT1_DOWNS p).raiseBit R.LNK_FLT_DOWN 0 p

/-- The shortest payload of a message that a module may send (R364). -/
def payMin (ty : Nat) : Option Nat :=
  match ty with
  | 0x08 => some 8
  | 0x09 => some 12
  | 0x0B => some 16
  | 0x0C => some 4
  | 0x0E => some 0
  | 0x0F => some 2
  | _ => none

/-- Whether an accepted message is ignored (R366). -/
def State.ignores (s : State) (p ty : Nat) (pay : List Byte) : Bool :=
  (match payMin ty with
    | none => true
    | some n => decide (pay.length < n))
    || (s.pst p == lkHello && !([0x08, 0x0E, 0x0F].contains ty))

/-- An accepted message is delivered (R366, R373). -/
def State.deliver (s : State) (p ty : Nat) (pay : List Byte) : State :=
  if s.ignores p ty pay then s.inc R.LNK_CNT1_IGN p
  else match ty with
    | 0x08 => s.onHello p pay
    | 0x09 => s.onCaps p pay
    | 0x0B => s.onTelem p pay
    | 0x0C => s.onAlert p pay
    | 0x0F => s.onBye p
    | _ => s

/-- A frame is accepted: acknowledged, the expected number advanced, the message delivered (R360). -/
def State.acceptFrame (s : State) (p ty sq : Nat) (pay : List Byte) : State :=
  (s.updPort p fun x =>
    { x with rxSeq := (sq + 1) % 32, nakOut := false, lastAck := some sq }.sendCtl true sq).deliver p ty pay

/-- A received frame (R358 to R361): its type, the number it carries, its payload, and the ns since the last NAK. A HELLO is
accepted in every state of an aligned receiver, SYNC and DOWN among them (R359). -/
def State.rxFrame (s : State) (p ty sq : Nat) (pay : List Byte) (ns : Nat := 0) : State :=
  if !s.receives p && !((s.port p).aligned && [lkSync, lkDown].contains (s.pst p) && ty == 0x08) then s
  else if 32 < pay.length then effDiscard s p ns
  else if ty = 0x01 then effAck s p sq
  else if ty = 0x02 then effNak s p sq
  else if ty = 0x08 ∨ sq = (s.port p).rxSeq then s.acceptFrame p ty sq pay
  else if ((s.port p).rxSeq + 32 - sq) % 32 ≤ 16 then
    s.updPort p fun x => match x.lastAck with
      | some n => x.sendCtl true n
      | none => x
  else s.nakFrame p ns

/-- The bytes of a frame between its symbols are received (R358): they are checked, and the frame is used or discarded. -/
def effFrame (s : State) (p : Nat) (b : List Byte) (ns : Nat) : State :=
  match parseFrame b with
  | some (ty, sq, pay) => s.rxFrame p ty sq pay ns
  | none => effDiscard s p ns

/-- A frame that carries the next expected number. -/
def State.nextFrame (s : State) (p ty : Nat) (pay : List Byte) : State :=
  s.rxFrame p ty (if ty = 0x08 then 0 else (s.port p).rxSeq) pay

/-- No sequenced frame has been sent for KA µs (R362). -/
def effKeepalive (s : State) (p : Nat) : State := if s.receives p then s.sendFrame p 0x0E [] else s

/-- No TELEM for 300 µs, in whatever state of the port (R369): from the next die period boundary the estimate of R44 takes
1.600 V. -/
def effStale (s : State) (p : Nat) : State :=
  if s.zoneUsed p then
    (s.updPort p fun x => { x with stale := true, telNew := some 6400 }).raiseBit R.LNK_FLT_TELSTALE 0 p
  else s

/-! ### At the boundaries of the die period and of the ADC round (R368, R369, R371, R374) -/

/-- Whether a district is in switch-on (R309): from its start until COMPLETE. -/
def State.inSwitchOn (s : State) (d : Nat) : Bool :=
  match (tabAt s.pwr d : PwrS).step with
  | .onBegun | .onRail | .onPower => true
  | _ => false

/-- FCAST of a zone (R368). -/
def State.fcast (s : State) (z : Nat) : Nat :=
  let on := (s.inZone z).filter fun d => s.isOn d || s.inSwitchOn d
  let sum := on.foldl (fun n d => n + s.vref d) 0
  let den := on.length * (s.port z).vmeas * s.dev.zoneEta.getD z 850
  if den = 0 then 0 else satU 16 ((64 * s.zpend z * sum + den - 1) / den)

/-- A port at a die period boundary: the TELEM and CAPS accepted before it take force, a departure whose limit is
restored ends, and SETPOINT is sent where a field changes. The cause of MODLOSS clears with the last departure that ends without a
VFEED band fault in between (R374). DESIGN CHOICE (assumption 154): a departure that such a fault has met ends too, without clearing
the cause, which then stands until a later restoration without one, or a reset. -/
def State.portDie (s : State) (p : Nat) : State :=
  let s := s.updPort p fun x => { x with vmeas := x.telNew.getD x.vmeas, telNew := none }
  if s.pst p != lkUp then s
  else
    let x := s.port p
    let s := if x.capsNew then
        let s := s.updPort p fun x =>
          { x with capsNew := false, limit := s.get R.LNK_CAPS0_ILIM p, alertHold := false, departed := false, feedBad := false,
                   unsaid := false }
        if x.departed && !x.feedBad && !s.flt.injected.contains clsModloss && (List.range 4).all fun q => !(s.port q).departed
        then s.clearCause clsModloss else s
      else s
    let v := (s.vset p).getD 0
    let f := s.fcast p
    let nd := ((s.inZone p).filter fun d => s.dst d != 0).length
    if (s.port p).sp == some (v, f, nd) then s
    else
      let s := s.sendFrame p 0x0A (le2 v ++ le2 f ++ [nd, 0])
      ((s.updPort p fun x => { x with sp := some (v, f, nd) }).set R.LNK_SP_VSETS p v).set R.LNK_SP_FCAST p f

/-- A TRIM is sent with a DV (R371). -/
def State.sendTrim (s : State) (p : Nat) (dv : Int) : State :=
  ((s.set R.LNK_TRIM_DV p (codeOf 16 dv)).sendFrame p 0x0D (le2 (codeOf 16 dv))).updPort p fun x =>
    { x with trimmed := decide (dv ≠ 0) }

/-- Trim of a port at the end of a regular round (R371); `res` is the result of channel 0x104 + n. -/
def State.trimRound (s : State) (p res : Nat) : State :=
  if s.pst p == lkUp && (s.get R.LNK_PSTAT_CFLAGS p).testBit 1 && s.flag R.LNK_CTL_TRIM_EN then
    let vnear := rdiv (24 * res) 10
    let s := s.set R.LNK_TRIM_VNEAR p (codeOf 16 vnear)
    let old := signedOf 16 (s.get R.LNK_TRIM_DV p)
    let m : Int := s.get R.LNK_VSET_TMAX
    let dv := clampTo (-m) m (old + rdiv ((s.vset p).getD 0 - vnear) 2)
    if dv = old then s else s.sendTrim p dv
  else s

/-- TRIM_EN falls: a DV of 0 is sent once on each port in UP whose module supports TRIM (R371). -/
def State.trimOff (s : State) : State :=
  s.each (List.range 4) fun s p =>
    if s.pst p == lkUp && ((s.port p).trimmed || (s.get R.LNK_PSTAT_CFLAGS p).testBit 1) then s.sendTrim p 0
    else s.set R.LNK_TRIM_DV p 0

/-- Korrath closes every port in UP (R375): at SAFE_OFF with reason 1 the ports stay in their states. -/
def State.byeAll (s : State) (reason : Nat) : State :=
  s.each (List.range 4) fun s p => if s.pst p == lkUp then s.sendBye p reason else s

/-- At SLEEP entry the ports of a list close after their BYE (R375). -/
def State.byeSleep (s : State) (p : Nat) : State :=
  if s.pst p == lkUp then
    let s := s.sendBye p 0
    ((s.updPort p fun x => { x.close with aligned := false }).unack p).set R.LNK_PSTAT_STATE p lkReset
  else s

/-- The activity detector of a receive pair reports (R316, R317, R376). -/
def effLinkActivity (s : State) (p : Nat) : State :=
  if s.zoneUsed p && (s.flag R.PWR_WAKE_LNK_EN || s.dev.tapOut) then s.wake wakeLink (2 ^ p) else s

/-! ### The meanings -/

/-- A command that names a port: the block has four (assumption 6). -/
def onPort (s : State) (p : Nat) (f : State) : Host.Outcome State Fault Refusal := .next (if p < 4 then f else s)

def execLinkActivityWake (p : Nat) (s : State) : Host.Outcome State Fault Refusal := onPort s p (effLinkActivity s p)

def execModulePresent (p : Nat) (s : State) : Host.Outcome State Fault Refusal := onPort s p (effPresent s p)

def execModuleAbsent (p : Nat) (s : State) : Host.Outcome State Fault Refusal := onPort s p (effAbsent s p)

def execPortOpen (p : Nat) (s : State) : Host.Outcome State Fault Refusal := onPort s p (effPortOpen s p)

def execAlignment (p : Nat) (s : State) : Host.Outcome State Fault Refusal := onPort s p (effAlign s p)

def execAlignmentLoss (p : Nat) (s : State) : Host.Outcome State Fault Refusal := onPort s p (effAlignLoss s p)

def execLinkSyncTimeout (p : Nat) (s : State) : Host.Outcome State Fault Refusal := onPort s p (effSyncTimeout s p)

def execHelloTimeout (p : Nat) (s : State) : Host.Outcome State Fault Refusal := onPort s p (s.linkDown p dnHello [lkHello])

def execCapsTimeout (p : Nat) (s : State) : Host.Outcome State Fault Refusal := onPort s p (s.linkDown p dnCaps [lkCaps])

def execDownRetry (p : Nat) (s : State) : Host.Outcome State Fault Refusal := onPort s p (effDownRetry s p)

def execFrameDiscard (p ns : Nat) (s : State) : Host.Outcome State Fault Refusal := onPort s p (effDiscard s p ns)

def execAck (p n : Nat) (s : State) : Host.Outcome State Fault Refusal := onPort s p (s.rxFrame p 0x01 n [])

def execNak (p n : Nat) (s : State) : Host.Outcome State Fault Refusal := onPort s p (s.rxFrame p 0x02 n [])

def execHello (p : Nat) (pay : List Byte) (s : State) : Host.Outcome State Fault Refusal := onPort s p (s.nextFrame p 0x08 pay)

def execCaps (p : Nat) (pay : List Byte) (s : State) : Host.Outcome State Fault Refusal := onPort s p (s.nextFrame p 0x09 pay)

def execTelem (p : Nat) (pay : List Byte) (s : State) : Host.Outcome State Fault Refusal := onPort s p (s.nextFrame p 0x0B pay)

def execAlert (p : Nat) (pay : List Byte) (s : State) : Host.Outcome State Fault Refusal := onPort s p (s.nextFrame p 0x0C pay)

def execFrameReceive (p : Nat) (bytes : List Byte) (ns : Nat) (s : State) : Host.Outcome State Fault Refusal :=
  onPort s p (effFrame s p bytes ns)

def execKeepalive (p : Nat) (s : State) : Host.Outcome State Fault Refusal := onPort s p (s.nextFrame p 0x0E [])

def execBye (p : Nat) (pay : List Byte) (s : State) : Host.Outcome State Fault Refusal := onPort s p (s.nextFrame p 0x0F pay)

def execRetransmitTimeout (p : Nat) (s : State) : Host.Outcome State Fault Refusal := onPort s p (effRetransmit s p)

def execKeepaliveSend (p : Nat) (s : State) : Host.Outcome State Fault Refusal := onPort s p (effKeepalive s p)

def execLinkTimeout (p : Nat) (s : State) : Host.Outcome State Fault Refusal := onPort s p (s.linkDown p dnLink lkOpen)

def execTelemStale (p : Nat) (s : State) : Host.Outcome State Fault Refusal := onPort s p (effStale s p)

def execPortEnClear (g : Gal) (p : Nat) (s : State) : Host.Outcome State Fault Refusal :=
  let v := s.get R.LNK_CTL_PORT_EN
  onPort s p (s.hostRow g R.LNK_CTL_PORT_EN 0 (if v.testBit p then v - 2 ^ p else v) fun s =>
    (s.clearBit R.LNK_CTL_PORT_EN 0 p).portEnFell p)

def execTrimDisable (g : Gal) (s : State) : Host.Outcome State Fault Refusal :=
  .next (s.hostRow g R.LNK_CTL_TRIM_EN 0 0 fun s =>
    if s.flag R.LNK_CTL_TRIM_EN then (s.set R.LNK_CTL_TRIM_EN 0 0).trimOff else s)

end Sys2Proof.Machine
end

