-- ==== Sys2Proof/Machine/Power.lean ====
section
/-!
DEFINITION. Power states and wake (R302 to R321): district targets, entries, switch-ons and their admission (R173, R174),
the device states that the owner requests, and the power-down of the control complex.
-/
namespace Sys2Proof.Machine

/-! ### Fabric outputs (R304) -/

/-- The body-bias and SRAM-assist codes of a rail class for a district state. -/
def State.bbOf (s : State) (d st : Nat) : Nat :=
  let F := if st = 0 then R.PWR_BBA0_BB_OFF else if st = 1 then R.PWR_BBA0_BB_RET else R.PWR_BBA0_BB_ON
  s.get { F with base := F.base + 4 * s.classOf d }
def State.asstOf (s : State) (d st : Nat) : Nat :=
  let F := if st = 0 then R.PWR_BBA0_AS_OFF else if st = 1 then R.PWR_BBA0_AS_RET else R.PWR_BBA0_AS_ON
  s.get { F with base := F.base + 4 * s.classOf d }

/-- A write to PWR_BBA: every district drives the new codes of the state whose codes it drives (R304): that of its switches, or
while only the weak switches are closed that from which its switch-on came. -/
def State.redrive (s : State) (d : Nat) : State :=
  let psw := s.get R.PWR_DSTAT_PSW d
  let st := if psw = 3 then 2 else if psw = 2 then (if (s.pw d).fromRetain then 1 else 0) else psw
  (s.set R.PWR_DSTAT_BB d (s.bbOf d st)).set R.PWR_DSTAT_ASST d (s.asstOf d st)

/-- fab_psw, fab_bb and fab_asst take the codes of a district state. -/
def State.driveState (s : State) (d st : Nat) : State :=
  ((s.set R.PWR_DSTAT_PSW d (if st = 0 then 0 else if st = 1 then 1 else 3)).set R.PWR_DSTAT_BB d (s.bbOf d st)).set
    R.PWR_DSTAT_ASST d (s.asstOf d st)

/-- A step of a district's sequence, with its STEP code. -/
def State.pwrStep (s : State) (d : Nat) (st : PwrStep) (code : Nat) : State :=
  (s.updPw d fun x => { x with step := st }).set R.PWR_DSTAT_STEP d code

/-! ### Targets and requests (R306, R318) -/

/-- The register that holds the targets of districts 16j to 16j + 15. -/
def tgtFld (j : Nat) : Fld := { R.PWR_DTGT0_TGT with base := R.PWR_DTGT0_TGT.base + 4 * j }

/-- The target of a district. -/
def State.tgtOf (s : State) (d : Nat) : Nat := s.get { tgtFld (d / 16) with lo := 2 * (d % 16), w := 2 }
def State.setTgt (s : State) (d v : Nat) : State := s.set { tgtFld (d / 16) with lo := 2 * (d % 16), w := 2 } 0 v

/-- Whether a sequence of the district is in progress. -/
def State.seqBusy (s : State) (d : Nat) : Bool := (s.pw d).step != .idle

/-- The wait of a district under R174 ends. -/
def State.endWait (s : State) (d : Nat) : State :=
  let s := (s.updPw d fun x => { x with reqOn := none }).set R.DST_FILL_STAT_SWWAIT d 0
  if s.seqBusy d then s else s.set R.PWR_DSTAT_STEP d 0

/-- Whether a sequence of the district stands between its start and its completion, so that a change of its target is latched
(R318): the 5 ns from COMPLETE to the fabric's clocks are no part of it. -/
def State.latches (s : State) (d : Nat) : Bool := s.seqBusy d && (s.pw d).step != .onIso

/-- A steady district pursues its target (R306); a request for ON is ordered by the die period in which it arrived (R174). -/
def State.pursue (s : State) (d : Nat) : State :=
  let t := s.tgtOf d
  let st := s.dst d
  let at_ := (s.pw d).latchAt.getD s.dev.die
  let s := s.updPw d fun x => { x with latchAt := none }
  if st = 2 then (s.endWait d).updPw d fun x => { x with reqEntry := decide (t ≠ 2) }
  else if t = 2 then s.updPw d fun x => { x with reqEntry := false, reqOn := some (x.reqOn.getD at_) }
  else (s.endWait d).updPw d fun x => { x with reqEntry := decide (st = 1 ∧ t = 0) }

/-- Whether the OFF entries of SLEEP have begun (R314): until then the device acts as in the state before. -/
def State.sleeping (s : State) : Bool := s.dev.entry == 2 && s.dev.sleepStep != 0

/-- Whether the device stands where targets are not pursued (R417, R314). -/
def State.noPursuit (s : State) : Bool := s.devSt == devOff || s.devSt == devSleep || s.sleeping

/-- Whether the fuse map has been read without a parity error (R323). -/
def State.fuseOk (s : State) : Bool :=
  match s.fuse with
  | some f => f.good
  | none => false

/-- The states in which the control-complex supply district may not leave ON (R34). -/
def State.supplyFixed (s : State) : Bool := s.devSt == devRun || s.devSt == devQuiet || s.devSt == devDoze

/-- Whether a request is refused (R306). -/
def State.reqRefused (s : State) (d v : Nat) : Bool :=
  (d == s.cfg.ccsup && v != 2 && s.supplyFixed)
    || (v == 2 && decide (2 ≤ s.get R.DST_FO_STAT_STATE d))
    || (s.devSt == devOff && (s.flag R.GRP_STAT_COOLLOSS || s.get R.THM_STAT_STATE == 2))
    || (v == 1 && s.dst d == 0 && !s.seqBusy d)

/-- A request that changes the target of one district (R306, R318). -/
def State.request (s : State) (d v : Nat) : State :=
  if s.cfg.n ≤ d then s
  else if v = 3 then s.cfgsat 2
  else if v = s.tgtOf d ∨ (v ≠ 2 ∧ s.get R.DST_FO_STAT_STATE d = 2) then s
  else if s.reqRefused d v then s.raise R.PWR_FLT_REQREF
  else
    let s := (s.setTgt d v).updPw d fun x => { x with failed := false }
    if s.devSt == devOff then s
    else if s.latches d then
      ((s.updPw d fun x => { x with latchAt := some s.dev.die }).set R.PWR_DSTAT_TPEND d 1).raise R.PWR_FLT_WDUR
    else if s.noPursuit then s
    else s.pursue d

/-- A write to PWR_DTGTj: each field on its own. -/
def effTargets (s : State) (j : Nat) (w : Word) : State :=
  s.each (List.range 16) fun s k => s.request (16 * j + k) (bitsOf w (2 * k) 2)

/-- A latched change is pursued when the sequence is complete (R318); where targets are not pursued it is latched no longer, and
district return pursues the target as stored (R314, R319, R417). -/
def State.pursueLatched (s : State) (d : Nat) : State :=
  if !s.flag R.PWR_DSTAT_TPEND d then s
  else
    let s := s.set R.PWR_DSTAT_TPEND d 0
    if s.noPursuit then s.updPw d fun x => { x with latchAt := none } else s.pursue d

/-- Whether a district leaves its target alone until it is asked anew: its switch-on has failed (R310), or it is DARKENING or DARK
(R244). -/
def State.stays (s : State) (d : Nat) : Bool := (tabAt s.pwr d : PwrS).failed || decide (2 ≤ s.get R.DST_FO_STAT_STATE d)

/-- Every district pursues its target again, or will when its sequence is complete: an entry of SLEEP has ended before its time
(R306, R321). -/
def State.pursueAll (s : State) : State :=
  s.each s.districts fun s d =>
    if s.stays d then s
    else if s.latches d then s.set R.PWR_DSTAT_TPEND d 1 else (s.set R.PWR_DSTAT_TPEND d 0).pursue d

/-! ### Power-down of the control complex (R303, R429) -/

/-- The control complex is powered down: its state is lost but for the retention store, and staged records are lost
and counted; one that was being programmed is torn (R435). -/
def State.ccDown (s : State) : State :=
  let n := s.arc.staged.length
  let r := s.tearRecord.ccReset
  let r := r.set R.ARC_STAT_STGB 0 0
  { r with dev := { r.dev with powered := false, released := false, entry := s.dev.entry, sleepStep := s.dev.sleepStep },
           arc := { r.arc with staged := [], lost := n } }

/-! ### Entry to RETAIN or OFF (R308) -/

/-- Whether a district holds no booking. -/
def State.noBooking (s : State) (d : Nat) : Bool :=
  !((s.bk d).grants.any fun g => decide (0 < g.d) && decide (s.dev.slot < g.start + g.dur))

/-- The Forecaster elements of f of a district stand at 0 (R221, R308). -/
def State.zeroF (s : State) (d : Nat) : State :=
  { s with fcs := tabUpd s.fcs d fun x => { x with out := ⟨minExp, []⟩, outNext := ⟨minExp, []⟩ } }

/-- A district leaves ON: its throttle request is cleared (R238), and with it THROTTLED (R244). -/
def State.clearThr (s : State) (d : Nat) : State :=
  let s := s.set R.DST_FO_THR_THRQ d 0
  if s.get R.DST_FO_STAT_STATE d == 1 then s.set R.DST_FO_STAT_STATE d 0 else s

/-- An entry begins at its 0 ns step, or from RETAIN before its 10 ns step. -/
def State.entryStart (s : State) (d : Nat) (retain : Bool) : State :=
  let s := ((s.endWait d).updPw d fun x => { x with reqEntry := false, toRetain := retain }).zeroF d
  let code := if retain then 1 else 2
  if s.dst d == 1 && !s.seqBusy d then s.pwrStep d .entIso code
  else
    let s := if s.get R.LOOP_TST_CTL_DIST == d then s.tstStop 4 else s
    (s.pwrStep d .entBegun code).set R.PWR_DSTAT_CSTOP d 1

/-- A requested entry begins at a district period boundary. DESIGN CHOICE (assumption 131): one of the supply district that BOOT or
SAFE_HOLD has requested and that has not begun when the device reaches RUN waits, its target kept, while the device stands where
R34 keeps it ON; one that has begun goes on. -/
def effEntryBegin (s : State) (d : Nat) : State :=
  if (s.pw d).reqEntry && !s.seqBusy d && s.dst d != 0 && s.noBooking d && !(d == s.cfg.ccsup && s.supplyFixed)
  then s.entryStart d (s.tgtOf d == 1) else s

/-- 5 ns into an entry. -/
def effEntryIsolate (s : State) (d : Nat) : State :=
  if (s.pw d).step == .entBegun then ((s.updPw d fun x => { x with step := .entIso }).set R.PWR_DSTAT_ISO d 1) else s

/-- 10 ns into an entry. -/
def effEntrySwitches (s : State) (d : Nat) : State :=
  if (s.pw d).step == .entIso then
    let s := s.updPw d fun x => { x with step := .entSw }
    ((s.driveState d (if (s.pw d).toRetain then 1 else 0)).thDisarm d).anvilsOff d
  else s

/-- 100 ns into an entry: the cells. The control complex goes down with the stop order of its own supply (R417, R336). DESIGN
CHOICE (assumption 120): also where a request of BOOT or SAFE_HOLD has placed the supply district in OFF. -/
def effEntryCells (s : State) (d : Nat) : State :=
  if (s.pw d).step == .entSw then
    let s := s.updPw d fun x => { x with step := .entCells }
    if (s.pw d).toRetain then s.each (s.availCells d) fun s c => s.rampCell c (s.get R.PWR_VREF_VRET)
    else
      let s := s.each (cellsOf d) fun s c => s.sendStop c
      if d = s.cfg.ccsup ∧ s.dev.powered then s.ccDown else s
  else s

/-- Whether a district stands in service: ON with its switch-on complete, and neither DARKENING nor DARK. It is ON until its
entry to RETAIN or OFF is complete. -/
def State.inService' (s : State) (d : Nat) : Bool :=
  s.isOn d && !s.inSwitchOn d && decide (s.get R.DST_FO_STAT_STATE d < 2)

/-- The one QUALCNT of a coupling group stands at 0 (R241). -/
def State.qualZero (s : State) (d : Nat) : State :=
  s.each (s.inGroup d) fun s e =>
    { (s.set R.DST_FO_STAT_QUAL e 0).set R.DST_FO_THR_QUALCNT e 0 with
      fo := tabUpd s.fo e fun (x : FoS) => { x with qual := 0 } }

/-- QUALCNT is held at 0 while the floor test of a group does not run: no member takes part (R240, R241). -/
def State.qualHold (s : State) (d : Nat) : State := if (s.inGroup d).any s.inService' then s else s.qualZero d

/-- RETAIN is reached. -/
def effRetainDone (s : State) (d : Nat) : State :=
  if (s.pw d).step == .entCells && (s.pw d).toRetain then
    ((((s.pwrStep d .idle 0).set R.PWR_DSTAT_STATE d 1).clearThr d).qualHold d).pursueLatched d
  else s

/-- Whether every district that a test selects is OFF. -/
def State.allOff (s : State) (p : Nat → Bool) : Bool :=
  s.districts.all fun d => !p d || (s.dst d == 0 && !s.seqBusy d)

/-- What the end of an OFF entry does for SLEEP (R314, R375). -/
def State.sleepProgress (s : State) (z : Nat) : State :=
  let out (d : Nat) : Bool := !s.isSupply d
  if s.dev.sleepStep = 1 then
    let s := if s.allOff fun d => out d && s.zoneOf d == z then s.byeSleep z else s
    if s.allOff out then { s with dev := { s.dev with sleepStep := 2 } } else s
  else if s.dev.sleepStep = 3 ∧ s.allOff (fun d => s.isSupply d) then
    let s := (s.set R.PWR_STAT_DEV 0 devSleep).set R.PWR_STAT_ENTRY 0 0
    { s with dev := { s.dev with sleepStep := 0, entry := 0 } }.wakePending
  else s

/-- An OFF entry is complete: the district is OFF. -/
def State.offDone (s : State) (d : Nat) : State := (((s.pwrStep d .idle 0).set R.PWR_DSTAT_STATE d 0).clearThr d).qualHold d

/-! ### Switch-on (R309, R310) -/

/-- The guard band in unannounced mode (R52, R136). -/
def State.gbUna (s : State) (d : Nat) : Nat := if s.get R.IMG_STAT_SRC == 3 then 0x0F0 else s.get R.DST_SET_GB_UNA d

/-- The lower clamp of a district's reference (R139). -/
def State.vLo (s : State) (d : Nat) : Nat := if s.isSupply d then 0x0AF0 else 0x07D0

/-- The start reference VS of a switch-on. -/
def State.startRef (s : State) (d : Nat) : Nat :=
  let v : Int := (s.get R.DST_SET_VMIN d : Int) + s.gbUna d + s.get R.DST_COMP_AGE d + s.getI R.DST_COMP_THM d
  (clampTo (s.vLo d) 0x1068 v).toNat

/-- A switch-on begins at a reference. -/
def State.switchOn (s : State) (d vs : Nat) : State :=
  let ret := s.dst d == 1
  let s := (s.endWait d).updPw d fun x => { x with fromRetain := ret, vs := vs, failed := false, reqEntry := false }
  let s := (s.pwrStep d .onBegun 4).set R.DST_REF_VREF d vs
  let s := s.updLaw d fun l => { l with vref := vs, appliedV := vs, vNext := vs, tgtNext := l.tgt }
  let s := if ret then s.each (s.availCells d) fun s c => s.rampCell c vs
    else s.each (cellsOf d) fun s c =>
      if s.cst c == cFused || s.cst c == cFailed || s.flag R.CEL_CTL_CELL_DIS c then s else s.sendStart c vs
  s.anvilsCharge d

/-- Whether a district can begin a switch-on; one that is DARKENING or DARK cannot (R244). -/
def State.canSwitchOn (s : State) (d : Nat) : Bool :=
  s.dst d != 2 && !s.seqBusy d && decide (s.get R.DST_FO_STAT_STATE d < 2)

/-- The supply coupling group begins its switch-on at VBOOT (R315, R329, R335). -/
def State.supplyOn (s : State) : State :=
  s.each s.supply fun s d => if s.canSwitchOn d then s.switchOn d (s.get R.PWR_VREF_VBOOT) else s

/-- The switch-on of the supply group falls due once the fuse map has been read without a parity error, the self-test of its
zone is complete, its VFEED is good and its OFF entries are complete (R323, R329, R336). -/
def State.supplyDue (s : State) : State :=
  let z := s.zoneOf s.cfg.ccsup
  if s.dev.supDue && s.fuseOk && s.dev.tested.testBit z && !s.dev.feedWait.testBit z && s.allOff s.isSupply
  then { s with dev := { s.dev with supDue := false } }.supplyOn else s

def effOffDone (s : State) (d : Nat) : State :=
  if (s.pw d).step == .entCells && !(s.pw d).toRetain && s.get R.DST_FO_STAT_STATE d != 2 then
    (((s.offDone d).pursueLatched d).sleepProgress (s.zoneOf d)).supplyDue
  else s

/-- Every started cell has left SOFTSTART and one is in RUN; from RETAIN, every available cell is within ±25 mV of VS. -/
def State.railOk (s : State) (d : Nat) : Bool :=
  let x := s.pw d
  if x.fromRetain then (s.availCells d).all fun c =>
    decide ((s.cell c).vcell ≤ x.vs + 100) && decide (x.vs ≤ (s.cell c).vcell + 100)
  else ((cellsOf d).all fun c => s.cst c != cSoft && (s.cell c).startSent == none && !(s.cell c).held)
    && (cellsOf d).any fun c => s.cst c == cRun

def effRailok (s : State) (d : Nat) : State :=
  if (s.pw d).step == .onBegun && s.railOk d then
    ((s.pwrStep d .onRail 5).clearLaw d).set R.PWR_DSTAT_PSW d 2
  else s

def effOnPower (s : State) (d : Nat) : State :=
  if (s.pw d).step == .onRail then (s.updPw d fun x => { x with step := .onPower }).driveState d 2 else s

/-- Every anvil cell of a district is READY or FAILED. -/
def State.anvilsSet (s : State) (d : Nat) : Bool := (anvilsOf d).all fun a => s.ast a == aReady || s.ast a == aFailed

/-- COMPLETE at a die period boundary; SAFE_HOLD holds it back (R321). Before the release, COMPLETE of the supply group
powers the control complex. -/
def effOnComplete (s : State) (d : Nat) : State :=
  if (s.pw d).step == .onPower && s.anvilsSet d && s.devSt != devHold && (!s.dev.supStayed || s.dev.returned)
      && decide (s.get R.DST_FO_STAT_STATE d < 2) then
    let s := ((s.pwrStep d .onIso 0).set R.PWR_DSTAT_STATE d 2).set R.PWR_DSTAT_ISO d 0
    let s := (s.inc R.PWR_DSTAT_SWONS d).pursueLatched d
    let done := s.supply.all fun e => s.isOn e && (s.pw e).step != .onPower
    if done then { s with dev := { s.dev with powered := true, supStayed := false } } else s
  else s

/-- 5 ns after COMPLETE. -/
def effClockStart (s : State) (d : Nat) : State :=
  if (s.pw d).step == .onIso then (s.updPw d fun x => { x with step := .idle }).set R.PWR_DSTAT_CSTOP d 0 else s

/-- RAILOK has not been reached in time (R310). -/
def effOnFail (s : State) (d : Nat) : State :=
  if (s.pw d).step == .onBegun then
    let s := (s.pwrStep d .entIso 2).updPw d fun x => { x with toRetain := false, failed := true }
    (s.raise R.PWR_FLT_SWFAIL).report clsSwfail 0 (srcOf 2 d)
  else s

/-! ### Admission of switch-ons (R173, R174) -/

/-- The condition of R173; with an allowance of 0 a switch-on waits for nothing (R174). -/
def State.swFits (s : State) (d : Nat) : Bool :=
  let z := s.zoneOf d
  let busy := (s.inZone z).foldl (fun n e => if s.inSwitchOn e then n + s.swon e else n) 0
  s.swon d == 0 || decide (s.swon d + busy ≤ s.headroomAt z (s.startRef d))

/-- An entry placed behind those of the same or an earlier order. -/
def insertOrder (x : Nat × Nat) : List (Nat × Nat) → List (Nat × Nat)
  | [] => [x]
  | y :: r => if y.1 ≤ x.1 then y :: insertOrder x r else x :: y :: r

/-- The districts of a zone that wait to be switched on, in the order of their requests. -/
def State.waiters (s : State) (z : Nat) : List Nat :=
  let keyed := (s.inZone z).filterMap fun d => if s.canSwitchOn d then (s.pw d).reqOn.map fun o => (o, d) else none
  (keyed.foldl (fun l x => insertOrder x l) []).map (·.2)

/-- A die period of the wait of a district (R174): WAITED counts those of the present wait. -/
def State.waitOn (s : State) (e : Nat) : State :=
  let s := if s.flag R.DST_FILL_STAT_SWWAIT e then s else s.set R.DST_FILL_STAT_WAITED e 0
  (((s.set R.DST_FILL_STAT_SWWAIT e 1).inc R.DST_FILL_STAT_WAITED e).raise R.DST_FLT_SWWAIT e).set R.PWR_DSTAT_STEP e 3

/-- A die period of the districts of a zone that are to be switched on: they start in order, each behind the one before it;
those whose allowance is 0 wait for nothing. -/
def State.admitOn (s : State) (behind : Bool) : List Nat → State
  | [] => s
  | d :: r =>
    if s.swFits d && (!behind || s.swon d == 0) then (s.switchOn d (s.startRef d)).admitOn behind r
    else (s.waitOn d).admitOn true r

/-- Whether the present edge is that of a die period boundary, whose DIE_PERIOD has come (R27). -/
def State.atDie (s : State) : Bool := s.dev.orrRun && decide (0 < s.dev.die) && s.dev.dper == 10 * (s.dev.die - 1) + 1

/-- Whether R173 admits switch-ons: in RUN and QUIET, until the OFF entries of SLEEP begin (R314). -/
def State.switchOns (s : State) : Bool := (s.devSt == devRun || s.devSt == devQuiet) && !s.sleeping

/-- Switch-ons at a die period boundary. -/
def State.dieSwitchOn (s : State) : State :=
  if s.switchOns then s.each [0, 1, 2, 3] fun s z => s.admitOn false (s.waiters z) else s

/-- A requested switch-on that R173 admits begins, at a die period boundary. -/
def effSwitchOnBegin (s : State) (d : Nat) : State :=
  let w := s.waiters (s.zoneOf d)
  if s.switchOns && s.atDie && (w.head? == some d || (w.contains d && s.swon d == 0)) && s.swFits d
  then s.switchOn d (s.startRef d) else s

/-! ### Device states (R311 to R318) -/

/-- A request of the owner acts in RUN or QUIET. -/
def State.actReq (s : State) (v : Nat) : State :=
  if (s.devSt != devRun && s.devSt != devQuiet) || s.dev.entry != 0 then s
  else
    let enter (s : State) (e : Nat) : State :=
      { s.set R.PWR_STAT_ENTRY 0 1 with dev := { s.dev with
          entry := e, before := s.devSt, sleepStep := 0, ledgersClear := false,
          ledgerBusy := s.dev.ledgerBusy || decide (10 * s.dev.die < s.dev.dper) } }
    match v with
    | 0 => s.set R.PWR_STAT_DEV 0 devRun
    | 1 => if s.devSt == devRun then { (s.tstStop 4).set R.PWR_STAT_DEV 0 devQuiet with bud := { s.bud with ivNoGrp := true } } else s
    | 2 => enter s 1
    | 3 => enter s 2
    | _ => s

/-- A write of DEV_REQ; any write to PWR_CTL wakes the device from DOZE (R311, R316, R322). DESIGN CHOICE (assumption 152): the
DEV_REQ of the write that itself wakes the device gives way to the wake's rewrite. -/
def effDevReq (s : State) (v : Nat) : State :=
  let s := if v ≤ 3 then s.set R.PWR_CTL_DEV_REQ 0 v else s.cfgsat 2
  (s.wake wakeWrite 0).actReq v

/-- A write to PWR_CTL, but for WRST, of a gallery with or without the privilege: DEV_REQ is RWP, so without it the write that is
answered OK is only a wake (R17, R316). -/
def State.devReqBy (s : State) (priv : Bool) (v : Nat) : State := if priv then effDevReq s v else s.wake wakeWrite 0

/-- The device reaches RUN, which ends BOOT however it came about (R184): a stored request acts (R311). -/
def State.reachRun (s : State) : State :=
  ({ s with dev := { s.dev with booted := true } }.set R.PWR_STAT_DEV 0 devRun).actReq (s.get R.PWR_CTL_DEV_REQ)

/-- DOZE is reached (R313, R318): the Orrery computes no more, and the interval of the group report is not one in RUN
(R266). -/
def effDozeDone (s : State) : State :=
  if s.dev.entry == 1 && s.dev.ledgersClear then
    let s := (((s.tstStop 4).set R.PWR_STAT_DEV 0 devDoze).set R.PWR_STAT_ENTRY 0 0).set R.ORR_STAT_RUN 0 0
    { s with dev := { s.dev with entry := 0, gated := true, dozeExit := false }, bud := { s.bud with ivNoGrp := true } }.wakePending
  else s

/-- The state before DOZE is restored (R313). DEDUCED (assumption 131): a DEV_REQ written since the wake acts where that state is
RUN; in QUIET it waits for the next RUN, as R311 has it. -/
def effDozeExit (s : State) : State :=
  if s.devSt == devDoze && s.dev.dozeExit then
    let s := s.set R.PWR_STAT_DEV 0 s.dev.before
    let s := { s with dev := { s.dev with dozeExit := false, gated := false }, adm := { s.adm with back := 20 * (s.dev.dper - 1) } }
    if s.dev.before = devRun then s.actReq (s.get R.PWR_CTL_DEV_REQ) else s
  else s

/-- An entry in progress goes on to OFF: past its 10 ns step it drives the codes of OFF (R304), and past its 100 ns step to
RETAIN the cells still take their stop order. -/
def State.turnOff (s : State) (d : Nat) : State :=
  let x := s.pw d
  if !x.toRetain then s
  else
    let s := (s.updPw d fun x => { x with toRetain := false }).set R.PWR_DSTAT_STEP d 2
    match x.step with
    | .entSw => s.driveState d 0
    | .entCells => (s.pwrStep d .entSw 2).driveState d 0
    | _ => s

/-- The OFF entries of SLEEP, all together (R314), and the zones that have none left. -/
def State.sleepEntries (s : State) : State :=
  let s := s.each s.districts fun s d =>
    if s.isSupply d || s.get R.DST_FO_STAT_STATE d == 2 || (s.dst d == 0 && !s.seqBusy d) then s.endWait d
    else match (s.pw d).step with
      | .entBegun | .entIso | .entSw | .entCells => s.turnOff d
      | _ => s.entryStart d false
  s.each [0, 1, 2, 3] fun s z => if s.zoneUsed z then s.sleepProgress z else s

/-- The OFF entries of SLEEP begin; the ageing record is then due (R299), and the session and the released key go (R450). -/
def effSleepBegin (s : State) : State :=
  if s.dev.entry == 2 && s.dev.sleepStep == 0 && s.ledgersEmpty then
    let s := { s.tstStop 4 with dev := { s.dev with sleepStep := 1 }, age := { s.age with due := s.dev.flashUsable } }
    s.endSession.sleepEntries
  else s

/-- Whether the Archive staging is flushed: it is empty, or the Archive programs nothing (R314, R422). -/
def State.flushed (s : State) : Bool := s.arc.staged.isEmpty || s.get R.ARC_STAT_MODE == 3

/-- The retained fields are stored, the PLL stops, and the supply group takes its OFF entry, once the ageing record has been
written and the staging flushed (R314). -/
def effSleepDown (s : State) : State :=
  if s.dev.entry == 2 && s.dev.sleepStep == 2 && !s.age.due && s.flushed then
    let s := s.each [0, 1, 2, 3] fun s z => s.byeSleep z
    let s := { s with dev := { s.dev with sleepStep := 3 } }.ccDown
    s.each s.supply fun s d => s.entryStart d false
  else s

/-- A wake in SLEEP begins the switch-on of the supply group (R315). -/
def effSleepWake (s : State) : State :=
  if s.dev.wakeDue && s.devSt == devBoot then
    { s with dev := { s.dev with wakeDue := false } }.supplyOn
  else s

/-! ### The meanings -/

def execDistrictTargetRequest (g : Gal) (j : Nat) (w : Word) (s : State) : Host.Outcome State Fault Refusal :=
  .next (if j < 4 then s.hostWrite g ((tgtFld j).addr 0) w fun s => effTargets s j w else s)

def execDistrictEntryBegin (d : Nat) (s : State) : Host.Outcome State Fault Refusal := onDist s d (effEntryBegin s d)

def execDistrictEntryIsolate (d : Nat) (s : State) : Host.Outcome State Fault Refusal := onDist s d (effEntryIsolate s d)

def execDistrictEntrySwitches (d : Nat) (s : State) : Host.Outcome State Fault Refusal := onDist s d (effEntrySwitches s d)

def execDistrictEntryCells (d : Nat) (s : State) : Host.Outcome State Fault Refusal := onDist s d (effEntryCells s d)

def execRetainEntryComplete (d : Nat) (s : State) : Host.Outcome State Fault Refusal := onDist s d (effRetainDone s d)

def execOffEntryComplete (d : Nat) (s : State) : Host.Outcome State Fault Refusal := onDist s d (effOffDone s d)

def execSwitchOnBegin (d : Nat) (s : State) : Host.Outcome State Fault Refusal := onDist s d (effSwitchOnBegin s d)

def execRailok (d : Nat) (s : State) : Host.Outcome State Fault Refusal := onDist s d (effRailok s d)

def execSwitchOnPower (d : Nat) (s : State) : Host.Outcome State Fault Refusal := onDist s d (effOnPower s d)

def execSwitchOnComplete (d : Nat) (s : State) : Host.Outcome State Fault Refusal := onDist s d (effOnComplete s d)

def execClockStart (d : Nat) (s : State) : Host.Outcome State Fault Refusal := onDist s d (effClockStart s d)

def execSwitchOnFail (d : Nat) (s : State) : Host.Outcome State Fault Refusal := onDist s d (effOnFail s d)

def execDevReqRun (g : Gal) (s : State) : Host.Outcome State Fault Refusal :=
  .next (s.hostRow g R.PWR_CTL_DEV_REQ 0 0 fun s => s.devReqBy (s.priv g 2) 0)

def execDevReqQuiet (g : Gal) (s : State) : Host.Outcome State Fault Refusal :=
  .next (s.hostRow g R.PWR_CTL_DEV_REQ 0 1 fun s => s.devReqBy (s.priv g 2) 1)

def execDevReqDoze (g : Gal) (s : State) : Host.Outcome State Fault Refusal :=
  .next (s.hostRow g R.PWR_CTL_DEV_REQ 0 2 fun s => s.devReqBy (s.priv g 2) 2)

def execDevReqSleep (g : Gal) (s : State) : Host.Outcome State Fault Refusal :=
  .next (s.hostRow g R.PWR_CTL_DEV_REQ 0 3 fun s => s.devReqBy (s.priv g 2) 3)

def execDozeEntryComplete (s : State) : Host.Outcome State Fault Refusal := .next (effDozeDone s)

def execWake (g : Gal) (s : State) : Host.Outcome State Fault Refusal :=
  .next (s.hostRow g R.PWR_CTL_WAKE 0 1 fun s => s.wake wakeWrite 0)

def execDozeExitComplete (s : State) : Host.Outcome State Fault Refusal := .next (effDozeExit s)

def execSleepEntryBegin (s : State) : Host.Outcome State Fault Refusal := .next (effSleepBegin s)

def execSleepPowerDown (s : State) : Host.Outcome State Fault Refusal := .next (effSleepDown s)

def execSleepWake (s : State) : Host.Outcome State Fault Refusal := .next (effSleepWake s)

end Sys2Proof.Machine
end

