-- ==== Sys2Proof/Machine/RegRead.lean ====
section
/-!
DEFINITION. What a read that is answered OK returns (R16, R18, R89, R460 to R466): the common header, the registers that
are formed at the read, the stored ones, and the Exhibit copies; and the Exhibit edge, which copies what a read would show
(R433, R434).
-/
namespace Sys2Proof.Machine

/-- A word with a value in the bits from `lo`, `w` of them. -/
def putBits (x : Word) (lo w v : Nat) : Word := withBits x lo w v

/-- The revision code of the fuse map. -/
def State.rev (s : State) : Nat := (s.fuse.getD default).rev

/-! ### The common header (R460 to R462) -/

/-- Block type and last live offset of a page. -/
def pageKind (p : Nat) : Nat × Nat :=
  if isGalPage p then (0x118, 0xA4)
  else if 0x40 ≤ p ∧ p < 0x80 then (0x140, 0xA8)
  else if 0x80 ≤ p then (0x180, 0x17C)
  else (0x100 + p, ([0x74, 0x44, 0x80, 0x7C, 0x60, 0x60, 0x74, 0x68, 0xA0, 0x44, 0x70, 0x64, 0x50, 0x90, 0x50, 0x80, 0x84,
    0x7C, 0x90, 0x54, 0x78, 0x4C, 0x44, 0x4C] : List Nat).getD p 0)

/-- The instance that PG_ID reports. -/
def pageInst (p : Nat) : Nat :=
  if isGalPage p then p - 0x18 else if 0x40 ≤ p ∧ p < 0x80 then p - 0x40 else if 0x80 ≤ p then p - 0x80 else 0

/-- PG_STAT.FLTANY. -/
def State.fltAny (s : State) (p : Nat) : Bool :=
  s.get R.PG_FLT_FLT p &&& (0xFFFFFFFF - s.get R.PG_FLTMASK_MASK p) != 0

/-- PG_STAT. -/
def State.pgStat (s : State) (p : Nat) : Word :=
  let b (c : Bool) : Nat := if c then 1 else 0
  putBits (putBits (putBits 0 31 1 (b (s.fltAny p))) 30 1 (b (lockable p && s.flag R.PG_CTL_LOCK p))) 29 1
    (b (s.flag R.PG_EXH_SEQ_SEQ p))

/-- The registers of the common header. -/
def State.hdrWord (s : State) (p off : Nat) : Word :=
  match off with
  | 0x0 => putBits (putBits (putBits 0 24 8 1) 16 8 (pageInst p)) 0 16 (pageKind p).1
  | 0x4 => putBits (putBits 0 24 8 1) 8 8 s.rev
  | 0x8 => putBits (putBits (putBits 0 31 1 (if lockable p then 1 else 0)) 30 1 (if p = 2 then 1 else 0)) 0 12 (pageKind p).2
  | 0xC => BitVec.ofNat 32 (if lockable p then s.get R.PG_CTL_LOCK p else 0)
  | 0x10 => s.pgStat p
  | 0x14 => BitVec.ofNat 32 (s.get R.PG_FLT_FLT p)
  | 0x18 => BitVec.ofNat 32 (s.get R.PG_FLTMASK_MASK p)
  | 0x1C => BitVec.ofNat 32 (s.get R.PG_EXH_SEQ_SEQ p)
  | _ => 0

/-! ### Registers formed at the read -/

/-- SYS_FSUMj under the access mask of the reading gallery on the edge of acceptance, a bit for each page (R466). -/
def State.fsum (s : State) (mask j : Nat) : Word :=
  (List.range 32).foldl (fun w k =>
    let p := 32 * j + k
    if mask.testBit p && s.pageOk p && s.fltAny p then putBits w k 1 1 else w) 0

/-- The districts of a zone, counted. -/
def State.zoneCount (s : State) (z : Nat) : Nat := (s.inZone z).length

/-- Whether ERR_ALIVE toggles (R419). -/
def State.alive (s : State) : Bool :=
  s.dev.released && s.flt.heartbeat && (s.devSt == devRun || s.devSt == devQuiet || s.devSt == devDoze)
    && !s.standing 2 && !s.standing 3

/-- The SYS page. -/
def State.sysWord (s : State) (g : Nat) (i3c : Bool) (mask off : Nat) (c : Word) : Word :=
  match off with
  | 0x40 => putBits (putBits (putBits 0 16 16 0x2400) 8 8 s.cfg.n) 0 8 s.rev
  | 0x44 =>
    let z := ([0, 1, 2, 3] : List Nat).foldl (fun m k => if s.zoneUsed k then m + 2 ^ k else m) 0
    putBits (putBits (putBits (putBits 0 31 1 (if s.large then 1 else 0)) 24 4 z) 16 6 s.cfg.ccsup) 0 11
      (s.fuse.getD default).fused.length
  | 0x48 => putBits (putBits (putBits (putBits 0 0 8 (s.zoneCount 0)) 8 8 (s.zoneCount 1)) 16 8 (s.zoneCount 2)) 24 8
      (s.zoneCount 3)
  | 0x4C => putBits (putBits 0 31 1 (if i3c then 1 else 0)) 0 3 g
  | 0x70 => putBits (putBits (putBits (putBits (putBits 0 29 3 s.devSt) 27 2 (s.get R.FLT_STAT_STATE)) 26 1
      (if s.alive then 1 else 0)) 25 1 (s.get R.CLK_STAT_SRC)) 24 1 (s.get R.ORR_STAT_RUN)
  | _ => if 0x50 ≤ off ∧ off < 0x70 then s.fsum mask ((off - 0x50) / 4) else c

/-- The three words of a history entry. -/
def Entry.words (e : Entry) : List Nat :=
  [e.cls * 2 ^ 26 + e.react * 2 ^ 24 + e.cause * 2 ^ 16 + e.src, e.opsec, e.ticks * 2 ^ 16 + e.dev * 2 ^ 13 + e.seq]

/-- The FLT page: HCNT, ALIVE and the selected history entry. -/
def State.fltWord (s : State) (off : Nat) (c : Word) : Word :=
  if off = 0x44 then putBits (putBits c 16 6 s.flt.hist.length) 29 1 (if s.alive then 1 else 0)
  else if 0x5C ≤ off ∧ off ≤ 0x64 then
    match s.flt.hist[s.get R.FLT_HSEL_IDX]? with
    | some e => BitVec.ofNat 32 (e.words.getD ((off - 0x5C) / 4) 0)
    | none => 0
  else c

/-- Whether the head of a queue is a barrier forecast that awaits closure (R206). -/
def State.holdB (s : State) (q : Nat) : Bool :=
  match (s.q q).ents.find? fun e => e.st != .answered with
  | some e => e.st == .barrier && (s.bar (fcBid e.fc)).st == .opened
  | none => false

/-- Pending forecasts of a queue (R182). -/
def QueueS.pend (x : QueueS) : Nat := x.ents.length

/-- The codes of a barrier record. -/
def BarSt.code : BarSt → Nat
  | .free => 0
  | .opened => 1
  | .closed => 2
  | .booked => 3

/-- The smallest FREE of a ledger. -/
def State.freeMin (s : State) (d : Nat) : Int := s.ledger.foldl (fun m t => min m (s.freeAt d t)) (s.freeAt d s.dev.slot)

/-- A signed value saturated to 16 bits, as a code. -/
def code16 (x : Int) : Nat := codeOf 16 (clampTo (-32768) 32767 x)

/-- The GQ page: the selected queue, district and barrier record. -/
def State.gqWord (s : State) (off : Nat) (c : Word) : Word :=
  let d := s.get R.GQ_DSEL_DIST
  let onD (w : Word) : Word := if d < s.cfg.n then w else 0
  let b := s.bar (s.get R.GQ_BSEL_BID)
  match off with
  | 0x50 =>
    let q := s.get R.GQ_QSEL_QUEUE
    let x := s.q q
    putBits (putBits (putBits (putBits (putBits 0 28 4 x.pend) 24 4 x.infl) 20 4 (8 - x.pend - x.infl)) 8 8 x.nextSeq) 0 1
      (if s.holdB q then 1 else 0)
  | 0x60 => onD (putBits (putBits 0 16 12 (s.bk d).cap) 0 12 (s.bk d).rsv)
  | 0x64 => onD (putBits (putBits 0 16 16 (satU 16 (s.peak (s.comShown d)))) 0 16 (satU 16 (s.comShown d s.dev.slot)))
  | 0x68 => onD (putBits (putBits 0 16 16 (code16 (s.freeMin d))) 0 16 (code16 (s.freeAt d s.dev.slot)))
  | 0x6C => onD (putBits (putBits 0 16 9 (tabAt s.law d : LawS).img.allow) 0 13 (satU 13 (s.bk d).base))
  | 0x70 =>
    let n := s.queues.foldl (fun n x => if x.1 / 256 = d then n + x.2.pend else n) 0
    onD (putBits (putBits (putBits 0 31 1 (if s.imb d then 1 else 0)) 16 11 (s.bk d).grants.length) 0 12 n)
  | 0x78 => if b.st == .free then 0 else putBits (putBits (putBits 0 30 2 b.st.code) 15 15 b.arrived) 0 15 b.bcnt
  | 0x7C => (List.range 32).foldl (fun w k => if (s.bar k).st == .free then w else putBits w k 1 1) 0
  | 0x80 => (List.range 32).foldl (fun w k => if (s.bar (32 + k)).st == .free then w else putBits w k 1 1) 0
  | _ => c

/-- A 12-bit result as a read shows it, in the format of its conversion (R285). -/
def State.aligned (s : State) (diff : Bool) (code : Nat) : Nat :=
  if s.flag R.ADC_CTL_ALIGN then 16 * (code % 4096)
  else if diff then codeOf 16 (signedOf 12 code) else code % 4096

/-- The ADC page: results. -/
def State.adcWord (s : State) (off : Nat) (c : Word) : Word :=
  if 0x64 ≤ off ∧ off < 0x74 then
    let inj (i : Nat) : Nat := match tabGet s.adc.injRes i with
      | some (code, diff) => s.aligned diff code
      | none => 0
    let j := (off - 0x64) / 4
    putBits (putBits 0 0 16 (inj (2 * j))) 16 16 (inj (2 * j + 1))
  else if off = 0x78 then
    let ch := s.get R.ADC_RSEL_CH
    match tabGet s.adc.res ch with
    | some (code, r, diff) => putBits (putBits 0 16 16 r) 0 16 (s.aligned diff code)
    | none => 0
  else c

/-- Trips within the last 3,600 operating seconds. -/
def State.tripCount (s : State) : Nat := (s.thm.trips.filter fun t => decide (s.ticks / 65536 - t ≤ 3600)).length

/-- The provisioned ID of the I3C target (R389): its high and low words. -/
def State.pidHigh (s : State) : Nat := 2 * (s.cfg.mipi % 2 ^ 15)
def State.pidLow (s : State) : Nat := 0x24000000 + s.get R.I3C_CTL_INST * 0x1000 + s.rev % 256

/-- The mask of DTGT fields of configured districts. -/
def State.dtgtMask (s : State) (j : Nat) : Word :=
  (List.range 16).foldl (fun w k => if 16 * j + k < s.cfg.n then putBits w (2 * k) 2 3 else w) 0



/-- The writes of a gallery that are accepted and not yet in effect. -/
def State.outw (s : State) (g : Nat) : Nat := ((tabAt s.fence g : FenceS).held.filter fun h => h.we).length

/-- SEC_CDAT: the four bytes of the certificate chain at SEC_CADR.OFS (R438). -/
def State.chainWord (s : State) : Word :=
  let o := s.get R.SEC_CADR_OFS
  BitVec.ofNat 32 (ofLe ((List.range 4).map fun k => tabAt s.sec.chain (o + k)))

/-- A live register at an offset of 0x040 or above, as gallery `g` reads it under an access mask. -/
def State.liveWord (s : State) (g : Nat) (i3c : Bool) (mask p off : Nat) : Word :=
  let c : Word := match findReg (0x1000 * p + off) with
    | some r => s.content r (0x1000 * p + off)
    | none => 0
  if isGalPage p then
    if off < 0x80 then s.maskWord (p - 0x18) off else if off = 0xA4 then putBits c 0 5 (s.outw (p - 0x18)) else c
  else if 0x40 ≤ p then
    if p < 0x80 ∧ off = 0x40 then
      let d := p - 0x40
      putBits (putBits (putBits (putBits (putBits 0 16 16 (s.boundaryOf d)) 10 6 (s.groupOf d)) 6 1
        (if d = s.cfg.ccsup then 1 else 0)) 4 2 (s.classOf d)) 0 2 (s.zoneOf d)
    else c
  else match p with
    | 0x00 => s.sysWord g i3c mask off c
    | 0x02 => if 0x4C ≤ off ∧ off < 0x5C then c &&& s.dtgtMask ((off - 0x4C) / 4) else c
    | 0x03 =>
      if off = 0x7C ∧ s.sec.idReady then
        BitVec.ofNat 32 (ofLe (bytesAt (Config.idPub (s.fuse.getD default).dieId) (4 * s.get R.SEC_IDSEL_WORD) 4))
      else if off = 0x70 then s.chainWord else if off = 0x4C then 0 else c
    | 0x04 =>
      if off = 0x44 then BitVec.ofNat 32 (s.fuse.getD default).dieId
      else if off = 0x48 then BitVec.ofNat 32 ((s.fuse.getD default).dieId / 2 ^ 32) else c
    | 0x07 => s.fltWord off c
    | 0x08 =>
      if off = 0x50 then BitVec.ofNat 32 s.opsec
      else if off = 0x54 then putBits (putBits 0 16 16 s.arc.pcyc) 0 16 s.tick else c
    | 0x0B =>
      let d := s.get R.ORR_DSEL_DIST
      if s.cfg.n ≤ d then c
      else if off = 0x4C then
        let i := (tabAt s.law d : LawS).img
        putBits (putBits (putBits (putBits (putBits 0 29 3 i.s) 23 6 i.q) 16 7 i.p) 8 5 i.m) 0 5 i.n
      else if off = 0x50 then putBits c 16 3 (d % 8) else c
    | 0x0F =>
      let d := s.get R.FCS_DSEL_DIST
      if off = 0x68 ∧ d < s.cfg.n then
        let i := (tabAt s.law d : LawS).img
        putBits (putBits 0 16 16 i.tmask) 0 3 i.kinds.length
      else c
    | 0x10 => s.gqWord off c
    | 0x11 => s.adcWord off c
    | 0x12 =>
      if off = 0x80 then putBits c 28 2 s.tripCount
      else if off = 0x90 then putBits (putBits c 24 8 s.cfg.fioNbr) 16 8 s.cfg.bgNbr else c
    | 0x15 =>
      if off = 0x40 then putBits c 0 7 s.cfg.saddr
      else if off = 0x48 then BitVec.ofNat 32 s.pidLow
      else if off = 0x4C then BitVec.ofNat 32 (0x06000000 + s.pidHigh) else c
    | _ => c

/-- The data of a read that is answered OK, but for SEC_MBDAT and SEC_CDAT, whose reads advance an offset. -/
def State.readWord (s : State) (g : Nat) (i3c : Bool) (mask addr : Nat) : Word :=
  let p := addr / 0x1000
  let off := addr % 0x1000
  if off < 0x40 then s.hdrWord p off
  else if off < 0x800 then s.liveWord g i3c mask p off
  else tabAt s.exh.copies addr

/-! ### The Exhibit edge (R433, R434, R464) -/

/-- The participation of a page. -/
def partFld (j : Nat) : Fld := { R.EXH_PART0_PART with base := R.EXH_PART0_PART.base + 4 * j }
def State.participates (s : State) (p : Nat) : Bool := (s.get (partFld (p / 32))).testBit (p % 32) && s.pageOk p

/-- The copies of a page: the words that are not 0, and the stamp EXC_OPSEC, which a base may yet raise (R422). -/
def State.pageCopy (s : State) (p sq : Nat) : List (Nat × Word) :=
  let a := 0x1000 * p + 0x800
  let hdr : List (Nat × Word) :=
    [(a, BitVec.ofNat 32 sq), (a + 4, BitVec.ofNat 32 s.opsec), (a + 8, putBits (putBits 0 16 16 s.arc.pcyc) 0 16 s.tick),
     (a + 0xC, s.hdrWord p 0x14), (a + 0x10, s.pgStat p)]
  let live : List (Nat × Word) := (List.range ((pageKind p).2 / 4 + 1)).filterMap fun k =>
    if 4 * k < 0x40 then none else some (a + 4 * k, s.liveWord 0 false (s.maskBits 0) p (4 * k))
  (hdr ++ live).filter fun x => x.2 != 0 || x.1 == a + 4

/-- A page loads its copies, and PG_EXH_SEQ. -/
def State.copyPage (s0 s : State) (sq p : Nat) : State :=
  let keep := s.exh.copies.filter fun (x : Nat × Word) => x.1 / 0x1000 != p
  let c := (s0.pageCopy p sq).foldl (fun t x => tabPut t x.1 x.2) keep
  { s.set R.PG_EXH_SEQ_SEQ p sq with exh := { s.exh with copies := c } }

/-- The number of the next Exhibit: 0 is skipped. -/
def nextExh (n : Nat) : Nat := if n + 1 = 2 ^ 32 then 1 else n + 1

/-- The Exhibit edge that follows the registered triggers; any Exhibit trigger is the capture trigger 0x4, also one that HELD turns
away (R401, R434). -/
def effExhibit (s : State) : State :=
  let t := s.exh.trig
  if t = 0 ∨ !s.dev.released then s
  else
    let s0 := { s with exh := { s.exh with trig := 0 } }
    if s.flag R.EXH_STAT_HELD then ((s0.inc R.EXH_STAT_MISSED).raise R.EXH_FLT_MISS).capTrig 4
    else
      let sq := nextExh (s.get R.EXH_SEQ_SEQ)
      let pages := (List.range 256).filter s.participates
      let s1 := pages.foldl (fun x p => State.copyPage s x sq p) s0
      let s1 := (s1.set R.EXH_SEQ_SEQ 0 sq).set R.EXH_STAT_SRC 0 t
      let s1 := (s1.set R.EXH_TIME0_OPSEC 0 s.opsec).set R.EXH_TIME1_TICKS 0 s.tick
      let s1 := if s.flag R.EXH_CTL_HOLD_EN then s1.set R.EXH_STAT_HELD 0 1 else s1
      let s1 := if t.testBit 1 then s1.stage 0x06 (leBytes 4 sq ++ leBytes 4 t ++ leBytes 2 pages.length) else s1
      s1.capTrig 4

def execExhibitEdge (s : State) : Host.Outcome State Fault Refusal := .next (effExhibit s)

end Sys2Proof.Machine
end

