-- ==== Sys2Proof/Machine/Faults.lean ====
section
/-!
DEFINITION. The fault collector (R406 to R421): registration, classification and history, the reactions HOLD and OFF,
standing causes and their release, injection, and ERR_ALIVE.
-/
namespace Sys2Proof.Machine

/-! ### Entries (R420, R421) -/

/-- An entry as the Archive carries it. -/
def Entry.bytes (e : Entry) : List Byte := e.words.flatMap (leBytes 4)

/-- The district of a source, and its zone (R409, R425); 0xFF for none. -/
def State.srcDistrict (s : State) (src : Nat) : Nat :=
  let ix := src % 0x1000
  let d := match src / 0x1000 with
    | 1 => ix / 16
    | 2 => ix
    | 3 => ix / 4
    | 4 => ix
    | 6 => ix / 4
    | 9 => ix - 0x100 + (if ix < 0x100 then 0xFF else 0)
    | 10 => ix
    | 12 => ix
    | _ => 0xFF
  if d < s.cfg.n then d else 0xFF
def State.srcZone (s : State) (src : Nat) : Nat :=
  if src / 0x1000 = 5 then src % 0x1000
  else
    let d := s.srcDistrict src
    if d = 0xFF then 0xFF else s.zoneOf d

/-- A FAULT record of an entry. -/
def State.stageFault (s : State) (e : Entry) : State :=
  s.stage 0x02 (e.bytes ++ [BitVec.ofNat 8 (s.srcDistrict e.src), BitVec.ofNat 8 (s.srcZone e.src)])

/-- The first-fault latch loads an entry (R421). -/
def State.latchFirst (s : State) (e : Entry) : State :=
  let w := e.words
  let s := ((s.set R.FLT_FIRST0_WORD 0 (w.getD 0 0)).set R.FLT_FIRST1_WORD 0 (w.getD 1 0)).set R.FLT_FIRST2_WORD 0 (w.getD 2 0)
  let s := ((s.raise R.FLT_STAT_FVALID).raise R.FLT_FLT_FIRST).irqAll 1 0x07
  { s with flt := { s.flt with first := some e } }

/-! ### SAFE_HOLD and SAFE_OFF (R53, R105, R210, R293, R311, R321, R375, R410, R417) -/

/-- An entry of DOZE or SLEEP, and DOZE itself, end (R321); the Orrery computes again from the next district period. -/
def State.endDoze (s : State) : State :=
  let s := if s.devSt == devDoze then s.refuseHeld.set R.PWR_CTL_DEV_REQ 0 0 else s
  let s := if s.dev.entry != 0 then s.set R.PWR_CTL_DEV_REQ 0 0 else s
  let s := (s.set R.PWR_STAT_ENTRY 0 0).set R.PWR_STAT_WPEND 0 0
  { s with dev := { s.dev with entry := 0, sleepStep := 0, gated := false, dozeExit := false } }

/-- SAFE_HOLD is forced. -/
def State.forceHold (s : State) : State :=
  if s.devSt == devOff || s.devSt == devHold then s
  else
    let cut := s.sleeping
    let s := (s.tstStop 3).endDoze
    let s := ((s.set R.PWR_STAT_DEV 0 devHold).set R.FLT_STAT_STATE 0 1).raise R.FLT_FLT_HOLD
    let s := ((s.set R.ORR_STAT_NODIST 0 1).irqAll 1 0x07).capTrig 3
    let s := if cut then s.pursueAll else s
    let k := s.budLat.skipMax
    let s := s.each s.districts fun s d =>
      { s.set R.BUD_DACT_SK d k with fo := tabUpd s.fo d fun (x : FoS) => { x with sk := k } }
    let s := s.raiseIf s.bud.gmode R.GRP_FLT_OVR
    { s with flt := { s.flt with pin := false }, bud := { s.bud with ivNoGrp := true, ivSafe := true } }

/-- A district takes its OFF entry at once, without waiting for bookings; an entry to RETAIN in progress goes on to OFF, and a
switch-on or a darkening, of a switch-on too, gives way to the entry (R321, R246). -/
def State.offNow (s : State) (d : Nat) : State :=
  let s := (s.endWait d).set R.PWR_DSTAT_TPEND d 0
  if s.dst d == 0 && !s.seqBusy d && s.get R.DST_FO_STAT_STATE d != 2 then s
  else match (s.pw d).step with
    | .entBegun | .entIso | .entSw | .entCells => s.turnOff d
    | _ => s.entryStart d false

/-- The supply group stays ON under R293, also where a restart has not yet completed its switch-on (R335): clocks stopped,
clamps set, cells in LOCAL mode at 700.00 mV. -/
def State.stayOn (s : State) (d : Nat) : State :=
  let s := (((s.pwrStep d .idle 0).set R.PWR_DSTAT_CSTOP d 1).set R.PWR_DSTAT_ISO d 1).thDisarm d
  let s := (s.anvilsOff d).set R.DST_REF_VREF d 0x0AF0
  let s := s.updLaw d fun l => { l with appliedV := 0x0AF0, vref := 0x0AF0, vNext := 0x0AF0 }
  s.each (s.availCells d) fun s c => s.cellLocal c 0x0AF0

/-- The records, ledgers and pending entries are discarded, and no response follows (R210). -/
def State.dropBooks (s : State) : State :=
  { s with
    queues := s.queues.map fun (x : Nat × QueueS) => (x.1, { x.2 with ents := [], out := [], inited := false }),
    book := s.book.map fun (x : Nat × BookS) => (x.1, { x.2 with grants := [], fills := [] }), adm := {} }

/-- The failover state of a district returns to NORMAL (R244). -/
def State.foNormal (s : State) (d : Nat) : State :=
  let s := (s.set R.DST_FO_STAT_STATE d 0).set R.DST_FO_THR_THRQ d 0
  let s := (s.set R.DST_FO_STAT_QUAL d 0).set R.DST_FO_THR_QUALCNT d 0
  { s with fo := tabUpd s.fo d fun (x : FoS) => { x with qual := 0, darkStep := 0, darkRun := false, supRep := false } }

/-- Whether an entry to RETAIN or OFF of a district is in progress. -/
def PwrS.entering (x : PwrS) : Bool :=
  match x.step with
  | .entBegun | .entIso | .entSw | .entCells => true
  | _ => false

/-- SAFE_OFF is forced; a thermal trip leaves a supply group that is ON as it is, through the shutdown, whatever other class is
reported in it, and in its restart (R293). -/
def State.forceOff (s : State) (thermal : Bool) : State :=
  let shut := s.dev.supStayed && s.devSt == devOff && s.flt.offPhase == .down
  let stay := (thermal || shut) && s.isOn s.cfg.ccsup && !(s.pw s.cfg.ccsup).entering
  let s := (((s.tstStop 4).endDoze).byeAll 1).stopFlash
  let s := ((s.dropBooks.set R.PWR_STAT_DEV 0 devOff).set R.FLT_STAT_STATE 0 2).set R.ORR_STAT_NODIST 0 0
  let s := (((s.raise R.FLT_FLT_OFF).set R.PWR_WAKE_LNK_EN 0 1).irqAll 1 0x07).capTrig 3
  let s := (s.endSession.dropWeights 0 0).raiseIf s.bud.gmode R.GRP_FLT_OVR
  let s := { s with bud := { s.bud with ivNoGrp := true, ivSafe := true },
                    flt := { s.flt with offPhase := .down, pin := false, released := 0 },
                    dev := { s.dev with supStayed := stay, before := devRun } }
  let s := s.each s.districts fun s d => if stay && s.isSupply d then s.stayOn d else s.offNow d
  s.each s.districts State.foNormal

/-! ### Registration (R410 to R415) -/

/-- The reaction applied to a report: before district return a HOLD class forces SAFE_OFF (R336). -/
def State.reactNow (s : State) (r : Report) : Nat :=
  let x := r.react.getD (reactOf r.cls)
  if x = 2 ∧ s.devSt = devBoot ∧ !s.dev.returned then 3 else x

/-- Whether the cause of a report's class stands already (R414); each line of class WIRING has its own reaction (R407). -/
def State.repeats (s : State) (r : Report) : Bool := r.cls != clsWiring && s.stands r.cls

/-- A report becomes an entry of the history; one of reaction ALM or above sets GAL_ISTAT.FLT (R410). DEDUCED (assumption 128): an
entry is all that one of a class whose cause stands already makes. -/
def State.enter (s : State) (r : Report) : Entry × State :=
  let sq := match s.flt.hist with
    | [] => 0
    | e :: _ => (e.seq + 1) % 256
  let e : Entry := { cls := r.cls, react := s.reactNow r, cause := r.cause % 256, src := r.src % 65536, opsec := s.opsec,
                     ticks := s.tick, dev := s.devSt, seq := sq }
  let s := s.inc R.FLT_STAT_EVENTS
  let s := if !s.repeats r ∧ e.react ≥ 1 then s.irqAll 1 0x07 else s
  let s := if !s.repeats r ∧ (e.react ≥ 1 ∨ (r.cls = clsCell ∧ (r.cause / 16 = 1 ∨ r.cause / 16 = 3)))
    then s.stageFault e else s
  (e, { s with flt := { s.flt with hist := (e :: s.flt.hist).take 32 },
               bud := { s.bud with flts := satU 32 (s.bud.flts + 1) } })

/-- The cause of a HOLD or OFF report stands, and its reaction is applied where it did not stand before (R414, R415). -/
def State.react (s : State) (r : Report) (x : Nat) : State :=
  if x < 2 then s
  else
    let stood := s.repeats r
    let s := s.raiseBit R.FLT_CAUSE_CAUSE 0 r.cls
    let own := r.react.getD x
    let s := if r.cls = clsWiring then { s with flt := { s.flt with wireHold := s.flt.wireHold || own == 2,
                                                                    wireOff := s.flt.wireOff || own == 3 } } else s
    if stood then s
    else
      let inj := s.flt.injected.erase r.cls
      let s := { s with flt := { s.flt with injected := if r.injected then inj ++ [r.cls] else inj } }
      if x = 2 then s.forceHold else s.forceOff (r.cls == clsThermal && !r.injected)

/-- Severity, then class, then source: whether an entry goes before another in the latch (R414). -/
def Entry.before (a b : Entry) : Bool :=
  decide (b.react < a.react) || (a.react == b.react && (decide (a.cls < b.cls) || (a.cls == b.cls && decide (a.src < b.src))))

/-- The entry that the latch takes among those of one edge. -/
def worst (es : List Entry) : Option Entry :=
  (es.filter fun e => decide (1 ≤ e.react)).foldl (fun o e => match o with
    | none => some e
    | some b => if e.before b then some e else some b) none

/-- Reports in ascending class, and within a class in ascending source (R414). -/
def insertReport (r : Report) : List Report → List Report
  | [] => [r]
  | x :: t => if x.cls < r.cls ∨ (x.cls = r.cls ∧ x.src ≤ r.src) then x :: insertReport r t else r :: x :: t

/-- The reports of one edge are registered: entries, and for those whose cause did not stand before it, latch, Exhibit, injected ADC
sequence and reactions. The Exhibit edge of a fault trigger follows at once, ahead of the reactions, of which its copy shows no
part (R412, R433). -/
def State.registerReports (s : State) (rs : List Report) : State :=
  let rs := rs.foldl (fun l r => insertReport r l) []
  let (es, s) := rs.foldl (fun (es, s) r =>
    let (e, s) := s.enter r
    (es ++ [e], s)) (([] : List Entry), s)
  let fresh := (rs.zip es).filter fun p => !s.repeats p.1
  let s := match worst (fresh.map fun p => p.2) with
    | none => s
    | some e =>
      let s := if s.flag R.FLT_STAT_FVALID then s else s.latchFirst e
      if s.flag R.EXH_CTL_FLT_EN then effExhibit (s.exhTrig 1) else s
  let s := if fresh.any fun p => adcOf p.1.cls then s.injTrigger else s
  let reacts := fresh.map fun p => (p.1, p.2.react)
  let s := (reacts.filter fun p => p.2 == 3).foldl (fun s p => s.react p.1 p.2) s
  (reacts.filter fun p => p.2 != 3).foldl (fun s p => s.react p.1 p.2) s

/-- The collector registers the report lines of one edge; it is powered with the control complex (R336). -/
def effFaultReport (s : State) : State :=
  let rs := s.flt.lines
  let s := { s with flt := { s.flt with lines := [] } }
  if s.dev.released && !rs.isEmpty then s.registerReports rs else s

/-- Whether a report line is checked (R407): from the release of the control complex; the lines of hubs, cells and anvil
cells from the self-test of their zone. DEDUCED (assumption 127): the lines of the VFEED comparators with those of their hubs. -/
def State.lineChecked (s : State) (src : Nat) : Bool :=
  s.dev.released &&
    (!([1, 2, 3, 12].contains (src / 0x1000)) || (s.srcDistrict src != 0xFF && s.dev.tested.testBit (s.srcZone src)))

/-- A report line shows equal levels (R407): a WIRING report with the reaction of the line's class, at least ALM. -/
def effWiring (s : State) (src cls : Nat) : State :=
  if !s.lineChecked src || decide ((src, cls) ∈ s.flt.masked) then s
  else
    let s := { s with flt := { s.flt with masked := s.flt.masked ++ [(src, cls)],
                                          lines := s.flt.lines.filter fun r => !(r.src == src && r.cls == cls) } }
    (s.raise R.FLT_FLT_WIRE).registerReports [{ cls := clsWiring, cause := cls, src := src, react := some (max 1 (reactOf cls)) }]

/-- SAFE_STOP_N has been low for 100 ns (R408): its report waits, as every other, for the edge on which the collector registers the
reports of its lines in their order (R414, R480). -/
def effSafeStop (s : State) : State :=
  let s := { s with flt := { s.flt with safeStopLow := true, relOk := s.flt.relOk.erase clsSafestop } }
  if s.dev.released then s.report clsSafestop 0 (srcOf 8 1) else s

/-- An armed injection reports once from SRC 0x0000 (FLT_INJ). -/
def effFaultInject (s : State) : State :=
  if s.flag R.FLT_INJ_ARM && s.dev.released then
    (s.set R.FLT_INJ_ARM 0 0).registerReports [{ cls := s.get R.FLT_INJ_CLASS, cause := 0, src := 0, injected := true }]
  else s

/-! ### Releases (R411, R415 to R418) -/

/-- The OFF classes that stand. -/
def State.offStanding (s : State) : List Nat := (List.range 0x17).filter fun c => reactOf c == 3 && s.stands c

/-- Whether a part in TRIPPED or LATCHED forbids the release of a class: THERMAL is released by the cooling timer alone, and in
LATCHED by nothing (R294, R295). -/
def State.thermHeld (s : State) (c : Nat) : Bool := c == clsThermal && s.get R.THM_STAT_STATE != 0

/-- Whether the restart release of an OFF class holds: PLL at once, an injected one from the forcing edge. -/
def State.released (s : State) (c : Nat) : Bool :=
  !s.thermHeld c && (s.flt.injected.contains c || c == clsPll || s.flt.relOk.contains c)

/-- The restart condition of an OFF cause holds for its time: the pin of SAFESTOP and that of COOLANT stand high then. -/
def effRestartRelease (s : State) (cls : Nat) : State :=
  let s := if cls = clsSafestop then { s with flt := { s.flt with safeStopLow := false } } else s
  let s := if cls = clsCoolant then { s with bud := { s.bud with coolPin := true } } else s
  if reactOf cls == 3 && s.stands cls && !s.thermHeld cls && !s.flt.relOk.contains cls then
    { s with flt := { s.flt with relOk := s.flt.relOk ++ [cls] } } else s

/-- An OFF cause clears, and is counted among those released for this restart (R425). -/
def State.clearOff (s : State) (c : Nat) : State :=
  if s.stands c then
    let s := s.clearCause c
    { s with flt := { s.flt with released := s.flt.released ||| 2 ^ c, relOk := s.flt.relOk.erase c,
                                 injected := s.flt.injected.erase c } }
  else s

/-- In HELD with no OFF cause standing the device stands in BOOT (R417), unless COOLLOSS holds it (R269). -/
def State.offCheck (s : State) : State :=
  if s.devSt == devOff && s.flt.offPhase == .heldOff && s.offStanding.isEmpty && !s.flt.wireOff
      && !s.flag R.GRP_STAT_COOLLOSS then
    let s := (s.set R.PWR_STAT_DEV 0 devBoot).set R.FLT_STAT_STATE 0 0
    { s with flt := { s.flt with offPhase := .none } }
  else s

/-- The restart path (R335, R417): once every OFF entry is complete and every standing OFF cause is released. -/
def effRestartPath (s : State) : State :=
  let stay := s.dev.supStayed
  if s.devSt == devOff && s.flt.offPhase == .down && !s.flt.wireOff
      && s.allOff (fun d => !(stay && s.isSupply d)) && s.offStanding.all fun c => s.released c then
    let s := { s with flt := { s.flt with offPhase := .heldOff }, dev := { s.dev with bootCause := 4 } }
    let s := s.each [clsPll, clsVfeed, clsThermal] fun s c => if s.flt.injected.contains c then s else s.clearOff c
    let s := if stay then
        let s := s.ccReset
        { s with dev := { s.dev with released := false, powered := true } }
      else s.supplyOn
    s.offCheck
  else s

/-- FLT_CTL.HREL (R415): every standing owner cause of the HOLD reaction, and every injected one. -/
def effHrel (s : State) : State :=
  s.each ((List.range 0x17).filter fun c => reactOf c == 2) fun s c =>
    if c ∈ [clsArithp, clsLedger, clsSupcap] ∨ s.flt.injected.contains c then
      { s.clearCause c with flt := { s.flt with injected := s.flt.injected.erase c } } else s

/-- FLT_CTL.OREL (R417): SAFESTOP and the injected OFF causes, while SAFE_STOP_N is high. -/
def effOrel (s : State) (pinHigh : Bool) : State :=
  if pinHigh then
    (s.each s.offStanding fun s c =>
      if (c = clsSafestop ∨ s.flt.injected.contains c) ∧ !s.thermHeld c then s.clearOff c else s).offCheck
  else s

/-- FLT_CTL.FIRST_CLR (R421). -/
def effFirstClear (s : State) : State :=
  { s.set R.FLT_STAT_FVALID 0 0 with flt := { s.flt with first := none } }

/-- A HISTORY record of the 32 entries, newest first (R425). -/
def State.stageHistory (s : State) : State := s.stage 0x04 (fit 384 (s.flt.hist.flatMap Entry.bytes))

/-! ### The end of BOOT (R334) -/

/-- IMG_BOOT.PHASE follows what the present BOOT has passed. -/
def State.phase (s : State) : State :=
  let d := s.dev
  s.set R.IMG_BOOT_PHASE 0 (if d.booted then 7 else if d.returned then 6 else if d.imgDone then (if s.onPll then 5 else 4)
    else if d.calDone then 3 else 2)

/-- The START record (R425). -/
def State.startRec (s : State) : List Byte :=
  let f := s.fuse.getD default
  [BitVec.ofNat 8 s.dev.bootCause, BitVec.ofNat 8 f.rev, BitVec.ofNat 8 s.cfg.n, BitVec.ofNat 8 (s.get R.CAL_STAT_STATE)]
    ++ leBytes 4 (s.word R.IMG_STAT_SRC.base R.IMG_STAT_SRC.rst).toNat ++ leBytes 4 (s.get R.IMG_SEQ_SEQ)
    ++ leBytes 4 s.arc.lost ++ leBytes 8 f.dieId
    ++ (match s.flt.first with
      | some e => e.bytes
      | none => leBytes 12 0)
    ++ leBytes 4 s.flt.released

/-- The length of the present BOOT in µs (R352): between the ticks of 1/65,536 s that lie inside it and those that it touches
it is a free value (assumption 62). -/
def State.bootMicros (s : State) : Nat × State :=
  let n := s.ticks - s.dev.bootTick
  let lo := (n - 1) * 15625 / 1024
  let (v, s) := s.freeBits 20
  (min 0xFFFFF (lo + v % ((n + 1) * 15625 / 1024 - lo + 1)), s)

/-- What the end of BOOT does (R334, R425): the START record, and the history behind it after WRST and SAFE_OFF; the targets
still open are pursued. -/
def State.bootDone (s : State) : State :=
  let s := { s with dev := { s.dev with booted := true } }.phase
  let (v, s) := s.bootMicros
  let s := (s.set R.IMG_BOOT_DUR 0 v).stage 0x01 s.startRec
  let s := { s with arc := { s.arc with lost := 0 }, flt := { s.flt with released := 0 } }
  let s := if s.dev.bootCause = 2 ∨ s.dev.bootCause = 4 then s.stageHistory else s
  s.each s.districts fun s d =>
    if s.seqBusy d || (s.pw d).failed || decide (2 ≤ s.get R.DST_FO_STAT_STATE d) then s else s.pursue d

/-- The auto causes of HOLD that wait for rounds of the ADC: three consecutive rounds have passed R281 (R411). -/
def State.roundPass (s : State) (good : Bool) : State :=
  let n := if good then s.flt.adcPass + 1 else 0
  let s := { s with flt := { s.flt with adcPass := n } }
  if 3 ≤ n ∧ !s.flt.injected.contains clsAdcref then s.clearCause clsAdcref else s

/-- SAFE_HOLD ends at a die period boundary at which no HOLD cause stands (R416), and with it a BOOT that it cut short. DEDUCED
(assumption 123): that end of BOOT is the first entry to RUN, so the START record is staged and INIT falls due there. -/
def State.holdRelease (s : State) : State :=
  if s.devSt == devHold && !s.standing 2 then
    let s := (s.set R.FLT_STAT_STATE 0 0).set R.ORR_STAT_NODIST 0 0
    (if s.dev.booted then s else s.bootDone).reachRun
  else s

/-! ### ERR_ALIVE (R419) -/

def effAlive (s : State) : State :=
  let a := s.alive
  { s.set R.FLT_STAT_ALIVE 0 (if a then 1 else 0) with flt := { s.flt with pin := a && !s.flt.pin } }

def effHeartbeatLoss (s : State) : State :=
  { s.set R.FLT_STAT_ALIVE 0 0 with flt := { s.flt with heartbeat := false, pin := false } }

/-! ### The meanings -/

def execFaultReport (s : State) : Host.Outcome State Fault Refusal := .next (effFaultReport s)

def execWiringFault (src cls : Nat) (s : State) : Host.Outcome State Fault Refusal :=
  .next (if 2 ≤ cls ∧ cls < 0x17 ∧ src < 65536 then effWiring s src cls else s)

def execSafeStop (s : State) : Host.Outcome State Fault Refusal := .next (effSafeStop s)

def execOffCauseRestartRelease (cls : Nat) (s : State) : Host.Outcome State Fault Refusal := .next (effRestartRelease s cls)

def execRestartPath (s : State) : Host.Outcome State Fault Refusal := .next (effRestartPath s)

def execHoldRelease (g : Gal) (s : State) : Host.Outcome State Fault Refusal :=
  .next (s.hostRow g R.FLT_CTL_HREL 0 1 effHrel)

def execOffRelease (g : Gal) (pinHigh : Bool) (s : State) : Host.Outcome State Fault Refusal :=
  .next (s.hostRow g R.FLT_CTL_OREL 0 1 fun s => effOrel s pinHigh)

def execFirstFaultClear (g : Gal) (s : State) : Host.Outcome State Fault Refusal :=
  .next (s.hostRow g R.FLT_CTL_FIRST_CLR 0 1 effFirstClear)

def execHistoryDump (g : Gal) (s : State) : Host.Outcome State Fault Refusal :=
  .next (s.hostRow g R.FLT_CTL_HDUMP 0 1 State.stageHistory)

def execFaultInject (s : State) : Host.Outcome State Fault Refusal := .next (effFaultInject s)

def execErrAliveToggle (s : State) : Host.Outcome State Fault Refusal := .next (effAlive s)

def execHeartbeatLoss (s : State) : Host.Outcome State Fault Refusal := .next (effHeartbeatLoss s)

end Sys2Proof.Machine
end

