-- ==== Sys2Proof/Machine/Archive.lean ====
section
/-!
DEFINITION. The Archive (R422 to R431): records in flash, programming, the scan, erase and fetch; and the triggers of the
Exhibit (R432, R434).
-/
namespace Sys2Proof.Machine

/-! ### Records (R424) -/

/-- A record stands in the Archive under an accession number (ARC_HEAD, ARC_BASE, EMPTY). -/
def State.recorded (s : State) (acc : Nat) : State :=
  let s := if s.flag R.ARC_STAT_EMPTY then s.set R.ARC_BASE_ACC 0 acc else s
  let s := (s.set R.ARC_STAT_EMPTY 0 0).set R.ARC_HEAD_ACC 0 acc
  { s with arc := { s.arc with lastAcc := some acc } }

/-- Bytes programmed at the write position, which moves on. -/
def State.arcProg (s : State) (b : List Byte) : State :=
  let w := s.get R.ARC_WPOS_OFS
  { s.set R.ARC_WPOS_OFS 0 (w + b.length) with flash := memProg s.flash (s.arcAt + w) b }

/-- Every granule of `n` bytes from an address is voided: MARK and LEN 0x00. -/
def voidAt (m : List Host.Cell) (a : Nat) : Nat → List Host.Cell
  | 0 => m
  | k + 1 => voidAt (memProg (memProg m a [0x00]) (a + 2) [0x00]) (a + 16) k

/-- The record at the head of the staging queue leaves it. -/
def State.unstage (s : State) : State :=
  let s := { s with arc := { s.arc with staged := s.arc.staged.drop 1 } }
  (s.setSat R.ARC_STAT_STGB 0 s.arc.bytes).stageOverflow

/-! ### Programming (R427, R429) -/

/-- Staging-only mode: the staged records take accession numbers there. -/
def State.stagingOnly (s : State) : State :=
  let s := s.set R.ARC_STAT_MODE 0 3
  let n := s.arc.staged.length
  if n = 0 then s
  else
    let a := s.nextAcc
    let num := (List.range n).zip s.arc.staged |>.map fun (p : Nat × Rec) => { p.2 with acc := some ((a + p.1) % 2 ^ 32) }
    let s := (s.recorded a).recorded ((a + n - 1) % 2 ^ 32)
    { s with arc := { s.arc with staged := num } }

/-- The attempts of one record: a failed one, whose bytes are open, is voided and the next begins behind it. -/
def State.attempts (s : State) (r : Rec) : Nat → List Bool → State
  | 0, _ => (s.raise R.ARC_FLT_PERR).stagingOnly
  | n + 1, bad =>
    let acc := s.nextAcc
    let b := s.recOf r acc
    if bad.headD false then
      let w := s.get R.ARC_WPOS_OFS
      let (v, s) := (s.set R.ARC_WPOS_OFS 0 (w + b.length)).freeBits (8 * b.length)
      let m := memProg s.flash (s.arcAt + w) (leBytes b.length v)
      State.attempts { s with flash := voidAt m (s.arcAt + w) (b.length / 16) } r n (bad.drop 1)
    else ((s.arcProg b).recorded acc).unstage

/-- The oldest staged record is programmed, with the read-backs that failed (R427); in the full state it is counted
(R429). FULL is programmed where the write position stands, which stays there. -/
def effArcProgram (s : State) (bad : List Bool) : State :=
  match s.arc.staged with
  | [] => s
  | r :: _ =>
    if s.arc.tornDue then s
    else if s.get R.ARC_STAT_MODE == 2 then (s.inc R.ARC_DROP_FULL).unstage
    else if s.get R.ARC_STAT_MODE == 1 then
      if arcSize - 16 < s.get R.ARC_WPOS_OFS + r.len then
        let acc := s.nextAcc
        let w := s.get R.ARC_WPOS_OFS
        let s := ((s.arcProg (recBytes 0xA7 0x0F acc s.opsec s.tick s.arc.pcyc [])).set R.ARC_WPOS_OFS 0 w).recorded acc
        (s.set R.ARC_STAT_MODE 0 2).raise R.ARC_FLT_FULL
      else s.attempts r 3 bad
    else s

/-! ### The scan (R422, R428) -/

/-- A stamp held in a register gains base. -/
def State.stampUp (s : State) (n : Nat) (c : Bool) (F : Fld) : State := if c then s.set F 0 (s.get F + n) else s

/-- An entry gains base. -/
def Entry.up (n : Nat) (e : Entry) : Entry := { e with opsec := (e.opsec + n) % 2 ^ 32 }

/-- The stamps of the history, the latch and the copy headers gain base. -/
def State.histUp (s : State) (n : Nat) : State :=
  { s with flt := { s.flt with hist := s.flt.hist.map (Entry.up n), first := s.flt.first.map (Entry.up n) },
           exh := { s.exh with copies := s.exh.copies.map fun c =>
                      if c.1 % 0x1000 = 0x804 then (c.1, c.2 + BitVec.ofNat 32 n) else c } }

/-- Operating time gains base: the counters and every stamp made since cold reset (R422). -/
def State.addBase (s : State) (n : Nat) : State :=
  let k := s.thm.trips.length
  let s := { s with base := s.base + n }.histUp n
  let s := (s.stampUp n (s.flag R.FLT_STAT_FVALID) R.FLT_FIRST1_WORD).stampUp n (s.flag R.EXH_SEQ_SEQ) R.EXH_TIME0_OPSEC
  let s := (s.stampUp n (decide (1 ≤ k)) R.THM_TRIP0_SEC).stampUp n (decide (2 ≤ k)) R.THM_TRIP1_SEC
  (s.stampUp n (decide (3 ≤ k)) R.THM_TRIP2_SEC).stampUp n (s.flag R.AGE_CNT_READS) R.AGE_LAST_SEC

/-- What the scan has found: write position, newest record (accession, OPSEC, PCYC, kind), oldest accession number,
torn and damaged records. -/
structure ScanS where
  wpos : Nat := 0
  last : Option (Nat × Nat × Nat × Nat) := none
  first : Option Nat := none
  torn : Bool := false
  damaged : Bool := false

/-- The number of granules from a torn header to the one that holds the last byte that is not 0xFF, of the 512 that
follow. -/
def tornLen (m : List Host.Cell) (a : Nat) : Nat :=
  (List.range 512).foldl (fun n k => if memByte m (a + k) = 0xFF#8 then n else k / 16 + 1) 1

/-- The chain walked from an offset. -/
def arcWalk (m : List Host.Cell) (at_ : Nat) (x : ScanS) : Nat → ScanS × List Host.Cell
  | 0 => (x, m)
  | n + 1 =>
    let a := at_ + x.wpos
    let h := memRead m a 16
    let mark := (h.getD 0 0).toNat
    if arcSize ≤ x.wpos ∨ h.all fun b => b == 0xFF#8 then (x, m)
    else if mark = 0x00 then arcWalk m at_ { x with wpos := x.wpos + 16 } n
    else if mark = 0xA7 then
      let len := 16 * ((h.getD 2 0).toNat % 32 + 1)
      let body := memRead m a len
      let good := crc8 ((body.drop 1).take 2 ++ [0] ++ body.drop 4) == (h.getD 3 0).toNat
      let acc := ofLe (bytesAt body 4 4)
      let x := if good then
          { x with last := some (acc, ofLe (bytesAt body 8 4), ofLe (bytesAt body 14 2), (h.getD 1 0).toNat),
                   first := some (x.first.getD acc) }
        else { x with damaged := true }
      arcWalk m at_ { x with wpos := x.wpos + len } n
    else
      let k := tornLen m a
      arcWalk (voidAt m a k) at_ { x with wpos := x.wpos + 16 * k, torn := true } n

/-- The scan after cold reset (R428), or the torn-record rule at the retained write position. -/
def effArcScan (s : State) : State :=
  if !s.dev.flashUsable || !s.dev.imgDone then s
  else if s.get R.ARC_STAT_MODE == 0 then
    let (x, m) := arcWalk s.flash s.arcAt {} (arcSize / 16)
    let s := { s with flash := m, arc := { s.arc with scanned := true, tornDue := false } }
    let s := ((s.raiseIf x.torn R.ARC_FLT_TORN).raiseIf x.damaged R.ARC_FLT_DAMAGED).set R.ARC_WPOS_OFS 0 x.wpos
    match x.last with
    | none => s.set R.ARC_STAT_MODE 0 1
    | some (acc, opsec, pcyc, kind) =>
      let s := (s.recorded (x.first.getD acc)).recorded acc
      let s := { s with arc := { s.arc with pcyc := (pcyc + 1) % 65536 } }
      (s.set R.ARC_STAT_MODE 0 (if kind = 0x0F then 2 else 1)).addBase (opsec - s.base)
  else if s.arc.tornDue then
    let w := s.get R.ARC_WPOS_OFS
    let h := memRead s.flash (s.arcAt + w) 16
    let s := { s with arc := { s.arc with tornDue := false } }
    if (h.getD 0 0) != 0xFF#8 || h.all fun b => b == 0xFF#8 then s
    else
      let k := tornLen s.flash (s.arcAt + w)
      { (s.set R.ARC_WPOS_OFS 0 (w + 16 * k)).raise R.ARC_FLT_TORN with flash := voidAt s.flash (s.arcAt + w) k }
  else s

/-! ### Erase and fetch (R430, R431) -/

/-- ERASE with its KEY. -/
def effArcErase (s : State) (g : Nat) : State :=
  let mode := s.get R.ARC_STAT_MODE
  if (s.devSt == devRun || s.devSt == devQuiet) && (mode == 1 || mode == 2) then
    { s.set R.ARC_STAT_MODE 0 4 with arc := { s.arc with eraseGal := g, eraseAcc := s.arc.lastAcc } }
  else s

/-- The erase ends; an ERASED record is programmed at offset 0. -/
def effArcErased (s : State) : State :=
  if s.get R.ARC_STAT_MODE == 4 then
    let s := { s with flash := memErase s.flash s.arcAt arcSize }
    let s := (s.set R.ARC_WPOS_OFS 0 0).set R.ARC_STAT_EMPTY 0 1
    let acc := s.nextAcc
    let p := leBytes 4 (s.arc.eraseAcc.getD 0xFFFFFFFF) ++ [BitVec.ofNat 8 s.arc.eraseGal]
    ((s.arcProg (recBytes 0xA7 0x07 acc s.opsec s.tick s.arc.pcyc p)).recorded acc).set R.ARC_STAT_MODE 0 1
  else s

/-- A staged record as a fetch shows it. -/
def State.stagedBytes (s : State) (r : Rec) : List Byte :=
  match r.acc with
  | none => recBytes 0xFF r.kind 0xFFFFFFFF r.opsec r.ticks s.arc.pcyc r.payload
  | some a => s.recOf r a

/-- The registers ARC_RDAT. -/
def rdatFld (j : Nat) : Fld := { R.ARC_RDAT0_DATA with base := R.ARC_RDAT0_DATA.base + 4 * j }

/-- A write to ARC_RADR fetches 64 bytes; what lies behind the staged records is open. -/
def effArcFetch (s : State) (w : Word) : State :=
  let ofs := bitsOf w 6 16 * 64
  let s := ((s.set R.ARC_RADR_SRC 0 (bitsOf w 31 1)).set R.ARC_RADR_OFS 0 ofs).set R.ARC_RADR_RDY 0 1
  let (b, s) : List Byte × State :=
    if bitsOf w 31 1 = 0 then (memRead s.flash (s.arcAt + ofs) 64, s)
    else
      let (v, s) := s.freeBits 512
      let q := (s.arc.staged.flatMap s.stagedBytes).drop ofs
      ((q ++ (leBytes 64 v).drop q.length).take 64, s)
  s.each (List.range 16) fun s j => s.set (rdatFld j) 0 (ofLe (bytesAt b (4 * j) 4))

/-! ### Exhibit triggers (R432, R434) -/

/-- EXH_IN rises, two samples high after two low. -/
def effExhIn (s : State) : State :=
  if s.flag R.EXH_CTL_PIN_EN && s.dev.released then s.exhTrig 2 else s

/-! ### The meanings -/

def execArchiveProgram (bad : List Bool) (s : State) : Host.Outcome State Fault Refusal := .next (effArcProgram s bad)

def execArchiveScan (s : State) : Host.Outcome State Fault Refusal := .next (effArcScan s)

def execArchiveErase (g : Gal) (s : State) : Host.Outcome State Fault Refusal :=
  .next (s.hostWrite g R.ARC_CMD_ERASE.base 0x8000005A fun s => effArcErase s g)

def execArchiveEraseComplete (s : State) : Host.Outcome State Fault Refusal := .next (effArcErased s)

def execArchiveFetch (g : Gal) (w : Word) (s : State) : Host.Outcome State Fault Refusal :=
  .next (s.hostWrite g R.ARC_RADR_SRC.base w fun s => effArcFetch s w)

def execExhibitTrigger (g : Gal) (s : State) : Host.Outcome State Fault Refusal :=
  .next (s.hostRow g R.EXH_CTL_TRIG 0 1 fun s => s.exhTrig 0)

def execExhInRise (s : State) : Host.Outcome State Fault Refusal := .next (effExhIn s)

def execExhibitRearm (g : Gal) (s : State) : Host.Outcome State Fault Refusal :=
  .next (s.hostRow g R.EXH_CTL_REARM 0 1 fun s => s.set R.EXH_STAT_HELD 0 0)

end Sys2Proof.Machine
end

