-- ==== Sys2Proof/Machine/Thermal.lean ====
section
/-!
DEFINITION. The end of conversions and rounds of the housekeeping ADC (R272 to R284), the thermal sequencer (R286 to
R296) and the ageing sequencer (R297 to R300).
-/
namespace Sys2Proof.Machine

/-! ### The thermal point (R286 to R296) -/

/-- The reading that a broken sensor counts as, 150 °C (R287). -/
abbrev brokenReading : Int := 2400

/-- The stored result of a thermal sensor. -/
def State.sensorRes (s : State) (i : Nat) : Int := signedOf 12 (s.adcRes i)

/-- TEMP of a sensor (R286), saturated to 12-bit signed. -/
def State.sensorTemp (s : State) (i : Nat) : Int :=
  let g := (tabGet s.cal.tg i).getD 13710
  let o := (tabGet s.cal.tofs i).getD (-4370)
  clampTo (-2048) 2047 (rdiv ((g : Int) * s.sensorRes i) 4096 + o)

/-- Whether a sensor is broken in this round (R287). -/
def State.sensorBroken (s : State) (i : Nat) : Bool :=
  let r := s.sensorRes i
  let t := s.sensorTemp i
  r == -2048 || r == 2047 || decide (t < -640) || decide (2000 < t)

/-- The reading of a sensor in comparisons (R287). -/
def State.sensorReading (s : State) (i : Nat) : Int := if s.sensorBroken i then brokenReading else s.sensorTemp i

/-- The registers THM_RETj, and whether a sensor is retired (R288). -/
def thmRetFld (j : Nat) : Fld := { R.THM_RET0_RET with base := R.THM_RET0_RET.base + 4 * j }
def State.thmRetired (s : State) (i : Nat) : Bool := (s.get (thmRetFld (i / 32))).testBit (i % 32)

/-- The readings of the sensors of a list that are not retired. -/
def State.readings (s : State) (l : List Nat) : List Int := (l.filter fun i => !s.thmRetired i).map s.sensorReading

/-- The highest reading of a list; 150 °C where there is none (R289). -/
def highest (l : List Int) : Int :=
  match l with
  | [] => brokenReading
  | x :: r => r.foldl max x

/-- THM_RD of one sensor; a sensor newly found broken is reported (R287). -/
def State.readSensor (s : State) (i : Nat) : State :=
  let b := s.sensorBroken i
  let was := s.flag R.THM_RD_BROKEN i
  let t : Int := if b then 0x7FF else s.sensorTemp i
  let res := s.sensorRes i
  let s := ((s.set R.THM_RD_BROKEN i (if b then 1 else 0)).set R.THM_RD_RET i (if s.thmRetired i then 1 else 0)).setI
    R.THM_RD_RES i res
  let s := (s.setI R.THM_RD_TEMP i t).raiseIf b R.THM_FLT_BROKEN
  if b && !was then s.report clsSensor 1 (srcOf 6 i) else s

/-- The level of a district after one point, from the level before it (R291): 0 NORMAL, 1 WARN, 2 THROTTLE. -/
def thmLevel (warn throt whys thys t : Int) (l : Nat) : Nat :=
  if l = 2 then if t < throt - thys then (if t < warn - whys then 0 else 1) else 2
  else if throt ≤ t then 2
  else if l = 1 then if t < warn - whys then 0 else 1
  else if warn ≤ t then 1 else 0

/-- A district at a thermal point (R289, R291, R292). -/
def State.thermDistrict (s : State) (d : Nat) (dmax : Int) : State :=
  let own := s.readings ((List.range 4).map (4 * d + ·))
  let t := if own.isEmpty then dmax else highest own
  let l := s.get R.THM_DLVL_LEVEL d
  let throt : Int := s.get R.THM_LIM0_THROT
  let l' := thmLevel (s.get R.THM_LIM0_WARN) throt (s.get R.THM_HYS_WHYS) (s.get R.THM_HYS_THYS) t l
  let th := s.get R.THM_DLVL_TH d
  let th' := if l' = 2 then (if throt ≤ t then min 0xFFF (th + s.get R.THM_THR_TSTEP) else th) else th - s.get R.THM_THR_TREL
  let s := ((s.set R.THM_DLVL_DIE d (if own.isEmpty then 1 else 0)).set R.THM_DLVL_TMAX d (codeOf 12 (min 2047 t))).set
    R.THM_DLVL_LEVEL d l'
  let s := s.set R.THM_DLVL_TH d th'
  let s := if l = 0 ∧ 0 < l' then
      let s := ((s.raise R.THM_FLT_WARN).event 0x0007 d (codeOf 12 (min 2047 t))).irqAll 3 0x12
      { s with bud := { s.bud with warnEpoch := true } }
    else s
  if l ≠ 2 ∧ l' = 2 then
    { (s.raise R.THM_FLT_THROT).irqAll 3 0x12 with bud := { s.bud with warnEpoch := true } }
  else s

/-- A thermal trip (R293, R294): reported, stored, latched as the third within an hour; THERMTRIP_N is driven. -/
def State.thermTrip (s : State) (i : Nat) : State :=
  let now := s.ticks / 65536
  let latch := decide (2 ≤ s.thm.trips.length) && (s.thm.trips.take 2).all fun t => decide (now - t ≤ 3600)
  let s := (s.set R.THM_TRIP2_SEC 0 (s.get R.THM_TRIP1_SEC)).set R.THM_TRIP1_SEC 0 (s.get R.THM_TRIP0_SEC)
  let s := (s.set R.THM_TRIP0_SEC 0 s.opsec).raise R.THM_FLT_TRIP
  let s := if latch || s.get R.THM_STAT_STATE == 2 then (s.set R.THM_STAT_STATE 0 2).raise R.THM_FLT_LATCH
    else s.set R.THM_STAT_STATE 0 1
  let s := { s.set R.THM_STAT_COOLMS 0 0 with
    thm := { s.thm with trip := true, cool := none, trips := (now :: s.thm.trips).take 3 },
    flt := { s.flt with relOk := s.flt.relOk.erase clsThermal } }
  (s.report clsThermal 0 (srcOf 6 i)).irqAll 3 0x12

/-- The cooling timer at a thermal point in TRIPPED (R295). -/
def State.cooling (s : State) (cool : Bool) : State :=
  if s.get R.THM_STAT_STATE ≠ 1 then s
  else if !cool then { s.set R.THM_STAT_COOLMS 0 0 with thm := { s.thm with cool := none } }
  else
    let t0 := s.thm.cool.getD s.ticks
    { s.set R.THM_STAT_COOLMS 0 (min 100 ((s.ticks - t0) * 1000 / 65536)) with thm := { s.thm with cool := some t0 } }

/-- One trim of R296 from a neighbour, or COMPHOLD where it is broken or retired. -/
def State.trimFrom (s : State) (nbr : Nat) (F : Fld) (c0 c1 c2 : Int) : State :=
  if s.sensorBroken nbr || s.thmRetired nbr then s.raise R.THM_FLT_COMPHOLD
  else
    let x := s.sensorTemp nbr - 400
    s.setI F 0 (rdiv (c0 * 2 ^ 24 + c1 * x * 4096 + c2 * x * x) (2 ^ 24))

/-- The thermal point of a round (R280, R286 to R296). -/
def State.thermalPoint (s : State) : State :=
  let all := List.range (4 * s.cfg.n)
  let dmax := highest (s.readings all)
  let live := all.filter fun i => !s.thmRetired i
  let shut : Int := s.get R.THM_LIM1_SHUT
  let restart : Int := s.get R.THM_LIM1_RESTART
  let hot := live.find? fun i => decide (shut ≤ s.sensorReading i)
  let cool := live.all fun i => decide (s.sensorReading i < restart)
  let s := s.each all State.readSensor
  let s := s.set R.THM_STAT_DMAX 0 (codeOf 12 (min 2047 dmax))
  let s := s.each s.districts fun s d => s.thermDistrict d dmax
  let s := s.trimFrom s.cfg.fioNbr R.THM_COMP_FIOTRIM s.cal.f0 s.cal.f1 0
  let s := s.trimFrom s.cfg.bgNbr R.THM_COMP_BGTRIM s.cal.b0 s.cal.b1 s.cal.b2
  let was := s.thm.hot
  let s := { s with adc := { s.adc with therm := false },
                    thm := { s.thm with seen := true, hot := hot.isSome, warn := s.get R.THM_LIM0_WARN },
                    dev := { s.dev with thermOk := s.dev.thermOk || hot.isNone } }
  match hot with
  | some i => if was then s.cooling false else s.thermTrip i
  | none => s.cooling cool

/-- The cooling timer has reached 100 ms: THERMTRIP_N is released (R295). -/
def effThermalRestart (s : State) : State :=
  if s.get R.THM_STAT_STATE == 1 && s.get R.THM_STAT_COOLMS == 100 then
    let s := { s.set R.THM_STAT_STATE 0 0 with thm := { s.thm with trip := false, cool := none } }
    { s with flt := { s.flt with relOk := if s.flt.relOk.contains clsThermal then s.flt.relOk else s.flt.relOk ++ [clsThermal] } }
  else s

/-! ### Conversions and rounds (R272, R277, R280 to R284) -/

/-- Whether a slice holds, in progress or to come, a regular conversion that a test selects; whether it holds an injected
one. -/
def SliceS.hasReg (x : SliceS) (p : Nat → Bool) : Bool :=
  (x.reg.any p) || (match x.cur with
    | some (false, c) => p c
    | _ => false)
def SliceS.hasInj (x : SliceS) : Bool :=
  !x.inj.isEmpty || (match x.cur with
    | some (true, _) => true
    | _ => false)

/-- Whether any slice does. -/
def State.regLeft (s : State) (p : Nat → Bool) : Bool := (List.range 5).any fun k => (s.slice k).hasReg p
def State.injLeft (s : State) : Bool := (List.range 5).any fun k => (s.slice k).hasInj

/-- An injected sequence ends; a held trigger starts the next unless it would be the third of the round (R283, R284). A rotation
that waits takes place where none is then in progress (R274). -/
def State.injEnd (s : State) : State :=
  if s.flag R.ADC_STAT_INJ_BUSY && !s.injLeft then
    let s := (s.set R.ADC_STAT_INJ_BUSY 0 0).set R.ADC_STAT_INJ_DONE 0 1
    (if s.flag R.ADC_STAT_INJ_PEND && !(s.flag R.ADC_STAT_BUSY && decide (2 ≤ s.adc.injRound)) then s.injStart
      else s).rotateIfDue
  else s

/-- The reference checks at the end of a round (R281): reported when they begin to fail (R406). -/
def State.refChecks (s : State) : State :=
  let r0 := s.adcRes 0x100
  let r1 := s.adcRes 0x101
  let good := decide (1960 ≤ r0) && decide (r0 ≤ 2040) && decide (r1 ≤ 8)
  let was := s.adc.refBad
  let s := { s with adc := { s.adc with refBad := !good } }.raiseIf (!good) R.ADC_FLT_REFBAD
  let s := if !good && !was then s.report clsAdcref 0 (srcOf 7 0) else s
  s.roundPass good

/-- A regular round ends (R281, R284, R371). -/
def State.roundEnd (s : State) : State :=
  if s.flag R.ADC_STAT_BUSY && !s.regLeft (fun _ => true) then
    let s := (s.set R.ADC_STAT_BUSY 0 0).refChecks
    let s := s.each [0, 1, 2, 3] fun s p => s.trimRound p (s.adcRes (0x104 + p))
    let s := if s.flag R.ADC_STAT_INJ_PEND && !s.flag R.ADC_STAT_INJ_BUSY then s.injStart else s
    s.rotateIfDue
  else s

/-- A conversion is stored (R272, R275, R283). -/
def State.storeConv (s : State) (inj : Bool) (i : Nat) (sl : Nat) (raw : Int) : State :=
  let ch := if inj then s.injChannel i else i
  let diff := s.chDiff ch
  let v := codeOf 12 (corrected (s.getI R.ADC_CAL_OFS sl) (s.get R.ADC_CAL_GAIN sl) diff raw)
  if inj then { s with adc := { s.adc with injRes := tabPut s.adc.injRes i (v, diff) } }
  else { s with adc := { s.adc with res := tabPut s.adc.res ch (v, s.get R.ADC_STAT_ROUND, diff) } }

/-- A slice completes its conversion (R272). -/
def effConversion (s : State) (sl : Nat) (raw : Int) : State :=
  let x := s.slice sl
  match x.cur with
  | none => s
  | some (inj, i) =>
    if !s.onPll || !x.ready then s
    else
      let s := (s.storeConv inj i sl raw).updSlice sl SliceS.next
      let s := if s.adc.therm && !s.regLeft (fun c => decide (c < 4 * s.cfg.n)) then s.thermalPoint else s
      s.injEnd.roundEnd

/-! ### Ageing (R297 to R299) -/

/-- The timed read falls due: every 10 operating seconds; it is skipped once the OFF entries of SLEEP begin (R297, R300). -/
def effAgeingRead (s : State) : State :=
  if s.flag R.AGE_CTL_EN && s.onPll && !s.age.reading && !s.sleeping && decide (s.age.lastRead + 10 ≤ s.ticks / 65536) then
    { s with age := { s.age with reading := true, lastRead := s.ticks / 65536 } }
  else s

/-- A read out of turn (AGE_CTL.READ_NOW); like every read it waits for CLK_HK, which runs from the PLL (R32). -/
def effReadNow (s : State) : State := { s with age := { s.age with reading := true } }

/-- The codes of one monitor are latched (R297). -/
def State.latchMon (s : State) (k code : Nat) : State :=
  let s := s.set R.AGE_MON_CODE k code
  if code = 0 ∨ code = 0xFF then (s.set R.AGE_MON_BAD k 1).raise R.AGE_FLT_MONBAD
  else
    let deg := max (s.get R.AGE_MON_DEG k) (code - s.get R.AGE_MON_OFS k)
    let s := if deg ≠ s.get R.AGE_MON_DEG k then { s with age := { s.age with changed := true } } else s
    (s.set R.AGE_MON_BAD k 0).set R.AGE_MON_DEG k deg

/-- The trim of one district after a read (R298). -/
def State.ageDistrict (s : State) (d : Nat) : State :=
  let good := ((List.range 4).map (4 * d + ·)).filter fun k => !s.flag R.AGE_MON_BAD k
  if good.isEmpty then s
  else
    let target := min 0x0A0 (good.foldl (fun m k => max m (s.get R.AGE_MON_DEG k)) 0 * s.get R.AGE_CTL_PER_TAP)
    let age := s.get R.AGE_DIST_AGE d
    let age' := if s.age.fresh then max age target else max age (min target (age + s.get R.AGE_CTL_STEP_MAX))
    let s := (s.set R.AGE_DIST_TARGET d target).raiseIf (target == 0x0A0) R.AGE_FLT_AGESAT
    let s := if age' ≠ age then { s with age := { s.age with changed := true } } else s
    s.set R.AGE_DIST_AGE d age'

/-- The monitor codes are latched (R297, R298). -/
def effAgeingLatch (s : State) (codes : List Nat) : State :=
  if !s.age.reading || !s.onPll then s
  else
    let on := s.districts.filter s.isOn
    let s := s.each on fun s d => s.each [0, 1, 2, 3] fun s k => s.latchMon (4 * d + k) (codes.getD (4 * d + k) 0 % 256)
    let s := s.each on State.ageDistrict
    let s := (s.inc R.AGE_CNT_READS).set R.AGE_LAST_SEC 0 s.opsec
    { s with age := { s.age with reading := false, fresh := false } }

/-- An ageing record (R299). -/
def State.ageRecord (s : State) (sq : Nat) : List Byte :=
  let body := leBytes 4 sq ++ leBytes 8 (s.fuse.getD default).dieId ++ leBytes 4 s.opsec
    ++ (List.range 64).flatMap (fun d => leBytes 2 (if d < s.cfg.n then s.get R.AGE_DIST_AGE d else 0))
    ++ (List.range 256).flatMap (fun k => leBytes 1 (if k < 4 * s.cfg.n then s.get R.AGE_MON_DEG k else 0))
  body ++ leBytes 2 (crc16 body) ++ [0xA7#8] ++ List.replicate 109 0xFF#8

/-- The address of an ageing slot (R327). -/
def ageAt (slot : Nat) : Nat := 0x10000 + 0x1000 * slot

/-- Whether a record write is due (R299): at SLEEP entry, and hourly after a change or a failed write. -/
def State.ageWriteDue (s : State) : Bool :=
  s.dev.flashUsable && s.dev.released &&
    (s.age.due || ((s.age.changed || s.age.retry) && decide (s.age.lastWrite + 3600 ≤ s.ticks / 65536)))

/-- An ageing record is written and read back (R299); what a failed write leaves in its slot is open. -/
def effAgeingWrite (s : State) (good : Bool) : State :=
  if !s.ageWriteDue then s
  else
    let k := 1 - s.age.slot
    let sq := s.age.seq + 1
    let s := { s with flash := memErase s.flash (ageAt k) 0x1000,
                      age := { s.age with lastWrite := s.ticks / 65536, due := false, retry := !good } }
    if good then
      let s := s.inc R.AGE_CNT_WRITES
      { s with flash := memProg s.flash (ageAt k) (s.ageRecord sq), age := { s.age with slot := k, seq := sq, changed := false } }
    else
      let (v, s) := s.freeBits 4096
      let s := { s with flash := memProg s.flash (ageAt k) (leBytes 512 v) }
      (s.raise R.AGE_FLT_FLWR).event 0x0009 k

/-! ### The meanings -/

/-- A command that names a slice. -/
def onSlice (s : State) (sl : Nat) (f : State) : Host.Outcome State Fault Refusal := .next (if sl < 5 then f else s)

def execAdcRoundStart (g : Gal) (s : State) : Host.Outcome State Fault Refusal :=
  .next (s.hostRow g R.ADC_CTL_START 0 1 State.roundStart)

def execRoundTimer (s : State) : Host.Outcome State Fault Refusal := .next (effRoundTimer s)

def execRoundWatchdog (s : State) : Host.Outcome State Fault Refusal := .next (effRoundWatchdog s)

def execSliceStartupDone (sl : Nat) (s : State) : Host.Outcome State Fault Refusal := onSlice s sl (effStartup s sl)

def execAdcConversion (sl : Nat) (raw : Int) (s : State) : Host.Outcome State Fault Refusal := onSlice s sl (effConversion s sl raw)

def execThermalRestart (s : State) : Host.Outcome State Fault Refusal := .next (effThermalRestart s)

def execSliceRotation (s : State) : Host.Outcome State Fault Refusal := .next (effRotation s)

def execSliceCalibrationDone (ground half full : Int) (s : State) : Host.Outcome State Fault Refusal :=
  .next (effCalibration s ground half full)

def execAdcInjStart (g : Gal) (s : State) : Host.Outcome State Fault Refusal :=
  .next (s.hostRow g R.ADC_CTL_INJ_START 0 1 State.injTrigger)

def execAgeingRead (s : State) : Host.Outcome State Fault Refusal := .next (effAgeingRead s)

def execAgeReadNow (g : Gal) (s : State) : Host.Outcome State Fault Refusal :=
  .next (s.hostRow g R.AGE_CTL_READ_NOW 0 1 effReadNow)

def execAgeingLatch (codes : List Nat) (s : State) : Host.Outcome State Fault Refusal := .next (effAgeingLatch s codes)

def execAgeingRecordWrite (good : Bool) (s : State) : Host.Outcome State Fault Refusal := .next (effAgeingWrite s good)

end Sys2Proof.Machine
end

