-- ==== Sys2Proof/Machine/DieLoop.lean ====
section
/-!
DEFINITION. The die loop of one die period (R44, R52 to R54, R132, R136 to R142, R154, R159, R207): statistics of the hub
minimum, guard band, thermal band, target, reference, trip level, and the feed estimate of the zones.
-/
namespace Sys2Proof.Machine

def State.foS (s : State) (d : Nat) : FoS := tabAt s.fo d
def State.updFo (s : State) (d : Nat) (f : FoS → FoS) : State := { s with fo := tabUpd s.fo d f }

/-! ### The ended die period (R132, R142) -/

/-- NVALID as the boundary finds it (R136). -/
def State.formValid (s : State) (d : Nat) : State :=
  let n := (s.validSensors d).length
  (s.set R.DST_ERR_NVALID d n).raiseIf (n == 0) R.DST_FLT_NOSENS d

/-- The samples of the hub minimum are taken for a new die period. -/
def State.restartMin (s : State) (d : Nat) : State := s.updHub d fun h => { h with sum := 0, cnt := 0, low := 0xFFFF }

/-- MINAVG, MINLOW and NVALID of the ended die period close; without a sample they stand. -/
def State.closeMin (s : State) (d : Nat) : State :=
  let h := s.hubOf d
  let s := if h.cnt = 0 then s
    else (s.set R.DST_MIN_MINAVG d (rdiv h.sum h.cnt).toNat).set R.DST_MIN_MINLOW d h.low
  (s.formValid d).restartMin d

/-! ### The terms of the target (R52 to R54, R136 to R138, R207, R258) -/

/-- Whether the baseline ROM image is in use. -/
def State.baseline (s : State) : Bool := s.get R.IMG_STAT_SRC == 3

/-- Whether the announced guard band applies (R53). The Forecaster counts as enabled in its state RUN. -/
def State.announced (s : State) (d : Nat) : Bool :=
  s.flag R.DST_SET_ANN_EN d && !s.baseline && s.get R.FCS_STAT_STATE == 2 && !s.flag R.FCS_DSTAT_OFF d
    && !s.flag R.FCS_DSTAT_TR d && s.devSt == devRun && s.isOn d && !s.inSwitchOn d

/-- The guard band in force and its source (R52, R53); an announced one above the unannounced one is used equal to it
(R54). -/
def State.guardBand (s : State) (d : Nat) : Nat × Nat :=
  if s.devSt == devHold then (0x140, 3)
  else if s.announced d then (min (s.get R.DST_SET_GB_ANN d) (s.get R.DST_SET_GB_UNA d), 1)
  else (s.gbUna d, if s.baseline then 2 else 0)

/-- The thermal band after a reading (R137): 0 COLD, 1 NORMAL, 2 WARM. -/
def thermBand (warn whys t : Int) (b : Nat) : Nat :=
  let b := if b = 0 ∧ 448 ≤ t then 1 else if b = 2 ∧ t < warn - whys then 1 else b
  if b = 1 then (if t < 400 then 0 else if warn ≤ t then 2 else 1) else b

/-- The thermal band of a district: NORMAL until the first thermal point. -/
def State.bandOf (s : State) (d : Nat) : Nat :=
  if s.thm.seen then
    thermBand s.thm.warn (s.get R.THM_HYS_WHYS) (signedOf 12 (s.get R.THM_DLVL_TMAX d)) (s.get R.DST_COMP_TBAND d)
  else 1

/-- THM of a band. -/
def State.thmOf (s : State) (d b : Nat) : Int :=
  s.getI (if b = 0 then R.DST_ADJ_THM_COLD else if b = 1 then R.DST_ADJ_THM_NORM else R.DST_ADJ_THM_WARM) d

/-- VMIN as R138 reads it (R258). -/
def State.vminOf (s : State) (d : Nat) : Nat :=
  let v := s.get R.DST_SET_VMIN d
  let k := (s.foS d).pvMin
  if k = 0 then v else max 0x640 (v - k * s.get R.BUD_ACT_VSTEP)

/-- Whether a lift that ends at slot boundary `e` is still in force at the present district boundary (R207): by time, so that a
slot boundary on the same edge counts as reached. -/
def State.liftOn (s : State) : Option Nat → Bool
  | none => true
  | some e => decide (20 * (s.dev.dper - 1) < slotEdge e)

/-- Whether a barrier lift is in force in a district at a die period boundary (R207). DEDUCED (assumption 142): by the time of the
slot that ends it, so that the lift is over at the boundary on whose edge that slot begins. -/
def State.lifted (s : State) (d : Nat) : Bool := s.adm.lifts.any fun l => l.2.1 == d && s.liftOn l.2.2

/-- The exclusion margin (R136). -/
def State.exm (s : State) (d gb : Nat) : Nat :=
  let nv := s.get R.DST_ERR_NVALID d
  let susp := (List.range 64).any fun k => s.suspect d k && !s.retired d k
  (if susp || nv == 0 then s.gbUna d - gb else 0) + (if nv = 0 then 0x050 else 0)

/-- The target of a district is composed and shown (R138, R142). -/
def State.compose (s : State) (d : Nat) : State :=
  let (gb, src) := s.guardBand d
  let b := s.bandOf d
  let thm := s.thmOf d b
  let age := s.get R.AGE_DIST_AGE d
  let lift := s.lifted d
  let bar := if lift then s.get R.GQ_SUN_BAR else 0
  let tgt := ((s.vminOf d + gb + s.exm d gb + age + bar : Nat) + thm).toNat
  let err : Int := (tgt : Int) - s.get R.DST_MIN_MINAVG d
  let s := ((((s.set R.DST_COMP_GB d gb).set R.DST_COMP_GBSRC d src).set R.DST_COMP_TBAND d b).setI R.DST_COMP_THM d thm).set
    R.DST_COMP_AGE d age
  let s := ((s.set R.DST_ERR_BAR d bar).setI R.DST_ERR_ERR d err).setSat R.DST_REF_TGT d tgt
  s.raiseIf lift R.DST_FLT_BARLIFT d

/-! ### The reference (R139 to R141) -/

/-- Whether the die loop leaves the reference of a district unchanged (R141). -/
def State.refHeld (s : State) (d : Nat) : Bool :=
  !s.isOn d || s.inSwitchOn d || !s.computes d || s.devSt == devHold || s.testOn d
    || (s.get R.DST_ERR_NVALID d == 0 && (s.availCells d).isEmpty)

/-- V of one district from the applied reference of its group (R139): the unclamped and the clamped value. -/
def State.newRef (s : State) (d vapp : Nat) : Int × Nat :=
  let err : Int := s.getI R.DST_ERR_ERR d
  let step := clampTo (-(s.get R.LOOP_CTL_SLEW_DN : Int)) (s.get R.LOOP_CTL_SLEW_UP) (rdiv (s.get R.LOOP_CTL_KI * err) 64)
  let v := (vapp : Int) + step
  (v, (clampTo (s.vLo d) 0x1068 v).toNat)

/-- The trip level goes to the hub, in force from the next district period boundary (R154). -/
def State.sendTrip (s : State) (d at_ : Nat) : State :=
  let gb := s.get R.DST_COMP_GB d
  let ann := s.get R.DST_COMP_GBSRC d == 1 || s.lifted d
  let deff := min (if ann then s.get R.DST_TH_CFG_DEPTH_ANN d else s.get R.DST_TH_CFG_DEPTH_UNA d) (gb - 8)
  let trip := min (s.get R.DST_REF_TGT d) (s.get R.DST_MIN_MINAVG d) - deff
  s.updHub d fun h => { h with tripNext := some (at_, trip, deff) }

/-- The references of one coupling group (R139, R140): the members that are not held take the highest V among them. -/
def State.groupRef (s : State) (at_ : Nat) (members : List Nat) : State :=
  let act := members.filter fun d => !s.refHeld d
  let vapp := act.foldl (fun m d => max m (s.vref d)) 0
  let new := act.foldl (fun m d => max m (s.newRef d vapp).2) 0
  s.each act fun s d =>
    let (raw, v) := s.newRef d vapp
    let s := (s.set R.DST_REF_CEIL d (if 0x1068 < raw then 1 else 0)).set R.DST_REF_FLR d (if raw < s.vLo d then 1 else 0)
    let s := (s.set R.DST_REF_GRP d (if v < new then 1 else 0)).raiseIf (decide (0x1068 < raw)) R.DST_FLT_CEIL d
    let s := s.updLaw d fun l => { l with vNext := new, tgtNext := s.get R.DST_REF_TGT d, vAt := at_ }
    s.sendTrip d at_

/-- The die loop at a die period boundary (R142), in force at the next district boundary. -/
def State.dieLoop (s : State) : State :=
  let s := s.each s.districts State.compose
  let at_ := s.dev.dper
  let leads := s.districts.filter fun d => (s.inGroup d).head? == some d
  let s := s.each leads fun s d => s.groupRef at_ (s.inGroup d)
  s.each s.districts fun s d => if s.refHeld d then
      s.updLaw d fun l => { l with tgtNext := s.get R.DST_REF_TGT d, vAt := at_, vNext := s.vref d }
    else s

/-- Lifts whose slot has passed end at this boundary (R207). -/
def State.liftsEnd (s : State) : State :=
  { s with adm := { s.adm with lifts := s.adm.lifts.filter fun l => s.liftOn l.2.2 } }

/-- MINLOW at or above TRIP re-arms a storm-disarmed hub (R159). -/
def State.stormRearm (s : State) (d : Nat) : State :=
  if s.flag R.DST_TH_STAT_STORMD d && decide (s.get R.DST_TH_STAT_TRIP d ≤ s.get R.DST_MIN_MINLOW d) then
    let s := s.set R.DST_TH_STAT_STORMD d 0
    if s.armOk d then s.set R.DST_TH_STAT_STATE d thArmed else s
  else s

/-! ### The zone feed estimate (R44) -/

/-- The sum over a zone of the measured current of the ended die period, in mA summed over its district periods and
brought to ten of them, times the reference. -/
def State.feedOf (s : State) (z : Nat) : Nat :=
  (s.inZone z).foldl (fun a d =>
    let l := s.lw d
    a + (if l.imCnt = 0 then 0 else l.imSum.toNat * 10 / l.imCnt) * s.vref d) 0

/-- The zone feed estimates of the ended die period. -/
def State.feedUpdate (s : State) : State :=
  { s with dev := { s.dev with zoneFeed := (List.range 4).map s.feedOf } }

end Sys2Proof.Machine
end

