-- ==== Sys2Proof/Machine/Forecast.lean ====
section
/-!
DEFINITION. The Forecaster and energy attribution (R112, R113, R213 to R232): feature snapshot and build, the network,
its states, the trust check, and the attribution of an epoch.
-/
namespace Sys2Proof.Machine

/-- FCS_STAT.STATE codes. -/
abbrev fcNone : Nat := 0
abbrev fcReady : Nat := 1
abbrev fcRun : Nat := 2
abbrev fcDisabled : Nat := 3

/-! ### Features (R217 to R219) -/

/-- The snapshot of one queue at a die period boundary; the accumulators clear (R217). -/
def State.snapQueue (s : State) (q : Nat) (x : QueueS) : QueueS :=
  let mine := (s.bk (q / 256)).grants.filter fun g => g.queue == q && decide (0 < g.d)
  let sum (p : Grant → Bool) (c : Nat) : Nat := (mine.filter fun g => p g && g.cls == c).foldl (fun n g => n + g.d.toNat) 0
  let t := s.dev.slot
  { x with snapPend := x.ents.length, snapFcnt := x.fcnt, fcnt := [0, 0, 0], snapAct := x.act, act := 0, snapRefu := x.refu,
           refu := [0, 0, 0], snapGcur := ([0, 1, 2] : List Nat).map (sum fun g => g.covers t),
           snapGnext := ([0, 1, 2] : List Nat).map (sum fun g => decide (t < g.start) && decide (g.start ≤ t + 64)) }

def State.snapshot (s : State) : State :=
  { s with queues := s.queues.map fun (x : Nat × QueueS) => (x.1, s.snapQueue x.1 x.2) }

/-- The counts of the classes of a mask. -/
def classSum (m : Nat) (l : List Nat) : Nat :=
  ([0, 1, 2] : List Nat).foldl (fun n c => if m.testBit c then n + l.getD c 0 else n) 0

/-- The per-queue value of a kind entry, from the snapshot (R217). -/
def QueueS.kindValue (x : QueueS) (k : KindEntry) : Nat :=
  match k.kind with
  | 0 => x.snapPend
  | 1 => classSum k.cmask x.snapFcnt
  | 2 => classSum k.cmask x.snapGcur
  | 3 => classSum k.cmask x.snapGnext
  | 4 => x.snapAct
  | _ => classSum k.cmask x.snapRefu

/-- The values of an entry over the local queues of a district. -/
def State.kindValues (s : State) (d : Nat) (k : KindEntry) : List Nat :=
  (List.range 256).map fun q => (s.q (256 * d + q)).kindValue k

/-- The segments of a layout: lists of local queues, in ascending order; flag 0 acts as set (R114). -/
def segments (flags : List Bool) : List (List Nat) :=
  (List.range 256).foldr (fun q acc =>
    match acc with
    | [] => [[q]]
    | g :: r => if flags.getD (q + 1) false then [q] :: g :: r else (q :: g) :: r) []

/-- The segment totals of one scan, whether one was saturated to the range of the scan network, and whether its residues agree
(R114, R117). -/
def segTotals (at_ : Nat) (delta : Int) (flags : List Bool) (v : List Nat) : List Int × Bool × Bool :=
  let o := scan 0 at_ delta ((List.range 256).map fun q => ((v.getD q 0 : Int), flags.getD q false))
  (o.segs.map Seg.total, o.sat, o.ok)

/-- A feature build: the vector as BFP8; whether a scan saturated, and whether all agree; whether the vector saturated, and
whether its checks pass. -/
structure FeatOut where
  x : Vec
  scanSat : Bool
  scanOk : Bool
  sat : Bool
  ok : Bool

/-- The feature vector of a district (R218, R219). -/
def State.features (s : State) (d : Nat) (e : StepErr) : FeatOut :=
  let ks := (s.lw d).img.kinds
  let parts := (List.range ks.length).map fun j =>
    let k := ks.getD j default
    let (t, sat, ok) := segTotals (e.scanAt % 256) (if e.scanAt / 256 = j then e.scan else 0) k.flags (s.kindValues d k)
    (t.map fun x => rdiv x (2 ^ k.sh), sat, ok)
  let (x, sat, ok) := renormC e.up 8 8 ((parts.flatMap fun p => p.1).map fun x => (x, 0))
  { x := x, scanSat := parts.any fun p => p.2.1, scanOk := parts.all fun p => p.2.2, sat := sat, ok := ok }

/-! ### The network (R99, R220 to R222) -/

/-- Whether one exact value lies below another. -/
def Acc.below (a b : Acc) : Bool :=
  let m := min a.2 b.2
  decide (a.1 * pow2 (a.2 - m) < b.1 * pow2 (b.2 - m))

/-- A stage sum bounded element by element (R99), and the elements that lie strictly between their bounds (R229). -/
def clampAccs (lo hi : Vec) (l : List Acc) : List Acc × List Bool :=
  let bound (v : Vec) (i : Nat) : Acc := (v.m.getD i 0, v.e - 15)
  ((List.range l.length).map fun i =>
      let a := l.getD i (0, 0)
      if Acc.below a (bound lo i) then bound lo i else if Acc.below (bound hi i) a then bound hi i else a,
   (List.range l.length).map fun i =>
      let a := l.getD i (0, 0)
      Acc.below (bound lo i) a && Acc.below a (bound hi i))

/-- What the two layers of a step compute: outputs, clamp masks, saturated renormalisations, and the first stage whose checks
fail. -/
structure FcOut where
  o : Vec
  g1 : List Bool
  g2 : List Bool
  /-- the points of the renormalisations that saturated (R98) -/
  sats : List Nat
  bad : Option Nat

/-- The two layers (R220), under an upset and with the stage whose first product's residue an injection inverts. -/
def fcNet (w : WeightSet) (u : Upset) (flip : Option Nat) (fh fo : Nat) (x : Vec) : FcOut :=
  let (l1, k1) := stage (flip == some 9) u 9 fh [.mul 14 false w.w1 x, .vec 15 w.b1]
  let (a1, g1) := clampAccs w.lo1 w.hi1 l1
  let (h, s1, c1) := renormC u 9 8 a1
  let (l2, k2) := stage (flip == some 0xA) u 0xA fo [.mul 14 false w.w2 h, .vec 15 w.b2]
  let (a2, g2) := clampAccs w.lo2 w.hi2 l2
  let (o, s2, c2) := renormC u 0xA 16 a2
  { o := o, g1 := g1, g2 := g2, sats := satIn s1 18 ++ satIn s2 20,
    bad := if !(k1 && c1) then some 9 else if !(k2 && c2) then some 0xA else none }

/-- PRED of a step, saturated to the range of its register (R13, R222). -/
def predOf (tmask : Nat) (o : Vec) : Int :=
  clampTo (-32768) 32767
    (align 0 ((List.range o.m.length).foldl (fun a k => if tmask.testBit k then a + o.m.getD k 0 else a) 0, o.e - 15))

/-- The outputs under a gain level (R221). -/
def gained (level : Nat) (o : Vec) : Vec :=
  match level with
  | 0 => ⟨minExp, o.m.map fun _ => 0⟩
  | 1 => { o with e := o.e - 2 }
  | 2 => { o with e := o.e - 1 }
  | 3 => { o with m := o.m.map fun m => rdiv (3 * m) 4 }
  | _ => o

/-! ### Attribution of one prediction (R229) -/

/-- A vector with the elements of a mask kept, the others 0, and its exponent kept. -/
def masked (g : List Bool) (v : Vec) : Vec :=
  { v with m := (List.range v.m.length).map fun i => if g.getD i false then v.m.getD i 0 else 0 }

/-- What an attribution pass computes: the contributions of the features to PRED, the points of its renormalisations that saturated,
W1 being read behind the first of them, and whether its checks pass. -/
structure AttOut where
  c : Vec
  sats : List Nat
  ok : Bool

/-- The contributions of the features to PRED, under an upset of the pass. -/
def contributions (w : WeightSet) (flip : Bool) (u : Upset) (fh tmask : Nat) (x : FcCtx) : AttOut :=
  let t : Vec := ⟨1, (List.range x.o.m.length).map fun k => if tmask.testBit k then 16384 else 0⟩
  let (l1, k1) := stage flip u 0xB fh [.mul 22 false (matT w.w2) (masked x.g2 t)]
  let (z, s1, c1) := renormC u 0xB 16 l1
  let (l2, k2) := stage false {} 0xB x.x.m.length [.mul 22 false (matT w.w1) (masked x.g1 z)]
  let (sv, s2, c2) := renormC {} 0xB 16 l2
  let (c, s3, c3) := renormC {} 0xB 16
    ((List.range x.x.m.length).map fun f => (x.x.m.getD f 0 * sv.m.getD f 0, x.x.e + sv.e - 22))
  { c := c, sats := satIn s1 22 ++ satIn s2 23 ++ satIn s3 23, ok := k1 && c1 && k2 && c2 && c3 }

/-- The share of one queue in a segment, in 2^-16 CU: max(0, c) × v / V. -/
def segShare (m e : Int) (v tot : Nat) : Int :=
  if m ≤ 0 ∨ tot = 0 then 0
  else if 0 ≤ e + 1 then rdiv (m * v * pow2 (e + 1)) tot else rdiv (m * v) (tot * 2 ^ (-(e + 1)).toNat)

/-- The raw shares r_q of a district's local queues, in CU, from the values of its kind entries. -/
def rawShares (kinds : List KindEntry) (vals : List (List Nat)) (c : Vec) : Tab Nat :=
  let parts := (kinds.zip vals).flatMap fun k => (segments k.1.flags).map fun g => (g, k.2)
  let sums : Tab Int := (List.range parts.length).foldl (fun t f =>
    let p := parts.getD f ([], [])
    let tot := p.1.foldl (fun n q => n + p.2.getD q 0) 0
    p.1.foldl (fun t q => let x := segShare (c.m.getD f 0) c.e (p.2.getD q 0) tot
                          if x = 0 then t else tabUpd t q fun y => y + x) t) []
  (sums.map fun x => (x.1, (rdiv x.2 65536).toNat)).filter fun x => x.2 != 0

/-! ### States and the step (R112, R113, R223, R224) -/

/-- The state at a die period boundary (R223). DEDUCED (assumption 148): the row of a device outside RUN decides at the boundaries of
QUIET, and DOZE, which has no such boundary, keeps the state that its entry found. -/
def State.fcState (s : State) : State :=
  let st := s.get R.FCS_STAT_STATE
  if st == fcReady || st == fcRun then
    s.set R.FCS_STAT_STATE 0 (if s.flag R.ORR_CTL_FC_EN && s.devSt == devRun && !s.sec.deliv.opened then fcRun else fcReady)
  else s

/-- Whether an armed injection finds an operand word in a stage of the step or of its attribution: none in a stage that R107 skips
for a zero output dimension or a zero reduction length (ORR_INJ). -/
def State.fcWorks (s : State) (d st : Nat) : Bool :=
  let fin := (s.lw d).img.kinds.length
  let fh := s.get R.FCS_SHAPE_FH
  let fo := s.get R.FCS_SHAPE_FO
  if st = 8 then decide (0 < fin) else if st = 9 then decide (0 < fin) && decide (0 < fh)
  else if st = 0xA then decide (0 < fh) && decide (0 < fo)
  else decide (0 < fin) && decide (0 < fh) && decide (0 < fo)

/-- What the armed injection does to a step (ORR_INJ): whether it strikes a feature scan; the stage whose first product's residue
it inverts; the stage whose operand word it makes uncorrectable; and the single bits it inverts. -/
def State.fcInj (s : State) (d : Nat) : Bool × Option Nat × Option Nat × Nat × State :=
  let st := s.get R.ORR_INJ_STAGE
  if st = 0xC ∧ !(s.lw d).img.kinds.isEmpty then
    let (k, s) := s.takeInj 0xC d
    (k != 0, none, none, 0, s)
  else if 8 ≤ st ∧ st ≤ 0xA then
    let (k, s) := s.takeInj st d
    if !s.fcWorks d st then (false, none, none, 0, s)
    else (false, if k = 1 then some st else none, if k = 3 then some st else none, if k = 2 then 1 else 0, s)
  else (false, none, none, 0, s)

/-- A step leaves no outputs: the elements of f take 0 from district period 5, and nothing is predicted or attributed. -/
def State.fcZero (s : State) (d : Nat) : State :=
  s.updFc d fun x => { x with outNext := ⟨minExp, []⟩, ctx := none, pred1 := none, r1 := [] }

/-- A weights word was uncorrectable in this die period (R122, R224). -/
def State.noteUncor (s : State) (d : Nat) : State :=
  s.updFc d fun x => { x with uncor := if x.uncorNow then x.uncor else x.uncor + 1, uncorNow := true }

/-- The point at which the step of a district (R220), and the attribution pass (R229), read a weights word: the pass reads the
matrices alone, W2 ahead of W1. -/
def State.stepReads (s : State) (d : Nat) (w : SramPlace) : Option Nat :=
  match w with
  | .weights e 9 mat => if e = d ∧ 0 < s.get R.FCS_SHAPE_FH ∧ (!mat || !(s.lw d).img.kinds.isEmpty) then some 18 else none
  | .weights e 0xA mat => if e = d ∧ 0 < s.get R.FCS_SHAPE_FO ∧ (!mat || decide (0 < s.get R.FCS_SHAPE_FH)) then some 20 else none
  | _ => none
def State.passReads (s : State) (d : Nat) (w : SramPlace) : Option Nat :=
  match w with
  | .weights e st true => if e = d ∧ s.fcWorks d 0xB then (if st = 0xA then some 22 else if st = 9 then some 23 else none) else none
  | _ => none

/-- The first point of a step or of a pass that reads an uncorrectable word, by an upset or found so before, and the first one that
reads such a weights word. -/
def State.fcBad (s : State) (d : Nat) (reads : SramPlace → Option Nat) (z : Upset) : Option Nat × Option Nat :=
  let w := ((s.fc d).badWord.filterMap reads).foldl (fun m x => minStage m (some x)) none
  (minStage w (if z.uncor && z.word == .other then some (2 * z.stage) else none), w)

/-- A die period begins without an uncorrectable weights word; the run of such periods ends with one that had none (R224). -/
def State.uncorNext (s : State) (d : Nat) : State :=
  s.updFc d fun x => { x with uncor := if x.uncorNow then x.uncor else 0, uncorNow := false }

/-- The step of one district: its outputs wait for district period 5. A failed check leaves it without outputs (R113). An injection
into Hidden or Output makes the first word of its matrix uncorrectable, which is a weights word. -/
def State.fcStep (s : State) (d : Nat) (errs : List (Nat × StepErr)) : State :=
  let s := (s.uncorNext d).fcZero d
  if s.flag R.FCS_DSTAT_OFF d then s
  else
    let e := (tabGet errs d).getD {}
    let (hit, flip, inj, ic, s) := s.fcInj d
    let s := s.sbeFlag (e.corr + ic)
    let ft := s.features d e
    let s := s.raiseIf ft.scanSat R.ORR_FLT_SCANFLT
    if hit || !ft.scanOk then s.scanFault d
    else
      let up : Upset := if decide (8 ≤ e.up.stage) && decide (e.up.stage ≤ 0xA) then e.up else {}
      let s := if up.uncor then s.noteBad up.word else s
      let (bw, ww) := s.fcBad d (s.stepReads d) up
      let unc := minStage (inj.map (2 * ·)) bw
      let s := if ww.isSome || inj == some 9 || inj == some 0xA then s.noteUncor d else s
      let r := fcNet (tabAt s.weights d) e.up flip (s.get R.FCS_SHAPE_FH) (s.get R.FCS_SHAPE_FO) ft.x
      let bad := if !ft.ok || flip == some 8 then some 8 else r.bad
      let s := s.satFlag (satsBefore unc (satIn ft.sat 16 ++ r.sats))
      match minStage (unc.map (· / 2)) bad with
      | some st => s.fcFault d st bad.isSome unc.isSome
      | none =>
        let i := (s.lw d).img
        s.updFc d fun y => { y with
          outNext := r.o, pred1 := some (predOf i.tmask r.o),
          ctx := some { x := ft.x, o := r.o, g1 := r.g1, g2 := r.g2, vals := i.kinds.map (s.kindValues d), up := e.up } }

/-- No step runs for a district. -/
def State.fcIdle (s : State) (d : Nat) : State :=
  (s.fcZero d).updFc d fun x => { x with uncor := 0, uncorNow := false }

/-- The attribution pass of a district in district periods 5 to 9 (R112, R229). DESIGN CHOICE (assumption 121): a failed check
drops the shares, and the outputs of the step stand. A saturation ahead of the first uncorrectable word counts: W1 is read once z
stands (R98). An injection makes the first word of W2 uncorrectable. -/
def State.attribute (s : State) (d : Nat) : State :=
  match (s.fc d).ctx with
  | none => s
  | some x =>
    let s := s.updFc d fun y => { y with ctx := none }
    if !s.flag R.FCS_CTL_ATT_EN then s
    else
      let (k, s) := s.takeInj 0xB d
      let k := if s.fcWorks d 0xB then k else 0
      let s := if k = 2 then s.sbeFlag 1 else s
      let up : Upset := if x.up.stage == 0xB then x.up else {}
      let s := if up.uncor then s.noteBad up.word else s
      let (bw, ww) := s.fcBad d (s.passReads d) up
      let unc := minStage (if k = 3 then some 22 else none) bw
      let s := if ww.isSome || k == 3 then s.noteUncor d else s
      let i := (s.lw d).img
      let r := contributions (tabAt s.weights d) (k == 1) x.up (s.get R.FCS_SHAPE_FH) i.tmask x
      let s := s.satFlag (satsBefore unc r.sats)
      if unc.isSome || !r.ok then s.fcFault d 0xB (!r.ok) unc.isSome
      else s.updFc d fun y => { y with r1 := rawShares i.kinds x.vals r.c }

/-- The outputs enter f at district period 5 (R112, R221). -/
def State.fcEnter (s : State) (d : Nat) : State :=
  let g := s.get R.FCS_DSTAT_GAIN d
  s.updFc d fun x => { x with out := gained g x.outNext }

/-- The Forecaster elements of a district take 0 where it is not ON or is switching on, the device is not in RUN, or the district is
disabled; once 0, they stand so until outputs enter again (R221). -/
def State.fcMask (s : State) (d : Nat) : State :=
  if s.isOn d && !s.inSwitchOn d && s.devSt == devRun && !s.flag R.FCS_DSTAT_OFF d then s
  else s.updFc d fun x => { x with out := ⟨minExp, []⟩ }

/-! ### Trust (R225 to R227) -/

/-- Whether a district meets, at one boundary, what an eligible window asks throughout (R225); one without an available cell is
not in CURRENT mode. DESIGN CHOICE (assumption 149): a district is in CURRENT mode where every available cell with an element of the
applied command vector is; a cell beyond it is LOCAL always (R104) and is not asked. -/
def State.fcEligible (s : State) (d : Nat) : Bool :=
  s.isOn d && !s.inSwitchOn d && s.devSt == devRun && !s.testOn d && !(s.availCells d).isEmpty
    && (s.availCells d).all fun c => decide ((s.lw d).applied.length ≤ c % 16) || !s.flag R.CEL_STAT_LOCAL c

/-- A trust reduction is entered (R226). -/
def State.enterTr (s : State) (d : Nat) (pred : Int) (im : Nat) : State :=
  let g := s.get R.FCS_DSTAT_GAIN d - 1
  let s := ((s.set R.FCS_DSTAT_TR d 1).set R.FCS_DSTAT_CNT d 0).set R.FCS_DSTAT_GAIN d g
  let s := (s.updFc d fun x => { x with epochsTR := 0, clean := 0 }).inc R.FCS_DSTAT_REDUCTIONS d
  ((s.raise R.FCS_FLT_TRUST).raise R.DST_FLT_TRUST d).event 0x0004 (d + 256 * g) (s.get R.FCS_ERR_RERR d)
    (codeOf 16 pred * 65536 + im % 65536)

/-- An evaluated window is shown, eligible or not (R225, FCS_PRED). -/
def State.showPred (s : State) (d : Nat) (pred : Int) (im : Nat) : State :=
  (s.setI R.FCS_PRED_PRED d pred).setSat R.FCS_PRED_IMEAS d im

/-- The trust check of one eligible window (R226). -/
def State.trustCheck (s : State) (d : Nat) (pred : Int) (im : Nat) : State :=
  let e := ((pred - im).natAbs)
  let old : Int := s.get R.FCS_ERR_RERR d
  let rerr := clampTo 0 0xFFFF (old + rdiv ((e : Int) - old) (2 ^ s.get R.FCS_TRUST_ALPHA)) |>.toNat
  let s := (s.set R.FCS_ERR_RERR d rerr).setSat R.FCS_ERR_LASTE d e
  let thr := s.get R.FCS_TRUST_THR
  let n := s.get R.FCS_TRUST_TR_N
  let cnt := s.get R.FCS_DSTAT_CNT d
  if !s.flag R.FCS_DSTAT_TR d then
    let c := if thr < rerr then min 15 (cnt + 1) else 0
    if n ≤ c then s.enterTr d pred im else s.set R.FCS_DSTAT_CNT d c
  else
    let c := if rerr ≤ thr / 2 then min 15 (cnt + 1) else 0
    if n ≤ c ∧ s.get R.FCS_TRUST_HOLD ≤ (s.fc d).epochsTR then
      ((s.set R.FCS_DSTAT_TR d 0).set R.FCS_DSTAT_CNT d 0).updFc d fun x => { x with clean := 0 }
    else s.set R.FCS_DSTAT_CNT d c

/-- The window that ends at a boundary: trust (R225, R226) and the sums of the attribution epoch (R230). -/
def State.window (s : State) (d : Nat) : State :=
  let x := s.fc d
  let im := (s.bk d).imeas
  let v := s.vref d
  let s := s.updFc d fun y => { y with eMeas := y.eMeas + im * v }
  let s := match x.pred0 with
    | none => s
    | some p =>
      let s := if s.isOn d then s.updFc d fun y =>
          { y with eModel := y.eModel + p * v,
                   aq := x.r0.foldl (fun t (r : Nat × Nat) => tabUpd t r.1 fun a => a + r.2 * v) y.aq } else s
      if s.flag R.FCS_DSTAT_OFF d then s
      else
        let s := s.showPred d p im
        if x.elig then s.trustCheck d p im else s
  let e := s.fcEligible d
  s.updFc d fun y => { y with pred0 := y.pred1, r0 := y.r1, elig := e }

/-- ORR_STAT.FC_ACT shows whether the step ran in the ended die period; whether it runs in the one that begins. -/
def State.fcAct (s : State) (ran : Bool) : State :=
  { s.set R.ORR_STAT_FC_ACT 0 (if s.dev.fcRan then 1 else 0) with dev := { s.dev with fcRan := ran } }

/-- The Forecaster at a die period boundary: windows, the step over the features of the last snapshot, and a new one. No step
begins at the boundary from which DOZE gates the Orrery (R313). -/
def State.fcDie (s : State) (errs : List (Nat × StepErr)) : State :=
  let s := (s.each s.districts State.window).fcState
  let run := s.get R.FCS_STAT_STATE == fcRun && !s.dozeDue
  let s := s.fcAct run
  let s := if run then s.each s.districts fun s d => s.fcStep d errs else s.each s.districts State.fcIdle
  s.snapshot

/-- Gain and trust counts at a budget epoch boundary (R226). -/
def State.trustEpoch (s : State) (d : Nat) : State :=
  if s.flag R.FCS_DSTAT_TR d then s.updFc d fun x => { x with epochsTR := x.epochsTR + 1 }
  else
    let c := (s.fc d).clean + 1
    if s.get R.FCS_TRUST_HOLD ≤ c then
      (s.set R.FCS_DSTAT_GAIN d (min 4 (s.get R.FCS_DSTAT_GAIN d + 1))).updFc d fun x => { x with clean := 0 }
    else s.updFc d fun x => { x with clean := c }

/-! ### The attribution epoch (R230, R231) -/

/-- EU of a sum of CU × reference code. -/
def euOf (x : Nat) : Nat := (rdiv x 15625).toNat

/-- The attribution epoch of a district closes. -/
def State.attClose (s : State) (d : Nat) : State :=
  let x := s.fc d
  let em := x.eMeas
  let mo := x.eModel.toNat
  let valid := s.flag R.FCS_CTL_ATT_EN && !s.flag R.FCS_DSTAT_OFF d && decide (0 < x.eModel) && decide (mo ≤ 2 * em)
    && decide (em ≤ 2 * mo)
  let sumA := x.aq.foldl (fun n a => n + a.2) 0
  let den := max mo sumA
  let eq : Tab Nat := if valid then x.aq.map fun a => (a.1, (rdiv ((a.2 * em : Nat) : Int) (den * 15625)).toNat) else []
  let base := euOf em - eq.foldl (fun n a => n + a.2) 0
  let scale := if mo = 0 then 0 else satU 16 (rdiv ((4096 * em : Nat) : Int) mo).toNat
  let s := if valid then s else (s.raise R.FCS_FLT_ATTINV).raise R.DST_FLT_ATTINV d
  s.updFc d fun x => { x with eMeas := 0, eModel := 0, aq := [], pubEq := eq, pubMeas := euOf em, pubBase := base,
                              pubScale := scale, pubValid := valid }

/-- The results of a district are published. -/
def State.publish (s : State) (d : Nat) : State :=
  let x := s.fc d
  let v := if x.pubValid then 1 else 0
  let s := ((s.set R.FCS_DSTAT_ATTV d v).set R.FCS_SCALE_VALID d v).set R.FCS_SCALE_SCALE d x.pubScale
  let s := (s.setSat R.FCS_BASEE_E d x.pubBase).setSat R.FCS_EMEAS_E d x.pubMeas
  s.each (List.range 256) fun s q =>
    let v := tabAt x.pubEq q
    if v = s.get R.FCS_ATT_EQ (256 * d + q) then s else s.setSat R.FCS_ATT_EQ (256 * d + q) v

/-! ### Weights (R223, R224, R228, R345, R346) -/

/-- The trust state is reset and the weights are in use (R228). -/
def State.fcAccept (s : State) : State :=
  let s := ((s.set R.FCS_STAT_STATE 0 fcReady).set R.FCS_STAT_CAUSE 0 0).inc R.FCS_STAT_LOADS
  let s := s.each s.districts fun s d =>
    let s := ((s.set R.FCS_ERR_RERR d 0).set R.FCS_DSTAT_CNT d 0).set R.FCS_DSTAT_TR d 0
    ((s.set R.FCS_DSTAT_GAIN d 4).set R.FCS_DSTAT_OFF d 0).updFc d fun x =>
      { x with uncor := 0, uncorNow := false, badWord := [] }
  s.event 0x0003 (s.get R.FCS_PAIRW_PAIR)

/-! ### Rows -/

/-- The step of a district has not completed by cycle 400 (R113), the end of district period 4: its elements of f take 0, and
ORR_ERRLOC loads. DESIGN CHOICE (assumption 122): STAGE names Output, the stage that has not completed. -/
def effFcDeadline (s : State) (d : Nat) : State :=
  if s.get R.FCS_STAT_STATE == fcRun && !s.flag R.FCS_DSTAT_OFF d && decide (1 ≤ s.dev.dper % 10) && decide (s.dev.dper % 10 ≤ 5)
  then ((s.fcZero d).raise R.ORR_FLT_FCOVR).errLoc 2 0xA d
  else s

/-- A district's weights are uncorrectable in two consecutive die periods (R224). -/
def effFcDisable (s : State) (d : Nat) : State :=
  if decide (2 ≤ (s.fc d).uncor) && !s.flag R.FCS_DSTAT_OFF d then
    let s := ((s.set R.FCS_DSTAT_OFF d 1).raise R.FCS_FLT_WDBE).raise R.DST_FLT_FCOFF d
    (s.fcZero d).updFc d fun x => { x with out := ⟨minExp, []⟩ }
  else s

/-- The results of the closed epoch are published on one edge, and FCS_EPOCH moves on (R231): epochs are numbered from 0
at the first start of the Orrery after cold reset. -/
def effPublish (s : State) : State :=
  if s.dev.pubDue then
    let s := s.each s.districts State.publish
    { s.set R.FCS_EPOCH_EPOCH 0 (s.dev.epoch - 1) with dev := { s.dev with pubDue := false, telDue := true } }
  else s

/-- FCS_CTL.CNT_CLR (R232). -/
def effFcsClr (s : State) : State := s.each s.districts (fun s d => s.set R.FCS_DSTAT_REDUCTIONS d 0) |>.set R.FCS_STAT_LOADS 0 0

/-! ### The meanings -/

def execForecasterDeadlineMiss (d : Nat) (s : State) : Host.Outcome State Fault Refusal := onDist s d (effFcDeadline s d)

def execForecasterDistrictDisable (d : Nat) (s : State) : Host.Outcome State Fault Refusal := onDist s d (effFcDisable s d)

def execAttributionPublish (s : State) : Host.Outcome State Fault Refusal := .next (effPublish s)

def execFcsCntClr (g : Gal) (s : State) : Host.Outcome State Fault Refusal :=
  .next (s.hostRow g R.FCS_CTL_CNT_CLR 0 1 effFcsClr)

end Sys2Proof.Machine
end

