-- ==== Sys2Proof/Machine/Budget.lean ====
section
/-!
DEFINITION. The budget sequencer (R248 to R271): window means, reduction targets and their sharing, the absolute limit,
actuators, group mode and its excursions, gallery shares, and the coolant latch.
-/
namespace Sys2Proof.Machine

/-- Division rounded up; a zero divisor gives zero. -/
def cdiv (a b : Nat) : Nat := if b = 0 then 0 else (a + b - 1) / b

/-! ### Currents and means (R249) -/

/-- A current in CU as a code of 0.25 A. -/
def cuCode (x : Nat) : Nat := (rdiv ((8 * x : Nat) : Int) 125).toNat

/-- IMEAS summed over the districts that a test selects. -/
def State.imeasSum (s : State) (p : Nat → Bool) : Nat :=
  s.districts.foldl (fun n d => if p d then n + (s.bk d).imeas else n) 0

/-- IC_c and ID of the ended die period. -/
def State.classCodes (s : State) : List Nat :=
  ([0, 1, 2] : List Nat).map fun c => cuCode (s.imeasSum fun d => s.classOf d == c)
def State.dieCode (s : State) : Nat := cuCode (s.imeasSum fun _ => true)

/-- The mean of a list, rounded. -/
def meanOf (l : List Nat) : Nat := (rdiv ((l.foldl (· + ·) 0 : Nat) : Int) l.length).toNat

/-- A value of the history by index: the classes, then the die. -/
def histAt (i : Nat) (h : Nat × Nat × Nat × Nat) : Nat :=
  if i = 0 then h.1 else if i = 1 then h.2.1 else if i = 2 then h.2.2.1 else h.2.2.2

/-- The window means: the classes, then the die. -/
def State.means (s : State) : List Nat :=
  let w := s.bud.hist.take (s.get R.BUD_CTL_WIN)
  ([0, 1, 2, 3] : List Nat).map fun i => meanOf (w.map (histAt i))

/-! ### Unthrottled current and reduction in force (R254, R256) -/

/-- The dynamic current with the outputs in force, in CU. -/
def State.dynOf (s : State) (d : Nat) : Nat := max 1 ((s.bk d).imeas - (s.lw d).img.ileak)

/-- IDF as a fraction, with the outputs in force over the ended die period. -/
def State.idf (s : State) (d : Nat) : Nat × Nat :=
  let f := s.foS d
  (s.dynOf d * 64 * 2 ^ f.divP * 16, (64 - f.skP) * (16 - f.pvP))

/-- RIF as a fraction. -/
def State.rif (s : State) (d : Nat) : Nat × Nat :=
  let (n, m) := s.idf d
  (n - s.dynOf d * m, m)

/-- The reductions in force in a class as a code of 0.25 A. -/
def State.rifCode (s : State) (c : Nat) : Nat :=
  let q := s.districts.foldl (fun (a : Nat × Nat) d =>
    let r := s.rif d
    if s.classOf d = c ∧ r.1 ≠ 0 then (a.1 * r.2 + r.1 * a.2, a.2 * r.2) else a) (0, 1)
  (rdiv ((8 * q.1 : Nat) : Int) (125 * q.2)).toNat

/-! ### Reduction targets, reallocation, sharing (R251 to R255, R263) -/

/-- One step of a target. -/
def trStep (t : Nat) (exc : Int) (kb rel : Nat) : Nat :=
  if 0 < exc then min 0x3000 (t + (rdiv (exc * kb) 8).toNat) else t - min rel (-exc).toNat

/-- The classes in throttle order. -/
def State.order (s : State) : List Nat :=
  let o := s.get R.BUD_PRIO_ORDER
  [o % 4, o / 4 % 4, o / 16 % 4]

/-- One borrower takes from the lenders in turn: the residuals and the spare caps after it. -/
def borrow (c : Nat) (x : List Nat × List Nat) : List Nat → List Nat × List Nat
  | [] => x
  | l :: r =>
    let k := if l = c then 0 else min (x.1.getD c 0) (x.2.getD l 0)
    borrow c (x.1.set c (x.1.getD c 0 - k), x.2.set l (x.2.getD l 0 - k)) r

/-- The residual class excesses: the part of each that no lender covers. -/
def realloc (exc : List Int) (spare : List Nat) (order : List Nat) : List Nat :=
  let rev := order.reverse
  (rev.foldl (fun x c => borrow c x rev) (exc.map Int.toNat, spare)).1

/-- TAKE_c of each class: the share of the die target in throttle order, then what the floors yield. -/
def takes (trd : Nat) (ifc flr order : List Nat) : List Nat :=
  let a := order.foldl (fun (x : Nat × List Nat) c =>
    let k := min x.1 (ifc.getD c 0 - flr.getD c 0)
    (x.1 - k, x.2.set c k)) (trd, [0, 0, 0])
  (order.foldl (fun (x : Nat × List Nat) c =>
    let k := min x.1 (ifc.getD c 0 - x.2.getD c 0)
    (x.1 - k, x.2.set c (x.2.getD c 0 + k))) a).2

/-- Whether the floor test of a district has qualified (R240, R241). -/
def State.qualified (s : State) (d : Nat) : Bool := s.flag R.DST_FO_STAT_QUAL d && (s.foS d).supRep == false
  && decide (((s.inGroup d).filter s.inService').foldl (fun m e => min m (s.foS e).floorT) 0xFF < (s.foS d).qual)

/-- Whether a district takes part in the allocation of R253: one that begins darkening has left it (R270). -/
def State.allocates (s : State) (d : Nat) : Bool := s.inService' d && (s.isSupply d || !s.qualified d)

/-- RB_d of a district for its class's TOT in CU. -/
def State.rbOf (s : State) (tot d : Nat) : Nat :=
  let ds := s.districts.filter fun e => s.classOf e == s.classOf d && s.allocates e
  let u (e : Nat) : Nat := (s.bk e).imeas - (s.bk e).gnow
  let su := ds.foldl (fun n e => n + u e) 0
  let sg := ds.foldl (fun n e => n + (s.bk e).gnow) 0
  if !s.allocates d || tot == 0 then 0
  else min 0xFFF (if tot ≤ su then cdiv (tot * u d) su else u d + cdiv ((tot - su) * (s.bk d).gnow) sg)

/-- TOT_c in CU of each class. -/
def State.totals (s : State) (trc : List Nat) (trd : Nat) : List Nat :=
  let ic := s.classCodes
  let ifc := ([0, 1, 2] : List Nat).map fun c => ic.getD c 0 + s.rifCode c
  let flr := [s.get R.BUD_FLR0_CFLR, s.get R.BUD_FLR0_MFLR, s.get R.BUD_FLR1_LFLR]
  let tk := takes trd ifc flr s.order
  ([0, 1, 2] : List Nat).map fun c => codeToCuUp (max (trc.getD c 0) (tk.getD c 0))

/-- RA_d of a district: its share of the absolute-limit target, 15.625 CU a code, over the districts that are ON; the share alone
rounds up (R255). -/
def State.raOf (s : State) (tra d : Nat) : Nat :=
  if s.isOn d then cdiv (125 * tra * (s.bk d).imeas) (8 * s.imeasSum s.isOn) else 0

/-! ### Actuators (R256 to R258) -/

/-- The first divide code up to a limit whose reduction covers RED. -/
def divFor (num den red mx : Nat) : Option Nat :=
  ([1, 2, 3] : List Nat).find? fun c => decide (c ≤ mx) && decide (red * den * 2 ^ c ≤ num * (2 ^ c - 1))

/-- PVt for a remainder REM = a / b over IDF = num / den. -/
def pvFor (a b num den : Nat) : Nat := min 7 (cdiv (16 * a * den) (b * num))

/-- The targets of the next boundary from RED (R256); THRQ code 0xFFF asks for the most that the actuators can do (R239). -/
def State.actTarget (s : State) (d red : Nat) : State :=
  let (num, den) := s.idf d
  let mx := s.get R.BUD_ACT_SKIP_MAX
  let dm := max 1 (s.get R.BUD_ACT_DIV_MAX)
  let s := s.set R.BUD_DACT_RED d (min 0xFFF red)
  s.updFo d fun f =>
    let f := { f with redSeen := f.redSeen || red != 0 }
    if red = 0 then { f with skT := 0, divT := 0, pvT := 0 }
    else if s.get R.DST_FO_THR_THRQ d = 0xFFF then
      { f with skT := if f.skOk then mx else 0, divT := if !f.skOk && s.flag R.BUD_CTL_DIV_EN then dm else 0, pvT := 7 }
    else if f.skOk then
      let k := cdiv (64 * red * den) num
      if k ≤ mx then { f with skT := k, divT := 0, pvT := 0 }
      else { f with skT := mx, divT := 0, pvT := pvFor (64 * red * den - num * mx) (64 * den) num den }
    else if s.flag R.BUD_CTL_DIV_EN then
      match divFor num den red dm with
      | some c => { f with skT := 0, divT := c, pvT := 0 }
      | none => { f with skT := 0, divT := dm,
                         pvT := pvFor (red * den * 2 ^ dm - num * (2 ^ dm - 1)) (den * 2 ^ dm) num den }
    else { f with skT := 0, divT := 0, pvT := pvFor red 1 num den }

/-- A value moved towards a target by at most one step up or down. -/
def slewTo (x t up dn : Nat) : Nat := if x ≤ t then min t (x + up) else max t (x - dn)

/-- PV and the steps that VMIN counts (R258): frequency falls before the voltage, the voltage rises before the
frequency. -/
def stepPv (f : FoS) (ceil reached : Bool) : FoS :=
  if f.pvFall then
    if reached && !ceil then { f with pv := f.pvMin, pvFall := false } else f
  else
    let f := { f with pvMin := f.pv }
    if f.pv < f.pvT then { f with pv := f.pv + 1 }
    else if f.pvT < f.pv ∧ !ceil then { f with pvMin := f.pv - 1, pvFall := true }
    else f

/-- The outputs of a district move towards the targets of the last boundary (R257, R265). -/
def State.drive (s : State) (d : Nat) : State :=
  let mx := s.get R.BUD_ACT_SKIP_MAX
  let up := s.get R.BUD_ACT_SK_UP
  let dn := s.get R.BUD_ACT_SK_DN
  let hold := s.devSt == devHold
  let ceil := s.flag R.DST_REF_CEIL d
  let reached := decide (s.get R.DST_REF_TGT d ≤ s.get R.DST_MIN_MINAVG d + 8)
  let s := s.updFo d fun f => { f with skP := f.sk, divP := f.divc, pvP := f.pv }
  let s := s.updFo d fun f =>
    stepPv { f with sk := if hold then mx else slewTo f.sk f.skT up dn, divc := slewTo f.divc f.divT 1 1 } ceil reached
  let f := s.foS d
  let s := (s.set R.BUD_DACT_SK d f.sk).set R.BUD_DACT_DIV d f.divc
  (s.set R.BUD_DACT_PV d f.pv).set R.BUD_DACT_FB d (if f.pv = 0 then 0 else 1)

/-- fab_skip_ok is sampled (R257). -/
def State.sampleSkip (s : State) (mask d : Nat) : State :=
  let b := mask.testBit d
  (s.updFo d fun f => { f with skOk := b }).set R.BUD_DACT_SKOK d (if b then 1 else 0)

/-! ### Gallery shares (R191, R260) -/

/-- The shares as BUD_SHR0 to BUD_SHR2 hold them, gallery 0 first. -/
def State.sharesHeld (s : State) : List Nat :=
  [s.get R.BUD_SHR2_SH0, s.get R.BUD_SHR0_SH1, s.get R.BUD_SHR0_SH2, s.get R.BUD_SHR0_SH3, s.get R.BUD_SHR0_SH4,
   s.get R.BUD_SHR1_SH5, s.get R.BUD_SHR1_SH6, s.get R.BUD_SHR1_SH7]

/-- A write to BUD_SHR0 or BUD_SHR1: rejected where the sum would exceed 256; a change waits for the next epoch, or
behind the change that waits or moves. -/
def effShare (s : State) (j : Nat) (w : Word) : State :=
  let old := s.sharesHeld
  let b (k : Nat) : Nat := bitsOf w (8 * k) 8
  let new := if j = 0 then [b 0, b 1, b 2, b 3] ++ old.drop 5 else (old.drop 1).take 4 ++ [b 0, b 1, b 2]
  let sum := new.foldl (· + ·) 0
  if 256 < sum then s.raise R.BUD_FLT_SHRBAD
  else if new = old.drop 1 then s
  else
    let s := s.set R.BUD_SHR2_SH0 0 (256 - sum)
    let s := if j = 0 then (((s.set R.BUD_SHR0_SH1 0 (b 0)).set R.BUD_SHR0_SH2 0 (b 1)).set R.BUD_SHR0_SH3 0 (b 2)).set
        R.BUD_SHR0_SH4 0 (b 3)
      else ((s.set R.BUD_SHR1_SH5 0 (b 0)).set R.BUD_SHR1_SH6 0 (b 1)).set R.BUD_SHR1_SH7 0 (b 2)
    let all := (256 - sum) :: new
    if s.flag R.BUD_SHR2_PEND then { s with bud := { s.bud with heldW := some all } }
    else { s.set R.BUD_SHR2_PEND 0 1 with bud := { s.bud with pend := some all } }

/-- The limits of one district move in a die period, in ascending order; with the last one the move ends. -/
def State.shareMove (s : State) : State :=
  match s.bud.moving with
  | none => s
  | some m =>
    let s := s.updBk m fun b => { b with shares := s.bud.shares }
    if m + 1 < s.cfg.n then { s with bud := { s.bud with moving := some (m + 1) } }
    else
      let h := s.bud.heldW
      { s.set R.BUD_SHR2_PEND 0 (if h.isSome then 1 else 0) with
        bud := { s.bud with moving := none, pend := h, heldW := none } }

/-- At a budget epoch boundary the pending shares take effect and their move begins. -/
def State.shareEpoch (s : State) : State :=
  match s.bud.moving, s.bud.pend with
  | none, some l => { s with bud := { s.bud with shares := l, pend := none, moving := some 0 } }
  | _, _ => s

/-! ### One die period (R251 to R256, R259, R263 to R266) -/

/-- The conditions of the ended die period on the throttle-free interval (R266). -/
def State.markInterval (s : State) : State :=
  let any (p : Nat → Bool) : Bool := s.districts.any p
  let b := s.bud
  let act := any fun d => s.isOn d && ((s.foS d).sk != 0 || (s.foS d).divc != 0 || (s.foS d).pv != 0)
  { s with bud := { b with
      ivNoGrp := b.ivNoGrp || s.devSt != devRun || !b.gmode
      ivSafe := b.ivSafe || s.devSt == devHold || s.devSt == devOff || s.flag R.GRP_STAT_COOLLOSS
      ivAbsl := b.ivAbsl || b.tra != 0
      ivCapt := b.ivCapt || any fun d => s.get R.DST_FO_THR_THRQ d != 0
      ivThrm := b.ivThrm || any fun d => s.get R.THM_DLVL_TH d != 0
      ivThr := b.ivThr || act } }

/-- The currents of the ended die period enter the history, and the means are shown. -/
def State.closeMeans (s : State) : State :=
  let c := s.classCodes
  let dc := s.dieCode
  let b := s.bud
  let s := { s with bud := { b with
      hist := ((c.getD 0 0, c.getD 1 0, c.getD 2 0, dc) :: b.hist).take 100, dSum := b.dSum + dc, dCnt := b.dCnt + 1,
      cSum := ([0, 1, 2] : List Nat).map fun k => b.cSum.getD k 0 + c.getD k 0 } }
  let m := s.means
  let s := (s.setSat R.BUD_MEAN0_CMEAN 0 (m.getD 0 0)).setSat R.BUD_MEAN0_MMEAN 0 (m.getD 1 0)
  (s.setSat R.BUD_MEAN1_LMEAN 0 (m.getD 2 0)).setSat R.BUD_MEAN1_DMEAN 0 (m.getD 3 0)

/-- The reduction targets held in BUD_TRC0, BUD_TRC1 and BUD_TRQ. -/
def State.trc (s : State) : List Nat := [s.get R.BUD_TRC0_TRCC, s.get R.BUD_TRC0_TRCM, s.get R.BUD_TRC1_TRCL]
def State.setTargets (s : State) (trc : List Nat) (trd tra : Nat) : State :=
  let s := ((s.set R.BUD_TRC0_TRCC 0 (trc.getD 0 0)).set R.BUD_TRC0_TRCM 0 (trc.getD 1 0)).set R.BUD_TRC1_TRCL 0 (trc.getD 2 0)
  let s := (s.set R.BUD_TRQ_TRD 0 trd).set R.BUD_TRQ_TRA 0 tra
  { s with bud := { s.bud with tra := tra } }

/-- The residual excesses, classes and die. -/
def State.residuals (s : State) : List Nat × Nat :=
  let m := s.means
  let exc := ([0, 1, 2] : List Nat).map fun c => (m.getD c 0 : Int) - s.classCap c
  let spare := ([0, 1, 2] : List Nat).map fun c => s.classCap c - m.getD c 0
  let md := m.getD 3 0
  let lend := (s.bud.gmode || s.flag R.BUD_CTL_REALLOC) && decide (md ≤ s.dieCap)
  (if lend then realloc exc spare s.order else exc.map Int.toNat, md - s.dieCap)

/-- Targets and residuals of a die period. -/
def State.updateTargets (s : State) : State :=
  let m := s.means
  let gm := s.bud.gmode
  let re := s.flag R.BUD_CTL_REALLOC
  let (rx, rxD) := s.residuals
  let kb := s.get R.BUD_CTL_KB
  let rel := s.get R.BUD_PRIO_REL
  let exc (c : Nat) : Int :=
    let e : Int := (m.getD c 0 : Int) - s.classCap c
    if re && decide (0 < e) then rx.getD c 0 else e
  let trc := if gm then [0, 0, 0] else ([0, 1, 2] : List Nat).map fun c => trStep (s.trc.getD c 0) (exc c) kb rel
  let trd := if gm then 0 else trStep (s.get R.BUD_TRQ_TRD) ((m.getD 3 0 : Int) - s.dieCap) kb rel
  let id := s.dieCode
  let lim := s.get R.BUD_DCAP_ABS
  let tra := if lim < id then min 0x3000 (s.bud.tra + (id - lim)) else s.bud.tra - rel
  let s := s.setTargets trc trd tra
  let s := (s.raiseIf (trd != 0) R.BUD_FLT_DIEBIND).raiseIf (trc.any (· != 0)) R.BUD_FLT_CLSBIND
  let s := s.raiseIf (tra != 0) R.BUD_FLT_ABSLIM
  let res := if gm || re then rx.foldl max rxD else 0
  let s := (s.setSat R.GRP_STAT_RESID 0 res).set R.GRP_STAT_HOLDBK 0 (if gm && res != 0 then 1 else 0)
  let b := s.bud
  { s with bud := { b with rx := rx, rxD := rxD, excOn := if gm && res != 0 then b.excOn + 1 else 0,
                           excOff := if gm && res == 0 then b.excOff + 1 else 0 } }

/-- The reductions of the districts and the targets of their actuators (R253 to R256). In group mode a throttle, the absolute limit
and SAFE_HOLD, which holds SK at SKIP_MAX, override the group frequency (R265). -/
def State.allocate (s : State) : State :=
  let tot := if s.bud.gmode then [0, 0, 0] else s.totals s.trc (s.get R.BUD_TRQ_TRD)
  let reqs := s.districts.map fun d => (s.rbOf (tot.getD (s.classOf d) 0) d, s.raOf s.bud.tra d)
  let ovr := s.districts.any fun d =>
    s.get R.DST_FO_THR_THRQ d != 0 || s.get R.THM_DLVL_TH d != 0 || (reqs.getD d (0, 0)).2 != 0
  let s := s.raiseIf (s.bud.gmode && (ovr || s.devSt == devHold)) R.GRP_FLT_OVR
  s.each s.districts fun s d =>
    let (rb, ra) := reqs.getD d (0, 0)
    let red := max (max rb (s.get R.DST_FO_THR_THRQ d)) (max (s.get R.THM_DLVL_TH d) ra)
    (s.updFo d fun f => { f with rb := rb, ra := ra }).actTarget d red

/-! ### The budget epoch (R261, R262, R264, R266) -/

/-- The ended interval is judged by the three conditions of R266 and loaded in GRP_IVL, with the causes of one that was not
throttle-free. -/
def State.closeInterval (s : State) : State :=
  let b := s.bud
  let tf := !(b.ivNoGrp || b.ivFchg || b.ivThr)
  let bit (c : Bool) : Nat := if c && !tf then 1 else 0
  let s := (((s.set R.GRP_IVL_VALID 0 1).set R.GRP_IVL_TF 0 (if tf then 1 else 0)).set R.GRP_IVL_NOGRP 0 (bit b.ivNoGrp)).set
    R.GRP_IVL_FCHG 0 (bit b.ivFchg)
  let s := ((s.set R.GRP_IVL_CAPT 0 (bit b.ivCapt)).set R.GRP_IVL_THRM 0 (bit b.ivThrm)).set R.GRP_IVL_ABSL 0 (bit b.ivAbsl)
  let s := (s.set R.GRP_IVL_SAFE 0 (bit b.ivSafe)).set R.GRP_IVL_EPOCH 0 s.dev.epoch
  let s := if b.gmode && !tf then (s.inc R.GRP_CNT_NTF).raise R.GRP_FLT_NOTTF else s
  { s with bud := { b with ivNoGrp := false, ivFchg := false, ivCapt := false, ivThrm := false, ivAbsl := false,
                           ivSafe := false, ivThr := false } }

/-- The residuals, and what GRP_STAT shows of them, are 0. -/
def State.noResidual (s : State) : State :=
  let s := (s.set R.GRP_STAT_HOLDBK 0 0).set R.GRP_STAT_RESID 0 0
  { s with bud := { s.bud with rx := [0, 0, 0], rxD := 0 } }

/-- GMODE and GFREQ take effect. At entry to group mode every TRC, TRD and RB is 0 (R262, R263); DESIGN CHOICE (assumption 133): the
residuals of group mode are formed from the next die period boundary on, and are 0 until then. The interval that begins is one
in RUN or not as the device stands on the boundary (R266). -/
def State.groupEpoch (s : State) : State :=
  let gm := s.flag R.GRP_CTL_GMODE
  let gf := s.get R.GRP_CTL_GFREQ
  let was := s.bud.gmode
  let s := if gm && !was then (s.setTargets [0, 0, 0] 0 s.bud.tra).noResidual else s
  let s := if was && !gm then (s.set R.GRP_STAT_EXC 0 0).noResidual else s
  let s := (s.set R.GRP_STAT_ACTIVE 0 (if gm then 1 else 0)).set R.GRP_FREQ_NOW_GRATIO 0 (if gm then gf else 0x80)
  let fchg := gm && was && gf != s.bud.gfreq
  let s := { s with bud := { s.bud with
    gmode := gm, gfreq := gf, ivFchg := fchg, ivNoGrp := !gm || s.devSt != devRun,
    excOn := if gm && was then s.bud.excOn else 0, excOff := if gm && was then s.bud.excOff else 0 } }
  if gm && !was then s.allocate else s

/-- Every gallery's count of its quota starts again. -/
def State.quotaReset (s : State) : State := s.each (List.range 8) fun s g => s.set R.BUD_GCNT_COUNT g 0

/-! ### Rows -/

/-- The residual has been non-zero in EXC_T die periods (R264). -/
def effExcursion (s : State) : State :=
  if s.bud.gmode && !s.flag R.GRP_STAT_EXC && decide (s.budLat.excT ≤ s.bud.excOn) then
    let s := ((s.set R.GRP_STAT_EXC 0 1).raise R.GRP_FLT_GEXC).inc R.GRP_CNT_EXCURSIONS
    let s := (s.event 0x0008 (s.get R.GRP_STAT_RESID)).irqAll 2 0x0E
    { s with bud := { s.bud with excEpoch := true } }
  else s

/-- The residual has been zero in EXC_T die periods (R264). -/
def effExcursionEnd (s : State) : State :=
  if s.flag R.GRP_STAT_EXC && decide (s.budLat.excT ≤ s.bud.excOff) then s.set R.GRP_STAT_EXC 0 0 else s

/-- COOLANT_OK has been low for 1.0 µs (R268, R269). -/
def effCoolant (s : State) : State :=
  let s := { s with bud := { s.bud with coolPin := false }, flt := { s.flt with relOk := s.flt.relOk.erase clsCoolant } }
  if s.coolPinSel && s.dev.released then s.coolLoss (srcOf 8 0) else s

/-- An owner write of 1 to COOLLOSS, with the level of COOLANT_OK (R269); an injected cause waits for OREL (R417). -/
def effCoolClear (s : State) (pinHigh : Bool) : State :=
  let s := { s with bud := { s.bud with coolPin := pinHigh } }
  if (!s.coolPinSel || pinHigh) && (!s.coolAlertSel || s.alertGood) then
    let s := s.set R.GRP_STAT_COOLLOSS 0 0
    (if s.flt.injected.contains clsCoolant then s else s.clearOff clsCoolant).offCheck
  else s

/-- BUD_CTL.CNT_CLR (R271). -/
def effBudClr (s : State) : State := (s.set R.GRP_CNT_EXCURSIONS 0 0).set R.GRP_CNT_NTF 0 0

/-! ### The meanings -/

def execGroupExcursion (s : State) : Host.Outcome State Fault Refusal := .next (effExcursion s)

def execGroupExcursionEnd (s : State) : Host.Outcome State Fault Refusal := .next (effExcursionEnd s)

def execCoolantLoss (s : State) : Host.Outcome State Fault Refusal := .next (effCoolant s)

def execCoollossClear (g : Gal) (pinHigh : Bool) (s : State) : Host.Outcome State Fault Refusal :=
  .next (s.hostRow g R.GRP_STAT_COOLLOSS 0 1 fun s => effCoolClear s pinHigh)

def execShareWrite (g : Gal) (j : Nat) (w : Word) (s : State) : Host.Outcome State Fault Refusal :=
  .next (if j < 2 then s.hostWrite g (R.BUD_SHR0_SH1.base + 4 * j) w fun s => s.ifPriv g 0x0D (effShare · j w) else s)

def execBudCntClr (g : Gal) (s : State) : Host.Outcome State Fault Refusal :=
  .next (s.hostRow g R.BUD_CTL_CNT_CLR 0 1 effBudClr)

end Sys2Proof.Machine
end

