-- ==== Sys2Proof/Machine/Failover.lean ====
section
/-!
DEFINITION. Current sharing and failover (R233 to R247): the capacity latched at a district period boundary, the caps of
the cells, the capacity throttle, the floor test, and orderly darkening.
-/
namespace Sys2Proof.Machine

/-! ### Capacity at a district period boundary (R203, R236, R237, R245) -/

/-- The available cells of a district now, as a mask, and the good phases of its cells. -/
def State.availMask (s : State) (d : Nat) : Nat :=
  (List.range 16).foldl (fun m c => if s.avail (cellIx d c) then m + 2 ^ c else m) 0
def State.phasesNow (s : State) (d : Nat) : Tab Nat := (List.range 16).map fun c => (c, popN 4 (s.good (cellIx d c)))

/-- The losses noted since the last boundary: a phase removed from a cell that was lost counts with the cell. -/
def FoS.losses (f : FoS) : Nat :=
  f.lossC.foldl (fun n p => n + p.2) 0 + f.lossP.foldl (fun n p => if tabAt f.lossC p.1 = 0 then n + p.2 else n) 0

/-- Availability and good phases are latched; the losses are counted; the books take the new capacity. -/
def State.latchCap (s : State) (d : Nat) : State :=
  let f := s.foS d
  let av := s.availMask d
  let gp := s.phasesNow d
  let chg := f.avail != av || f.goodPh != gp
  let n := f.losses
  let s := if n = 0 then s else (s.inc R.DST_FO_CNT_LOSSES d n).raise R.DST_FLT_CAPLOSS d
  let s := s.updFo d fun f => { f with avail := av, goodPh := gp, lossC := [], lossP := [] }
  let held := (s.bk d).grants.length
  let s := s.capUpdate d chg
  let s := s.updFo d fun f => { f with revNow := held - (s.bk d).grants.length }
  let ph := s.goodPhases d
  let s := (s.set R.DST_FO_STAT_NAVAIL d (popN 16 av)).set R.DST_FO_STAT_GOODPH d (ph.foldl (· + ·) 0)
  s.setSat R.DST_FO_STAT_CAP d (s.bk d).cap

/-! ### At a die period boundary (R233, R238 to R242) -/

/-- The currents of the cells over the ended die period, from which the caps of the next one follow; the sums start again. -/
def State.closeCaps (s : State) (d : Nat) : State :=
  let sums := (List.range 16).map fun c => (c, (s.cell (cellIx d c)).curSum)
  let cnt := (s.lw d).imCnt
  let s := s.updFo d fun f => { f with capSum := sums.filter fun x => x.2 != 0, capCnt := cnt }
  s.each (cellsOf d) fun s c => if (s.cell c).curSum = 0 then s else s.updCell c fun x => { x with curSum := 0 }

/-- The throttle request (R238), and NORMAL or THROTTLED with it (R239, R244). -/
def State.throttle (s : State) (d : Nat) : State :=
  let st := s.get R.DST_FO_STAT_STATE d
  if 2 ≤ st then s
  else if !s.inService' d then
    (s.set R.DST_FO_THR_THRQ d 0).set R.DST_FO_STAT_STATE d 0
  else
    let exc : Int := ((s.bk d).imeas : Int) - ((s.bk d).cap - s.get R.DST_FO_CFG1_THR_MARGIN d : Int)
    let q := s.get R.DST_FO_THR_THRQ d
    let q' := if 0 < exc then min 0xFFF (q + exc.toNat) else q - min (s.get R.DST_FO_CFG1_THR_REL d) (-exc).toNat
    let s := (s.set R.DST_FO_THR_THRQ d q').setI R.DST_FO_THR_EXC d (clampTo (-0x7FF) 0x7FF exc)
    let s := s.raiseIf (st == 0 && q' != 0) R.DST_FLT_CAPTHR d
    s.set R.DST_FO_STAT_STATE d (if q' = 0 then 0 else 1)

/-- The smallest FLOOR_T of a list of districts. -/
def State.floorT (s : State) (l : List Nat) : Nat := l.foldl (fun m e => min m (s.foS e).floorT) 0xFF

/-- The floor test of a coupling group (R240 to R242): one count for its members. -/
def State.floorTest (s : State) (members : List Nat) : State :=
  let part := if s.devSt == devOff then [] else members.filter s.inService'
  let cap := part.foldl (fun n e => n + (s.bk e).cap) 0
  let floor := part.foldl (fun n e => if s.flag R.DST_FO_CTL_FLOOR_EN e then n + (s.foS e).floor else n) 0
  let fail := !part.isEmpty && (decide (cap < floor) || cap == 0)
  let q0 := (s.foS (members.headD 0)).qual
  let supply := s.isSupply (members.headD 0)
  let q := if !fail then 0 else if supply then min (s.floorT part + 1) (q0 + 1) else q0 + 1
  s.each members fun s e =>
    let s := s.updFo e fun f => { f with qual := q, supRep := f.supRep && fail }
    (s.setSat R.DST_FO_THR_QUALCNT e q).set R.DST_FO_STAT_QUAL e (if fail then 1 else 0)

/-- The first members of the coupling groups. -/
def State.groupHeads (s : State) : List Nat := s.districts.filter fun d => (s.inGroup d).head? == some d

/-- Throttle and floor tests of the die. -/
def State.failover (s : State) : State :=
  let s := s.each s.districts State.throttle
  s.each s.groupHeads fun s d => s.floorTest (s.inGroup d)

/-! ### Darkening (R243, R244) -/

/-- One district begins darkening (R243, 0 ns). Grants that R203 revoked on this boundary count with those that it removes
(R246). -/
def State.darken (s : State) (d : Nat) : State :=
  let gs := (s.bk d).grants
  let n := (s.foS d).revNow + gs.length
  let cap := s.get R.DST_FO_STAT_CAP d
  let run := s.computes d
  let s := gs.foldl (fun s g => s.revoke d g) s
  let s := ((s.set R.DST_FO_STAT_STATE d 2).set R.DST_FO_THR_THRQ d 0xFFF).raise R.DST_FLT_DARK d
  let s := if s.get R.LOOP_TST_CTL_DIST == d then s.tstStop 4 else s
  let s := (s.endWait d).updPw d fun x => { x with step := .idle, reqEntry := false }
  let s := (s.set R.PWR_DSTAT_TPEND d 0).set R.PWR_DSTAT_STEP d 0
  let s := s.updFo d fun f => { f with darkStep := 1, darkRun := run, revoked := n, revNow := 0 }
  let s := (s.actTarget d 0xFFF).report clsDark 0 (srcOf 2 d)
  s.event 0x0006 (d + 256 * s.get R.DST_FO_STAT_NAVAIL d + 65536 * s.get R.DST_FO_STAT_GOODPH d)
    (cap + 65536 * (s.foS d).floor) n

/-- Whether a member of a qualified group darkens with it: ON, or in switch-on. -/
def State.darkens (s : State) (d : Nat) : Bool :=
  (s.isOn d || s.inSwitchOn d) && decide (s.get R.DST_FO_STAT_STATE d < 2)

/-- The floor test has qualified beyond FLOOR_T (R241, R243): every member of the group that is ON begins darkening. -/
def effDarkenBegin (s : State) (d : Nat) : State :=
  if s.qualified d && !s.isSupply d && s.devSt != devOff
  then (s.each ((s.inGroup d).filter s.darkens) State.darken).qualHold d else s

/-- 1,000 ns into darkening (R243): clocks, then clamps; the Forecaster elements of f are 0. -/
def effDarkenIsolate (s : State) (d : Nat) : State :=
  if s.get R.DST_FO_STAT_STATE d == 2 && (s.foS d).darkStep == 1 then
    let s := (s.set R.PWR_DSTAT_CSTOP d 1).set R.PWR_DSTAT_ISO d 1
    (s.updFc d fun x => { x with out := ⟨minExp, []⟩ }).updFo d fun f => { f with darkStep := 2 }
  else s

/-- 1,100 ns into darkening (R243): the stop orders, and the OFF entry from the step after isolation. -/
def effDarkenStop (s : State) (d : Nat) : State :=
  if s.get R.DST_FO_STAT_STATE d == 2 && (s.foS d).darkStep == 2 then
    let s := s.each (cellsOf d) fun s c => s.sendStop c
    let s := ((s.thDisarm d).anvilsOff d).driveState d 0
    let s := (s.pwrStep d .entCells 2).updPw d fun x => { x with toRetain := false }
    s.updFo d fun f => { f with darkStep := 3, darkRun := false }
  else s

/-- The OFF entry of a darkening district is complete (R244). -/
def effDarkenDone (s : State) (d : Nat) : State :=
  if s.get R.DST_FO_STAT_STATE d == 2 && (s.foS d).darkStep == 3 then
    let s := (s.offDone d).set R.DST_FO_STAT_STATE d 3
    let s := (s.inc R.DST_FO_CNT_DARKS d).set R.DST_FO_THR_THRQ d 0
    (s.updFo d fun f => { f with darkStep := 0 }).sleepProgress (s.zoneOf d)
  else s

/-- The floor test of the supply group has qualified (R242): reported once until the test has passed. -/
def effSupcap (s : State) : State :=
  let d := s.cfg.ccsup
  if s.qualified d then
    (s.each s.supply fun s e => s.updFo e fun f => { f with supRep := true }).report clsSupcap 0 (srcOf 2 d)
  else s

/-- A write of 1 to RESTART (R244): only a DARK district acts; the QUALCNT that it sets to 0 is that of its group (R241). -/
def effDarkRestart (s : State) (d : Nat) : State :=
  if s.get R.DST_FO_STAT_STATE d == 3 then
    let s := ((s.foNormal d).qualZero d).inc R.DST_FO_CNT_RESTARTS d
    let s := (s.setTgt d 2).updPw d fun x => { x with failed := false }
    if s.noPursuit then s else s.pursue d
  else s

/-! ### The meanings -/

def execDarkeningBegin (d : Nat) (s : State) : Host.Outcome State Fault Refusal := onDist s d (effDarkenBegin s d)

def execDarkeningIsolate (d : Nat) (s : State) : Host.Outcome State Fault Refusal := onDist s d (effDarkenIsolate s d)

def execDarkeningStop (d : Nat) (s : State) : Host.Outcome State Fault Refusal := onDist s d (effDarkenStop s d)

def execDarkeningComplete (d : Nat) (s : State) : Host.Outcome State Fault Refusal := onDist s d (effDarkenDone s d)

def execSupcapFault (s : State) : Host.Outcome State Fault Refusal := .next (effSupcap s)

def execDarkRestart (g : Gal) (d : Nat) (s : State) : Host.Outcome State Fault Refusal :=
  onDist s d (s.hostRow g R.DST_FO_CTL_RESTART d 1 fun s => effDarkRestart s d)

end Sys2Proof.Machine
end

