-- ==== Sys2Proof/Machine/Rings.lean ====
section
/-!
DEFINITION. External memory (R396 to R403): the rings of the galleries, the memory write port, telemetry records, and the
capture engine.
-/
namespace Sys2Proof.Machine

/-! ### Rings (R397) -/

/-- A ring by its number: 2g telemetry, 2g + 1 capture of gallery g. -/
def ringIx (g : Nat) (capture : Bool) : Nat := 2 * g + (if capture then 1 else 0)

def State.ring (s : State) (r : Nat) : RingS := tabAt s.rings r
def State.updRing (s : State) (r : Nat) (f : RingS → RingS) : State := { s with rings := tabUpd s.rings r f }

/-- The fields of a ring in its GAL page. -/
def ringEn (r : Nat) : Fld := if r % 2 = 0 then R.GAL_TBASE0_EN else R.GAL_CBASE0_EN
def ringHead (r : Nat) : Fld := if r % 2 = 0 then R.GAL_TPTR_HEAD else R.GAL_CPTR_HEAD
def ringTail (r : Nat) : Fld := if r % 2 = 0 then R.GAL_TPTR_TAIL else R.GAL_CPTR_TAIL

/-- Whether a ring is enabled. -/
def State.ringOn (s : State) (r : Nat) : Bool := s.flag (ringEn r) (r / 2)

/-- The entries of a ring, and the size of one in bytes. -/
def State.ringLen (s : State) (r : Nat) : Nat := 2 ^ (s.ring r).log2
def entrySize (r : Nat) : Nat := if r % 2 = 0 then 512 else 2048

/-- The entries that a ring can take now: it is full when (HEAD + 1) mod 2^LOG2 = TAIL. -/
def State.ringRoom (s : State) (r : Nat) : Nat :=
  let n := s.ringLen r
  let head := s.get (ringHead r) (r / 2)
  let tail := s.get (ringTail r) (r / 2)
  (tail + 2 * n - 1 - head % n) % n - (s.ring r).queue.length

/-! ### The capture buffer (R402, R403) -/

/-- The chunks that the buffer holds: waiting for the ring, in the ring and not passed by HEAD, the one being filled, and
a gap chunk that is open. -/
def State.chunksHeld (s : State) : Nat :=
  s.cap.chunks.length + (s.ring (ringIx s.cap.gal true)).queue.length + (if s.cap.frames.isEmpty then 0 else 1)
    + (if s.cap.gapHeld then 1 else 0)

/-- CAP_STAT.BUFCH follows. -/
def State.bufch (s : State) : State := s.setSat R.CAP_STAT_BUFCH 0 s.chunksHeld

/-- A chunk: its header and its frames. -/
def CapS.chunk (c : CapS) (trigd : Bool) (kind nfr period lost : Nat) (body : List Byte) : List Byte :=
  [BitVec.ofNat 8 kind, BitVec.ofNat 8 c.nch] ++ leBytes 2 nfr ++ leBytes 4 c.seq ++ leBytes 8 period ++ leBytes 4 lost
    ++ [BitVec.ofNat 8 c.div, BitVec.ofNat 8 (if trigd then c.trig else 0xFF)] ++ leBytes 2 0
    ++ leBytes 8 (if trigd then c.tper else 0) ++ fit 2016 body

/-- A chunk closes and waits for the ring. -/
def State.putChunk (s : State) (kind nfr period lost : Nat) (body : List Byte) : State :=
  let b := s.cap.chunk (s.flag R.CAP_STAT_TRIGD) kind nfr period lost body
  { s with cap := { s.cap with chunks := s.cap.chunks ++ [b], seq := s.cap.seq + 1 } }

/-- Closed chunks enter the ring while it has room; with a gap chunk the flags of R403 set. -/
def State.capFeed (s : State) : Nat → State
  | 0 => s
  | n + 1 =>
    let r := ringIx s.cap.gal true
    match s.cap.chunks with
    | [] => s
    | b :: rest =>
      if s.ringOn r && decide (0 < s.ringRoom r) then
        let s := { s.updRing r fun x => { x with queue := x.queue ++ [(b, 0, 0)] } with cap := { s.cap with chunks := rest } }
        let s := if (b.getD 0 0).toNat = 3 then
            (((s.raise R.CAP_FLT_GAP).raise R.GAL_FLT_CGAP s.cap.gal).irq s.cap.gal 0)
          else s
        s.capFeed n
      else s

/-- The frames of a chunk. -/
def CapS.perChunk (c : CapS) : Nat := 2016 / (2 * c.nch)

/-- The chunk being filled closes. -/
def State.closeChunk (s : State) : State :=
  match s.cap.frames with
  | [] => s
  | f :: r =>
    let body := (f :: r).flatMap fun x => x.2.flatMap (leBytes 2)
    { s.putChunk 2 (r.length + 1) f.1 0 body with cap := { (s.putChunk 2 (r.length + 1) f.1 0 body).cap with frames := [] } }

/-- An open gap record closes as a chunk. -/
def State.closeGap (s : State) : State :=
  if s.cap.gapOpen then
    let s := s.putChunk 3 0 s.cap.gapPer (satU 32 s.cap.gapLost) []
    { s with cap := { s.cap with gapOpen := false, gapHeld := false, gapLost := 0 } }
  else s

/-- The first chunk that becomes free takes an open gap (R403). -/
def State.holdGap (s : State) : State :=
  if s.cap.gapOpen && !s.cap.gapHeld && decide (s.chunksHeld < 128) then { s with cap := { s.cap with gapHeld := true } } else s

/-- A frame is stored, or dropped where the present chunk is full and no chunk is free. -/
def State.storeFrame (s : State) (f : Nat × List Nat) : State :=
  let s := s.holdGap
  if s.cap.frames.isEmpty && decide (128 ≤ s.chunksHeld) then
    let c := s.cap
    let s := s.setSat R.CAP_LOST_SAMPLES 0 (s.get R.CAP_LOST_SAMPLES + c.nch)
    { s with cap := { c with gapOpen := true, gapPer := if c.gapOpen then c.gapPer else f.1, gapLost := c.gapLost + c.nch } }
  else
    let s := s.closeGap
    let s := { s with cap := { s.cap with frames := s.cap.frames ++ [f] } }
    if s.cap.perChunk ≤ s.cap.frames.length then s.closeChunk else s

/-! ### The capture engine (R400, R401) -/

/-- CAP_STAT.STATE codes. -/
abbrev capIdle : Nat := 0
abbrev capArmed : Nat := 1
abbrev capRun : Nat := 2
abbrev capDrain : Nat := 3
abbrev capDone : Nat := 4

/-- Source, district and index of a channel. -/
def State.chSel (s : State) (k : Nat) : Nat × Nat × Nat :=
  let w := s.word (R.CAP_CHSEL0_SRC0.base + 4 * (k / 2)) 0
  let o := 16 * (k % 2)
  (bitsOf w (o + 12) 4, bitsOf w (o + 6) 6, bitsOf w o 6)

/-- A value as a 16-bit sample. -/
def sample16 (x : Int) : Nat := codeOf 16 x

/-- The sample of a channel (R400). -/
def State.capSample (s : State) (src d ix : Nat) : Nat :=
  if s.cfg.n ≤ d then 0
  else
    let l := s.lw d
    let h := s.hubOf d
    match src with
    | 0x1 => sample16 (l.applied.getD ix 0)
    | 0x2 => sample16 (l.lastY.getD ix 0)
    | 0x3 => sample16 (l.lastR.getD ix 0)
    | 0x4 => sample16 (clampTo (-32768) 32767 (l.lastF.getD ix 0))
    | 0x5 => h.min % 65536
    | 0x6 => l.vref % 65536
    | 0x7 => sample16 s.tst.g
    | 0x8 => h.droop.getD ix 0 % 65536
    | 0x9 => s.comShown d s.dev.slot % 65536
    | 0xA => s.thSt d + 4 * s.get R.DST_TH_STAT_ANV_RDY d
    | _ => 0

/-- Whether a sample lies below CAP_TRIG.LEVEL, as signed codes for the signed sources f and g. -/
def State.levelMet (s : State) (v : Nat) : Bool :=
  let lev := s.get R.CAP_TRIG_LEVEL
  let src := (s.chSel 0).1
  if src = 4 ∨ src = 7 then decide (signedOf 16 v < signedOf 16 lev) else decide (v < lev)

/-- A frame of the engine while it keeps the frames before the trigger, or runs. -/
def State.capFrame (s : State) (f : Nat × List Nat) : State :=
  let s := if s.get R.CAP_STAT_STATE == capArmed && s.cap.trig == 5 && s.levelMet (f.2.getD 0 0) then s.capRuns else s
  let c := s.cap
  let st := s.get R.CAP_STAT_STATE
  if st = capArmed then { s with cap := { c with preBuf := (c.preBuf ++ [f]).drop (c.preBuf.length + 1 - c.pre) } }
  else if st = capRun ∧ c.trigDue then
    let s := { s with cap := { c with tper := f.1, trigDue := false, preBuf := [], left := c.post - 1 } }
    (c.preBuf ++ [f]).foldl State.storeFrame s
  else if st = capRun ∧ (c.post = 0 ∨ 0 < c.left) then
    ({ s with cap := { c with left := c.left - 1 } }).storeFrame f
  else s

/-- The engine in district period `n`: a frame in every DIV + 1 periods. -/
def State.capPeriod (s : State) (n : Nat) : State :=
  let st := s.get R.CAP_STAT_STATE
  if st != capArmed && st != capRun then s
  else if 0 < s.cap.divCnt then { s with cap := { s.cap with divCnt := s.cap.divCnt - 1 } }
  else
    let f := (List.range s.cap.nch).map fun k => let x := s.chSel k; s.capSample x.1 x.2.1 x.2.2
    let s := { s with cap := { s.cap with divCnt := s.cap.div } }
    ((s.capFrame (n, f)).capFeed 128).bufch

/-- Once the engine has stopped, an open gap closes as soon as it has its chunk, and the end chunk follows (R401). DESIGN CHOICE
(assumption 46): where the buffer is full, each takes the next chunk that becomes free. -/
def State.capEnd (s : State) : State :=
  if s.get R.CAP_STAT_STATE == capDrain && !s.cap.endPut then
    let s := s.holdGap
    let s := if s.cap.gapHeld then s.closeGap else s
    if s.cap.gapOpen || decide (128 ≤ s.chunksHeld) then s
    else
      let s := s.putChunk 4 0 0 0 []
      { s with cap := { s.cap with endPut := true } }
  else s

/-- The engine stops: the last data chunk and an open gap close, and an end chunk follows. -/
def State.capStop (s : State) : State :=
  let pre := s.cap.preBuf
  let s := pre.foldl State.storeFrame { s with cap := { s.cap with preBuf := [], trigDue := false } }
  let s := s.closeChunk.set R.CAP_STAT_STATE 0 capDrain
  ({ s with cap := { s.cap with left := 0 } }.capEnd.capFeed 128).bufch

/-- A TRIG that is not used sets CFGSAT and is treated as 0x0 (R401). -/
def State.trigCheck (s : State) : State := s.raiseIf (decide (5 < s.get R.CAP_CTL_TRIG)) R.CAP_FLT_CFGSAT

/-- A write of 1 to CAP_CTL.ARM (R401). -/
def effCapArm (s : State) : State :=
  let st := s.get R.CAP_STAT_STATE
  let g := s.get R.CAP_CTL_GAL
  if st != capIdle && st != capDone then s.raise R.CAP_FLT_REF
  else if !s.ringOn (ringIx g true) || s.cal.stag.isSome then (s.set R.CAP_CTL_ARM 0 0).raise R.CAP_FLT_REF
  else
    let t := s.get R.CAP_CTL_TRIG
    let s := s.trigCheck
    let t := if 5 < t then 0 else t
    let s := ((s.set R.CAP_CTL_ARM 0 1).set R.CAP_STAT_STATE 0 capArmed).set R.CAP_STAT_TRIGD 0 0
    let s := s.set R.CAP_LOST_SAMPLES 0 0
    let c : CapS := { gal := g, trig := t, nch := s.get R.CAP_CTL_NCHM1 + 1, div := s.get R.CAP_CTL_DIV,
                      pre := s.get R.CAP_CTL_PRE, post := s.get R.CAP_LEN_POST }
    let s := { s with cap := c }
    (if t = 0 then s.capRuns else s).bufch

/-- A write of 0 to ARM. -/
def effCapDisarm (s : State) : State :=
  let st := s.get R.CAP_STAT_STATE
  if st = capArmed ∨ st = capRun then s.capStop else s

/-- POST frames have been taken since the trigger. -/
def effCapStop (s : State) : State :=
  if s.get R.CAP_STAT_STATE == capRun && !s.cap.trigDue && s.cap.post != 0 && s.cap.left == 0 then s.capStop else s

/-! ### The ring's EN, HEAD and TAIL -/

/-- EN of a ring rises. -/
def State.ringRise (s : State) (r : Nat) : State :=
  let g := r / 2
  let (lo, hi, lg) := if r % 2 = 0
    then (s.get R.GAL_TBASE0_BASE g, s.get R.GAL_TBASE1_BASE g, s.get R.GAL_TBASE0_LOG2 g)
    else (s.get R.GAL_CBASE0_BASE g, s.get R.GAL_CBASE1_BASE g, s.get R.GAL_CBASE0_LOG2 g)
  let s := (s.set (ringEn r) g 1).set (ringHead r) g (s.get (ringTail r) g)
  let s := s.updRing r fun x => { x with base := 2 ^ 32 * hi + 4096 * lo, log2 := lg, gen := x.gen + 1, queue := [] }
  if r % 2 = 1 ∧ s.cap.gal = g then (s.capFeed 128).bufch else s

/-- EN of a ring falls: a record being written is not completed; chunks go back to the buffer. -/
def State.ringFall (s : State) (r : Nat) : State :=
  let q := (s.ring r).queue
  let s := (s.set (ringEn r) (r / 2) 0).updRing r fun x => { x with queue := [] }
  if r % 2 = 1 ∧ s.cap.gal = r / 2 then
    { s with cap := { s.cap with chunks := q.map (fun (x : List Byte × Nat × Nat) => x.1) ++ s.cap.chunks } }.bufch
  else s

/-- A write to EN of a ring. -/
def effRingEn (s : State) (r v : Nat) : State :=
  if v = 1 ∧ !s.ringOn r then s.ringRise r else if v = 0 ∧ s.ringOn r then s.ringFall r else s

/-- A TAIL write (R397). -/
def effTail (s : State) (r tail : Nat) : State :=
  let g := r / 2
  let n := s.ringLen r
  let old := s.get (ringTail r) g
  if tail < n ∧ (tail + n - old % n) % n ≤ (s.get (ringHead r) g + n - old % n) % n then
    let s := s.set (ringTail r) g tail
    if r % 2 = 1 ∧ s.cap.gal = g then (s.capFeed 128).bufch else s
  else s.raise R.GAL_FLT_BADTAIL g

/-- Whether every write of an entry has completed. -/
def entryDone (e : List Byte × Nat × Nat) : Bool := decide (e.1.length ≤ 32 * e.2.1) && e.2.2 == 0

/-- HEAD passes the completed entries. -/
def State.advance (s : State) (r : Nat) : Nat → State
  | 0 => s
  | n + 1 =>
    match (s.ring r).queue with
    | [] => s
    | e :: rest =>
      if entryDone e then
        let g := r / 2
        let s := (s.updRing r fun x => { x with queue := rest }).set (ringHead r) g ((s.get (ringHead r) g + 1) % s.ringLen r)
        let s := if r % 2 = 0 then (s.incWrap R.TEL_CNT_RECORDS).irq g 4
          else
            let s := s.irq g 5
            if (e.1.getD 0 0).toNat = 4 ∧ s.get R.CAP_STAT_STATE = capDrain ∧ s.cap.endPut
            then (s.set R.CAP_STAT_STATE 0 capDone).set R.CAP_CTL_ARM 0 0 else s
        s.advance r n
      else s

/-! ### The memory write port (R396, R481) -/

/-- A ring is disabled by a write error, and the error is recorded, also where the ring is disabled already (R396). -/
def State.memError (s : State) (r : Nat) : State :=
  let g := r / 2
  let s := (s.ringFall r).irq g 6
  let s := if r % 2 = 0 then (s.raise R.TEL_FLT_MERR).raiseBit R.TEL_CTL_DIS 0 g else s.raise R.CAP_FLT_MERR
  s.event 0x000C g (r % 2)

/-- The first entry of a queue with a write to issue: its position. -/
def nextWrite (q : List (List Byte × Nat × Nat)) : Option Nat :=
  (List.range q.length).find? fun i => match q[i]? with
    | some e => decide (32 * e.2.1 < e.1.length)
    | none => false

/-- The rings in the order in which the port serves them: telemetry, then capture. -/
def ringOrder : List Nat := (List.range 8).map (2 * ·) ++ (List.range 8).map (2 * · + 1)

/-- One entry of a queue changed. -/
def updAt {α : Type} (l : List α) (i : Nat) (f : α → α) : List α :=
  match l[i]? with
  | some x => l.set i (f x)
  | none => l

/-- A write of 32 bytes is issued under the lowest free identifier; the port waits for the PLL (R32). -/
def effMemIssue (s : State) : State :=
  if !s.onPll then s
  else
  match ringOrder.find? fun r => (nextWrite (s.ring r).queue).isSome,
        (List.range 64).find? fun k => !(s.mw.any fun w => w.id == k) with
  | some r, some k =>
    let x := s.ring r
    let i := (nextWrite x.queue).getD 0
    let e := x.queue.getD i ([], 0, 0)
    let ent := (s.get (ringHead r) (r / 2) + i) % s.ringLen r
    let w : MemW := { id := k, ring := r, gen := x.gen, ent := ent,
                      addr := (x.base + ent * entrySize r + 32 * e.2.1) % 2 ^ 64, data := (e.1.drop (32 * e.2.1)).take 32 }
    let s := s.updRing r fun x => { x with queue := updAt x.queue i fun e => (e.1, e.2.1 + 1, e.2.2 + 1) }
    { s with mw := s.mw ++ [w] }
  | _, _ => s

/-- A completion: a write of an entry that its ring still holds counts towards HEAD; an error disables the ring; a
completion that names no write outstanding is ignored. -/
def State.memDone (s : State) (id : Nat) (err : Bool) : State :=
  match s.mw.find? fun w => w.id == id with
  | none => s
  | some w =>
    let s := { s with mw := s.mw.filter fun x => x.id != id }
    let r := w.ring
    if w.dead then s
    else if err then s.memError r
    else if (s.ring r).gen = w.gen ∧ s.ringOn r then
      let n := s.ringLen r
      let i := (w.ent + n - s.get (ringHead r) (r / 2) % n) % n
      let s := s.updRing r fun x => { x with queue := updAt x.queue i fun e => (e.1, e.2.1, e.2.2 - 1) }
      let s := s.advance r n
      if r % 2 = 1 then (s.holdGap.capEnd.capFeed 128).bufch else s
    else s

/-- A write has not completed within 1 ms: it counts as an error, and its identifier waits for its completion. -/
def effMemTimeout (s : State) (id : Nat) : State :=
  match s.mw.find? fun w => w.id == id && !w.dead with
  | none => s
  | some w =>
    let s := { s with mw := s.mw.map fun (x : MemW) => if x.id = id then { x with dead := true } else x }
    s.memError w.ring

/-! ### Telemetry (R398, R399) -/

/-- What the record takes at the boundary. -/
def State.telSnap (s : State) : State :=
  let b := s.bud
  let mean (x : Nat) : Nat := if b.dCnt = 0 then 0 else satU 16 (rdiv (x : Int) b.dCnt).toNat
  let mask (p : Nat → Bool) : Nat := s.districts.foldl (fun m d => if p d then m + 2 ^ d else m) 0
  let bit (c : Bool) (k : Nat) : Nat := if c then 2 ^ k else 0
  let gals := if s.flag R.TEL_CTL_TEL_EN
    then (List.range 8).foldl (fun m g => if s.ringOn (2 * g) then m + 2 ^ g else m) 0 else 0
  let t : TelS := {
    gals := gals,
    flags := bit (s.flag R.GRP_IVL_TF) 0 + bit b.gmode 1 + bit b.excEpoch 2 + bit b.warnEpoch 3,
    opsec := s.opsec, ticks := s.tick, dev := s.devSt, dmean := mean b.dSum, dmax := s.get R.THM_STAT_DMAX,
    cmean := b.cSum.map mean, resid := s.get R.GRP_STAT_RESID, don := mask s.isOn, dred := mask fun d => (s.foS d).redSeen,
    ivl := (s.word R.GRP_IVL_VALID.base 0).toNat, flts := b.flts,
    dist := s.districts.map fun d =>
      let f := s.foS d
      (if f.epochCnt = 0 then 0 else (rdiv (f.epochMeas : Int) f.epochCnt).toNat, s.vref d, f.epochLow) }
  let s := { s with tel := t, bud := { b with dSum := 0, cSum := [0, 0, 0], dCnt := 0, excEpoch := false, warnEpoch := false,
                                              flts := 0 } }
  s.each s.districts fun s d => s.updFo d fun f =>
    { f with epochMeas := 0, epochCnt := 0, epochLow := 0xFFFF, redSeen := false }

/-- The energies of the galleries, by the bindings in force at the boundary (R231). -/
def State.telEnergy (s : State) : State :=
  let egal (k : Nat) : Nat := s.districts.foldl (fun n d => (tabGet s.fcs d).elim n fun x =>
    x.pubEq.foldl (fun n q => if s.get R.GQ_QCTL_GAL (256 * d + q.1) = k then n + q.2 else n) n) 0
  { s with tel := { s.tel with geq := (List.range 8).map egal } }

/-- The record of a gallery, with the content that its masks hide removed. -/
def State.telRecord (s : State) (g lost : Nat) : List Byte :=
  let t := s.tel
  let seen (d : Nat) : Bool := decide (d < s.cfg.n) && s.access g (0x40 + d)
  let cut (m : Nat) : Nat := s.districts.foldl (fun a d => if seen d && m.testBit d then a + 2 ^ d else a) 0
  let attv := s.districts.foldl (fun m d => if s.flag R.FCS_DSTAT_ATTV d then m + 2 ^ d else m) 0
  let inval := s.districts.any fun d => seen d && !s.flag R.FCS_DSTAT_ATTV d
  let flags := t.flags + (if lost = 0 then 0 else 16) + (if inval then 32 else 0)
  let sum (F : Fld) : Nat := s.districts.foldl (fun n d => n + s.get F d) 0
  let egal (k : Nat) : Nat := if g = 0 ∨ g = k then t.geq.getD k 0 else 0
  [0x01, 0x01, BitVec.ofNat 8 g, BitVec.ofNat 8 flags] ++ leBytes 4 (s.get R.FCS_EPOCH_EPOCH) ++ leBytes 4 t.opsec
    ++ leBytes 2 t.ticks ++ [BitVec.ofNat 8 t.dev, 0] ++ leBytes 4 lost ++ leBytes 2 t.dmean ++ leBytes 2 t.dmax
    ++ t.cmean.flatMap (leBytes 2) ++ leBytes 2 t.resid ++ leBytes 4 (satU 32 (sum R.FCS_EMEAS_E))
    ++ leBytes 4 (satU 32 (sum R.FCS_BASEE_E)) ++ (List.range 8).flatMap (fun k => leBytes 4 (satU 32 (egal k)))
    ++ leBytes 8 (cut attv) ++ leBytes 8 (cut t.don) ++ leBytes 8 (cut t.dred) ++ leBytes 4 t.ivl ++ leBytes 4 t.flts
    ++ List.replicate 24 0#8
    ++ (List.range 64).flatMap fun d =>
        let x := if seen d then t.dist.getD d (0, 0, 0) else (0, 0, 0)
        leBytes 2 x.1 ++ leBytes 2 x.2.1 ++ leBytes 2 x.2.2

/-- The record of one gallery is written, or lost where its ring is full. -/
def State.telWrite (s : State) (g : Nat) : State :=
  let r := 2 * g
  if !s.ringOn r then s
  else if s.ringRoom r = 0 then
    let s := ((s.inc R.GAL_STAT_TLOST g).raise R.GAL_FLT_TLOST g).irq g 0
    s.updRing r fun x => { x with lost := x.lost + 1 }
  else
    let b := s.telRecord g (s.ring r).lost
    s.updRing r fun x => { x with queue := x.queue ++ [(b, 0, 0)], lost := 0 }

/-- After publication, the records of the epoch. -/
def effTelemetry (s : State) : State :=
  if s.dev.telDue then
    let s := { s with dev := { s.dev with telDue := false } }
    s.each ((List.range 8).filter fun g => s.tel.gals.testBit g) State.telWrite
  else s

/-! ### The meanings -/

def execTelemetryRecord (s : State) : Host.Outcome State Fault Refusal := .next (effTelemetry s)

def execRingEnable (g r : Gal) (capture : Bool) (s : State) : Host.Outcome State Fault Refusal :=
  let k := ringIx r capture
  .next (s.hostRow g (ringEn k) r 1 fun s => effRingEn s k 1)

def execRingTailWrite (g r : Gal) (capture : Bool) (tail : Nat) (s : State) : Host.Outcome State Fault Refusal :=
  let k := ringIx r capture
  .next (s.hostRow g (ringTail k) r tail fun s => effTail s k (tail % 65536))

def execMemoryWriteIssue (s : State) : Host.Outcome State Fault Refusal := .next (effMemIssue s)

def execMemoryWriteCompletion (id : Nat) (err : Bool) (s : State) : Host.Outcome State Fault Refusal :=
  .next (s.memDone id err)

def execMemoryWriteTimeout (id : Nat) (s : State) : Host.Outcome State Fault Refusal := .next (effMemTimeout s id)

def execCaptureArm (g : Gal) (s : State) : Host.Outcome State Fault Refusal :=
  .next (s.hostRow g R.CAP_CTL_ARM 0 1 effCapArm)

def execCaptureDisarm (g : Gal) (s : State) : Host.Outcome State Fault Refusal :=
  .next (s.hostRow g R.CAP_CTL_ARM 0 0 fun s => s.ifPriv g 0x0A fun s => effCapDisarm s)

def execCaptureStop (s : State) : Host.Outcome State Fault Refusal := .next (effCapStop s)

end Sys2Proof.Machine
end

