-- ==== Sys2Proof/Machine/Periods.lean ====
section
/-!
DEFINITION. The three periods of the root counter (R27): what comes about at a district period boundary (R108), at a die
period boundary (R142, R248) and at a budget epoch boundary (R248).
-/
namespace Sys2Proof.Machine

/-! ### A district period (R25 to R29, R108, R133, R154, R191, R200, R233) -/

/-- The reference, target and trip level sent for district boundary `n` take effect. -/
def State.setPoints (s : State) (d n : Nat) : State :=
  let l := s.lw d
  let s := if l.vAt = n ∧ 0 < n then
      (s.set R.DST_REF_VREF d l.vNext).updLaw d fun l => { l with vref := l.vNext, tgt := l.tgtNext }
    else s
  match (s.hubOf d).tripNext with
  | some (k, trip, deff) =>
    if k ≤ n then (s.set R.DST_TH_STAT_TRIP d trip).updHub d fun h => { h with tripNext := none, deff := deff } else s
  | none => s

/-- The measurement frame of a district: currents of its cells and of the district over the ended period, if one has ended. -/
def State.measure (s : State) (d n : Nat) (m : Meas) : State :=
  let s := s.each (List.range 16) fun s c =>
    let k := cellIx d c
    let v := cellCode m c
    let s := if s.get R.CEL_CUR_I_MEAS k = min v 0xFFFF then s else s.setSat R.CEL_CUR_I_MEAS k v
    if v = 0 || n == 0 then s else s.updCell k fun x => { x with curSum := x.curSum + v }
  let im := (List.range 16).foldl (fun n c => n + cellCode m c) 0
  if n = 0 then s else s.updLaw d fun l => { l with imPer := im, imSum := l.imSum + im, imCnt := l.imCnt + 1 }

/-- BOOK, COM and FREE as the registers show them take what the boundary finds (R188). -/
def State.showBook (s : State) (d : Nat) : State := s.updBk d fun b => { b with shown := b.grants }

/-- What the boundary that begins district period `n` does in one district, ahead of the law. The check of R191 fails where the
hardware upsets it, and where DBGACC has changed the ledger (R457). -/
def State.distBoundary (s : State) (d n : Nat) (m : Meas) : State :=
  let s := (((s.setPoints d n).applyRet d).latchCap d).measure d n m
  let s := (if 0 < n then s.observe d (n - 1) (s.lw d).imPer else s).showBook d
  if (m.bookErr || !(s.bk d).adj.isEmpty) && !s.imb d then s.ledgerFault d else s

/-- A district period boundary: the ended period's region selection, the test signal, the measurements, at a die period
boundary the caps of the ended die period (R233), at district period 5 the Forecaster unless gated (R105, R112), and the law of the period that
begins. ORR_STAT.RUN shows whether the Orrery computes it (R313). -/
def effDistrictPeriod (s : State) (ms : List Meas) : State :=
  if !s.dev.orrRun then s
  else
    let n := s.dev.dper
    let s := if n = 0 then s else s.each s.districts State.region
    let s := { (s.set R.ORR_STAT_DPHASE 0 (n % 10)).set R.ORR_STAT_RUN 0 (if s.dev.gated then 0 else 1) with
               dev := { s.dev with dper := n + 1 } }
    let s := s.tstEnd.tstStep
    let s := s.each s.districts fun s d => s.distBoundary d n (ms.getD d default)
    let s := if n % 10 = 0 ∧ n ≠ 0 then s.each s.districts State.closeCaps else s
    let s := if n % 10 = 5 ∧ s.dev.gated = false then (s.each s.districts State.fcEnter).each s.districts State.attribute else s
    let s := s.each s.districts State.fcMask
    let s := s.each s.districts fun s d => s.lawPeriod ms d n
    let s := s.each s.districts fun s d => let e := s.fcEligible d; s.updFc d fun x => { x with elig := x.elig && e }
    s.capPeriod n

/-! ### A die period -/

/-- The statistics of the ended die period close in one district (R132, R189, R399). -/
def State.distClose (s : State) (d : Nat) : State :=
  let low := (s.hubOf d).low
  let s := (s.closeMin d).baseUpdate d
  let im := (s.bk d).imeas
  s.updFo d fun f => { f with epochMeas := f.epochMeas + im, epochCnt := f.epochCnt + 1, epochLow := min f.epochLow low }

/-- The sums of the ended die period start again. -/
def State.restartSums (s : State) (d : Nat) : State := s.updLaw d fun l => { l with imSum := 0, imCnt := 0 }

/-- The ended die period: the interval is marked, the statistics close, and the books take BASE. -/
def State.dieClose (s : State) : State :=
  let s := (s.markInterval.each s.districts State.distClose).feedUpdate
  s.each s.districts State.restartSums

/-- What the BUD, GRP and DST_FO_CFG0 fields hold is in force from this boundary (R247, R271). -/
def State.dieLatch (s : State) : State :=
  let s := { s with bud := { s.bud with lat := some s.budNow } }
  s.each s.districts fun s d => s.updFo d fun f => { f with floor := s.get R.DST_FO_CFG0_FLOOR d, floorT := s.get R.DST_FO_CFG0_FLOOR_T d }

/-- The outputs, shares, Forecaster, failover and budget work of a boundary (R112, R191, R225, R238 to R257); `ended` where a
die period has ended. -/
def State.dieWork (s : State) (ended : Bool) (errs : List (Nat × StepErr)) (skipOk : Nat) : State :=
  let s := s.each s.districts (State.sampleSkip · skipOk)
  let s := (s.each s.districts State.drive).shareMove
  let s := (s.fcDie errs).failover
  (if ended then s.closeMeans else s).updateTargets.allocate

/-- The Contrail ports at a die period boundary: no clock of theirs is gated in DOZE (R313, R364, R368). -/
def State.diePorts (s : State) : State := s.each [0, 1, 2, 3] State.portDie

/-- The die loop, the ports, switch-ons and the end of SAFE_HOLD (R142, R159, R173, R207, R312, R313, R416). -/
def State.dieEnd (s : State) : State :=
  let s := (s.dieLoop.liftsEnd).each s.districts State.stormRearm
  let s := s.diePorts.dieSwitchOn
  let clear := s.dev.entry != 0 && !s.dev.ledgerBusy
  let s := { s with dev := { s.dev with ledgersClear := clear, ledgerBusy := !s.ledgersEmpty } }
  let s := s.holdRelease
  { s with dev := { s.dev with quiet := s.devSt == devQuiet } }

/-- A die period boundary in DOZE, where the die and budget sequencers are gated (R313): what is summed over a die period starts
again for the next one (R44, R132, R217), no step runs (R223, ORR_STAT), and none of the windows that lie in DOZE is judged or attributed
(R225, R230). -/
def State.dieGated (s : State) : State :=
  let s := s.each s.districts fun s d =>
    ((s.restartMin d).fcIdle d).updFc d fun x => { x with pred0 := none, r0 := [], elig := false }
  ((s.each s.districts State.restartSums).fcAct false).snapshot.diePorts

/-- The first die period boundary after the start of the Orrery: no die period has ended, so NVALID is formed, the samples of the
hub minimum are taken for the period that begins, and nothing closes. DESIGN CHOICE (assumption 134): MINAVG and MINLOW keep the
values that the registers hold, 0 after reset, and the die loop of this boundary works on them. -/
def State.dieFirst (s : State) : State := s.each s.districts fun s d => (s.formValid d).restartMin d

/-- A die period boundary, once at every tenth district period boundary from the first on (R27). -/
def effDiePeriod (s : State) (errs : List (Nat × StepErr)) (skipOk : Nat) : State :=
  let k := (s.dev.dper - 1) / 10
  if !s.dev.orrRun || s.dev.dper == 0 || (s.dev.dper - 1) % 10 != 0 || decide (k < s.dev.die) then s
  else
    let s := { s with dev := { s.dev with die := k + 1 } }
    if s.dev.gated then s.dieGated
    else (((if k = 0 then s.dieFirst else s.dieClose).dieLatch).dieWork (k != 0) errs skipOk).dieEnd

/-! ### A budget epoch (R226, R230, R231, R248, R260 to R266) -/

/-- The ended budget epoch: the interval, the telemetry content, the attribution epoch, gains, and DUR (R152). DESIGN CHOICE
(assumption 147): DUR counts the budget epoch boundaries since the start, so that the epoch in which the generator starts counts
as a whole one. -/
def State.epochClose (s : State) : State :=
  let s := s.closeInterval.telSnap
  let s := (s.each s.districts fun s d => (s.attClose d).trustEpoch d).telEnergy
  { s with tst := { s.tst with dur := s.tst.dur + 1 }, dev := { s.dev with pubDue := true } }

/-- A budget epoch boundary in DOZE, where the budget sequencer is gated (R313). DESIGN CHOICE (assumption 137): the sums of the
epoch, and the causes of its interval, are dropped, so that the next one that closes holds what was summed since this boundary and
nothing older. -/
def State.epochDrop (s : State) : State :=
  let s := s.each s.districts fun s d => (s.updFc d fun x => { x with eMeas := 0, eModel := 0, aq := [] }).updFo d fun f =>
    { f with epochMeas := 0, epochCnt := 0, epochLow := 0xFFFF, redSeen := false }
  { s with bud := { s.bud with dSum := 0, cSum := [0, 0, 0], dCnt := 0, excEpoch := false, warnEpoch := false, flts := 0,
                               ivFchg := false, ivCapt := false, ivThrm := false, ivAbsl := false, ivSafe := false, ivThr := false } }

/-- A budget epoch boundary, once at every thousandth die period boundary from the first on (R27). Epochs are numbered from 0 at
the first start of the Orrery after cold reset (R231). -/
def effBudgetEpoch (s : State) : State :=
  let k := (s.dev.die - 1) / 1000
  if !s.atDie || (s.dev.die - 1) % 1000 != 0 || decide (k < s.dev.ep) then s
  else
    let s := { s with dev := { s.dev with ep := k + 1 } }
    let s := if s.dev.gated then s.epochDrop else ((if k = 0 then s else s.epochClose).quotaReset.groupEpoch).shareEpoch
    { s with dev := { s.dev with epoch := s.dev.epoch + (if k = 0 then 0 else 1) } }

/-! ### The meanings -/

def execDistrictPeriod (m : List Meas) (s : State) : Host.Outcome State Fault Refusal := .next (effDistrictPeriod s m)

def execDiePeriod (errs : List (Nat × StepErr)) (skipOk : Nat) (s : State) : Host.Outcome State Fault Refusal :=
  .next (effDiePeriod s errs skipOk)

def execBudgetEpoch (s : State) : Host.Outcome State Fault Refusal := .next (effBudgetEpoch s)

end Sys2Proof.Machine
end

