-- ==== Sys2Proof/Machine/Writes.lean ====
section
/-!
DEFINITION. What a write that is answered OK does on each page (R16 to R19, R88, and the write rules of the chapters), but
for the CLK, SEC, CAL and IMG pages, PWR_CTL and GAL_FENCE: the writes that a control image's list may carry (R343), and
those of hosts.
-/
namespace Sys2Proof.Machine

/-- Bit `k` of the data of a write. -/
def bit (w : Word) (k : Nat) : Bool := w.getLsbD k

/-- The level of a pin at the write of a register, which carries none: high where the last event left the pin high. DESIGN CHOICE
(assumption 153): after an event that found it low, whether it stands high again is a free value. -/
def State.pinNow (s : State) (high : Bool) : Bool × State :=
  if high then (true, s)
  else
    let (v, s) := s.freeBits 1
    (v == 1, s)

/-- The state changed by `f` where a condition holds. -/
def State.doIf (s : State) (c : Bool) (f : State → State) : State := if c then f s else s

/-! ### The common header (R461 to R463) -/

/-- A write of 1 to PG_CTL.LOCK by a holder of the privilege (R463). -/
def effPageLock (s : State) (p : Nat) : State := if lockable p then s.set R.PG_CTL_LOCK p 1 else s

/-- A write to the common header of a page; DRZBAD of a CEL page sets again while its pair stays invalid (R80). -/
def State.hdrWrite (s : State) (priv : Bool) (addr : Nat) (w : Word) : State :=
  let p := addr / 0x1000
  if addr % 0x1000 = 0xC then s.doIf (priv && bit w 0) (effPageLock · p)
  else
    let s := s.storeReg priv addr w
    if 0x80 ≤ p ∧ p < 0xC0 then s.raiseIf (s.pairBad (p - 0x80)) R.CEL_FLT_DRZBAD (p - 0x80) else s

/-! ### Single pages -/

/-- The EXH page: TRIG and REARM (R432, R434). -/
def State.exhWrite (s : State) (priv : Bool) (addr : Nat) (w : Word) : State :=
  let s := s.storeReg priv addr w
  if addr % 0x1000 = 0x40 then
    (s.doIf (bit w 31) (State.exhTrig · 0)).doIf (bit w 30) (State.set · R.EXH_STAT_HELD 0 0)
  else s

/-- The classes that FLT_INJ.CLASS may name (R411). -/
def usedClass (c : Nat) : Bool := decide (1 ≤ c) && decide (c ≤ 0x16)

/-- The FLT page: releases, FIRST_CLR, HDUMP and the injection (R411, R415, R417, R421, R425). -/
def State.fltWrite (s : State) (priv : Bool) (addr : Nat) (w : Word) : State :=
  let s := s.storeReg priv addr w
  if !priv then s
  else if addr % 0x1000 = 0x40 then
    let s := (s.doIf (bit w 31) effHrel).doIf (bit w 30) fun s =>
      let (x, s) := s.pinNow (!s.flt.safeStopLow)
      effOrel s x
    (s.doIf (bit w 29) effFirstClear).doIf (bit w 28) State.stageHistory
  else if addr % 0x1000 = 0x68 then
    if !bit w 31 then s.set R.FLT_INJ_ARM 0 0
    else if usedClass (bitsOf w 0 6) then s.set R.FLT_INJ_ARM 0 1
    else (s.set R.FLT_INJ_ARM 0 0).raise R.FLT_FLT_CFGSAT
  else s

/-- The ARC page: ERASE with its KEY, and a fetch (R430, R431). -/
def State.arcWrite (s : State) (g : Nat) (priv : Bool) (addr : Nat) (w : Word) : State :=
  if addr % 0x1000 = 0x58 then s.doIf (priv && bit w 31 && bitsOf w 0 8 == 0x5A) (effArcErase · g)
  else if addr % 0x1000 = 0x5C then effArcFetch s w
  else s.storeReg priv addr w

/-- The CAP page: ARM (R401). -/
def State.capWrite (s : State) (priv : Bool) (addr : Nat) (w : Word) : State :=
  let s := s.storeReg priv addr w
  let s := if addr % 0x1000 = 0x40 then s.trigCheck else s
  if addr % 0x1000 = 0x40 && priv then
    if bit w 31 then effCapArm s else if s.flag R.CAP_CTL_ARM then effCapDisarm s else s
  else s

/-- A QDIV above HOLD_LIM + 1 sets CFGSAT of the PWR page (R312). -/
def State.qdivCheck (s : State) : State := s.raiseIf (decide (s.get R.ORR_CTL_HOLD_LIM + 1 < s.get R.PWR_CTL_QDIV)) R.PWR_FLT_CFGSAT

/-- The ORR page: CNT_CLR and ORR_INJ. -/
def State.orrWrite (s : State) (priv : Bool) (addr : Nat) (w : Word) : State :=
  if addr % 0x1000 = 0x64 then if priv then effInj s w else s
  else
    let s' := s.storeReg priv addr w
    if addr % 0x1000 = 0x40 then
      (s'.doIf (s'.get R.ORR_CTL_HOLD_LIM != s.get R.ORR_CTL_HOLD_LIM) State.qdivCheck).doIf (bit w 31) effOrrClr
    else s'

/-- The LOOP page (R149 to R153): while the generator is active, only ARM can change. -/
def State.loopWrite (s : State) (priv : Bool) (addr : Nat) (w : Word) : State :=
  let off := addr % 0x1000
  let act := s.flag R.LOOP_TST_STAT_ACTIVE
  if off = 0x44 then
    let s := if act then s else s.storeReg priv addr w
    if !priv then s else if bit w 31 then effArm s else if s.flag R.LOOP_TST_CTL_ARM then effDisarm s else s
  else if off = 0x48 ∨ off = 0x4C then if act then s else s.storeReg priv addr w
  else s.storeReg priv addr w

/-- Whether BUD_PRIO.ORDER names each class exactly once (R271). -/
def orderOk (o : Nat) : Bool := ([0, 1, 2] : List Nat).all fun k => decide (k ∈ [o % 4, o / 4 % 4, o / 16 % 4])

/-- The BUD page: CNT_CLR, ORDER and the shares (R260, R271). -/
def State.budWrite (s : State) (priv : Bool) (addr : Nat) (w : Word) : State :=
  let off := addr % 0x1000
  if off = 0x60 then s.doIf priv (effShare · 0 w)
  else if off = 0x64 then s.doIf priv (effShare · 1 w)
  else
    let s' := s.storeReg priv addr w
    if off = 0x40 then s'.doIf (bit w 31) effBudClr
    else if off = 0x58 && !orderOk (s'.get R.BUD_PRIO_ORDER) then
      (s'.set R.BUD_PRIO_ORDER 0 (s.get R.BUD_PRIO_ORDER)).raise R.BUD_FLT_CFGSAT
    else s'

/-- The GRP page: COOLLOSS clears only under R269. -/
def State.grpWrite (s : State) (priv : Bool) (addr : Nat) (w : Word) : State :=
  if addr % 0x1000 = 0x44 then
    s.doIf (bit w 28) fun s =>
      let (x, s) := s.pinNow s.bud.coolPin
      effCoolClear s x
  else s.storeReg priv addr w

/-- The FCS page: CNT_CLR (R232). -/
def State.fcsWrite (s : State) (priv : Bool) (addr : Nat) (w : Word) : State :=
  (s.storeReg priv addr w).doIf (addr % 0x1000 == 0x40 && bit w 31) effFcsClr

/-- The GQ page: CNT_CLR and FLUSH (R185, R212). -/
def State.gqWrite (s : State) (priv : Bool) (addr : Nat) (w : Word) : State :=
  let s := s.storeReg priv addr w
  if addr % 0x1000 = 0x40 then s.doIf (bit w 31) effGqClr
  else if addr % 0x1000 = 0x4C then s.doIf (bit w 31) fun s => effFlush s (s.get R.GQ_QSEL_QUEUE)
  else s

/-- The ADC page: START and INJ_START (R277, R282). -/
def State.adcWrite (s : State) (priv : Bool) (addr : Nat) (w : Word) : State :=
  let s := s.storeReg priv addr w
  if addr % 0x1000 = 0x40 then (s.doIf (bit w 31) State.roundStart).doIf (bit w 30) State.injTrigger else s

/-- Whether the thermal limits keep their order (R301). -/
def State.limOk (s : State) : Bool :=
  decide (s.get R.THM_LIM0_WARN < s.get R.THM_LIM0_THROT) && decide (s.get R.THM_LIM0_THROT < s.get R.THM_LIM1_SHUT)
    && decide (s.get R.THM_LIM1_RESTART < s.get R.THM_LIM1_SHUT)

/-- The THM page: a write that would break the order of the limits is not stored (R301). -/
def State.thmWrite (s : State) (priv : Bool) (addr : Nat) (w : Word) : State :=
  let s' := s.storeReg priv addr w
  if (addr % 0x1000 = 0x40 || addr % 0x1000 = 0x44) && !s'.limOk then s.raise R.THM_FLT_CFGSAT else s'

/-- The AGE page: READ_NOW. -/
def State.ageWrite (s : State) (priv : Bool) (addr : Nat) (w : Word) : State :=
  (s.storeReg priv addr w).doIf (addr % 0x1000 == 0x40 && bit w 31) effReadNow

/-- KA stands at most at half of TMO (R378). -/
def State.kaCheck (s : State) : State :=
  let m := s.get R.LNK_CTL_TMO / 2
  if m < s.get R.LNK_CTL_KA then (s.set R.LNK_CTL_KA 0 m).raise R.LNK_FLT_CFGSAT else s

/-- The LNK page: falls of PORT_EN and TRIM_EN act (R371, R373). -/
def State.lnkWrite (s : State) (priv : Bool) (addr : Nat) (w : Word) : State :=
  let s' := s.storeReg priv addr w
  if addr % 0x1000 = 0x40 then
    let s' := s'.kaCheck
    let fell (p : Nat) : Bool := (s.get R.LNK_CTL_PORT_EN).testBit p && !(s'.get R.LNK_CTL_PORT_EN).testBit p
    let t := s'.each ((List.range 4).filter fell) State.portEnFell
    t.doIf (s.flag R.LNK_CTL_TRIM_EN && !s'.flag R.LNK_CTL_TRIM_EN) State.trimOff
  else s'

/-- The I3C page: without HJ_EN no Hot-Join is requested (R391). -/
def State.i3cRegWrite (s : State) (priv : Bool) (addr : Nat) (w : Word) : State :=
  let s := s.storeReg priv addr w
  if s.flag R.I3C_CTL_HJ_EN then s else { s with i3c := { s.i3c with hj := false } }

/-- A write to GAL_TBASE0 or GAL_CBASE0: the base and size are stored, and EN acts (R397). -/
def State.ringWrite (s : State) (priv : Bool) (r addr : Nat) (w : Word) : State :=
  let en := if s.ringOn r then 1 else 0
  let s := s.storeReg priv addr (withBits w 4 1 en)
  if priv then effRingEn s r (bitsOf w 4 1) else s

/-- The GAL pages, but for GAL_FENCE. -/
def State.galWrite (s : State) (priv : Bool) (addr : Nat) (w : Word) : State :=
  let g := addr / 0x1000 - 0x18
  let off := addr % 0x1000
  if off = 0x80 then s
  else if off = 0x88 then (s.storeReg priv addr w).ibiCheck s
  else if off = 0x8C then s.ringWrite priv (ringIx g false) addr w
  else if off = 0x94 then effTail s (ringIx g false) (bitsOf w 0 16)
  else if off = 0x98 then s.ringWrite priv (ringIx g true) addr w
  else if off = 0xA0 then effTail s (ringIx g true) (bitsOf w 0 16)
  else s.storeReg priv addr w

/-- The DST pages: the guard-band pair (R153), ANN_EN on a tested district (R152), suspects (R134) and RESTART (R244). -/
def State.dstWrite (s : State) (priv : Bool) (addr : Nat) (w : Word) : State :=
  let d := addr / 0x1000 - 0x40
  let off := addr % 0x1000
  if off = 0x64 then effSsusp s d 0 w
  else if off = 0x68 then effSsusp s d 1 w
  else
    let s := s.storeReg priv addr w
    if off = 0x44 then
      let s := s.raiseIf (decide (s.get R.DST_SET_GB_UNA d < s.get R.DST_SET_GB_ANN d)) R.DST_FLT_CFGSAT d
      s.doIf (priv && bit w 31 && s.testOn d) (State.tstStop · 5)
    else if off = 0xA8 then s.doIf (bit w 31) (effDarkRestart · d)
    else s

/-- The CEL pages: a Drizzle pair that breaks R80 sets DRZBAD. -/
def State.celWrite (s : State) (priv : Bool) (addr : Nat) (w : Word) : State :=
  let d := addr / 0x1000 - 0x80
  let s := s.storeReg priv addr w
  if addr % 0x1000 = 0x48 then s.raiseIf (s.pairBad d) R.CEL_FLT_DRZBAD d else s

/-- The PWR page, but for PWR_CTL: the targets (R306), and the codes that a write to PWR_BBA0 to PWR_BBA2 drives at once
(R304). -/
def State.pwrWrite (s : State) (priv : Bool) (addr : Nat) (w : Word) : State :=
  let off := addr % 0x1000
  if 0x4C ≤ off ∧ off < 0x5C then effTargets s ((off - 0x4C) / 4) w
  else
    let s := s.storeReg priv addr w
    if 0x68 ≤ off ∧ off < 0x74 then s.each s.districts State.redrive else s

/-! ### Any of these pages -/

/-- What a write that is answered OK does. -/
def State.pageWrite (s : State) (g : Nat) (priv : Bool) (addr : Nat) (w : Word) : State :=
  let p := addr / 0x1000
  if addr % 0x1000 < 0x40 then s.hdrWrite priv addr w
  else if isGalPage p then s.galWrite priv addr w
  else if 0x40 ≤ p ∧ p < 0x80 then s.dstWrite priv addr w
  else if 0x80 ≤ p ∧ p < 0xC0 then s.celWrite priv addr w
  else match p with
    | 0x02 => s.pwrWrite priv addr w
    | 0x06 => s.exhWrite priv addr w
    | 0x07 => s.fltWrite priv addr w
    | 0x08 => s.arcWrite g priv addr w
    | 0x0A => s.capWrite priv addr w
    | 0x0B => s.orrWrite priv addr w
    | 0x0C => s.loopWrite priv addr w
    | 0x0D => s.budWrite priv addr w
    | 0x0E => s.grpWrite priv addr w
    | 0x0F => s.fcsWrite priv addr w
    | 0x10 => s.gqWrite priv addr w
    | 0x11 => s.adcWrite priv addr w
    | 0x12 => s.thmWrite priv addr w
    | 0x13 => s.ageWrite priv addr w
    | 0x14 => s.lnkWrite priv addr w
    | 0x15 => s.i3cRegWrite priv addr w
    | _ => s.storeReg priv addr w

end Sys2Proof.Machine
end

