-- ==== Sys2Proof/Machine/Startup.lean ====
section
/-!
DEFINITION. The resets and the start-up sequence (R302, R303, R319, R320, R323, R329 to R336): fuses, self-test, the
release of the control complex, the PLL, the start of the Orrery, district return and the end of BOOT.
-/
namespace Sys2Proof.Machine

/-! ### Cold reset (R302, R329, R478) -/

/-- Cold reset stands: every state returns to its reset value. The hard macro, the package flash, the commands that
wait, and the model's own counter of free values are no state that it reaches. -/
def effColdReset (s : State) : State := { State.resetOf s.cfg s.flash with pending := s.pending, free := s.free }

/-- Cold reset is released; FIO and the sequencer run. -/
def effColdRelease (s : State) : State := { s with dev := { s.dev with cold := false, supDue := true } }

/-- The fuse map has been read (R323): fused cells become FUSED; with a parity error nothing follows. -/
def effFuse (s : State) (f : FuseMap) : State :=
  if s.dev.cold || s.fuse.isSome then s
  else
    let s := { s with fuse := some f }
    if f.good then
      (s.each (f.fused.filter fun c => decide (c < 16 * s.cfg.n)) fun s c => s.setCst c cFused).supplyDue
    else s



/-- VFEED of a zone has stood inside its window for 10 µs: its hubs start, or act on start orders again (R329, R336). -/
def effZoneReady (s : State) (z : Nat) : State :=
  if s.dev.cold || !s.zoneUsed z then s
  else
    let w := s.dev.feedWait
    { s with dev := { s.dev with hubs := s.dev.hubs ||| 2 ^ z, feedWait := if w.testBit z then w - 2 ^ z else w } }.supplyDue

/-- The phase outcome of the self-test in the terms of CEL_PH. -/
def selfCause (k : Nat) : Nat := if k = 1 then 1 else 3

/-- The self-test of one cell (R330): the phases found bad are removed. -/
def State.selfTest (s : State) (bad : List (Nat × Nat × Nat)) (c : Nat) : State :=
  if s.cst c == cFused then s
  else
    let s := s.each [0, 1, 2, 3] fun s p =>
      match bad.find? fun b => b.1 == c && b.2.1 == p with
      | some b => (s.raiseBit R.CEL_STAT_PH_FAIL c p).set { R.CEL_PH_CAUSE0 with lo := 2 * p } c (selfCause b.2.2)
      | none => s
    let s := s.updCell c fun x => { x with tested := true }
    if s.good c = 0 then ((s.setCst c cFailed).set R.CEL_STAT_LAST_CAUSE c 4).noteLoss c else s

/-- The self-test of a zone is complete; for the zone of the supply district the switch-on of the supply group begins. -/
def effSelfTest (s : State) (z : Nat) (bad : List (Nat × Nat × Nat)) : State :=
  if s.dev.hubs.testBit z && !s.dev.tested.testBit z then
    let s := { s with dev := { s.dev with tested := s.dev.tested ||| 2 ^ z } }
    (s.each (s.inZone z) fun s d => s.each (cellsOf d) fun s c => s.selfTest bad c).supplyDue
  else s

/-- VFEED of the supply zone leaves its window in BOOT, before the release, that of a restart in HELD too (R336, R417): the supply
group goes OFF, one that stayed ON too, the latch takes the event, and the sequencer waits for VFEED again. -/
def effSeqWatch (s : State) : State :=
  let z := s.zoneOf s.cfg.ccsup
  let boot := s.devSt == devBoot || (s.devSt == devOff && s.flt.offPhase == .heldOff)
  if s.dev.cold || s.dev.released || !boot || !s.dev.hubs.testBit z then s
  else
    let (sq, s) := s.freeBits 8
    let e : Entry := { cls := clsVfeed, react := 3, cause := 0, src := srcOf 12 s.cfg.ccsup, opsec := s.opsec,
                       ticks := s.tick, dev := s.devSt, seq := sq }
    let s := if s.flag R.FLT_STAT_FVALID then s else s.latchFirst e
    let s := { s with dev := { s.dev with feedWait := s.dev.feedWait ||| 2 ^ z, supDue := true, supStayed := false } }
    s.each s.supply State.offNow

/-! ### The release of the control complex (R302, R303, R329) -/



/-- A departure that stands while the module is absent is reported again after the release (R418, R374). -/
def State.departAgain (s : State) : State :=
  s.each [0, 1, 2, 3] fun s p =>
    if (s.port p).departed && !(s.port p).present && s.zoneUp p then s.depart p 0 else s

/-- The warm reset of the control complex is released: the PLL is enabled, and the collector's heartbeat starts (R419). A supply
group that stayed ON under R293 counts as in switch-on from here (R335). -/
def effRelease (s : State) : State :=
  if s.dev.powered && !s.dev.released && s.fuseOk then
    let first := s.dev.bootCause == 1
    let s := s.ccReset
    let s := if s.dev.supStayed then s.each s.supply fun s d => s.pwrStep d .onPower 5 else s
    let s := { s with dev := { s.dev with released := true, nextSel := s.get R.IMG_CTL_NEXT, bootTick := s.ticks },
                      flt := { s.flt with lines := [], heartbeat := true },
                      arc := { s.arc with tornDue := s.arc.tornDue || (s.dev.bootCause == 4) } }
    ((s.raise (if first then R.SYS_FLT_COLD else R.SYS_FLT_WARM)).set R.CLK_STAT_PLLEN 0 1).departAgain
  else s

/-- A write of 1 to WRST (R302, R303): the control complex is reset and the device enters BOOT; an OFF cause keeps it in
SAFE_OFF. The PWR page keeps its content; an entry in progress ends with the state that it leads from, and a wake that it has
latched stays latched (assumption 131). -/
def effWarmReset (s : State) : State :=
  if s.dev.powered then
    let s := s.ccReset.set R.PWR_STAT_ENTRY 0 0
    let s := { s with dev := { s.dev with released := false, bootCause := 2 } }
    if s.devSt == devOff then s else (s.set R.PWR_STAT_DEV 0 devBoot).set R.FLT_STAT_STATE 0 0
  else s

/-! ### The PLL (R33, R320, R331) -/

/-- The PLL becomes the source; a START written before begins its round. -/
def State.selectPll (s : State) : State :=
  let s := ((s.set R.CLK_STAT_SRC 0 1).set R.CLK_SRC_SEL 0 1).phase
  if s.adc.startDue then s.roundStart else s

/-- The PLL has locked, `t` FIO cycles after it was enabled; a small configuration selects it. -/
def effPllLock (s : State) (t : Nat) : State :=
  if s.flag R.CLK_STAT_PLLEN && !s.flag R.CLK_STAT_LOCK then
    let s := (s.set R.CLK_STAT_LOCK 0 1).setSat R.CLK_STAT_LOCKT 0 t
    if !s.large && !s.onPll then s.selectPll else s
  else s

/-- A write of 1 to CLK_SRC.SEL: refused without lock, also where the PLL is already selected (R320, R321). -/
def effPllSelect (s : State) : State :=
  if !s.flag R.CLK_STAT_LOCK then s.raise R.CLK_FLT_SELREF else if s.onPll then s else s.selectPll

/-- A small configuration has not locked within 200 µs. -/
def effNolock (s : State) : State :=
  if s.flag R.CLK_STAT_PLLEN && !s.flag R.CLK_STAT_LOCK && !s.large && !s.onPll then
    (s.raise R.CLK_FLT_NOLOCK).report clsNolock 0 (srcOf 9 0)
  else s

/-- The PLL loses lock: reported where it is the selected source. -/
def effLockLoss (s : State) : State :=
  if s.flag R.CLK_STAT_LOCK then
    let s := s.set R.CLK_STAT_LOCK 0 0
    if s.onPll then (s.raise R.CLK_FLT_LOCKLOST).report clsPll 0 (srcOf 9 0) else s
  else s

/-! ### The Orrery, district return and the end of BOOT (R319, R329, R333 to R335) -/

/-- When the Orrery starts, the bands of a district are 0 and its first period uses MAP[0], where the configuration is valid
(R146, R148). -/
def State.regionStart (s : State) (d : Nat) : State :=
  let s := (s.updLaw d fun l => { l with cb := 0, vb := 0 }).set R.DST_RGN_STAT_REGION d 0
  if s.rgnBad d then s else s.set R.DST_RGN_STAT_SET d (s.rgnMap d 0)

/-- The sums of currents over a die period start again (R233). -/
def State.sumStart (s : State) (d : Nat) : State :=
  s.each (cellsOf d) (fun s c => s.updCell c fun x => { x with curSum := 0 }) |>.updLaw d fun l => { l with imSum := 0, imCnt := 0 }

/-- The Orrery starts: the next boundaries of every period are the first (R27), and no die period has begun before them. -/
def effOrrStart (s : State) : State :=
  if s.dev.released && s.onPll && s.dev.imgDone && !s.dev.orrRun then
    let s := { s with dev := { s.dev with orrRun := true, dper := 0, die := 0, ep := 0, slot := 0, slotStb := 0 } }
    ((s.each s.districts State.regionStart).each s.districts State.sumStart).set R.ORR_STAT_RUN 0 1
  else s

/-- Whether a district is to be switched on at return: targeted ON and not already ON. -/
def State.toReturn (s : State) (d : Nat) : Bool := decide (d < s.cfg.n) && s.tgtOf d == 2 && !s.isOn d

/-- District return: in a large configuration every targeted district is requested together. -/
def effReturn (s : State) : State :=
  if s.devSt == devBoot && s.dev.imgDone && s.dev.orrRun && s.dev.thermOk && !s.dev.returned
      && s.offStanding.isEmpty && !s.flt.wireOff then
    let s := { s with dev := { s.dev with returned := true, retIdx := 0, retWait := false } }.phase
    let s := if s.dev.supStayed then s.each s.supply State.anvilsCharge else s
    if s.large then s.each (s.districts.filter s.toReturn) fun s d => if s.seqBusy d then s else s.pursue d else s
  else s

/-- Entry `k` of PWR_SEQ0 to PWR_SEQ3: its district. -/
def State.seqDist (s : State) (k : Nat) : Nat :=
  let F := ([R.PWR_SEQ0_DIST0, R.PWR_SEQ1_DIST0, R.PWR_SEQ2_DIST0, R.PWR_SEQ3_DIST0] : List Fld).getD (k / 4) R.PWR_SEQ0_DIST0
  s.get { F with lo := 8 * (k % 4) }

/-- The next entry of the return order. -/
def State.nextEntry (s : State) : State := { s with dev := { s.dev with retIdx := s.dev.retIdx + 1, retWait := false } }

/-- A return-order entry of a small configuration falls due: begun, skipped, or waiting for its zone. -/
def effReturnEntry (s : State) : State :=
  if !s.large && s.dev.returned && !s.dev.booted && s.devSt == devBoot && decide (s.dev.retIdx < 16) then
    let d := s.seqDist s.dev.retIdx
    if !s.toReturn d || s.seqBusy d then s.nextEntry
    else if s.pst (s.zoneOf d) == lkUp then (s.switchOn d (s.startRef d)).nextEntry
    else { s.raise R.PWR_FLT_SEQWAIT with dev := { s.dev with retWait := true } }
  else s

/-- An entry has waited for 100 ms: it is abandoned (R334), unless its zone has completed CAPS on the edge, where it begins
(R351). -/
def effAbandon (s : State) : State :=
  if !s.dev.retWait then s
  else if s.pst (s.zoneOf (s.seqDist s.dev.retIdx)) == lkUp then effReturnEntry s
  else (s.raise R.IMG_FLT_ZONETMO).nextEntry



/-- Whether BOOT can end: a small configuration has passed every return entry. -/
def State.bootOver (s : State) : Bool :=
  s.devSt == devBoot && s.dev.returned && !s.dev.booted && (s.large || decide (16 ≤ s.dev.retIdx))

/-- BOOT ends (R334) and the device enters RUN; where the cause of a wiring fault with the reaction HOLD stands (R407), it enters
SAFE_HOLD (assumption 123). -/
def effBootEnd (s : State) : State :=
  if s.bootOver then
    let s := s.bootDone.reachRun
    if s.standing 2 then s.forceHold else s
  else s

/-! ### The meanings -/

/-- A command that names a feed zone; one that does not exist has no state (R42, assumption 6). -/
def onZone (z : Nat) (f s : State) : Host.Outcome State Fault Refusal := .next (if z < 4 then f else s)

def execColdReset (s : State) : Host.Outcome State Fault Refusal := .next (effColdReset s)

def execColdResetRelease (s : State) : Host.Outcome State Fault Refusal := .next (effColdRelease s)

def execFuseRead (f : FuseMap) (s : State) : Host.Outcome State Fault Refusal := .next (effFuse s f)

def execZoneVfeedReady (z : Nat) (s : State) : Host.Outcome State Fault Refusal := onZone z (effZoneReady s z) s

def execSelfTestComplete (z : Nat) (bad : List (Nat × Nat × Nat)) (s : State) : Host.Outcome State Fault Refusal :=
  onZone z (effSelfTest s z bad) s

def execControlComplexRelease (s : State) : Host.Outcome State Fault Refusal := .next (effRelease s)

def execWarmReset (g : Gal) (s : State) : Host.Outcome State Fault Refusal :=
  .next (s.hostRow g R.PWR_CTL_WRST 0 1 effWarmReset)

def execPllLock (t : Nat) (s : State) : Host.Outcome State Fault Refusal := .next (effPllLock s t)

def execPllSelect (g : Gal) (s : State) : Host.Outcome State Fault Refusal :=
  .next (s.hostRow g R.CLK_SRC_SEL 0 1 fun s => s.ifPriv g 0x01 effPllSelect)

def execNolock (s : State) : Host.Outcome State Fault Refusal := .next (effNolock s)

def execPllLockLoss (s : State) : Host.Outcome State Fault Refusal := .next (effLockLoss s)

def execOrreryStart (s : State) : Host.Outcome State Fault Refusal := .next (effOrrStart s)

def execDistrictReturn (s : State) : Host.Outcome State Fault Refusal := .next (effReturn s)

def execReturnOrderEntry (s : State) : Host.Outcome State Fault Refusal := .next (effReturnEntry s)

def execZoneWaitAbandon (s : State) : Host.Outcome State Fault Refusal := .next (effAbandon s)

def execBootEnd (s : State) : Host.Outcome State Fault Refusal := .next (effBootEnd s)

def execSequencerVfeedWatch (s : State) : Host.Outcome State Fault Refusal := .next (effSeqWatch s)

end Sys2Proof.Machine
end

