-- ==== Sys2Proof/Machine/Tusha.lean ====
section
/-!
DEFINITION. What the bytes of the package flash and of a weights stream spell (R324, R337 to R339, R343, R345): the SFDP tables,
the Tusha image of a slot, and the sets of a decrypted weights image.
-/
namespace Sys2Proof.Machine

/-! ### SFDP (R324 to R326) -/

/-- What the SFDP address space of the flash spells. PRESUMED (assumption 125): header, pointer and fields lie where JESD216 puts
them. -/
def sfdpOf (b : List Byte) : SfdpRead :=
  let t := bytesAt b (numAt b 12 3) (4 * byteAt b 11)
  let dw (k : Nat) : Nat := numAt t (4 * (k - 1)) 4
  let n := dw 2
  { signature := numAt b 0 4 == 0x50444653,
    density := if n < 2 ^ 31 then (n + 1) / 8 else 2 ^ min 63 (n - 2 ^ 31) / 8,
    erase4k := if dw 1 % 4 = 1 then some (byteAt t 1) else none,
    read114 := if (dw 1).testBit 22 then some (byteAt t 11, byteAt t 10 / 32, byteAt t 10 % 32) else none,
    page := if 11 ≤ byteAt b 11 then 2 ^ (byteAt t 40 / 16) else 256,
    quad := if 15 ≤ byteAt b 11 then some (dw 15 / 2 ^ 20 % 8) else none }

/-! ### A control image (R337 to R339, R343) -/

/-- A matrix as a coefficient set stores it: an exponent for each block of 8 rows, and the mantissas in row-major order. -/
def matAt (m : List Host.Cell) (a rows cols : Nat) (t : Bool) : Mat :=
  { cols := cols, t := t, exps := (List.range ((rows + 7) / 8)).map fun k => calSigned m (a + k) 1,
    rows := (List.range rows).map fun r => (List.range cols).map fun c => calSigned m (a + 8 + 2 * (r * cols + c)) 2 }

/-- The bytes that a matrix takes. -/
def matLen (x : Nat × Nat) : Nat := 8 + 2 * (x.1 * x.2)

/-- Rows and columns of the seven matrices of a shape, in the order of R339. -/
def setShape (n m p q s : Nat) : List (Nat × Nat) := [(n, n), (n, m), (n, q), (p, n), (n, p), (m, n), (m, s)]

/-- A coefficient set at an address: the set header, and the matrices one behind the other. -/
def setAt (m : List Host.Cell) (a : Nat) (sh : List (Nat × Nat)) : CoefSet :=
  let x (k : Nat) : Mat :=
    let y := sh.getD k (0, 0)
    matAt m (a + 8 + ((sh.take k).map matLen).sum) y.1 y.2 ((calField m a 1).testBit k)
  { A := x 0, B := x 1, F := x 2, C := x 3, L := x 4, K := x 5, N := x 6 }

/-- The coefficient sets from index `k` on. -/
def setsAt (m : List Host.Cell) (sh : Nat → List (Nat × Nat)) : Nat → Nat → Nat → List CoefSet
  | 0, _, _ => []
  | c + 1, k, a => setAt m a (sh k) :: setsAt m sh c (k + 1) (a + 8 + ((sh k).map matLen).sum)

/-- The shape by which a set is read: that of the first district that names it. DESIGN CHOICE (assumption 126): the spec gives none
to a set that no district names. -/
def shapeAt (ds : List DistImg) (k : Nat) : List (Nat × Nat) :=
  match ds.find? fun d => d.sets.contains k with
  | some d => setShape d.n d.m d.p d.q d.s
  | none => let x := Config.unnamedShape k; setShape x.1 x.2.1 x.2.2.1 x.2.2.2.1 x.2.2.2.2

/-- The section entries in use of an image at `b`. -/
def sectsAt (m : List Host.Cell) (b : Nat) : List Sect :=
  (List.range (min 16 (calField m (b + 0x20) 1))).map fun k =>
    let a := b + 0xC0 + 16 * k
    { ty := calField m a 1, ver := calField m (a + 1) 1, off := calField m (a + 4) 4, len := calField m (a + 8) 4,
      count := calField m (a + 12) 4 }

/-- The control image whose bytes begin at `b`. The items of the DIST and FCST sections stand in an encoding that the spec does not
state (assumption 126). -/
def imageAt (m : List Host.Cell) (b : Nat) : Image :=
  let f (o n : Nat) : Nat := calField m (b + o) n
  let ss := sectsAt m b
  let sect (t : Nat) : Sect := (ss.find? fun x => x.ty == t).getD ⟨t, 0, 0, 0, 0⟩
  let body (t : Nat) : List Byte := memRead m (b + (sect t).off) (sect t).len
  let fc := Config.fcstSection (body 5)
  let ds := (List.range (f 0x10 1)).map fun d =>
    { (Config.distSection (body 1)).getD d default with kinds := (fc.getD d default).1, tmask := (fc.getD d default).2 }
  let entry (t n k o w : Nat) : Nat := f ((sect t).off + n * k + o) w
  { fmtMin := f 4 1, fmtMaj := f 5 1, revLo := f 6 1, revHi := f 7 1, len := f 8 4, seq := f 0xC 4, ndist := f 0x10 1,
    keyIdx := f 0x11 1, fcdecl := (f 0x12 2).testBit 0, pair := f 0x14 4, fin := f 0x18 2, fh := f 0x1A 1, fo := f 0x1B 1,
    nsec := f 0x20 1, sects := ss, dists := ds,
    coef := setsAt m (shapeAt ds) (sect 2).count 0 (b + (sect 2).off),
    wlist := (List.range (sect 3).count).map fun k => (entry 3 8 k 0 4, entry 3 8 k 4 4),
    zones := (List.range (sect 4).count).map fun k => (entry 4 4 k 0 2, entry 4 4 k 2 2) }

/-! ### The sets of a weights image (R345) -/

/-- A signed mantissa of `n` bytes. -/
def mantOf (p : List Byte) (o n : Nat) : Int := signedOf (8 * n) (numAt p o n)

/-- A BFP8 weight matrix and a BFP16 vector, each behind its exponent byte. -/
def wMat (p : List Byte) (o rows cols : Nat) : Mat :=
  { cols := cols, t := true, exps := [mantOf p o 1],
    rows := (List.range rows).map fun r => (List.range cols).map fun c => mantOf p (o + 1 + r * cols + c) 1 }
def wVec (p : List Byte) (o n : Nat) : Vec := ⟨mantOf p o 1, (List.range n).map fun k => mantOf p (o + 1 + 2 * k) 2⟩

/-- The bytes of one district's set. -/
def weightsSize (fin fh fo : Nat) : Nat := 8 + fin * fh + 6 * fh + fh * fo + 6 * fo

/-- The set of a district at an offset of the plaintext: W1, b1, lo1, hi1, W2, b2, lo2 and hi2. -/
def weightSet (p : List Byte) (o fin fh fo : Nat) : WeightSet :=
  let v := o + 1 + fh * fin
  let l := 1 + 2 * fh
  let w := v + 3 * l + 1 + fo * fh
  let k := 1 + 2 * fo
  { w1 := wMat p o fh fin, b1 := wVec p v fh, lo1 := wVec p (v + l) fh, hi1 := wVec p (v + 2 * l) fh,
    w2 := wMat p (v + 3 * l) fo fh, b2 := wVec p w fo, lo2 := wVec p (w + k) fo, hi2 := wVec p (w + 2 * k) fo }

/-- The weights image that a clear header and the decrypted body spell. -/
def weightsOf (h body : List Byte) : WeightsImg :=
  let fin := numAt h 16 2
  let fh := byteAt h 18
  let fo := byteAt h 19
  { fmtMaj := byteAt h 5, len := numAt h 8 4, pair := numAt h 12 4, fin := fin, fh := fh, fo := fo, ndist := byteAt h 20,
    sets := (List.range (byteAt h 20)).map fun d => weightSet body (d * weightsSize fin fh fo) fin fh fo }

end Sys2Proof.Machine
end

