-- ==== Sys2Proof/Machine/Images.lean ====
section
/-!
DEFINITION. What start-up reads from the package flash (R324 to R327, R337 to R351): SFDP, the calibration set, the ageing
record and the control image; the checks of a weights image (R346); and the commands that write the flash.
-/
namespace Sys2Proof.Machine

/-- The field, unless it already holds the value. -/
def State.setNe (s : State) (F : Fld) (i v : Nat) : State := if s.get F i = v then s else s.set F i v

/-! ### The package flash (R324 to R327) -/

/-- Whether mode 1-1-4 is used (R326). -/
def quadMode (f : SfdpRead) : Bool :=
  f.read114.isSome && (match f.quad with
    | some q => decide (q ∈ [0, 1, 4, 5])
    | none => false)

/-- Whether start-up may read the flash: SAFE_OFF ends a read at once, until its restart (R351). -/
def State.flashReads (s : State) : Bool := s.dev.released && !(s.devSt == devOff && s.flt.offPhase == .down)

/-- The SFDP header and the Basic Flash Parameter Table have been read: the bytes of the SFDP address space. -/
def effSfdp (s : State) (sfdp : List Byte) : State :=
  if !s.flashReads || s.dev.sfdp then s
  else
    let f := sfdpOf sfdp
    let s := { s with dev := { s.dev with sfdp := true, par := some f } }
    if f.signature && decide (0x800000 ≤ f.density) && f.erase4k.isSome then
      let d := min f.density 0x1000000
      let s := { s with dev := { s.dev with flashUsable := true, dens := d } }
      ((s.set R.IMG_FLASH_SFDPOK 0 1).set R.IMG_FLASH_QUAD 0 (if quadMode f then 1 else 0)).set R.IMG_FLASH_DENS 0 (Nat.log2 d)
    else
      let s := { s.raise R.IMG_FLT_FLASH with dev := { s.dev with flashUsable := false, dens := 0 } }
      if s.get R.ARC_STAT_MODE == 3 then s else s.stagingOnly

/-- The size of an image slot, and where slot 0 (A) or 1 (B) begins (R327). -/
def State.slotSize (s : State) : Nat := (s.dev.dens - 0x400000 - 0x20000) / 2 / 0x10000 * 0x10000
def State.slotAt (s : State) (k : Nat) : Nat := 0x20000 + k * s.slotSize

/-! ### The calibration set (R347, R348) -/

/-- A table of the entries that differ from 0. -/
def nonZero (n : Nat) (f : Nat → Int) : Tab Int := (List.range n).filterMap fun k => if f k = 0 then none else some (k, f k)

/-- The values in force from a set. -/
def calValues (m : List Host.Cell) (n : Nat) : CalS :=
  { inUse := true, digest := Config.sha384 (memRead m 0 0x10000),
    tg := (List.range (4 * n)).map fun k => (k, calField m (0x1220 + 2 * k) 2),
    tofs := (List.range (4 * n)).map fun k => (k, calSigned m (0x1420 + 2 * k) 2),
    f0 := calSigned m 0x1640 1, f1 := calSigned m 0x1641 2, b0 := calSigned m 0x1643 1, b1 := calSigned m 0x1644 2,
    b2 := calSigned m 0x1646 2,
    sgain := nonZero (64 * n) fun k => calSigned m (0x1760 + 2 * k) 2,
    dofs := nonZero (64 * n) fun k => calSigned m (0x3760 + k) 1 }

/-- The items of a set that registers hold: L_p, retirements, monitor offsets, PER_TAP, and the trims that stand until
the first thermal point (R296). -/
def State.calRegs (s : State) (m : List Host.Cell) : State :=
  let n := s.cfg.n
  let s := s.each (List.range (64 * n)) fun s k => s.setNe R.CAL_LP_LP k (calField m (0x20 + k) 1)
  let s := s.each (List.range n) fun s d =>
    let s := (s.setNe R.DST_SRET0_RET d (calField m (0x1020 + 8 * d) 4)).setNe R.DST_SRET1_RET d (calField m (0x1024 + 8 * d) 4)
    s.updHub d fun h => { h with ret := calField m (0x1020 + 8 * d) 8 }
  let s := s.each (List.range 8) fun s j =>
    s.setNe (thmRetFld j) 0 (calField m (0x1620 + 4 * j) 4 % 2 ^ min 32 (4 * n - 32 * j))
  let s := s.each (List.range (4 * n)) fun s k => s.setNe R.AGE_MON_OFS k (calField m (0x1650 + k) 1)
  let s := s.setNe R.AGE_CTL_PER_TAP 0 (R.AGE_CTL_PER_TAP.inRange (calField m 0x1750 1)).1
  (s.setNe R.THM_COMP_FIOTRIM 0 (calField m 0x1640 1)).setNe R.THM_COMP_BGTRIM 0 (calField m 0x1643 1)

/-! ### The ageing record (R299, R422) -/

/-- The SEQ of the record in a slot, where it is valid and of this die. -/
def State.ageSeq (s : State) (k : Nat) : Option Nat :=
  let b := memRead s.flash (ageAt k) 512
  if (b.getD 0x192 0).toNat = 0xA7 ∧ ofLe (bytesAt b 0x190 2) = crc16 (b.take 0x190)
      ∧ ofLe (bytesAt b 4 8) = (s.fuse.getD default).dieId
  then some (ofLe (bytesAt b 0 4)) else none

/-- The slot of the newest valid record. -/
def State.ageNewest (s : State) : Option (Nat × Nat) :=
  Option.merge (fun x y => if x.2 < y.2 then y else x) ((s.ageSeq 0).map (Prod.mk 0)) ((s.ageSeq 1).map (Prod.mk 1))

/-- The ageing record is loaded; at the first start-up since cold reset its OPSEC becomes the base. -/
def State.ageLoad (s : State) : State :=
  let first := !s.dev.ageLoaded
  let s := { s with dev := { s.dev with ageLoaded := true } }
  match if s.dev.flashUsable then s.ageNewest else none with
  | none => { s.raise R.AGE_FLT_NOREC with age := { s.age with fresh := true } }
  | some (k, sq) =>
    let b := memRead s.flash (ageAt k) 512
    let s := s.each s.districts fun s d => s.setNe R.AGE_DIST_AGE d (ofLe (bytesAt b (0x10 + 2 * d) 2))
    let s := s.each (List.range (4 * s.cfg.n)) fun s i => s.setNe R.AGE_MON_DEG i (b.getD (0x90 + i) 0).toNat
    let s := { s with age := { s.age with fresh := false, slot := k, seq := sq } }
    if first then s.addBase (ofLe (bytesAt b 0xC 4)) else s

/-- The calibration set and the ageing record have been read (R299, R348). -/
def effCalLoad (s : State) : State :=
  if !s.flashReads || !s.dev.sfdp || s.dev.calDone then s
  else
    let s := { s with dev := { s.dev with calDone := true } }
    let s := if s.dev.flashUsable then
        let st := calState s.flash (s.fuse.getD default).dieId
        let s := (s.set R.CAL_STAT_STATE 0 st).set R.CAL_STAT_VER 0 (calField s.flash 4 2)
        if st = 1 then { s.calRegs s.flash with cal := calValues s.flash s.cfg.n }
        else if st = 2 then s.raise R.CAL_FLT_NOBIND else s.raise R.CAL_FLT_BAD
      else s
    s.ageLoad.phase

/-! ### The checks of a control image (R338 to R343) -/

/-- Whether two sections overlap. -/
def sectMeets (a b : Sect) : Bool := decide (a.off < b.off + b.len) && decide (b.off < a.off + a.len)

/-- Whether no two of a list do. -/
def apart : List Sect → Bool
  | [] => true
  | a :: r => r.all (fun b => !sectMeets a b) && apart r

/-- Check 9: the section directory. -/
def dirOk (i : Image) : Bool :=
  let has (t : Nat) : Bool := i.sects.any fun x => x.ty == t
  decide (1 ≤ i.nsec) && decide (i.nsec ≤ 16) && i.nsec == i.sects.length
    && i.sects.all (fun x => decide (x.off + x.len ≤ i.len)) && apart i.sects
    && i.sects.all (fun x => decide (0x80 ≤ x.ty) || (decide (1 ≤ x.ty) && decide (x.ty ≤ 5)))
    && has 1 && has 2 && (!i.fcdecl || has 5)

/-- Whether a matrix has a shape. -/
def matShape (a : Mat) (r c : Nat) : Bool := a.rows.length == r && a.cols == c && a.rows.all fun x => x.length == c

/-- Whether a set has a district's shape (R144). -/
def setFits (d : DistImg) (c : CoefSet) : Bool :=
  matShape c.A d.n d.n && matShape c.B d.n d.m && matShape c.F d.n d.q && matShape c.C d.p d.n && matShape c.L d.n d.p
    && matShape c.K d.m d.n && matShape c.N d.m d.s

/-- Check 10 for one district (R101, R144, R214). -/
def distOk (i : Image) (d : DistImg) : Bool :=
  decide (d.n ≤ 24) && decide (d.m ≤ 16) && decide (d.p ≤ 64) && decide (d.q ≤ 32) && decide (d.s ≤ 4)
    && d.gather.length == d.p && d.flist.length == d.q && d.rlist.length == d.s
    && decide (1 ≤ d.sets.length) && decide (d.sets.length ≤ 8)
    && d.sets.all (fun k => decide (k < i.coef.length) && setFits d (i.coef.getD k default))
    && (List.range 8).all (fun r => decide (d.map / 8 ^ r % 8 < d.sets.length)) && decide (d.kinds.length ≤ 6)

/-- Check 10. -/
def shapeOk (i : Image) : Bool :=
  i.dists.length == i.ndist && i.dists.all (distOk i) && decide (i.fin ≤ 256) && decide (i.fh ≤ 64) && decide (i.fo ≤ 16)
    && i.zones.all fun z => decide (z.1 ≤ 0x3000) && decide (500 ≤ z.2) && decide (z.2 ≤ 1000)

/-- Check 11: a matrix with T = 1 has a single exponent (R116). -/
def matTOk (a : Mat) : Bool := !a.t || a.exps.all fun e => e == a.exps.headD 0
def coefTOk (c : CoefSet) : Bool := [c.A, c.B, c.F, c.C, c.L, c.K, c.N].all matTOk

/-- Check 12: the feature count of a district (R218). -/
def featureCount (d : DistImg) : Nat := d.kinds.foldl (fun n k => n + (segments k.flags).length) 0

/-- Check 13: an address that the write list may name (R343). -/
def State.listable (s : State) (a : Nat) : Bool :=
  let p := a / 0x1000
  let o := a % 0x1000
  s.pageOk p && decide (0x40 ≤ o) && decide (o < 0x800) && !(decide (3 ≤ p) && decide (p ≤ 8)) && !isGalPage p
    && a != 0x2040 && a != 0x1040 && !(decide (0x40 ≤ p) && decide (p < 0x80) && (o == 0x5C || o == 0x60))
    && !(p == 0x12 && decide (0x58 ≤ o) && decide (o < 0x78))

/-- Whether a signature verifies (R337): the one that the holder of the key makes does, and whichever else the algorithm
accepts (assumption 9). -/
def sigGood (pub digest sig : List Byte) : Bool :=
  sig == fit 96 (Config.ecdsaSign pub digest) || Config.ecdsaOk pub digest sig

/-- What a read of slot 0 (A) or 1 (B) finds, with the number of errors it meets: a failed read is made once more (R341). -/
def State.slotRead (s : State) (k errs : Nat) : SlotRead :=
  let b := s.slotAt k
  let magic := calField s.flash b 4 == 0x48535554
  let i : Image := if magic then imageAt s.flash b else default
  let pub := memRead s.flash (b + 0x60) 96
  { readFail := decide (2 ≤ errs), magic := magic, img := i,
    keyOk := fit 48 (Config.sha384 pub) == fit 48 ((s.fuse.getD default).digests.getD i.keyIdx []),
    sigOk := decide (608 ≤ i.len) && decide (i.len ≤ s.slotSize)
      && sigGood pub (Config.sha384 (memRead s.flash b (i.len - 96))) (memRead s.flash (b + i.len - 96) 96) }

/-- The reason for which a slot read is rejected (R341); 0 for none. -/
def State.rejects (s : State) (r : SlotRead) : Nat :=
  let i := r.img
  let f := s.fuse.getD default
  if r.readFail then 0xE
  else if !r.magic then 0x1
  else if i.len < 608 ∨ s.slotSize < i.len then 0x2
  else if !r.keyOk || decide (4 ≤ i.keyIdx) || f.revoked.testBit i.keyIdx then 0x3
  else if !r.sigOk then 0x4
  else if i.fmtMaj ≠ 2 then 0x5
  else if 3 < i.fmtMin then 0x6
  else if f.rev < i.revLo ∨ i.revHi < f.rev then 0x7
  else if i.ndist ≠ s.cfg.n then 0x8
  else if !dirOk i then 0x9
  else if !shapeOk i then 0xA
  else if !i.coef.all coefTOk then 0xB
  else if i.fcdecl && i.dists.any fun d => featureCount d != i.fin then 0xC
  else if !i.wlist.all fun e => s.listable e.1 then 0xD
  else 0

/-- The order in which the slots are tried (R340): the choice of NEXT, or the candidates by SEQ. -/
def tryOrder (sel : Nat) (a b : SlotRead) : List Nat :=
  if sel = 1 then [0] else if sel = 2 then [1] else if sel = 3 then []
  else if a.magic && b.magic then (if a.img.seq < b.img.seq then [1, 0] else [0, 1])
  else if a.magic then [0] else if b.magic then [1] else []

/-- The slots tried in order: the one that is used, and the reasons of the two. -/
def State.trySlots (s : State) (a b : SlotRead) : List Nat → Nat × Nat → Option Nat × Nat × Nat
  | [], x => (none, x)
  | k :: r, x =>
    let y := s.rejects (if k = 0 then a else b)
    let x := if k = 0 then (y, x.2) else (x.1, y)
    if y = 0 then (some k, x) else s.trySlots a b r x

/-! ### An image is applied (R342 to R344) -/

/-- One entry of the write list: a write with every privilege; a saturated code is recorded (R54, R343). -/
def State.listWrite (s : State) (e : Nat × Nat) : State :=
  let p := e.1 / 0x1000
  if e.1 % 4 ≠ 0 ∨ (queueReg e.1 && !s.bankOk e.1) then s
  else
    let was := (s.get R.PG_FLT_FLT p).testBit (cfgsatBit p)
    let t := (s.clearBit R.PG_FLT_FLT p (cfgsatBit p)).pageWrite 0 true e.1 (BitVec.ofNat 32 e.2)
    let t := if (t.get R.PG_FLT_FLT p).testBit (cfgsatBit p) then t.event 0x0001 p (e.1 % 0x1000) (e.2 % 2 ^ 32) else t
    if was then t.cfgsat p else t

/-- The data of one district; its ALLOW stands within its range (R55). -/
def State.applyDist (s : State) (d : Nat) (x : DistImg) : State :=
  let s := (s.set R.DST_RGN2_MAP d x.map).set R.DST_RGN_STAT_NSETS d x.sets.length
  s.updLaw d fun l => { l with img := { x with allow := min x.allow 0x177 } }

/-- The baseline ROM image's data of a district (R344). -/
def baseDist (d : Nat) : DistImg :=
  let x := Config.romDist d
  let f : List FSrc := ((List.range 4).map FSrc.granted ++ x.flist).take 32
  { x with n := min 24 x.n, m := min 16 x.m, p := min 64 x.p, gather := x.gather.take 64, q := f.length, flist := f,
           s := min 4 x.s, rlist := x.rlist.take 4, sets := [d], map := 0, allow := 0xC8, ileak := 250, kinds := [], tmask := 0 }

/-- The sections of an image in force; the write list follows. -/
def State.applyImage (s : State) (src : Nat) (i : Image) : State :=
  let s := (((s.set R.IMG_STAT_SRC 0 src).set R.IMG_STAT_FMT_MAJ 0 i.fmtMaj).set R.IMG_STAT_FMT_MIN 0 i.fmtMin).set R.IMG_SEQ_SEQ 0 i.seq
  let s := { s with
    coef := (List.range i.coef.length).zip i.coef,
    dev := { s.dev with fcdecl := i.fcdecl, imgKey := i.keyIdx,
                        zoneLim := (List.range 4).map fun z => (i.zones.getD z (0x3000, 850)).1,
                        zoneEta := (List.range 4).map fun z => (i.zones.getD z (0x3000, 850)).2 } }
  let s := ((s.set R.FCS_SHAPE_FIN 0 i.fin).set R.FCS_SHAPE_FH 0 i.fh).set R.FCS_SHAPE_FO 0 i.fo
  let s := s.set R.FCS_PAIRC_PAIR 0 i.pair
  let s := s.each s.districts fun s d => s.applyDist d (i.dists.getD d default)
  i.wlist.foldl State.listWrite s

/-- The baseline ROM image in force (R340, R344); the Archive names the reasons. -/
def State.applyBase (s : State) : State :=
  let s := (((s.set R.IMG_STAT_SRC 0 3).set R.IMG_STAT_FMT_MAJ 0 2).set R.IMG_STAT_FMT_MIN 0 3).set R.IMG_SEQ_SEQ 0 0
  let s := { s with coef := s.districts.map fun d => (d, Config.romSet d), dev := { s.dev with fcdecl := false } }
  let s := (s.each s.districts fun s d => s.applyDist d (baseDist d)).raise R.IMG_FLT_BASE
  s.event 0x0002 (s.word R.IMG_STAT_SRC.base R.IMG_STAT_SRC.rst).toNat

/-! ### The checks of a weights image (R223, R345, R346) -/

/-- LEN of a weights image of a shape. -/
def weightsLen (n fin fh fo : Nat) : Nat := 64 + n * weightsSize fin fh fo

/-- lo ≤ hi element by element (R220). -/
def boundsOk (lo hi : Vec) : Bool :=
  (List.range lo.m.length).all fun k => !Acc.below (hi.m.getD k 0, hi.e - 15) (lo.m.getD k 0, lo.e - 15)

/-- Whether a set has the declared shape. -/
def weightsFit (w : WeightSet) (fin fh fo : Nat) : Bool :=
  matShape w.w1 fh fin && matShape w.w2 fo fh && w.b1.m.length == fh && w.lo1.m.length == fh && w.hi1.m.length == fh
    && w.b2.m.length == fo && w.lo2.m.length == fo && w.hi2.m.length == fo && boundsOk w.lo1 w.hi1 && boundsOk w.lo2 w.hi2

/-- Check 2 of R346. -/
def State.shapeFits (s : State) (w : WeightsImg) : Bool :=
  let fin := s.get R.FCS_SHAPE_FIN
  let fh := s.get R.FCS_SHAPE_FH
  let fo := s.get R.FCS_SHAPE_FO
  w.fmtMaj == 1 && w.ndist == s.cfg.n && w.fin == fin && w.fh == fh && w.fo == fo && w.len == weightsLen s.cfg.n fin fh fo
    && w.sets.length == s.cfg.n && w.sets.all fun x => weightsFit x fin fh fo

/-- A decrypted weights image is checked against the control image in use, and taken or zeroised; its pairing id is shown as that of
the last one offered (R232). -/
def State.weightsCheck (s : State) (digest : List Byte) (w : WeightsImg) : State :=
  let s := s.set R.FCS_PAIRW_PAIR 0 w.pair
  if s.baseline then s.dropWeights fcDisabled 3
  else if w.pair = 0 || w.pair != s.get R.FCS_PAIRC_PAIR || !s.dev.fcdecl then (s.raise R.FCS_FLT_PAIR).dropWeights fcDisabled 1
  else if !s.shapeFits w then (s.raise R.FCS_FLT_SHAPE).dropWeights fcDisabled 2
  else
    { s with weights := (List.range w.sets.length).zip w.sets, sec := { s.sec with wDigest := digest } }.fcAccept

/-- A weights image held from before the control image is checked now. -/
def State.heldWeights (s : State) : State :=
  match s.sec.wHeld with
  | none => s
  | some (dg, w) => { s with sec := { s.sec with wHeld := none } }.weightsCheck dg w

/-! ### Image selection (R340, R341) -/

/-- The control image is selected, checked and applied; the operands count the errors that the reads of the slots meet. -/
def effImageSelect (s : State) (errA errB : Nat) : State :=
  if !s.flashReads || !s.dev.calDone || s.dev.imgDone then s
  else
    let a := s.slotRead 0 errA
    let b := s.slotRead 1 errB
    let (use, ra, rb) := s.trySlots a b (if s.dev.flashUsable then tryOrder s.dev.nextSel a b else []) (0xF, 0xF)
    let s := (s.set R.IMG_STAT_REJA 0 ra).set R.IMG_STAT_REJB 0 rb
    let s := (s.raiseIf (ra != 0 && ra != 0xF) R.IMG_FLT_REJA).raiseIf (rb != 0 && rb != 0xF) R.IMG_FLT_REJB
    let s := match use with
      | none =>
        { s.applyBase with sec := { s.applyBase.sec with imgDigest := Config.romDigest } }
      | some k =>
        let i := if k = 0 then a.img else b.img
        let t := s.applyImage (k + 1) i
        { t with sec := { t.sec with imgDigest := Config.sha384 (memRead t.flash (t.slotAt k) (i.len - 96)) } }
    { s with dev := { s.dev with imgDone := true } }.heldWeights.phase

/-! ### A calibration commit (R349) -/

/-- CLEAR opens the staging buffer, filled with 0xFF. -/
def effCalClear (s : State) : State :=
  if s.cal.commit then s else { s.set R.CAL_CSTAT_OPEN 0 1 with cal := { s.cal with stag := some [] } }

/-- A word written to the staging buffer at OFS, which advances. -/
def effCalWdat (s : State) (w : Word) : State :=
  let o := s.get R.CAL_WADR_OFS
  let s := s.set R.CAL_WADR_OFS 0 (o + 4)
  match s.cal.stag with
  | some m => if s.cal.commit then s else { s with cal := { s.cal with stag := some (memWrite m o (leBytes 4 w.toNat)) } }
  | none => s



/-- COMMIT with a KEY: checked, and begun with the erase of the region. -/
def effCalCommit (s : State) (key : Nat) : State :=
  if key ≠ 0x5A then s.calRefuse 1
  else if !(s.devSt == devRun || s.devSt == devQuiet) || s.dev.pgm.isSome || s.cal.commit || !s.dev.flashUsable then s.calRefuse 3
  else match s.cal.stag with
    | none => s.calRefuse 3
    | some m =>
      if calState m (s.fuse.getD default).dieId ≠ 1 then s.calRefuse 2
      else
        let s := ((s.set R.CAL_CSTAT_BUSY 0 1).inc R.CAL_CSTAT_COMMITS).raise R.CAL_FLT_LOST
        { s with cal := { s.cal with commit := true }, flash := memErase s.flash 0 0x10000 }

/-- The commit ends: the region holds the staged set, or what a flash error left. -/
def effCalCommitted (s : State) (good : Bool) : State :=
  if s.cal.commit then
    let m := s.cal.stag.getD []
    let s := s.set R.CAL_CSTAT_BUSY 0 0
    let s := if good then (s.set R.CAL_CSTAT_RESULT 0 0) else s.calRefuse 4
    let (v, s) := if good then (0, s) else s.freeBits (8 * 0x10000)
    let f := if good then memWrite s.flash 0 (memRead m 0 0x10000) else memLeave s.flash 0 0x10000 v
    { s.set R.CAL_CSTAT_OPEN 0 0 with flash := f, cal := { s.cal with commit := false, stag := none } }.commitRec
  else s

/-! ### Slot programming (R350) -/

/-- Four bytes appended to the page buffer, as far as it has room. -/
def effPdat (s : State) (w : Word) : State :=
  let b := (s.pageBuf ++ leBytes 4 w.toNat).take 256
  { s.set R.IMG_PSTAT_BUFCNT 0 b.length with pageBuf := b }

/-- The page buffer is emptied. -/
def effEmptyBuf (s : State) : State := { s.set R.IMG_PSTAT_BUFCNT 0 0 with pageBuf := [] }

/-- A command on a slot: 1 erases the sector at OFS, 2 programs the buffer there; refused as R350 sets. DEDUCED (assumption 143): the
lowest RESULT code that applies is the one shown. -/
def effPcmd (s : State) (k : Nat) : State :=
  let slot := s.get R.IMG_PADR_SLOT
  let ofs := s.get R.IMG_PADR_OFS
  if s.get R.IMG_STAT_SRC = slot + 1 then s.set R.IMG_PSTAT_RESULT 0 1
  else if !(s.devSt == devRun || s.devSt == devQuiet) || !s.dev.flashUsable || s.cal.commit || s.dev.pgm.isSome then
    s.set R.IMG_PSTAT_RESULT 0 2
  else if ofs % (if k = 1 then 0x1000 else 0x100) ≠ 0 ∨ s.slotSize ≤ ofs then s.set R.IMG_PSTAT_RESULT 0 3
  else { s.set R.IMG_PSTAT_BUSY 0 1 with dev := { s.dev with pgm := some (k, s.slotAt slot + ofs) } }

/-- The command ends; a programmed page is compared by read-back. -/
def effPcmdDone (s : State) (good : Bool) : State :=
  match s.dev.pgm with
  | none => s
  | some (k, a) =>
    let s := { s.set R.IMG_PSTAT_BUSY 0 0 with dev := { s.dev with pgm := none } }
    if k = 1 then { s.set R.IMG_PSTAT_RESULT 0 0 with flash := memErase s.flash a 0x1000 }
    else
      let n := s.pageBuf.length
      let (v, s) := if good then (0, s) else s.freeBits (8 * n)
      let f := if good then memProg s.flash a s.pageBuf else memLeave s.flash a n v
      let same := good && memRead f a n == s.pageBuf
      let s := { s with flash := f }
      if same then s.set R.IMG_PSTAT_RESULT 0 0 else (s.set R.IMG_PSTAT_RESULT 0 4).raise R.IMG_FLT_PGMERR

/-! ### The meanings -/

def execSfdpDiscovery (sfdp : List Byte) (s : State) : Host.Outcome State Fault Refusal := .next (effSfdp s sfdp)

def execCalibrationLoad (s : State) : Host.Outcome State Fault Refusal := .next (effCalLoad s)

def execImageSelect (errA errB : Nat) (s : State) : Host.Outcome State Fault Refusal := .next (effImageSelect s errA errB)

def execCalClear (g : Gal) (s : State) : Host.Outcome State Fault Refusal :=
  .next (s.hostWrite g R.CAL_CMD_CLEAR.base 0x40000000 effCalClear)

def execCalWdat (g : Gal) (w : Word) (s : State) : Host.Outcome State Fault Refusal :=
  .next (s.hostWrite g R.CAL_WDAT_DATA.base w fun s => effCalWdat s w)

def execCalCommit (g : Gal) (s : State) : Host.Outcome State Fault Refusal :=
  .next (s.hostWrite g R.CAL_CMD_COMMIT.base 0x8000005A fun s => effCalCommit s 0x5A)

def execCalCommitComplete (good : Bool) (s : State) : Host.Outcome State Fault Refusal := .next (effCalCommitted s good)

def execImgPdat (g : Gal) (w : Word) (s : State) : Host.Outcome State Fault Refusal :=
  .next (s.hostWrite g R.IMG_PDAT_DATA.base w fun s => effPdat s w)

def execImgErase (g : Gal) (s : State) : Host.Outcome State Fault Refusal :=
  .next (s.hostWrite g R.IMG_PCMD_CMD.base 0x40000000 fun s => effPcmd s 1)

def execImgProgram (g : Gal) (s : State) : Host.Outcome State Fault Refusal :=
  .next (s.hostWrite g R.IMG_PCMD_CMD.base 0x80000000 fun s => effPcmd s 2)

def execImgEmptyBuffer (g : Gal) (s : State) : Host.Outcome State Fault Refusal :=
  .next (s.hostWrite g R.IMG_PCMD_CMD.base 0xC0000000 effEmptyBuf)

def execImgPcmdComplete (good : Bool) (s : State) : Host.Outcome State Fault Refusal := .next (effPcmdDone s good)

end Sys2Proof.Machine
end

