-- ==== Sys2Proof/Machine/Spdm.lean ====
section
/-!
DEFINITION. Identity, the mailbox and the SPDM responder (R437, R439 to R452). The layouts of SPDM messages that the spec
takes from DSP0274 without repeating them are PRESUMED (assumption 60).
-/
namespace Sys2Proof.Machine

/-! ### Identity and random values (R437, R439) -/

/-- The identity key has been derived. -/
def effIdReady (s : State) : State := if s.dev.released then { s with sec := { s.sec with idReady := true } } else s

/-- An entropy health test fails. -/
def effEntFail (s : State) : State :=
  if s.dev.released then { s.raise R.SEC_FLT_ENTFAIL with sec := { s.sec with entFail := true } } else s

/-- `n` random bytes, and the state after the draw. -/
def State.random (s : State) (n : Nat) : List Byte × State :=
  ((List.range n).map fun k => Config.drbg (s.free + k), { s with free := s.free + n })

/-! ### The measured values (R446, R447) -/

/-- A register word as bytes. -/
def State.regBytes (s : State) (addr : Nat) : List Byte := leBytes 4 (s.readWord 0 false (s.maskBits 0) addr).toNat

/-- The bytes of the gallery partition. -/
def State.partition (s : State) : List Byte :=
  ((List.range 8).flatMap fun g => (List.range 16).flatMap fun j => s.regBytes (0x18040 + 0x1000 * g + 4 * j))
    ++ s.regBytes 0x15040
    ++ ((List.range 16384).map fun q => if q < 256 * s.cfg.n then BitVec.ofNat 8 (s.get R.GQ_QCTL_GAL q) else 0)
    ++ s.regBytes 0xD060 ++ s.regBytes 0xD064

/-- The values of the blocks 1 to 8. -/
def State.measured (s : State) : List (List Byte) :=
  let f := s.fuse.getD default
  let b (F : Fld) (k : Nat) : Nat := s.get F * 2 ^ k
  [fit 48 Config.romDigest, fit 48 s.sec.imgDigest, fit 48 s.sec.wDigest, fit 48 (if s.cal.inUse then s.cal.digest else []),
   leBytes 8 f.dieId ++ leBytes 1 f.rev ++ leBytes 1 (f.revoked % 16) ++ leBytes 2 f.fused.length
     ++ fit 48 (Config.sha384 (f.digests.flatMap id)),
   leBytes 4 (b R.SEC_DBG_INV 0 + b R.SEC_DBG_JTAG 1 + b R.SEC_DBG_GAL 2 + b R.SEC_DBG_TAPACT 3),
   fit 48 (Config.sha384 s.partition),
   s.regBytes 0x5044 ++ s.regBytes 0x5048 ++ s.regBytes 0x4040 ++ s.regBytes 0xF044]

/-- The type bytes of the blocks. -/
def blockTypes : List Nat := [0x00, 0x01, 0x03, 0x02, 0x82, 0x85, 0x03, 0x86]

/-- Measurement block `i`, 1 to 8, of the values taken at the SEND. -/
def State.block (s : State) (i : Nat) : List Byte :=
  let v := s.sec.snap.getD (i - 1) []
  leBytes 1 i ++ leBytes 1 1 ++ leBytes 2 (v.length + 3) ++ leBytes 1 (blockTypes.getD (i - 1) 0) ++ leBytes 2 v.length ++ v

/-- The summary hash of a type (R448), where the type is one of the three. -/
def State.summary (s : State) (ty : Nat) : Option (List Byte) :=
  if ty = 0 then some []
  else if ty = 1 then some (fit 48 (Config.sha384 (([1, 2, 4, 5, 6] : List Nat).flatMap s.block)))
  else if ty = 0xFF then some (fit 48 (Config.sha384 (([1, 2, 3, 4, 5, 6, 7, 8] : List Nat).flatMap s.block)))
  else none

/-! ### The claim (R440) -/

/-- Whether a gallery owns the claim. -/
def State.ownsMb (s : State) (g : Nat) : Bool := s.flag R.SEC_MBSTAT_OWNED && s.get R.SEC_MBSTAT_OWNER == g

/-- The end of a claim: the session ends, and the connection returns to its state before GET_VERSION. -/
def State.endClaim (s : State) : State :=
  let s := s.endSession.set R.SEC_SESS_CONN 0 0
  let s := (((s.set R.SEC_MBSTAT_OWNED 0 0).set R.SEC_MBSTAT_OWNER 0 0).set R.SEC_MBSTAT_BUSY 0 0).set R.SEC_MBSTAT_RDY 0 0
  let s := (s.set R.SEC_MBSTAT_RKIND 0 0).set R.SEC_MBSTAT_RLEN 0 0
  { s with sec := { s.sec with busy := none, done := none, rsp := [], vca := [], m1m2 := [], l1l2 := [] } }

/-- CLAIM: the mailbox is taken while it is unowned. -/
def effClaim (s : State) (g : Nat) : State :=
  if s.flag R.SEC_MBSTAT_OWNED then (if s.ownsMb g then s else s.raise R.SEC_FLT_MBBUSY)
  else (s.set R.SEC_MBSTAT_OWNED 0 1).set R.SEC_MBSTAT_OWNER 0 g

/-- REL: the owner ends the claim. -/
def effRel (s : State) (g : Nat) : State :=
  if s.ownsMb g then s.endClaim else if s.flag R.SEC_MBSTAT_OWNED then s.raise R.SEC_FLT_MBBUSY else s

/-- FREL: gallery 0 ends any claim. -/
def effFrel (s : State) (g : Nat) : State := if s.flag R.SEC_MBSTAT_OWNED && g == 0 then s.endClaim else s

/-- A claim with no SEND for 1 s ends; a SEND that takes effect on the edge of the limit, and is not yet answered, wins (R458). -/
def effMbTimeout (s : State) : State :=
  if s.flag R.SEC_MBSTAT_OWNED && !s.flag R.SEC_MBSTAT_BUSY then s.endClaim.raise R.SEC_FLT_MBTMO else s

/-! ### The buffers and SEND (R441, R442) -/

/-- The message in the request buffer. -/
def State.reqMsg (s : State) (n : Nat) : List Byte := (List.range n).map fun k => tabAt s.sec.req k

/-- Bytes written to a store of `n` bytes from an offset. -/
def putBytes (n : Nat) (t : Tab Byte) (o : Nat) (l : List Byte) : Tab Byte :=
  (l.zip (List.range l.length)).foldl (fun t x => if o + x.2 < n then tabPut t (o + x.2) x.1 else t) t

/-- A write to SEC_MBDAT. -/
def effMbData (s : State) (g : Nat) (w : Word) : State :=
  if s.flag R.SEC_MBSTAT_OWNED && !s.ownsMb g then s.raise R.SEC_FLT_MBBUSY
  else
    let o := s.get R.SEC_MBADR_OFS
    { s.set R.SEC_MBADR_OFS 0 (o + 4) with sec := { s.sec with req := putBytes 4096 s.sec.req o (leBytes 4 w.toNat) } }

/-- An answer stands formed; `sealedMsg` for a secured message. -/
def State.putReply (s : State) (sealedMsg : Bool) (r : List Byte) : State :=
  { s with sec := { s.sec with done := some (sealedMsg, r) } }

/-- An ERROR response. -/
def errMsg (code data : Nat) : List Byte := [0x12#8, 0x7F#8, BitVec.ofNat 8 code, BitVec.ofNat 8 data]

/-- SEND: the request is handed over, with the values measured on this edge. -/
def effSend (s : State) (g : Nat) (secured : Bool) (len : Nat) : State :=
  if !s.ownsMb g then (if s.flag R.SEC_MBSTAT_OWNED then s.raise R.SEC_FLT_MBBUSY else s)
  else if s.flag R.SEC_MBSTAT_BUSY then s.raise R.SEC_FLT_MBBUSY
  else
    let s := (s.set R.SEC_MBSTAT_BUSY 0 1).set R.SEC_MBSTAT_RDY 0 0
    let s := { s with sec := { s.sec with busy := some (secured, len), done := none, snap := s.measured,
                                          snapChain := s.sec.committed } }
    if len = 0 ∨ 4096 < len then (s.raise R.SEC_FLT_SPDMERR).putReply false (errMsg 0x0E 0) else s

/-- A write to SEC_MBCTL. -/
def State.mbctl (s : State) (g : Nat) (w : Word) : State :=
  if w.getLsbD 28 && g == 0 && s.flag R.SEC_MBSTAT_OWNED then s.endClaim
  else if s.flag R.SEC_MBSTAT_OWNED && !s.ownsMb g then s.raise R.SEC_FLT_MBBUSY
  else
    let s := if w.getLsbD 31 then effClaim s g else s
    let s := if w.getLsbD 29 then effSend s g (w.getLsbD 24) (bitsOf w 0 13) else s
    if w.getLsbD 30 then effRel s g else s

/-- The response stands in the buffer: RDY. Keys that END_SESSION ends are zeroised before it. -/
def effResponseReady (s : State) : State :=
  match s.sec.done with
  | none => s
  | some (k, r) =>
    let s := if s.sec.zeroPend then s.endSession else s
    let s := ((s.set R.SEC_MBSTAT_BUSY 0 0).set R.SEC_MBSTAT_RDY 0 1).set R.SEC_MBSTAT_RKIND 0 (if k then 1 else 0)
    { s.set R.SEC_MBSTAT_RLEN 0 r.length with sec := { s.sec with busy := none, done := none, rsp := r } }

/-! ### The SPDM requests (R443 to R445, R447 to R449) -/

/-- What the responder does with one SPDM message: the response, and the state behind it. -/
abbrev Reply := List Byte × State


/-- An ERROR leaves the connection as it is, and sets SPDMERR. -/
def State.error (s : State) (code : Nat) (data : Nat := 0) : Reply := (errMsg code data, s.raise R.SEC_FLT_SPDMERR)

/-- A response of code `c`. -/
def rspHdr (c p1 p2 : Nat) : List Byte := leBytes 1 0x12 ++ leBytes 1 c ++ leBytes 1 p1 ++ leBytes 1 p2

/-- GET_VERSION, in every state. -/
def State.spdmVersion (s : State) (m : List Byte) : Reply :=
  let s := s.endSession.set R.SEC_SESS_CONN 0 1
  let r := leBytes 1 0x10 ++ leBytes 1 0x04 ++ leBytes 2 0 ++ leBytes 1 0 ++ leBytes 1 1 ++ leBytes 2 0x1200
  (r, { s with sec := { s.sec with vca := m ++ r, m1m2 := [], l1l2 := [] } })

/-- The CAPABILITIES response. -/
def capsRsp : List Byte :=
  rspHdr 0x61 0 0 ++ leBytes 1 0 ++ leBytes 1 15 ++ leBytes 2 0 ++ leBytes 4 0x2F6 ++ leBytes 4 4096 ++ leBytes 4 4096

/-- A response that extends the transcript of the negotiation. -/
def State.negotiated (s : State) (m r : List Byte) (conn : Nat) : Reply :=
  (r, { s.set R.SEC_SESS_CONN 0 conn with sec := { s.sec with vca := s.sec.vca ++ m ++ r } })

/-- GET_CAPABILITIES. -/
def State.spdmCaps (s : State) (m : List Byte) : Reply :=
  if s.get R.SEC_SESS_CONN ≠ 1 then s.error 0x04
  else if m.length ≠ 20 ∨ numAt m 12 4 < 42 ∨ numAt m 16 4 < numAt m 12 4 then s.error 0x01
  else s.negotiated m capsRsp 2

/-- The algorithm structures of NEGOTIATE_ALGORITHMS from an offset: type and offered bits, where they are well formed. -/
def algStructs (m : List Byte) : Nat → Nat → Option (List (Nat × Nat))
  | 0, o => if o = m.length then some [] else none
  | n + 1, o =>
    if o + 4 ≤ m.length then
      (algStructs m n (o + 4 + 4 * (byteAt m (o + 1) % 16))).map fun r => (byteAt m o, numAt m (o + 2) 2) :: r
    else none

/-- What Korrath selects for a structure type (R444). -/
def algSel (ty : Nat) : Nat := if ty = 2 then 0x10 else if ty = 3 then 2 else if ty = 5 then 1 else 0

/-- Whether a structure type is offered with the bit that Korrath selects. -/
def offers (l : List (Nat × Nat)) (ty : Nat) : Bool := l.any fun x => x.1 == ty && x.2 &&& algSel ty != 0

/-- NEGOTIATE_ALGORITHMS: the fixed set, or InvalidRequest and the connection restarts. -/
def State.spdmAlgs (s : State) (m : List Byte) : Reply :=
  if s.get R.SEC_SESS_CONN ≠ 2 then s.error 0x04
  else
    let st := if m.length < 32 ∨ numAt m 4 2 ≠ m.length then none
      else algStructs m (byteAt m 2) (32 + 4 * (byteAt m 28 + byteAt m 29))
    match st with
    | none => s.error 0x01
    | some l =>
      if (byteAt m 6).testBit 0 && byteAt m 7 &&& 2 != 0 && (numAt m 8 4).testBit 7 && (numAt m 12 4).testBit 1
          && offers l 2 && offers l 3 && offers l 5 then
        let al : List Byte := l.flatMap fun x => leBytes 1 x.1 ++ leBytes 1 0x20 ++ leBytes 2 (algSel x.1)
        let r := rspHdr 0x63 l.length 0 ++ leBytes 2 (36 + al.length) ++ leBytes 1 1 ++ leBytes 1 2 ++ leBytes 4 4
          ++ leBytes 4 0x80 ++ leBytes 4 2 ++ leBytes 16 0 ++ al
        s.negotiated m r 3
      else (s.set R.SEC_SESS_CONN 0 0).error 0x01

/-- Whether the algorithms have been negotiated. -/
def State.negDone (s : State) : Bool := decide (3 ≤ s.get R.SEC_SESS_CONN)

/-- A request and its response enter the transcript of CHALLENGE. -/
def State.noted (s : State) (m r : List Byte) : Reply :=
  (r, { s with sec := { s.sec with m1m2 := s.sec.m1m2 ++ m ++ r, l1l2 := [] } })

/-- The chain that stood committed at the SEND. -/
def State.chain (s : State) : List Byte := s.sec.snapChain

/-- GET_DIGESTS. -/
def State.spdmDigests (s : State) (m : List Byte) : Reply :=
  if !s.negDone then s.error 0x04
  else if m.length ≠ 4 then s.error 0x01
  else s.noted m (if s.chain.isEmpty then rspHdr 0x01 0 0 else rspHdr 0x01 0 1 ++ fit 48 (Config.sha384 s.chain))

/-- GET_CERTIFICATE. -/
def State.spdmCert (s : State) (m : List Byte) : Reply :=
  if !s.negDone || s.chain.isEmpty then s.error 0x04
  else if m.length ≠ 8 ∨ byteAt m 2 % 16 ≠ 0 ∨ s.chain.length ≤ numAt m 4 2 then s.error 0x01
  else
    let o := numAt m 4 2
    let n := min (min (numAt m 6 2) 4088) (s.chain.length - o)
    s.noted m (rspHdr 0x02 0 0 ++ leBytes 2 n ++ leBytes 2 (s.chain.length - o - n) ++ (s.chain.drop o).take n)

/-- A signature of 96 bytes under the identity key, over a context and a transcript, and the state after its nonce is drawn (R439,
R443, R448, R449). -/
def State.sign (s : State) (context : Nat) (t : List Byte) : List Byte × State :=
  let (k, s) := s.random 48
  (fit 96 (Config.idSign (s.fuse.getD default).dieId k (leBytes 1 context ++ t)), s)

/-- CHALLENGE. -/
def State.spdmChallenge (s : State) (m : List Byte) : Reply :=
  if !s.negDone || s.chain.isEmpty then s.error 0x04
  else if m.length ≠ 36 ∨ byteAt m 2 ≠ 0 then s.error 0x01
  else match s.summary (byteAt m 3) with
    | none => s.error 0x01
    | some h =>
      if s.sec.entFail then s.error 0x05
      else
        let (n, s) := s.random 32
        let r := rspHdr 0x03 0 1 ++ fit 48 (Config.sha384 s.chain) ++ n ++ h ++ leBytes 2 0
        let (sg, s) := s.sign 1 (s.sec.vca ++ s.sec.m1m2 ++ m ++ r)
        (r ++ sg, { s with sec := { s.sec with m1m2 := [], l1l2 := [] } })

/-- GET_MEASUREMENTS, in a session or outside one. -/
def State.spdmMeas (s : State) (inSess : Bool) (m : List Byte) : Reply :=
  let signed := (byteAt m 2).testBit 0
  let op := byteAt m 3
  if !s.negDone || (inSess && s.get R.SEC_SESS_CONN != 5) then s.error 0x04
  else if m.length ≠ (if signed then 37 else 4) ∨ (signed && byteAt m 36 % 16 != 0) ∨ (8 < op ∧ op ≠ 0xFF) then s.error 0x01
  else if s.sec.entFail then s.error 0x05
  else
    let ix : List Nat := if op = 0 then [] else if op = 0xFF then [1, 2, 3, 4, 5, 6, 7, 8] else [op]
    let rec_ := ix.flatMap s.block
    let (n, s) := s.random 32
    let r := rspHdr 0x60 (if op = 0 then 8 else 0) 0 ++ leBytes 1 ix.length ++ leBytes 3 rec_.length ++ rec_ ++ n ++ leBytes 2 0
    let t := s.sec.l1l2 ++ m ++ r
    if signed then
      let (sg, s) := s.sign 2 (s.sec.vca ++ t)
      (r ++ sg, { s with sec := { s.sec with l1l2 := [] } })
    else (r, { s with sec := { s.sec with l1l2 := t } })

/-- KEY_EXCHANGE: one session, with an ephemeral key. -/
def State.spdmKeyEx (s : State) (m : List Byte) : Reply :=
  if !s.negDone || s.chain.isEmpty then s.error 0x04
  else if m.length < 138 ∨ m.length ≠ 138 + numAt m 136 2 ∨ byteAt m 3 ≠ 0 then s.error 0x01
  else if s.sec.sess.isSome then s.error 0x0A
  else match s.summary (byteAt m 2) with
    | none => s.error 0x01
    | some h =>
      if s.sec.entFail then s.error 0x05
      else
        let (rd, s) := s.random 32
        let (sid, s) := s.freeBits 16
        let pub := fit 96 (Config.ecdhPub s.free)
        let r := rspHdr 0x64 0 0 ++ leBytes 2 sid ++ leBytes 2 0 ++ rd ++ pub ++ h ++ leBytes 2 0
        let t := s.sec.vca ++ fit 48 (Config.sha384 s.chain) ++ m ++ r
        let (sg, s) := { s with free := s.free + 1 }.sign 3 t
        let t := t ++ sg
        let v := fit 48 (Config.finishedMac 1 t)
        let ss : SessS := { reqSid := numAt m 4 2, rspSid := sid, established := false, seqIn := 0, seqOut := 0, th := t ++ v }
        let s := (s.set R.SEC_SESS_CONN 0 4).set R.SEC_SESS_RSPSID 0 sid
        (r ++ sg ++ v, { s with sec := { s.sec with sess := some ss, l1l2 := [], m1m2 := [] } })

/-- FINISH: the requester's verify data is right, or the handshake ends. -/
def State.spdmFinish (s : State) (inSess : Bool) (m : List Byte) : Reply :=
  match s.sec.sess with
  | none => s.error 0x04
  | some x =>
    if !inSess || x.established then s.error 0x04
    else if m.length ≠ 52 ∨ (byteAt m 2).testBit 0 then s.error 0x01
    else if bytesAt m 4 48 ≠ fit 48 (Config.finishedMac 0 (x.th ++ m.take 4)) then s.endSession.error 0x06
    else
      let r := rspHdr 0x65 0 0
      (r, { s.set R.SEC_SESS_CONN 0 5 with
        sec := { s.sec with sess := some { x with established := true, seqIn := 0, seqOut := 0, th := x.th ++ m ++ r }, l1l2 := [] } })

/-- END_SESSION: the keys go once the acknowledgement stands. -/
def State.spdmEnd (s : State) (inSess : Bool) (m : List Byte) : Reply :=
  if !inSess || s.get R.SEC_SESS_CONN != 5 then s.error 0x04
  else if m.length ≠ 4 then s.error 0x01
  else (rspHdr 0x6C 0 0, { s with sec := { s.sec with zeroPend := true } })

/-- The request codes of R443. -/
abbrev rqVersion : Nat := 0x84
abbrev rqCaps : Nat := 0xE1
abbrev rqAlgs : Nat := 0xE3
abbrev rqDigests : Nat := 0x81
abbrev rqCert : Nat := 0x82
abbrev rqChallenge : Nat := 0x83
abbrev rqMeas : Nat := 0xE0
abbrev rqKeyEx : Nat := 0xE4
abbrev rqFinish : Nat := 0xE5
abbrev rqEnd : Nat := 0xEC

/-- The requests that a secured message may not carry (R443); a KEY_EXCHANGE there meets its own row of R445. -/
def outsideOnly (c : Nat) : Bool := decide (c ∈ [rqCaps, rqAlgs, rqDigests, rqCert, rqChallenge])

/-- One SPDM message: checked in the order of R445, and answered. -/
def State.spdmReply (s : State) (inSess : Bool) (m : List Byte) : Reply :=
  let c := byteAt m 1
  if !s.sec.idReady then s.error 0x03
  else if m.length < 2 then s.error 0x01
  else if c ≠ rqVersion ∧ byteAt m 0 ≠ 0x12 then s.error 0x41
  else if inSess && outsideOnly c then s.error 0x04
  else if c = rqVersion then (if m.length = 4 then s.spdmVersion m else s.error 0x01)
  else if c = rqCaps then s.spdmCaps m
  else if c = rqAlgs then s.spdmAlgs m
  else if c = rqDigests then s.spdmDigests m
  else if c = rqCert then s.spdmCert m
  else if c = rqChallenge then s.spdmChallenge m
  else if c = rqMeas then s.spdmMeas inSess m
  else if c = rqKeyEx then s.spdmKeyEx m
  else if c = rqFinish then s.spdmFinish inSess m
  else if c = rqEnd then s.spdmEnd inSess m
  else s.error 0x07 c

/-! ### Key records (R451, R452) -/

/-- The STATUS of a key record (R452). -/
def State.keyStatus (s : State) (m : List Byte) : Nat :=
  if s.flag R.SEC_DBG_INV || s.sec.dbgReq != 0 then 1
  else if m.length ≠ 92 ∨ numAt m 0 4 ≠ 0x4C45524B ∨ byteAt m 4 ≠ 1 ∨ numAt m 5 3 ≠ 0 then 2
  else if s.dev.imgDone && !s.baseline && numAt m 8 4 != s.get R.FCS_PAIRC_PAIR then 3
  else if s.sec.key.isSome then 4
  else 0

/-- A key record is accepted and held, or refused: the KACK. -/
def State.keyReply (s : State) (m : List Byte) : Reply :=
  let st := s.keyStatus m
  let s := s.set R.SEC_KEY_LASTST 0 st
  let s := if st = 0 then
      { s.set R.SEC_KEY_HELD 0 1 with sec := { s.sec with key := some (numAt m 8 4, bytesAt m 12 48, bytesAt m 60 32) } }
    else ((s.failDelivery 6).dropKey).raise R.SEC_FLT_KEYREF
  (leBytes 4 0x4B43414B ++ leBytes 1 1 ++ leBytes 1 st ++ leBytes 2 0, s)

/-! ### The message at hand (R441, R445) -/

/-- A message that is answered by an empty response. -/
def State.emptyReply (s : State) : State := (s.raise R.SEC_FLT_SPDMERR).putReply false []

/-- A secured response: session ID, length, and the data of a kind encrypted with its MAC; the session ends where a
direction has reached 65,535 (R441, R449). An answer outside a session goes in the clear. -/
def State.sealReply (_s : State) (x : SessS) (kind : Nat) (r : Reply) : State :=
  let t := r.2
  match t.sec.sess with
  | none => t.putReply false r.1
  | some y =>
    let d := leBytes 1 kind ++ r.1
    let h := leBytes 2 x.reqSid ++ leBytes 2 x.rspSid ++ leBytes 2 (d.length + 16)
    let z := { y with seqIn := (if y.established != x.established then y.seqIn else x.seqIn + 1),
                      seqOut := (if y.established != x.established then y.seqOut else x.seqOut + 1) }
    let t := { t with sec := { t.sec with sess := some z } }
    let t := t.putReply true (h ++ gcmSeal (Config.sessKey x.th 1) (leBytes 12 x.seqOut) h d)
    if 65535 ≤ z.seqIn ∨ 65535 ≤ z.seqOut then t.endSession else t

/-- Application data that is answered by an empty response: the message counts in the direction of the requester, and the session
ends where that has reached 65,535 (R441, R449). -/
def State.emptyData (s : State) (x : SessS) : State :=
  let s := { s with sec := { s.sec with sess := some { x with seqIn := x.seqIn + 1 } } }.emptyReply
  if 65535 ≤ x.seqIn + 1 then s.endSession else s

/-- The session that a secured request names with its first four bytes. -/
def State.named (s : State) : Option SessS :=
  match s.sec.sess, s.sec.busy with
  | some x, some (_, n) =>
    if 4 ≤ n ∧ numAt (s.reqMsg 4) 0 2 = x.reqSid ∧ numAt (s.reqMsg 4) 2 2 = x.rspSid then some x else none
  | _, _ => none

/-- The application data of the secured request at hand (R441): a header of session ID and length, the encrypted data and its MAC,
under the sequence number of the direction; none where the MAC fails. -/
def State.opened (s : State) (x : SessS) : Option (List Byte) :=
  match s.sec.busy with
  | some (true, n) =>
    let m := s.reqMsg n
    if 6 ≤ n ∧ numAt m 4 2 = n - 6 then gcmOpen (Config.sessKey x.th 0) (leBytes 12 x.seqIn) (m.take 6) (m.drop 6) else none
  | _ => none

/-- What the request at hand carries, where it waits for an answer. -/
inductive AtHand where
  /-- nothing waits -/
  | none
  /-- an SPDM message in the clear -/
  | clear (m : List Byte)
  /-- a secured message that names no session, or that comes before the identity key stands -/
  | lost
  /-- a secured message whose MAC fails -/
  | broken
  /-- the application data of a secured message -/
  | data (x : SessS) (p : List Byte)
deriving DecidableEq, Repr

/-- The request at hand (R441, R445). -/
def State.atHand (s : State) : AtHand :=
  match s.sec.busy, s.sec.done with
  | some (false, n), none => .clear (s.reqMsg n)
  | some (true, _), none =>
    match s.named with
    | none => .lost
    | some x =>
      if !s.sec.idReady then .lost
      else match s.opened x with
        | none => .broken
        | some p => .data x p
  | _, _ => .none

/-- A secured message whose MAC fails: answered in the clear, and the session ends. -/
def State.decryptError (s : State) : State := (s.endSession.raise R.SEC_FLT_SPDMERR).putReply false (errMsg 0x06 0)

/-- The answer to the request at hand. -/
def State.respondTo (s : State) : State :=
  match s.atHand with
  | .none => s
  | .clear m => let r := s.spdmReply false m; r.2.putReply false r.1
  | .lost => s.emptyReply
  | .broken => s.decryptError
  | .data x p =>
    if byteAt p 0 = 1 ∧ p ≠ [] then s.sealReply x 1 (s.spdmReply true (p.drop 1))
    else if byteAt p 0 = 2 ∧ x.established then s.sealReply x 2 (s.keyReply (p.drop 1))
    else s.emptyData x

/-- The SPDM message that the request at hand carries. -/
def State.spdmMsg (s : State) : List Byte :=
  match s.atHand with
  | .clear m => m
  | .data _ p => if byteAt p 0 = 1 then p.drop 1 else []
  | _ => []

/-- A request of the code is answered. -/
def effRequest (s : State) (code : Nat) : State :=
  if byteAt s.spdmMsg 1 = code ∧ 2 ≤ s.spdmMsg.length then s.respondTo else s

/-- Whether an answer is an ERROR in the clear, or empty. -/
def isError (r : Option (Bool × List Byte)) : Bool :=
  match r with
  | some (false, l) => l.isEmpty || byteAt l 1 == 0x7F
  | _ => false

/-- A request that is answered with an ERROR, or not at all (R445); a MAC that fails is DECRYPT_ERROR's. -/
def effUnsupported (s : State) : State :=
  match s.atHand with
  | .none | .broken => s
  | .lost => s.respondTo
  | .clear _ => if isError s.respondTo.sec.done then s.respondTo else s
  | .data _ p =>
    if isError s.respondTo.sec.done || (byteAt p 0 == 1 && byteAt (s.spdmReply true (p.drop 1)).1 1 == 0x7F)
    then s.respondTo else s

/-- A secured message whose MAC fails (R445). -/
def effDecryptError (s : State) : State :=
  match s.atHand with
  | .broken => s.decryptError
  | _ => s

/-- A key record, in a secured message. -/
def effKeyRecord (s : State) : State :=
  match s.atHand with
  | .data _ p => if byteAt p 0 = 2 then s.respondTo else s
  | _ => s

/-! ### The meanings -/

def execIdentityKeyReady (s : State) : Host.Outcome State Fault Refusal := .next (effIdReady s)

def execEntropyHealthFail (s : State) : Host.Outcome State Fault Refusal := .next (effEntFail s)

def execClaim (g : Gal) (s : State) : Host.Outcome State Fault Refusal :=
  .next (s.hostWrite g R.SEC_MBCTL_CLAIM.base 0x80000000 fun s => effClaim s g)

def execRel (g : Gal) (s : State) : Host.Outcome State Fault Refusal :=
  .next (s.hostWrite g R.SEC_MBCTL_REL.base 0x40000000 fun s => effRel s g)

def execFrel (g : Gal) (s : State) : Host.Outcome State Fault Refusal :=
  .next (s.hostWrite g R.SEC_MBCTL_FREL.base 0x10000000 fun s => effFrel s g)

def execMailboxTimeout (s : State) : Host.Outcome State Fault Refusal := .next (effMbTimeout s)

def execMailboxDataWrite (g : Gal) (w : Word) (s : State) : Host.Outcome State Fault Refusal :=
  .next (s.hostWrite g R.SEC_MBDAT_DATA.base w fun s => effMbData s g w)

def execSend (g : Gal) (secured : Bool) (len : Nat) (s : State) : Host.Outcome State Fault Refusal :=
  let w : Word := BitVec.ofNat 32 (0x20000000 + (if secured then 0x01000000 else 0) + len % 0x2000)
  .next (s.hostWrite g R.SEC_MBCTL_SEND.base w fun s => effSend s g secured (len % 0x2000))

def execSpdmResponseReady (s : State) : Host.Outcome State Fault Refusal := .next (effResponseReady s)

def execGetVersion (s : State) : Host.Outcome State Fault Refusal := .next (effRequest s rqVersion)

def execGetCapabilities (s : State) : Host.Outcome State Fault Refusal := .next (effRequest s rqCaps)

def execNegotiateAlgorithms (s : State) : Host.Outcome State Fault Refusal := .next (effRequest s rqAlgs)

def execGetDigests (s : State) : Host.Outcome State Fault Refusal := .next (effRequest s rqDigests)

def execGetCertificate (s : State) : Host.Outcome State Fault Refusal := .next (effRequest s rqCert)

def execChallenge (s : State) : Host.Outcome State Fault Refusal := .next (effRequest s rqChallenge)

def execGetMeasurements (s : State) : Host.Outcome State Fault Refusal := .next (effRequest s rqMeas)

def execKeyExchange (s : State) : Host.Outcome State Fault Refusal := .next (effRequest s rqKeyEx)

def execFinish (s : State) : Host.Outcome State Fault Refusal := .next (effRequest s rqFinish)

def execEndSession (s : State) : Host.Outcome State Fault Refusal := .next (effRequest s rqEnd)

def execSpdmUnsupported (s : State) : Host.Outcome State Fault Refusal := .next (effUnsupported s)

def execDecryptError (s : State) : Host.Outcome State Fault Refusal := .next (effDecryptError s)

def execKeyRecord (s : State) : Host.Outcome State Fault Refusal := .next (effKeyRecord s)

end Sys2Proof.Machine
end

