-- ==== Sys2Proof/Machine/Secrets.lean ====
section
/-!
DEFINITION. The certificate chain store, the delivery of weights, invasive debug and the TAP (R438, R453 to R457).
-/
namespace Sys2Proof.Machine

/-! ### The chain store (R438) -/

/-- The store holds 6,144 bytes. -/
abbrev chainSize : Nat := 6144

/-- CLEAR empties the store. -/
def effChainClear (s : State) : State :=
  { s.set R.SEC_CSTAT_VALID 0 0 with sec := { s.sec with chain := [], committed := [] } }

/-- A write to SEC_CDAT. -/
def effChainData (s : State) (w : Word) : State :=
  let o := s.get R.SEC_CADR_OFS
  { s.set R.SEC_CADR_OFS 0 (o + 4) with sec := { s.sec with chain := putBytes chainSize s.sec.chain o (leBytes 4 w.toNat) } }

/-- COMMIT: the chain is committed, or the store is emptied. -/
def effChainCommit (s : State) : State :=
  let n := s.get R.SEC_CCTL_LEN
  let c := (List.range n).map fun k => tabAt s.sec.chain k
  if ofLe (bytesAt c 0 2) ≠ n then (effChainClear s).set R.SEC_CSTAT_RESULT 0 3
  else if !s.sec.idReady || fit 96 (Config.leafKey c) != fit 96 (Config.idPub (s.fuse.getD default).dieId) then
    (effChainClear s).set R.SEC_CSTAT_RESULT 0 2
  else
    { (s.set R.SEC_CSTAT_VALID 0 1).set R.SEC_CSTAT_RESULT 0 1 with sec := { s.sec with committed := c } }

/-- A write to SEC_CCTL: LEN is stored, then CLEAR acts, then COMMIT. -/
def State.cctl (s : State) (priv : Bool) (addr : Nat) (w : Word) : State :=
  let s := s.storeReg priv addr w
  if !priv then s
  else
    let s := if w.getLsbD 30 then effChainClear s else s
    if w.getLsbD 31 then effChainCommit s else s

/-! ### The delivery of weights (R453) -/

/-- BEGIN is refused. -/
def State.refuseBegin (s : State) (r : Nat) : State := (s.set R.SEC_WSTAT_RESULT 0 r).raise R.SEC_FLT_WREF

/-- BEGIN: a delivery opens, or is refused. -/
def effBegin (s : State) (g : Nat) : State :=
  let st := s.get R.FCS_STAT_STATE
  if s.flag R.SEC_MBSTAT_OWNED && !s.ownsMb g then s.raise R.SEC_FLT_MBBUSY
  else if s.sec.deliv.opened then s
  else if s.sec.key.isNone then s.refuseBegin 1
  else if st = fcRun ∨ (st = fcReady ∧ s.flag R.ORR_CTL_FC_EN) then s.refuseBegin 2
  else
    let s := ((s.set R.SEC_WSTAT_STATE 0 1).set R.SEC_WSTAT_RESULT 0 0).set R.SEC_WSTAT_BYTES 0 0
    { s with sec := { s.sec with deliv := { opened := true } } }

/-- ABORT: the open delivery ends as failed. -/
def effAbort (s : State) (g : Nat) : State :=
  if s.flag R.SEC_MBSTAT_OWNED && !s.ownsMb g then s.raise R.SEC_FLT_MBBUSY else s.failDelivery 6

/-- A write to SEC_WCTL. -/
def State.wctl (s : State) (g : Nat) (w : Word) : State :=
  if s.flag R.SEC_MBSTAT_OWNED && !s.ownsMb g then s.raise R.SEC_FLT_MBBUSY
  else
    let s := if w.getLsbD 30 then effAbort s g else s
    if w.getLsbD 31 then effBegin s g else s

/-- The header check at the 48th byte: MAGIC, LEN and PAIR. -/
def State.hdrGood (s : State) (h : List Byte) : Bool :=
  let n := numAt h 8 4
  numAt h 0 4 == 0x54475754 && decide (64 ≤ n) && n % 4 == 0
    && (match s.sec.key with
      | some k => k.1 == numAt h 12 4
      | none => false)

/-- Four bytes of the stream. The plaintext goes into the weights array as it comes, so that nothing that stood there is
in use any more; it is read where the tag is checked. -/
def effWeightsData (s : State) (g : Nat) (w : Word) : State :=
  if s.flag R.SEC_MBSTAT_OWNED && !s.ownsMb g then s.raise R.SEC_FLT_MBBUSY
  else if !s.sec.deliv.opened || s.sec.deliv.full then s
  else
    let h := s.sec.deliv.str ++ leBytes 4 w.toNat
    let n := h.length
    let s := { s.setSat R.SEC_WSTAT_BYTES 0 n with sec := { s.sec with deliv := { s.sec.deliv with str := h } } }
    if n = 48 ∧ !s.hdrGood h then s.failDelivery 3
    else
      let s := if n = 52 then { s with weights := [], sec := { s.sec with wDigest := [], wHeld := none } } else s
      if 48 < n ∧ n = numAt h 8 4 then
        { s.set R.SEC_WSTAT_STATE 0 2 with sec := { s.sec with deliv := { s.sec.deliv with full := true } } }
      else s

/-- What the stream of a delivery decrypts to under a key (R345, R453): the clear header is the additional data, its NONCE the
initialisation vector, and the last 16 bytes the tag. -/
def plainOf (key str : List Byte) : Option (List Byte) :=
  gcmOpen key (bytesAt str 0x18 12) (str.take 48) (str.drop 48)

/-- Byte LEN has come: the tag and the digest are checked; the checks of R346 follow, or wait for the control image. -/
def effDeliveryEnd (s : State) : State :=
  if !s.sec.deliv.opened || !s.sec.deliv.full then s
  else
    let str := s.sec.deliv.str
    let (_, want, key) := s.sec.key.getD default
    let digest := fit 48 (Config.sha384 str)
    match plainOf key str with
    | none => s.failDelivery 4
    | some body =>
      if digest ≠ want then s.failDelivery 5
      else
        let img := weightsOf str body
        let s := { s.set R.SEC_WSTAT_STATE 0 3 with sec := { s.sec with deliv := {} } }.dropKey
        if s.dev.imgDone then s.weightsCheck digest img
        else { s.set R.FCS_PAIRW_PAIR 0 img.pair with sec := { s.sec with wHeld := some (digest, img), wDigest := digest } }

/-! ### Invasive debug (R456, R457) -/

/-- Whether a key record of the session waits for its answer. -/
def State.recordAtHand (s : State) : Bool :=
  match s.atHand with
  | .data x p => byteAt p 0 == 2 && x.established
  | _ => false

/-- A request is registered over a path, 1 JTAG or 2 gallery: the released key goes and a delivery ends, a key record that waits is
answered STATUS 0x01 (R458), the session's keys are zeroised, and the Forecaster stops. -/
def State.debugRequest (s : State) (path : Nat) : State :=
  let s := (s.failDelivery 6).dropKey
  let s := { s with sec := { s.sec with dbgReq := s.sec.dbgReq ||| path } }
  let s := if s.recordAtHand then s.respondTo else s
  let s := s.endSession.dropWeights 0 4
  (s.event 0x000D (Config.debugPath path)).event 0x0005 (s.readWord 0 false (s.maskBits 0) 0xF044).toNat

/-- A write of 1 to INV_REQ acts from gallery 0 and from the operator gallery. -/
def effInvReq (s : State) (g : Nat) : State := if g = 0 ∨ g = s.get R.SEC_DBG_OPGAL then s.debugRequest 2 else s

/-- The weights array has been zeroed: invasive debug is enabled. -/
def effInvEnabled (s : State) : State :=
  if s.sec.dbgReq = 0 then s
  else
    let s := s.raiseIf (s.sec.dbgReq.testBit 0) R.SEC_DBG_JTAG
    let s := s.raiseIf (s.sec.dbgReq.testBit 1) R.SEC_DBG_GAL
    let s := ((s.raise R.SEC_DBG_INV).raise R.SEC_FLT_DBGEN).raise R.FCS_FLT_DBGZ
    { s with sec := { s.sec with dbgReq := 0 } }

/-! ### The TAP (R317, R454, R455) -/

/-- The TAP lies in the control-complex domain (R469): it acts while that is powered, and not in cold reset. -/
def State.tapLive (s : State) : Bool := s.dev.powered && !s.dev.cold

/-- Whether an instruction can be shifted in: the controller is outside Test-Logic-Reset. -/
def State.tapOn (s : State) : Bool := s.tapLive && s.dev.tapOut

/-- Instruction codes. -/
abbrev irExtest : Nat := 0x00
abbrev irIdcode : Nat := 0x01
abbrev irSample : Nat := 0x02
abbrev irDbgstat : Nat := 0x10
abbrev irDbgen : Nat := 0x11
abbrev irDbgacc : Nat := 0x12
abbrev irBypass : Nat := 0xFF

/-- The TAP controller leaves Test-Logic-Reset. -/
def effTapExit (s : State) : State :=
  if s.tapLive then { s.set R.SEC_DBG_TAPACT 0 1 with dev := { s.dev with tapOut := true } } else s

/-- The TAP controller enters Test-Logic-Reset, where IDCODE is the instruction. -/
def effTapEntry (s : State) : State :=
  if s.tapLive then { s.set R.SEC_DBG_TAPACT 0 0 with dev := { s.dev with tapOut := false, tapIr := irIdcode } } else s

/-- An instruction is in force with what its data register captures; instructions are shifted in outside
Test-Logic-Reset. -/
def State.tap (s : State) (ir dr : Nat) : State :=
  if s.tapOn then { s with dev := { s.dev with tapIr := ir, tapDr := dr } } else s

/-- The identity code. -/
def State.idcode (s : State) : Nat := s.rev / 16 % 16 * 2 ^ 28 + 0x2400 * 2 ^ 12 + s.cfg.jedec % 2 ^ 11 * 2 + 1

/-- The boundary register is selected: what it captures from the pins is open, as the spec gives it no layout. -/
def State.boundary (s : State) (ir : Nat) : State :=
  if s.tapOn then
    let (v, s) := s.freeBits 256
    s.tap ir v
  else s

/-- EXTEST acts while every district is OFF; otherwise it selects bypass. -/
def effExtest (s : State) : State :=
  if !s.tapOn then s
  else if s.districts.all fun d => s.dst d == 0 then s.boundary irExtest
  else (s.tap irBypass 0).raise R.SEC_FLT_TAPREF

/-- DBGEN: Update-DR with 1 requests invasive debug. -/
def effDbgen (s : State) (one : Bool) : State :=
  if s.tapOn then
    let s := s.tap irDbgen (if one then 1 else 0)
    if one then s.debugRequest 1 else s
  else s

/-- A word of the SRAM arrays. -/
def sramKey (arr addr : Nat) : Nat := arr * 2 ^ 32 + addr % 2 ^ 32

/-- Four mantissas of a row from a column on, as a word, and the row with them replaced; a word has none beyond its row. -/
def quadOf (l : List Int) (j : Nat) : Nat :=
  (List.range 4).foldl (fun w k => w + codeOf 16 (l.getD (j + k) 0) * 2 ^ (16 * k)) 0
def quadPut (l : List Int) (j w : Nat) : List Int :=
  (List.range l.length).map fun i => if j ≤ i ∧ i < j + 4 then signedOf 16 (w / 2 ^ (16 * (i - j)) % 2 ^ 16) else l.getD i 0

/-- Eight exponents from a block on, as a word, and the exponents with them replaced. -/
def octOf (l : List Int) (j : Nat) : Nat :=
  (List.range 8).foldl (fun w k => w + codeOf 8 (l.getD (j + k) 0) * 2 ^ (8 * k)) 0
def octPut (l : List Int) (j w : Nat) : List Int :=
  (List.range l.length).map fun i => if j ≤ i ∧ i < j + 8 then signedOf 8 (w / 2 ^ (8 * (i - j)) % 2 ^ 8) else l.getD i 0

/-- Eight bytes of a list replaced, none beyond its end. -/
def bytesPut (l : List Byte) (o w : Nat) : List Byte :=
  (List.range l.length).map fun i => if o ≤ i ∧ i < o + 8 then (leBytes 8 w).getD (i - o) 0 else l.getD i 0

/-- The slot of the ledger of a district that lies at index `k` of its ring of 256. -/
def State.ringSlot (s : State) (k : Nat) : Nat := s.dev.slot + (k + ledgerLen - s.dev.slot % ledgerLen) % ledgerLen

/-- The chunks that the capture buffer holds: those in the ring and not passed by HEAD, then those that wait for it. -/
def State.heldChunk (s : State) (k : Nat) : Option (List Byte) :=
  ((s.ring (ringIx s.cap.gal true)).queue.map Prod.fst ++ s.cap.chunks)[k]?

/-- What stands in a word of the arrays that the model holds (R457); none where the word lies beyond what is in use. -/
def State.sramHome (s : State) (w : SramPlace) : Option Nat :=
  match w with
  | .coef set i r j =>
    let l := ((tabAt s.coef set : CoefSet).mat i).rows.getD r []
    if j < l.length then some (quadOf l j) else none
  | .coefExp set i b =>
    let l := ((tabAt s.coef set : CoefSet).mat i).exps
    if b < l.length then some (octOf l b) else none
  | .xhat d j => if j < (s.lw d).xhat.m.length then some (quadOf (s.lw d).xhat.m j) else none
  | .xhatExp d => if d < s.cfg.n then some (codeOf 8 (s.lw d).xhat.e) else none
  | .uPrev d j =>
    let l := (s.lw d).uDbg.getD (s.lw d).applied
    if j < l.length then some (quadOf l j) else none
  | .pending q k => ((s.q q).ents[k]?).map Ent.fc
  | .ledger d k =>
    if d < s.cfg.n then some (s.bookAt d (s.ringSlot (2 * k)) % 2 ^ 32 + s.bookAt d (s.ringSlot (2 * k + 1)) % 2 ^ 32 * 2 ^ 32) else none
  | .capture k j => (s.heldChunk k).bind fun b => if 8 * j < b.length then some (numAt b (8 * j) 8) else none
  | .message rsp j =>
    if rsp then (if 8 * j < s.sec.rsp.length then some (numAt s.sec.rsp (8 * j) 8) else none)
    else if 8 * j < 4096 then some (ofLe ((List.range 8).map fun i => tabAt s.sec.req (8 * j + i))) else none
  | .chain j => if 8 * j < chainSize then some (ofLe ((List.range 8).map fun i => tabAt s.sec.chain (8 * j + i))) else none
  | .other | .excluded | .weights _ _ _ => none

/-- The ledger of a district at a slot takes a value. -/
def State.ledgerPut (s : State) (d t v : Nat) : State :=
  s.updBk d fun b =>
    let x : Int := (v : Int) - bookSum b.grants (fun _ => true) t
    { b with adj := if x = 0 then tabDel b.adj t else tabPut b.adj t x }

/-- A word of the arrays that the model holds is written. -/
def State.sramSet (s : State) (w : SramPlace) (v : Nat) : State :=
  match w with
  | .coef set i r j =>
    let put (a : Mat) : Mat := { a with rows := a.rows.set r (quadPut (a.rows.getD r []) j v) }
    { s with coef := tabUpd s.coef set fun k => k.setMat i (put (k.mat i)) }
  | .coefExp set i b =>
    { s with coef := tabUpd s.coef set fun k => k.setMat i { k.mat i with exps := octPut (k.mat i).exps b v } }
  | .xhat d j => s.updLaw d fun l => { l with xhat := { l.xhat with m := quadPut l.xhat.m j v } }
  | .xhatExp d => s.updLaw d fun l => { l with xhat := { l.xhat with e := signedOf 8 (v % 2 ^ 8) } }
  | .uPrev d j => s.updLaw d fun l => { l with uDbg := some (quadPut (l.uDbg.getD l.applied) j v) }
  | .pending q k => s.updQ q fun x => { x with ents := updAt x.ents k fun e => { e with fc := v } }
  | .ledger d k => (s.ledgerPut d (s.ringSlot (2 * k)) (v % 2 ^ 32)).ledgerPut d (s.ringSlot (2 * k + 1)) (v / 2 ^ 32)
  | .capture k j =>
    let r := ringIx s.cap.gal true
    let n := (s.ring r).queue.length
    if k < n then s.updRing r fun x => { x with queue := updAt x.queue k fun e => (bytesPut e.1 (8 * j) v, e.2) }
    else { s with cap := { s.cap with chunks := updAt s.cap.chunks (k - n) fun b => bytesPut b (8 * j) v } }
  | .message rsp j =>
    if rsp then { s with sec := { s.sec with rsp := bytesPut s.sec.rsp (8 * j) v } }
    else { s with sec := { s.sec with req := putBytes 4096 s.sec.req (8 * j) (leBytes 8 v) } }
  | .chain j => { s with sec := { s.sec with chain := putBytes chainSize s.sec.chain (8 * j) (leBytes 8 v) } }
  | .other | .excluded | .weights _ _ _ => s

/-- A word that is rewritten is bad no longer (R122). -/
def State.mended (s : State) (w : SramPlace) : State :=
  s.each s.districts fun s d => s.updLaw d fun l => { l with badWord := l.badWord.filter (· != w) }

/-- The word of an array that DBGACC reads; none of the weights array and of the key store (R457). A word that the model holds in no
array is open until DBGACC has written it. -/
def State.sramRead (s : State) (arr addr : Nat) : Nat :=
  match Config.sramPlace arr addr with
  | .excluded | .weights _ _ _ => 0
  | w => (s.sramHome w).getD ((tabGet s.sec.dbg (sramKey arr addr)).getD (Config.sramWord arr addr)).toNat

/-- The word of an array that DBGACC writes. A district sequence runs whole within its DISTRICT_PERIOD, so that a write to a
coefficient set takes effect between two of them, as R111 has it. -/
def State.sramWrite (s : State) (arr addr v : Nat) : State :=
  match Config.sramPlace arr addr with
  | .excluded | .weights _ _ _ => s
  | w =>
    if (s.sramHome w).isSome then (s.sramSet w v).mended w
    else { s with sec := { s.sec with dbg := tabPut s.sec.dbg (sramKey arr addr) (BitVec.ofNat 64 v) } }

/-- DBGACC reads or writes a word of an array while INV = 1. -/
def effDbgacc (s : State) (write : Bool) (arr addr : Nat) (data : BitVec 64) : State :=
  if !s.tapOn then s
  else if !s.flag R.SEC_DBG_INV then s.tap irDbgacc 0
  else if write then (s.tap irDbgacc data.toNat).sramWrite arr addr data.toNat
  else s.tap irDbgacc (s.sramRead arr addr)

/-! ### The meanings -/

def execChainClear (g : Gal) (s : State) : Host.Outcome State Fault Refusal :=
  .next (s.hostRow g R.SEC_CCTL_CLEAR 0 1 effChainClear)

def execChainDataWrite (g : Gal) (w : Word) (s : State) : Host.Outcome State Fault Refusal :=
  .next (s.hostWrite g R.SEC_CDAT_DATA.base w fun s => effChainData s w)

def execChainCommit (g : Gal) (s : State) : Host.Outcome State Fault Refusal :=
  .next (s.hostRow g R.SEC_CCTL_COMMIT 0 1 effChainCommit)

def execBegin (g : Gal) (s : State) : Host.Outcome State Fault Refusal :=
  .next (s.hostRow g R.SEC_WCTL_BEGIN 0 1 fun s => effBegin s g)

def execAbort (g : Gal) (s : State) : Host.Outcome State Fault Refusal :=
  .next (s.hostRow g R.SEC_WCTL_ABORT 0 1 fun s => effAbort s g)

def execWeightsDataWrite (g : Gal) (w : Word) (s : State) : Host.Outcome State Fault Refusal :=
  .next (s.hostWrite g R.SEC_WDAT_DATA.base w fun s => effWeightsData s g w)

def execWeightsDeliveryEnd (s : State) : Host.Outcome State Fault Refusal := .next (effDeliveryEnd s)

def execInvReq (g : Gal) (s : State) : Host.Outcome State Fault Refusal :=
  .next (s.hostRow g R.SEC_DBG_INV_REQ 0 1 fun s => effInvReq s g)

def execInvasiveDebugEnabled (s : State) : Host.Outcome State Fault Refusal := .next (effInvEnabled s)

def execTestLogicResetExit (s : State) : Host.Outcome State Fault Refusal := .next (effTapExit s)

def execTestLogicResetEntry (s : State) : Host.Outcome State Fault Refusal := .next (effTapEntry s)

def execExtest (s : State) : Host.Outcome State Fault Refusal := .next (effExtest s)

def execIdcode (s : State) : Host.Outcome State Fault Refusal := .next (s.tap irIdcode s.idcode)

def execSamplePreload (s : State) : Host.Outcome State Fault Refusal := .next (s.boundary irSample)

def execDbgstat (s : State) : Host.Outcome State Fault Refusal :=
  .next (s.tap irDbgstat (s.readWord 0 false (s.maskBits 0) 0x3064).toNat)

def execDbgen (one : Bool) (s : State) : Host.Outcome State Fault Refusal := .next (effDbgen s one)

def execDbgacc (write : Bool) (arr addr : Nat) (data : BitVec 64) (s : State) : Host.Outcome State Fault Refusal :=
  .next (effDbgacc s write arr addr data)

def execBypass (s : State) : Host.Outcome State Fault Refusal := .next (s.tap irBypass 0)

end Sys2Proof.Machine
end

