-- ==== Sys2Proof/Machine/Host.lean ====
section
/-!
DEFINITION. The register port (R382 to R388): what a write that is answered OK does on any page, what a read returns, and
fences.
-/
namespace Sys2Proof.Machine

/-! ### Writes -/

/-- A write to PWR_CTL: the settings, a wake from DOZE, the request, and a warm reset (R302, R311, R312, R316). -/
def State.pwrCtl (s : State) (priv : Bool) (addr : Nat) (w : Word) : State :=
  let s := (s.storeFld priv addr w R.PWR_CTL_QDIV).qdivCheck
  let v := bitsOf w 0 3
  if bit w 31 then
    let s := if !priv then s else if v ≤ 3 then s.set R.PWR_CTL_DEV_REQ 0 v else s.raise R.PWR_FLT_CFGSAT
    effWarmReset s
  else s.devReqBy priv v

/-- The CLK page: SEL (R320). -/
def State.clkWrite (s : State) (priv : Bool) (addr : Nat) (w : Word) : State :=
  if addr % 0x1000 = 0x40 then s.doIf (priv && bit w 0) effPllSelect else s.storeReg priv addr w

/-- The SEC page (R438, R440, R441, R453, R456). -/
def State.secWrite (s : State) (g : Nat) (priv : Bool) (addr : Nat) (w : Word) : State :=
  match addr % 0x1000 with
  | 0x40 => s.mbctl g w
  | 0x48 =>
    if s.flag R.SEC_MBSTAT_OWNED && !s.ownsMb g then s.raise R.SEC_FLT_MBBUSY
    else s.set R.SEC_MBADR_OFS 0 (bitsOf w 2 10 * 4)
  | 0x4C => effMbData s g w
  | 0x58 => s.wctl g w
  | 0x5C => effWeightsData s g w
  | 0x64 => (s.storeReg priv addr w).doIf (bit w 27) fun s => effInvReq s g
  | 0x68 => s.cctl priv addr w
  | 0x6C => s.doIf priv fun s => s.set R.SEC_CADR_OFS 0 (bitsOf w 2 11 * 4)
  | 0x70 => s.doIf priv fun s => effChainData s w
  | _ => s.storeReg priv addr w

/-- The CAL page (R349). -/
def State.calWrite (s : State) (priv : Bool) (addr : Nat) (w : Word) : State :=
  match addr % 0x1000 with
  | 0x4C => s.doIf priv fun s => s.set R.CAL_WADR_OFS 0 (bitsOf w 2 14 * 4)
  | 0x50 => s.doIf priv fun s => effCalWdat s w
  | 0x54 => s.doIf priv fun s => (s.doIf (bit w 30) effCalClear).doIf (bit w 31) fun s => effCalCommit s (bitsOf w 0 8)
  | _ => s.storeReg priv addr w

/-- The IMG page (R350). -/
def State.imgWrite (s : State) (priv : Bool) (addr : Nat) (w : Word) : State :=
  match addr % 0x1000 with
  | 0x58 => s.doIf priv fun s => effPdat s w
  | 0x5C => s.doIf priv fun s =>
    match bitsOf w 30 2 with
    | 0 => s
    | 3 => effEmptyBuf s
    | k => effPcmd s k
  | _ => s.storeReg priv addr w

/-- What a write of a gallery that is answered OK does, with the privilege it was accepted with. -/
def State.effWrite (s : State) (g : Nat) (priv : Bool) (addr : Nat) (w : Word) : State :=
  let p := addr / 0x1000
  let off := addr % 0x1000
  if off < 0x40 ∨ 0x800 ≤ off then s.pageWrite g priv addr w
  else if addr = 0x2040 then s.pwrCtl priv addr w
  else match p with
    | 0x01 => s.clkWrite priv addr w
    | 0x03 => s.secWrite g priv addr w
    | 0x04 => s.calWrite priv addr w
    | 0x05 => s.imgWrite priv addr w
    | _ => s.pageWrite g priv addr w

/-- Whether a write would fence: 1 in the bit GO of a GAL page (R388). -/
def fences (addr : Nat) (w : Word) : Bool := isGalPage (addr / 0x1000) && addr % 0x1000 == 0x80 && w.getLsbD 31

/-- A fence of a gallery that is answered OK begins to wait. -/
def State.fenceBegin (s : State) (g addr : Nat) (i3c : Bool) : State :=
  { s with fence := tabUpd s.fence g fun f => { f with waiting := true, i3c := i3c, addr := addr } }

/-- A write past the fence, with its outcome and privilege: every write but a fence takes effect at once. -/
def State.writeOne (s : State) (g addr : Nat) (w : Word) (code : RspCode) (priv : Bool) : State :=
  if fences addr w && code == .ok then s.fenceBegin g addr false
  else s.writeWith g addr code fun s => s.effWrite g priv addr w

/-- A write on the register port. -/
def State.portWrite (s : State) (g addr : Nat) (w : Word) : State :=
  if (tabAt s.fence g).waiting then s.holdAccess g false true addr w
  else s.writeOne g addr w (s.check g true addr w) (s.priv g (addr / 0x1000))

/-! ### Reads -/

/-- A read of SEC_MBDAT (R440). -/
def State.mbRead (s : State) (g : Nat) : Word × State :=
  let o := s.get R.SEC_MBADR_OFS
  (if s.ownsMb g then BitVec.ofNat 32 (ofLe (bytesAt s.sec.rsp o 4)) else 0, s.set R.SEC_MBADR_OFS 0 (o + 4))

/-- A read of SEC_CDAT (R438). -/
def State.chainRead (s : State) : Word × State := (s.chainWord, s.set R.SEC_CADR_OFS 0 (s.get R.SEC_CADR_OFS + 4))

/-- The data of a read that is answered OK under an access mask, and what the read does. -/
def State.effRead (s : State) (g : Nat) (i3c : Bool) (mask addr : Nat) : Word × State :=
  if addr = 0x304C then s.mbRead g else if addr = 0x3070 then s.chainRead else (s.readWord g i3c mask addr, s)

/-- A read with the outcome of its checks: its response code and data, and what the read does. -/
def State.readWith (s : State) (g : Nat) (i3c : Bool) (mask addr : Nat) (code : RspCode) : RspCode × Word × State :=
  match code with
  | .ok => (.ok, s.effRead g i3c mask addr)
  | c => (c, 0, s.logBad g false addr c)

/-- A read of a gallery, checked in the order of R383. -/
def State.readOne (s : State) (g : Nat) (i3c : Bool) (addr : Nat) : RspCode × Word × State :=
  s.readWith g i3c (s.maskBits g) addr (s.check g false addr 0)

/-- A read that is answered. -/
def State.readNow (s : State) (g mask addr : Nat) (code : RspCode) : State :=
  let r := s.readWith g false mask addr code
  r.2.2.respond g r.1 r.2.1.toNat

/-- A read on the register port: the responses of a gallery keep the order of acceptance (R382), so it waits behind a fence
whose response is withheld, and with it behind every held write to its page (R385). -/
def State.portRead (s : State) (g addr : Nat) : State :=
  if (tabAt s.fence g).waiting then s.holdAccess g false false addr 0 else s.readNow g (s.maskBits g) addr (s.check g false addr 0)

/-! ### Accesses over I3C (R392) -/

def State.updI3c (s : State) (f : I3cS → I3cS) : State := { s with i3c := f s.i3c }

/-- The gallery for which an access over I3C acts: the bound one. Until the control complex is released, an access to a page
other than PWR answers as row 1 of R383 whatever the binding, which its reset clears (R394); DESIGN CHOICE (assumption 130): it
is counted and logged under I3C_CTL.GAL. -/
def State.i3cGal (s : State) (addr : Nat) : Option Nat :=
  if !s.dev.released && addr / 0x1000 != 2 then some (s.get R.I3C_CTL_GAL) else s.bound

/-- A write over I3C past the fence, with its outcome and privilege: it has no response on the register port, and a fence waits as
any other. -/
def State.i3cWriteWith (s : State) (g addr : Nat) (w : Word) (code : RspCode) (priv : Bool) : State :=
  if fences addr w && code == .ok then s.fenceBegin g addr true
  else { s.writeWith g addr code fun s => s.effWrite g priv addr w with rsps := s.rsps }

/-- A write over I3C. -/
def State.i3cWriteOne (s : State) (g addr : Nat) (w : Word) : State :=
  if (tabAt s.fence g).waiting then s.holdAccess g true true addr w
  else s.i3cWriteWith g addr w (s.check g true addr w) (s.priv g (addr / 0x1000))

/-- The status byte of a response. -/
def RspCode.status : RspCode → Nat
  | .ok => 0
  | .denied => 1
  | .error => 2

/-- The five bytes of a register read over I3C, and what the read did. -/
def State.i3cGot (r : RspCode × Word × State) : State :=
  r.2.2.updI3c fun x => { x with pre := some (leBytes 1 r.1.status ++ leBytes 4 r.2.1.toNat), pend := false }

/-- A read of the register at the read address begins; behind a write of the gallery to its page that is held, it waits (R385). -/
def State.i3cBegin (s : State) : State :=
  let a := s.i3c.raddr
  match s.i3cGal a with
  | none => (s.raise R.I3C_FLT_UNB).updI3c fun x => { x with pre := some (leBytes 5 3), pend := false }
  | some g =>
    if (tabAt s.fence g : FenceS).held.any fun h => h.we && h.addr / 0x1000 == a / 0x1000 then
      (s.holdAccess g true false a (BitVec.ofNat 32 s.i3c.hdrNo)).updI3c fun x => { x with pre := none, pend := true }
    else State.i3cGot (s.readOne g true a)

/-- The registers of a private read are shifted out, the next one being read meanwhile; the read address advances by 4 after
each. They stop where the register that comes still waits. -/
def State.i3cPump (s : State) : Nat → State
  | 0 => s.updI3c fun x => { x with todo := 0 }
  | k + 1 =>
    match s.i3c.pre with
    | none => s.updI3c fun x => { x with todo := k + 1 }
    | some b =>
      ((s.updI3c fun x => { x with resp := (x.resp ++ b).take x.len, raddr := (x.raddr + 4) % 2 ^ 20, pre := none }).i3cBegin).i3cPump k

/-! ### Fences (R388) -/

/-- A read over I3C that waited takes its turn; where a later header has set the read address anew, its bytes are not shifted
out. -/
def State.i3cResume (s : State) (g : Nat) (h : Held) (code : RspCode) : State :=
  let r := s.readWith g true h.mask h.addr code
  if s.i3c.pend && h.data == BitVec.ofNat 32 s.i3c.hdrNo then (State.i3cGot r).i3cPump s.i3c.todo else r.2.2

/-- An access that waited behind a fence takes its turn, with the rights of its acceptance; behind a further fence it waits
on. -/
def State.resume (s : State) (g : Nat) (h : Held) : State :=
  let f : FenceS := tabAt s.fence g
  let code := s.rowsOneTwo h.addr h.right
  if f.waiting then { s with fence := tabPut s.fence g { f with held := f.held ++ [h] } }
  else if h.i3c && h.we then s.i3cWriteWith g h.addr h.data code h.priv
  else if h.i3c then s.i3cResume g h code
  else if h.we then s.writeOne g h.addr h.data code h.priv
  else s.readNow g h.mask h.addr code

/-- The accesses that waited behind a fence, in the order of acceptance. -/
def State.replay (s : State) (g : Nat) : List Held → State
  | [] => s
  | h :: r => (s.resume g h).replay g r

/-- The fence of a gallery ends, with its response where it was written on the register port. -/
def State.fenceEnd (s : State) (g : Nat) (code : RspCode) : State :=
  let f : FenceS := tabAt s.fence g
  let s := { s with fence := tabPut s.fence g {} }
  (if f.i3c then s else s.respond g code 0).replay g f.held

/-- The writes before the fence have taken effect. -/
def effFenceComplete (s : State) (g : Nat) : State :=
  if (tabAt s.fence g).waiting then s.newAccess.fenceEnd g .ok else s

/-- A fence has not completed within 10 µs. -/
def effFenceTimeout (s : State) (g : Nat) : State :=
  let f : FenceS := tabAt s.fence g
  if f.waiting then ((s.newAccess.raise R.GAL_FLT_FENCETMO g).logBad g true f.addr .error).fenceEnd g .error else s

/-! ### The meanings -/

def execRegWrite (g : Gal) (addr : Nat) (data : Word) (s : State) : Host.Outcome State Fault Refusal :=
  .next (s.newAccess.portWrite g addr data)

def execRegRead (g : Gal) (addr : Nat) (s : State) : Host.Outcome State Fault Refusal :=
  .next (s.newAccess.portRead g addr)

def execMailboxDataRead (g : Gal) (s : State) : Host.Outcome State Fault Refusal := .next (s.newAccess.portRead g 0x304C)

def execChainDataRead (g : Gal) (s : State) : Host.Outcome State Fault Refusal := .next (s.newAccess.portRead g 0x3070)

def execPageLock (g : Gal) (page : Nat) (s : State) : Host.Outcome State Fault Refusal :=
  .next (s.newAccess.portWrite g (0x1000 * page + 0xC) 1)

def execFence (g page : Gal) (s : State) : Host.Outcome State Fault Refusal :=
  .next (s.newAccess.portWrite g (0x18080 + 0x1000 * page) 0x80000000)

def execFenceComplete (g : Gal) (s : State) : Host.Outcome State Fault Refusal := .next (effFenceComplete s g)

def execFenceTimeout (g : Gal) (s : State) : Host.Outcome State Fault Refusal := .next (effFenceTimeout s g)

end Sys2Proof.Machine
end

