-- ==== Sys2Proof/Machine/I3c.lean ====
section
/-!
DEFINITION. The I3C target (R389 to R394): common command codes, dynamic address, Hot-Join, in-band interrupts, and the
private transfers by which the bound gallery reads and writes registers.
-/
namespace Sys2Proof.Machine

/-! ### The bus -/

/-- Whether the target answers no header: under cold reset, in SLEEP, and in SAFE_OFF without the control complex (R394). -/
def State.i3cAway (s : State) : Bool := s.dev.cold || s.devSt == devSleep || (s.devSt == devOff && !s.dev.powered)

/-- A transaction that the target does not answer. -/
def State.i3cNack (s : State) : State := s.updI3c fun x => { x with nack := true, resp := [], todo := 0, hdr := false }

/-- A transaction to the target: nothing where it is away; otherwise it is acknowledged, and acts. A transaction behind an
ENTHDRx follows the HDR Exit Pattern. -/
def State.i3cTake (s : State) (f : State → State) : State :=
  if s.i3cAway then s.i3cNack else f (s.updI3c fun x => { x with nack := false, resp := [], todo := 0, hdr := false })

/-- A direct transaction to the dynamic address. -/
def State.i3cDirect (s : State) (f : State → State) : State :=
  if s.flag R.I3C_STAT_DAV then s.i3cTake f else s.i3cNack

/-- The bytes that a transaction returns. -/
def State.i3cReply (s : State) (l : List Byte) : State := s.updI3c fun x => { x with resp := l }

/-! ### Addresses (R390, R394) -/

/-- The target takes a dynamic address. -/
def State.takeAddr (s : State) (a : Nat) : State :=
  ((s.set R.I3C_STAT_DAV 0 1).set R.I3C_STAT_DA 0 a).updI3c fun x => { x with hj := false }

/-- RSTDAA. -/
def effRstdaa (s : State) : State := s.i3cTake fun s => (s.set R.I3C_STAT_DAV 0 0).set R.I3C_STAT_DA 0 0

/-- ENTDAA assigns an address to a target without one. -/
def effEntdaa (s : State) (a : Nat) : State := if s.flag R.I3C_STAT_DAV then s.i3cNack else s.i3cTake fun s => s.takeAddr a

/-- SETDASA, addressed at SADDR, assigns an address to a target without one. -/
def effSetdasa (s : State) (sa a : Nat) : State :=
  if sa = s.cfg.saddr ∧ !s.flag R.I3C_STAT_DAV then s.i3cTake fun s => s.takeAddr a else s.i3cNack

/-- SETNEWDA. -/
def effSetnewda (s : State) (a : Nat) : State := s.i3cDirect fun s => s.takeAddr a

/-- Whether a header carries the target's address. -/
def State.addressed (s : State) (legacy : Bool) (a : Nat) : Bool :=
  if legacy then a == s.cfg.saddr else s.flag R.I3C_STAT_DAV && a == s.get R.I3C_STAT_DA

/-- The matcher sees the target's address: it wakes the device, and in SLEEP the transaction is NACKed. -/
def effMatch (s : State) (legacy : Bool) (a : Nat) : State :=
  if !s.dev.cold && s.addressed legacy a then
    let s := if s.i3cAway then s.i3cNack else s
    s.wake wakeI3c 0
  else s

/-! ### Other common command codes (R390) -/

/-- ENEC: bit 0 enables IBIs, bit 3 Hot-Join. -/
def effEnec (s : State) (ev : Nat) : State := s.i3cTake fun s =>
  let s := s.raiseIf (ev.testBit 0) R.I3C_STAT_ENINT
  s.raiseIf (ev.testBit 3) R.I3C_STAT_ENHJ

/-- DISEC: what is disabled is no longer requested. -/
def effDisec (s : State) (ev : Nat) : State := s.i3cTake fun s =>
  let s := if ev.testBit 0 then (s.set R.I3C_STAT_ENINT 0 0).updI3c fun x => { x with ibi := false } else s
  if ev.testBit 3 then (s.set R.I3C_STAT_ENHJ 0 0).updI3c fun x => { x with hj := false } else s

/-- The bytes of a number, most significant first. -/
def beBytes (n v : Nat) : List Byte := (leBytes n v).reverse

/-- GETPID: 6 bytes, most significant first. -/
def effGetpid (s : State) : State := s.i3cDirect fun s => s.i3cReply (beBytes 2 s.pidHigh ++ beBytes 4 s.pidLow)
def effGetbcr (s : State) : State := s.i3cDirect fun s => s.i3cReply [0x06#8]
def effGetdcr (s : State) : State := s.i3cDirect fun s => s.i3cReply [0x00#8]

/-- The bits of a number that are 1, of the lowest `n`. -/
def ones (n v : Nat) : Nat := ((List.range n).filter fun k => v.testBit k).length

/-- Pending bits of the bound gallery. -/
def State.pendCount (s : State) : Nat :=
  match s.bound with
  | none => 0
  | some g => min 15 (ones 7 (s.get R.GAL_ISTAT_IRQ g))

def effGetstatus (s : State) : State := s.i3cDirect fun s => s.i3cReply [BitVec.ofNat 8 s.pendCount, 0x00#8]

def effSetmwl (s : State) (n : Nat) : State := s.i3cDirect fun s => s.updI3c fun x => { x with mwl := n % 65536 }
def effSetmrl (s : State) (n : Nat) : State := s.i3cDirect fun s => s.updI3c fun x => { x with mrl := n % 65536 }

/-- The longest write and read: the smaller of the value set and Korrath's own limit. -/
def State.maxWrite (s : State) : Nat := min s.i3c.mwl 256
def State.maxRead (s : State) : Nat := min s.i3c.mrl 250

def effGetmwl (s : State) : State := s.i3cDirect fun s => s.i3cReply (beBytes 2 s.maxWrite)
def effGetmrl (s : State) : State := s.i3cDirect fun s => s.i3cReply (beBytes 2 s.maxRead ++ [0x01#8])

/-- ENTHDRx: the bus is ignored until the HDR Exit Pattern. -/
def effEnthdr (s : State) : State := s.i3cTake fun s => s.updI3c fun x => { x with hdr := true }

/-- Any other common command code: a direct one is NACKed, a broadcast one ignored. -/
def effCccOther (s : State) (direct : Bool) : State := s.i3cTake fun s =>
  let s := s.raise R.I3C_FLT_CCCN
  if direct then s.i3cNack else s

/-! ### Hot-Join and in-band interrupts (R391, R393) -/

/-- A Hot-Join request at Bus Idle. -/
def effHotJoin (s : State) : State :=
  if s.dev.released && !s.i3cAway && !s.flag R.I3C_STAT_DAV && s.flag R.I3C_CTL_HJ_EN && s.flag R.I3C_STAT_ENHJ then
    s.updI3c fun x => { x with hj := true }
  else s

/-- A request for an IBI: once accepted, it returns the mandatory byte. -/
def effIbi (s : State) (accepted : Bool) : State :=
  if s.i3c.ibi && accepted && s.flag R.I3C_STAT_DAV then
    let b : Nat := match s.bound with
      | none => 0
      | some g => s.irqBits g
    s.updI3c fun x => { x with ibi := false, resp := [BitVec.ofNat 8 b] }
  else s

/-! ### Private transfers (R392) -/

/-- A private transfer: at the dynamic address, or at SADDR in legacy I²C. -/
def State.i3cXfer (s : State) (legacy : Bool) (f : State → State) : State :=
  if !legacy && !s.flag R.I3C_STAT_DAV then s.i3cNack
  else s.i3cTake fun s => f ((s.incWrap R.I3C_STAT_XFERS).set R.I3C_STAT_LEGACY 0 (if legacy then 1 else 0))

/-- One group of a private write: it acts for the gallery that is bound as it comes, and is dropped where none is. -/
def State.i3cGroup (s : State) (addr : Nat) (w : Word) : State :=
  match s.i3cGal addr with
  | none => s.raise R.I3C_FLT_UNB
  | some g => s.i3cWriteOne g addr w

/-- Groups of four bytes written to an advancing address; a group cut short is discarded. -/
def State.i3cGroups (s : State) (addr : Nat) : List Byte → State
  | [] => s
  | a :: b :: c :: d :: r => (s.i3cGroup addr (BitVec.ofNat 32 (ofLe [a, b, c, d]))).i3cGroups ((addr + 4) % 2 ^ 20) r
  | _ => s.raise R.I3C_FLT_SHORT

/-- A private write with operation 0x0. -/
def effI3cWrite (s : State) (legacy : Bool) (addr : Nat) (data : List Byte) : State := s.i3cXfer legacy fun s =>
  s.i3cGroups (addr % 2 ^ 20) (data.take (s.maxWrite - 3))

/-- A private write with operation 0x1 sets the read address and begins a read of it. -/
def effI3cAddr (s : State) (legacy : Bool) (addr : Nat) : State := s.i3cXfer legacy fun s =>
  (s.updI3c fun x => { x with raddr := addr % 2 ^ 20, hdrNo := x.hdrNo + 1, pre := none, pend := false }).i3cBegin

/-- A private read of `n` bytes: the register whose read has been begun comes first. DESIGN CHOICE (assumption 130): a register read
ahead stands for the next private read, and without a header since reset the read of address 0 begins with the transfer. -/
def effI3cRead (s : State) (legacy : Bool) (n : Nat) : State := s.i3cXfer legacy fun s =>
  let m := min n s.maxRead
  let s := if s.i3c.pre.isNone && !s.i3c.pend then s.i3cBegin else s
  (s.updI3c fun x => { x with len := m }).i3cPump ((m + 4) / 5)

/-! ### The meanings -/

def execI3cAddressMatch (legacy : Bool) (a : Nat) (s : State) : Host.Outcome State Fault Refusal := .next (effMatch s legacy a)

def execEnec (ev : Nat) (s : State) : Host.Outcome State Fault Refusal := .next (effEnec s ev)

def execDisec (ev : Nat) (s : State) : Host.Outcome State Fault Refusal := .next (effDisec s ev)

def execRstdaa (s : State) : Host.Outcome State Fault Refusal := .next (effRstdaa s)

def execEntdaa (a : Nat) (s : State) : Host.Outcome State Fault Refusal := .next (effEntdaa s a)

def execSetdasa (sa a : Nat) (s : State) : Host.Outcome State Fault Refusal := .next (effSetdasa s sa a)

def execSetnewda (a : Nat) (s : State) : Host.Outcome State Fault Refusal := .next (effSetnewda s a)

def execGetpid (s : State) : Host.Outcome State Fault Refusal := .next (effGetpid s)

def execGetbcr (s : State) : Host.Outcome State Fault Refusal := .next (effGetbcr s)

def execGetdcr (s : State) : Host.Outcome State Fault Refusal := .next (effGetdcr s)

def execGetstatus (s : State) : Host.Outcome State Fault Refusal := .next (effGetstatus s)

def execSetmwl (n : Nat) (s : State) : Host.Outcome State Fault Refusal := .next (effSetmwl s n)

def execSetmrl (n : Nat) (s : State) : Host.Outcome State Fault Refusal := .next (effSetmrl s n)

def execGetmwl (s : State) : Host.Outcome State Fault Refusal := .next (effGetmwl s)

def execGetmrl (s : State) : Host.Outcome State Fault Refusal := .next (effGetmrl s)

def execEnthdr (s : State) : Host.Outcome State Fault Refusal := .next (effEnthdr s)

def execCccUnsupported (direct : Bool) (s : State) : Host.Outcome State Fault Refusal := .next (effCccOther s direct)

def execI3cPrivateWrite (legacy : Bool) (addr : Nat) (data : List Byte) (s : State) : Host.Outcome State Fault Refusal :=
  .next (effI3cWrite s legacy addr data)

def execI3cReadAddress (legacy : Bool) (addr : Nat) (s : State) : Host.Outcome State Fault Refusal :=
  .next (effI3cAddr s legacy addr)

def execI3cPrivateRead (legacy : Bool) (n : Nat) (s : State) : Host.Outcome State Fault Refusal := .next (effI3cRead s legacy n)

def execHotJoin (s : State) : Host.Outcome State Fault Refusal := .next (effHotJoin s)

def execIbiRequest (accepted : Bool) (s : State) : Host.Outcome State Fault Refusal := .next (effIbi s accepted)

end Sys2Proof.Machine
end

