-- ==== Sys2Proof/Machine/Dispatch.lean ====
section
/-!
DEFINITION. The dispatch: one arm per command.
-/
namespace Sys2Proof.Machine

/-- The effect of a command on everything but the queue. -/
def exec (i : Instr) (s : State) : Host.Outcome State Fault Refusal :=
  match i with
  | .regWrite g addr data => Sys2Proof.Machine.execRegWrite g addr data s
  | .pageLock g page => Sys2Proof.Machine.execPageLock g page s
  | .coldReset => Sys2Proof.Machine.execColdReset s
  | .coldResetRelease => Sys2Proof.Machine.execColdResetRelease s
  | .fuseRead f => Sys2Proof.Machine.execFuseRead f s
  | .zoneVfeedReady z => Sys2Proof.Machine.execZoneVfeedReady z s
  | .selfTestComplete z bad => Sys2Proof.Machine.execSelfTestComplete z bad s
  | .controlComplexRelease => Sys2Proof.Machine.execControlComplexRelease s
  | .warmReset g => Sys2Proof.Machine.execWarmReset g s
  | .sfdpDiscovery sfdp => Sys2Proof.Machine.execSfdpDiscovery sfdp s
  | .calibrationLoad => Sys2Proof.Machine.execCalibrationLoad s
  | .imageSelect errA errB => Sys2Proof.Machine.execImageSelect errA errB s
  | .pllLock t => Sys2Proof.Machine.execPllLock t s
  | .pllSelect g => Sys2Proof.Machine.execPllSelect g s
  | .nolock => Sys2Proof.Machine.execNolock s
  | .pllLockLoss => Sys2Proof.Machine.execPllLockLoss s
  | .orreryStart => Sys2Proof.Machine.execOrreryStart s
  | .districtReturn => Sys2Proof.Machine.execDistrictReturn s
  | .returnOrderEntry => Sys2Proof.Machine.execReturnOrderEntry s
  | .zoneWaitAbandon => Sys2Proof.Machine.execZoneWaitAbandon s
  | .bootEnd => Sys2Proof.Machine.execBootEnd s
  | .initNotice q => Sys2Proof.Machine.execInitNotice q s
  | .sequencerVfeedWatch => Sys2Proof.Machine.execSequencerVfeedWatch s
  | .restartPath => Sys2Proof.Machine.execRestartPath s
  | .districtPeriod m => Sys2Proof.Machine.execDistrictPeriod m s
  | .commandDeadlineMiss d => Sys2Proof.Machine.execCommandDeadlineMiss d s
  | .persistentArithFault d => Sys2Proof.Machine.execPersistentArithFault d s
  | .hubFrameLoss d => Sys2Proof.Machine.execHubFrameLoss d s
  | .diePeriod errs skipOk => Sys2Proof.Machine.execDiePeriod errs skipOk s
  | .forecasterDeadlineMiss d => Sys2Proof.Machine.execForecasterDeadlineMiss d s
  | .forecasterDistrictDisable d => Sys2Proof.Machine.execForecasterDistrictDisable d s
  | .darkeningBegin d => Sys2Proof.Machine.execDarkeningBegin d s
  | .darkeningIsolate d => Sys2Proof.Machine.execDarkeningIsolate d s
  | .darkeningStop d => Sys2Proof.Machine.execDarkeningStop d s
  | .darkeningComplete d => Sys2Proof.Machine.execDarkeningComplete d s
  | .supcapFault => Sys2Proof.Machine.execSupcapFault s
  | .darkRestart g d => Sys2Proof.Machine.execDarkRestart g d s
  | .groupExcursion => Sys2Proof.Machine.execGroupExcursion s
  | .groupExcursionEnd => Sys2Proof.Machine.execGroupExcursionEnd s
  | .budgetEpoch => Sys2Proof.Machine.execBudgetEpoch s
  | .attributionPublish => Sys2Proof.Machine.execAttributionPublish s
  | .telemetryRecord => Sys2Proof.Machine.execTelemetryRecord s
  | .testSignalDurExpire => Sys2Proof.Machine.execTestSignalDurExpire s
  | .slotBoundary act nak => Sys2Proof.Machine.execSlotBoundary act nak s
  | .grantExpiry d gid => Sys2Proof.Machine.execGrantExpiry d gid s
  | .forecastPost q fc edge => Sys2Proof.Machine.execForecastPost q fc edge s
  | .sunriseSlotting b ups => Sys2Proof.Machine.execSunriseSlotting b ups s
  | .barrierTimeout b => Sys2Proof.Machine.execBarrierTimeout b s
  | .admissionIssue q => Sys2Proof.Machine.execAdmissionIssue q s
  | .scanComplete q at_ delta => Sys2Proof.Machine.execScanComplete q at_ delta s
  | .admissionDecision q edge => Sys2Proof.Machine.execAdmissionDecision q edge s
  | .responseDelivery q edge => Sys2Proof.Machine.execResponseDelivery q edge s
  | .gqFlush g => Sys2Proof.Machine.execGqFlush g s
  | .gqCntClr g => Sys2Proof.Machine.execGqCntClr g s
  | .switchingCycle c vcell vfeed obs => Sys2Proof.Machine.execSwitchingCycle c vcell vfeed obs s
  | .drizzleShed c => Sys2Proof.Machine.execDrizzleShed c s
  | .phaseRemoval c p => Sys2Proof.Machine.execPhaseRemoval c p s
  | .cellStartOrder c => Sys2Proof.Machine.execCellStartOrder c s
  | .cellHeldStart c => Sys2Proof.Machine.execCellHeldStart c s
  | .cellStopOrder c => Sys2Proof.Machine.execCellStopOrder c s
  | .softstartComplete c => Sys2Proof.Machine.execSoftstartComplete c s
  | .softstartShort c => Sys2Proof.Machine.execSoftstartShort c s
  | .softstartTimeout c => Sys2Proof.Machine.execSoftstartTimeout c s
  | .cellHiccup c => Sys2Proof.Machine.execCellHiccup c s
  | .hiccupEnd c => Sys2Proof.Machine.execHiccupEnd c s
  | .cleanWindowClose c => Sys2Proof.Machine.execCleanWindowClose c s
  | .dllLock d => Sys2Proof.Machine.execDllLock d s
  | .syncHoldover d => Sys2Proof.Machine.execSyncHoldover d s
  | .syncReturn d => Sys2Proof.Machine.execSyncReturn d s
  | .hubSample d codes vst vloc vfeed => Sys2Proof.Machine.execHubSample d codes vst vloc vfeed s
  | .sensorSuspect d k => Sys2Proof.Machine.execSensorSuspect d k s
  | .sensorReadmit g d j w => Sys2Proof.Machine.execSensorReadmit g d j w s
  | .sensorRetireWrite g d j w => Sys2Proof.Machine.execSensorRetireWrite g d j w s
  | .thunderheadMaxhold d => Sys2Proof.Machine.execThunderheadMaxhold d s
  | .taperEnd d => Sys2Proof.Machine.execTaperEnd d s
  | .anvilReleaseEnd a ns vst => Sys2Proof.Machine.execAnvilReleaseEnd a ns vst s
  | .anvilCharged a vst vfeed => Sys2Proof.Machine.execAnvilCharged a vst vfeed s
  | .anvilChargeTimeout a => Sys2Proof.Machine.execAnvilChargeTimeout a s
  | .anvilLeakRecharge a => Sys2Proof.Machine.execAnvilLeakRecharge a s
  | .vfeedExcursion d => Sys2Proof.Machine.execVfeedExcursion d s
  | .scrubWord hit last d => Sys2Proof.Machine.execScrubWord hit last d s
  | .orrInjArm g w => Sys2Proof.Machine.execOrrInjArm g w s
  | .orrCntClr g => Sys2Proof.Machine.execOrrCntClr g s
  | .testSignalArm g => Sys2Proof.Machine.execTestSignalArm g s
  | .testSignalStart => Sys2Proof.Machine.execTestSignalStart s
  | .testSignalDisarm g => Sys2Proof.Machine.execTestSignalDisarm g s
  | .fcsCntClr g => Sys2Proof.Machine.execFcsCntClr g s
  | .budCntClr g => Sys2Proof.Machine.execBudCntClr g s
  | .shareWrite g j w => Sys2Proof.Machine.execShareWrite g j w s
  | .coolantLoss => Sys2Proof.Machine.execCoolantLoss s
  | .coollossClear g pinHigh => Sys2Proof.Machine.execCoollossClear g pinHigh s
  | .adcRoundStart g => Sys2Proof.Machine.execAdcRoundStart g s
  | .roundTimer => Sys2Proof.Machine.execRoundTimer s
  | .roundWatchdog => Sys2Proof.Machine.execRoundWatchdog s
  | .sliceStartupDone sl => Sys2Proof.Machine.execSliceStartupDone sl s
  | .adcConversion sl raw => Sys2Proof.Machine.execAdcConversion sl raw s
  | .thermalRestart => Sys2Proof.Machine.execThermalRestart s
  | .sliceRotation => Sys2Proof.Machine.execSliceRotation s
  | .sliceCalibrationDone ground half full => Sys2Proof.Machine.execSliceCalibrationDone ground half full s
  | .adcInjStart g => Sys2Proof.Machine.execAdcInjStart g s
  | .ageingRead => Sys2Proof.Machine.execAgeingRead s
  | .ageReadNow g => Sys2Proof.Machine.execAgeReadNow g s
  | .ageingLatch codes => Sys2Proof.Machine.execAgeingLatch codes s
  | .ageingRecordWrite good => Sys2Proof.Machine.execAgeingRecordWrite good s
  | .districtTargetRequest g j w => Sys2Proof.Machine.execDistrictTargetRequest g j w s
  | .districtEntryBegin d => Sys2Proof.Machine.execDistrictEntryBegin d s
  | .districtEntryIsolate d => Sys2Proof.Machine.execDistrictEntryIsolate d s
  | .districtEntrySwitches d => Sys2Proof.Machine.execDistrictEntrySwitches d s
  | .districtEntryCells d => Sys2Proof.Machine.execDistrictEntryCells d s
  | .retainEntryComplete d => Sys2Proof.Machine.execRetainEntryComplete d s
  | .offEntryComplete d => Sys2Proof.Machine.execOffEntryComplete d s
  | .switchOnBegin d => Sys2Proof.Machine.execSwitchOnBegin d s
  | .railok d => Sys2Proof.Machine.execRailok d s
  | .switchOnPower d => Sys2Proof.Machine.execSwitchOnPower d s
  | .switchOnComplete d => Sys2Proof.Machine.execSwitchOnComplete d s
  | .clockStart d => Sys2Proof.Machine.execClockStart d s
  | .switchOnFail d => Sys2Proof.Machine.execSwitchOnFail d s
  | .devReqRun g => Sys2Proof.Machine.execDevReqRun g s
  | .devReqQuiet g => Sys2Proof.Machine.execDevReqQuiet g s
  | .devReqDoze g => Sys2Proof.Machine.execDevReqDoze g s
  | .devReqSleep g => Sys2Proof.Machine.execDevReqSleep g s
  | .dozeEntryComplete => Sys2Proof.Machine.execDozeEntryComplete s
  | .wake g => Sys2Proof.Machine.execWake g s
  | .dozeExitComplete => Sys2Proof.Machine.execDozeExitComplete s
  | .sleepEntryBegin => Sys2Proof.Machine.execSleepEntryBegin s
  | .sleepPowerDown => Sys2Proof.Machine.execSleepPowerDown s
  | .sleepWake => Sys2Proof.Machine.execSleepWake s
  | .i3cAddressMatch legacy a => Sys2Proof.Machine.execI3cAddressMatch legacy a s
  | .linkActivityWake p => Sys2Proof.Machine.execLinkActivityWake p s
  | .modulePresent p => Sys2Proof.Machine.execModulePresent p s
  | .moduleAbsent p => Sys2Proof.Machine.execModuleAbsent p s
  | .portOpen p => Sys2Proof.Machine.execPortOpen p s
  | .alignment p => Sys2Proof.Machine.execAlignment p s
  | .alignmentLoss p => Sys2Proof.Machine.execAlignmentLoss p s
  | .linkSyncTimeout p => Sys2Proof.Machine.execLinkSyncTimeout p s
  | .helloTimeout p => Sys2Proof.Machine.execHelloTimeout p s
  | .capsTimeout p => Sys2Proof.Machine.execCapsTimeout p s
  | .downRetry p => Sys2Proof.Machine.execDownRetry p s
  | .frameDiscard p ns => Sys2Proof.Machine.execFrameDiscard p ns s
  | .ack p n => Sys2Proof.Machine.execAck p n s
  | .nak p n => Sys2Proof.Machine.execNak p n s
  | .hello p pay => Sys2Proof.Machine.execHello p pay s
  | .caps p pay => Sys2Proof.Machine.execCaps p pay s
  | .telem p pay => Sys2Proof.Machine.execTelem p pay s
  | .alert p pay => Sys2Proof.Machine.execAlert p pay s
  | .keepalive p => Sys2Proof.Machine.execKeepalive p s
  | .bye p pay => Sys2Proof.Machine.execBye p pay s
  | .frameReceive p bytes ns => Sys2Proof.Machine.execFrameReceive p bytes ns s
  | .retransmitTimeout p => Sys2Proof.Machine.execRetransmitTimeout p s
  | .keepaliveSend p => Sys2Proof.Machine.execKeepaliveSend p s
  | .linkTimeout p => Sys2Proof.Machine.execLinkTimeout p s
  | .telemStale p => Sys2Proof.Machine.execTelemStale p s
  | .fence g page => Sys2Proof.Machine.execFence g page s
  | .fenceComplete g => Sys2Proof.Machine.execFenceComplete g s
  | .fenceTimeout g => Sys2Proof.Machine.execFenceTimeout g s
  | .enec ev => Sys2Proof.Machine.execEnec ev s
  | .disec ev => Sys2Proof.Machine.execDisec ev s
  | .rstdaa => Sys2Proof.Machine.execRstdaa s
  | .entdaa a => Sys2Proof.Machine.execEntdaa a s
  | .setdasa sa a => Sys2Proof.Machine.execSetdasa sa a s
  | .setnewda a => Sys2Proof.Machine.execSetnewda a s
  | .getpid => Sys2Proof.Machine.execGetpid s
  | .getbcr => Sys2Proof.Machine.execGetbcr s
  | .getdcr => Sys2Proof.Machine.execGetdcr s
  | .getstatus => Sys2Proof.Machine.execGetstatus s
  | .setmwl n => Sys2Proof.Machine.execSetmwl n s
  | .setmrl n => Sys2Proof.Machine.execSetmrl n s
  | .getmwl => Sys2Proof.Machine.execGetmwl s
  | .getmrl => Sys2Proof.Machine.execGetmrl s
  | .enthdr => Sys2Proof.Machine.execEnthdr s
  | .cccUnsupported direct => Sys2Proof.Machine.execCccUnsupported direct s
  | .i3cPrivateWrite legacy addr data => Sys2Proof.Machine.execI3cPrivateWrite legacy addr data s
  | .i3cReadAddress legacy addr => Sys2Proof.Machine.execI3cReadAddress legacy addr s
  | .i3cPrivateRead legacy n => Sys2Proof.Machine.execI3cPrivateRead legacy n s
  | .hotJoin => Sys2Proof.Machine.execHotJoin s
  | .ibiRequest accepted => Sys2Proof.Machine.execIbiRequest accepted s
  | .ringEnable g r capture => Sys2Proof.Machine.execRingEnable g r capture s
  | .ringTailWrite g r capture tail => Sys2Proof.Machine.execRingTailWrite g r capture tail s
  | .memoryWriteIssue => Sys2Proof.Machine.execMemoryWriteIssue s
  | .memoryWriteCompletion id err => Sys2Proof.Machine.execMemoryWriteCompletion id err s
  | .memoryWriteTimeout id => Sys2Proof.Machine.execMemoryWriteTimeout id s
  | .captureArm g => Sys2Proof.Machine.execCaptureArm g s
  | .captureDisarm g => Sys2Proof.Machine.execCaptureDisarm g s
  | .captureStop => Sys2Proof.Machine.execCaptureStop s
  | .faultReport => Sys2Proof.Machine.execFaultReport s
  | .wiringFault src cls => Sys2Proof.Machine.execWiringFault src cls s
  | .safeStop => Sys2Proof.Machine.execSafeStop s
  | .offCauseRestartRelease cls => Sys2Proof.Machine.execOffCauseRestartRelease cls s
  | .holdRelease g => Sys2Proof.Machine.execHoldRelease g s
  | .offRelease g pinHigh => Sys2Proof.Machine.execOffRelease g pinHigh s
  | .firstFaultClear g => Sys2Proof.Machine.execFirstFaultClear g s
  | .historyDump g => Sys2Proof.Machine.execHistoryDump g s
  | .faultInject => Sys2Proof.Machine.execFaultInject s
  | .errAliveToggle => Sys2Proof.Machine.execErrAliveToggle s
  | .heartbeatLoss => Sys2Proof.Machine.execHeartbeatLoss s
  | .archiveProgram bad => Sys2Proof.Machine.execArchiveProgram bad s
  | .archiveScan => Sys2Proof.Machine.execArchiveScan s
  | .archiveErase g => Sys2Proof.Machine.execArchiveErase g s
  | .archiveFetch g w => Sys2Proof.Machine.execArchiveFetch g w s
  | .exhibitTrigger g => Sys2Proof.Machine.execExhibitTrigger g s
  | .exhInRise => Sys2Proof.Machine.execExhInRise s
  | .exhibitEdge => Sys2Proof.Machine.execExhibitEdge s
  | .exhibitRearm g => Sys2Proof.Machine.execExhibitRearm g s
  | .calClear g => Sys2Proof.Machine.execCalClear g s
  | .calWdat g w => Sys2Proof.Machine.execCalWdat g w s
  | .calCommit g => Sys2Proof.Machine.execCalCommit g s
  | .imgPdat g w => Sys2Proof.Machine.execImgPdat g w s
  | .imgErase g => Sys2Proof.Machine.execImgErase g s
  | .imgProgram g => Sys2Proof.Machine.execImgProgram g s
  | .imgEmptyBuffer g => Sys2Proof.Machine.execImgEmptyBuffer g s
  | .identityKeyReady => Sys2Proof.Machine.execIdentityKeyReady s
  | .entropyHealthFail => Sys2Proof.Machine.execEntropyHealthFail s
  | .claim g => Sys2Proof.Machine.execClaim g s
  | .rel g => Sys2Proof.Machine.execRel g s
  | .frel g => Sys2Proof.Machine.execFrel g s
  | .mailboxTimeout => Sys2Proof.Machine.execMailboxTimeout s
  | .mailboxDataWrite g w => Sys2Proof.Machine.execMailboxDataWrite g w s
  | .send g secured len => Sys2Proof.Machine.execSend g secured len s
  | .spdmResponseReady => Sys2Proof.Machine.execSpdmResponseReady s
  | .getVersion => Sys2Proof.Machine.execGetVersion s
  | .getCapabilities => Sys2Proof.Machine.execGetCapabilities s
  | .negotiateAlgorithms => Sys2Proof.Machine.execNegotiateAlgorithms s
  | .getDigests => Sys2Proof.Machine.execGetDigests s
  | .getCertificate => Sys2Proof.Machine.execGetCertificate s
  | .challenge => Sys2Proof.Machine.execChallenge s
  | .getMeasurements => Sys2Proof.Machine.execGetMeasurements s
  | .keyExchange => Sys2Proof.Machine.execKeyExchange s
  | .finish => Sys2Proof.Machine.execFinish s
  | .endSession => Sys2Proof.Machine.execEndSession s
  | .spdmUnsupported => Sys2Proof.Machine.execSpdmUnsupported s
  | .decryptError => Sys2Proof.Machine.execDecryptError s
  | .keyRecord => Sys2Proof.Machine.execKeyRecord s
  | .chainClear g => Sys2Proof.Machine.execChainClear g s
  | .chainDataWrite g w => Sys2Proof.Machine.execChainDataWrite g w s
  | .chainCommit g => Sys2Proof.Machine.execChainCommit g s
  | .begin g => Sys2Proof.Machine.execBegin g s
  | .abort g => Sys2Proof.Machine.execAbort g s
  | .weightsDataWrite g w => Sys2Proof.Machine.execWeightsDataWrite g w s
  | .weightsDeliveryEnd => Sys2Proof.Machine.execWeightsDeliveryEnd s
  | .invReq g => Sys2Proof.Machine.execInvReq g s
  | .invasiveDebugEnabled => Sys2Proof.Machine.execInvasiveDebugEnabled s
  | .extest => Sys2Proof.Machine.execExtest s
  | .idcode => Sys2Proof.Machine.execIdcode s
  | .samplePreload => Sys2Proof.Machine.execSamplePreload s
  | .dbgstat => Sys2Proof.Machine.execDbgstat s
  | .dbgen one => Sys2Proof.Machine.execDbgen one s
  | .dbgacc write arr addr data => Sys2Proof.Machine.execDbgacc write arr addr data s
  | .bypass => Sys2Proof.Machine.execBypass s
  | .regRead g addr => Sys2Proof.Machine.execRegRead g addr s
  | .mailboxDataRead g => Sys2Proof.Machine.execMailboxDataRead g s
  | .chainDataRead g => Sys2Proof.Machine.execChainDataRead g s
  | .testLogicResetExit => Sys2Proof.Machine.execTestLogicResetExit s
  | .testLogicResetEntry => Sys2Proof.Machine.execTestLogicResetEntry s
  | .portEnClear g p => Sys2Proof.Machine.execPortEnClear g p s
  | .trimDisable g => Sys2Proof.Machine.execTrimDisable g s
  | .calCommitComplete good => Sys2Proof.Machine.execCalCommitComplete good s
  | .imgPcmdComplete good => Sys2Proof.Machine.execImgPcmdComplete good s
  | .archiveEraseComplete => Sys2Proof.Machine.execArchiveEraseComplete s

end Sys2Proof.Machine
end

