-- ==== Sys2Proof/Machine/Step.lean ====
section
/-!
DEFINITION. The step: the command at the front of the queue, or one tick of operating time where none waits.
-/
namespace Sys2Proof.Machine

/-- DESIGN CHOICE (assumption 3): with no command waiting, one tick of 1/65,536 s of operating time passes, which is
counted outside cold reset (R422). -/
def State.tickOn (s : State) : State := if s.dev.cold then s else { s with ticks := s.ticks + 1 }

/-- One step of the block. -/
def step (s : State) : Host.Outcome State Fault Refusal :=
  match s.pending with
  | [] => .next s.tickOn
  | c :: r => exec c { s with pending := r }

/-- A state with a command put at the front of its queue. -/
def State.withFront (s : State) (c : Instr) : State := { s with pending := c :: s.pending }

/-- A state with the command that a word spells in front of its queue. -/
def State.withFetchWord (s : State) (nbits w : Nat) : State :=
  match decodeTableWord nbits w with
  | some c => s.withFront c
  | none => s

end Sys2Proof.Machine
end

