-- ==== Sys2Proof/Machine/Pins.lean ====
section
/-!
DEFINITION. The levels of the block's output pins that its state decides (R373, R419, R478, R479), and what a hub's switches
do while cold reset is held.
-/
namespace Sys2Proof.Machine

/-- What a pin does: its row of R479 names a level, or the block that drives it. -/
inductive PinLevel where
  | low
  | asserted
  | released
  | idle
  | weakHigh
  | highZ
  /-- open drain, for the NACK of R394 only -/
  | nackOnly
  /-- driven in Shift-IR and Shift-DR, at high impedance in every other state of the TAP controller (R469) -/
  | inShift
  /-- driven during transfers, at high impedance between them -/
  | inTransfer
  | driven
deriving DecidableEq, Repr

/-- The output pins of R479; the transmit pairs by port. -/
structure Pins where
  errAlive : PinLevel
  thermTrip : PinLevel
  lnkTx : List PinLevel
  flashCs : PinLevel
  flashBus : PinLevel
  sda : PinLevel
  tdo : PinLevel
deriving DecidableEq, Repr

/-- THERMTRIP_N as R293 to R295 hold it. -/
def State.thermPin (s : State) : PinLevel := if s.thm.trip then .asserted else .released

/-- The transmit pair of a port: at electrical idle in RESET (R373). -/
def State.txPin (s : State) (p : Nat) : PinLevel := if s.get R.LNK_PSTAT_STATE p = 0 then .idle else .driven

/-- The pins under the conditions of R479. VAON below 0.70 V, which holds cold reset, is a condition of the supply and no state of
the block. -/
def State.pins (s : State) (vaonLow : Bool := false) : Pins :=
  if vaonLow then
    { errAlive := .low, thermTrip := .released, lnkTx := List.replicate 4 .highZ, flashCs := .highZ, flashBus := .highZ,
      sda := .highZ, tdo := .highZ }
  else if s.dev.cold then
    { errAlive := .low, thermTrip := .released, lnkTx := List.replicate 4 .idle, flashCs := .weakHigh, flashBus := .highZ,
      sda := .highZ, tdo := .highZ }
  else if !s.dev.released then
    { errAlive := .low, thermTrip := s.thermPin, lnkTx := List.replicate 4 .idle, flashCs := .weakHigh, flashBus := .highZ,
      sda := .nackOnly, tdo := .highZ }
  else
    { errAlive := if s.flt.pin then .driven else .low, thermTrip := s.thermPin, lnkTx := [0, 1, 2, 3].map s.txPin,
      flashCs := .driven, flashBus := .inTransfer, sda := .driven, tdo := if s.dev.tapOut then .inShift else .highZ }

/-- Whether a cell can close its switches: not while cold reset is held (R478), nor while it is in no state that switches. -/
def State.mayClose (s : State) (c : Nat) : Bool := !s.dev.cold && (s.cst c == cSoft || s.cst c == cRun)

end Sys2Proof.Machine
end

