-- ==== Sys2Proof/Safety.lean ====
section
/-!
DEFINITION. What counts as a safe state: the canonical form of the tables that the model keeps by key, and the frame that
a change of one register field leaves.
-/
namespace Sys2Proof.Machine

/-- The register file and the package flash are in canonical form. -/
def State.canonical (s : State) : Bool := tabWf s.regs && memWf s.flash

/-- The secrets are where R450 to R456 allow them: a released key exists only inside an established session, a delivery is
open only while a key is held, and from the registration of a debug request no key is held. -/
def SecS.ok (x : SecS) : Bool :=
  (x.key.isNone || (match x.sess with
    | some y => y.established
    | none => false))
    && (!x.deliv.opened || x.key.isSome) && (x.dbgReq == 0 || x.key.isNone)

/-- What every command keeps, but for the few whose effect it is: the integration data, the fuse map, the canonical form of
the register file and the package flash; the released key, the session, whether a delivery is open and a debug request; the
periods, slots and epochs passed and cold reset; operating time; the queue. -/
def State.kept (s : State) :
    (Integ × Option FuseMap × Bool × List Host.Cell) × (Option (Nat × List Byte × List Byte) × Option SessS × Bool × Nat) ×
      (Nat × Nat × Nat × Nat × Nat × Bool) × Nat × List Instr :=
  ((s.cfg, s.fuse, tabWf s.regs, s.flash), (s.sec.key, s.sec.sess, s.sec.deliv.opened, s.sec.dbgReq),
    (s.dev.dper, s.dev.die, s.dev.ep, s.dev.epoch, s.dev.slot, s.dev.cold), s.ticks, s.pending)

/-- Every register word of `t` stands as in `s`, but for those under the keys of a list. -/
def State.framed (s t : State) (ks : List Nat) : Prop := ∀ k r, k ∉ ks → t.word k r = s.word k r

/-- `t` differs from `s` at most in register words under the keys of a list. -/
def State.only (s t : State) (ks : List Nat) : Prop := t = { s with regs := t.regs } ∧ s.framed t ks

/-- A write of a gallery meets no fence and every check of R383. -/
abbrev State.passes (s : State) (g addr : Nat) (w : Word) : Prop :=
  (tabAt s.fence g).waiting = false ∧ s.newAccess.check g true addr w = .ok

/-- A write that carries the value `v` for one field, and the settings beside it as they stand, passes. -/
abbrev State.rowPasses (s : State) (g : Nat) (F : Fld) (i v : Nat) : Prop := s.passes g (F.addr i) (s.rowWord F i v)

/-- A read of a gallery meets no fence and every check of R383. -/
abbrev State.reads (s : State) (g addr : Nat) : Prop :=
  (tabAt s.fence g).waiting = false ∧ s.newAccess.check g false addr 0 = .ok

/-- The state in which a read of a gallery has been answered OK with its data, and nothing else has changed. -/
def State.answered (s : State) (g data : Nat) : State := { s with rsps := [{ gal := g, code := .ok, data := data }] }

/-- The state in which an access of a gallery has been answered OK, and nothing else has changed. -/
def State.okRsp (s : State) (g : Nat) : State := { s with rsps := [{ gal := g, code := .ok, data := 0 }] }

/-- What IMAGE_SELECT reads of a slot, with the errors its two operands count. -/
abbrev State.slotOf (s : State) (errA errB k : Nat) : SlotRead := s.slotRead k (if k = 0 then errA else errB)

/-- The slots that IMAGE_SELECT tries, in order: none where the flash is not usable (R340). -/
abbrev State.slotsTried (s : State) (errA errB : Nat) : List Nat :=
  if s.dev.flashUsable = true then tryOrder s.dev.nextSel (s.slotOf errA errB 0) (s.slotOf errA errB 1) else []

/-- The field that shows the reason for which a slot was rejected, and the event bit beside it. -/
abbrev rejFld (k : Nat) : Fld := if k = 0 then R.IMG_STAT_REJA else R.IMG_STAT_REJB
abbrev rejFlt (k : Nat) : Fld := if k = 0 then R.IMG_FLT_REJA else R.IMG_FLT_REJB

/-- A run is safe when its last step answered a next state in canonical form. -/
def safeOutcome (o : Host.Outcome State Fault Refusal) : Bool :=
  match o with
  | .next s => s.canonical
  | .fault _ => false
  | .refused _ => false

end Sys2Proof.Machine
end

