-- ==== Sys2Proof/Certificates/Slice0/Obligations.lean ====
section
/-!
DEFINITION. The statements for the provers: what commands of every family do, where they act and what they leave, and what
every step keeps.
-/
open Sys2Proof Sys2Proof.Machine

/-- A step runs the command at the front of the queue (R302, R422). For every command c and state s, a step of s with
c put at the front of its queue is exec of c on s with the rest of the queue. With no command waiting a step is one
tick of operating time, which does not pass under cold reset: the queue and this idle step are the model's choice
(assumption 3). -/
def Obligations.StepRunsTheFrontCommand : Prop :=
  (∀ (c : Instr) (s : State), step (s.withFront c) = exec c s) ∧
  (∀ (c : Instr) (r : List Instr) (s : State), s.pending = c :: r → step s = exec c { s with pending := r }) ∧
  (∀ s : State, s.pending = [] → step s = .next (if s.dev.cold then s else { s with ticks := s.ticks + 1 }))

/-- The state after reset meets the invariants (R46, R302, R327, R450). At reset the integration data is within the
limits of R46, the register file and the package flash are in canonical form, the secrets are where R450 to R456 allow
them, cold reset stands and no command waits. -/
def Obligations.ResetIsCanonical : Prop :=
  State.reset.cfg.wf = true ∧ State.reset.canonical = true ∧ State.reset.sec.ok = true ∧ State.reset.dev.cold = true ∧ State.reset.pending = []

/-- Every step keeps the canonical form of the register file and of the flash, and the integration data (R15, R327,
R3). From every state whose register file and package flash are in canonical form, a step that answers a next state
leaves both in canonical form and the integration data of the macro unchanged. -/
def Obligations.EveryStepKeepsTheTables : Prop :=
  ∀ s t : State, s.canonical = true → step s = .next t → t.canonical = true ∧ t.cfg = s.cfg

/-- A released key exists only where the spec allows it, after every step (R450, R452, R453, R456). From every state
in which a released key exists only inside an established session, a delivery is open only while a key is held, and no
key is held from the registration of a debug request on, every step that answers a next state leaves it so. The
registers play no part in it. -/
def Obligations.EveryStepKeepsTheSecrets : Prop :=
  ∀ s t : State, s.canonical = true → s.sec.ok = true → step s = .next t → t.sec.ok = true

/-- Every command completes, and none changes the queue of waiting commands (R10, R382). Every command answers a next
state in every state: none ends in a fault or a refusal. From a state whose tables are in canonical form and whose
secrets are where R450 to R456 allow them, that next state holds the integration data and the queue as they were. -/
def Obligations.CommandsLeaveTheQueue : Prop :=
  (∀ (c : Instr) (s : State), ∃ t, exec c s = .next t) ∧
  (∀ (c : Instr) (s : State), s.canonical = true → s.sec.ok = true →
    ∃ t, exec c s = .next t ∧ t.pending = s.pending ∧ t.cfg = s.cfg)

/-- Cold reset restores the reset value of every register, and its release lets the start-up begin (R302, R329, R250).
COLD_RESET answers a state in which the integration data, the package flash, the queue and the model's counter of free
values stand, every register field reads its reset word but those of BUD_DCAP, whose caps read 192 and 150 codes for
each configured district, and everything else is as at reset. COLD_RESET_RELEASE ends the cold reset and makes the
switch-on of the supply group due; it changes nothing else. -/
def Obligations.ColdResetRestoresEverything : Prop :=
  (∀ s : State, ∃ t, exec .coldReset s = .next t ∧
    t = { State.resetOf s.cfg s.flash with pending := s.pending, free := s.free } ∧ t.dev.cold = true ∧ t.fuse = none ∧
    (∀ (F : Fld) (i : Nat), F.key i ≠ R.BUD_DCAP_ABS.key 0 → t.get F i = bitsOf (BitVec.ofNat 32 F.rst) F.lo F.w) ∧
    (s.cfg.n ≤ 64 → t.get R.BUD_DCAP_ABS = 192 * s.cfg.n ∧ t.get R.BUD_DCAP_DCAP = 150 * s.cfg.n)) ∧
  (∀ s : State, exec .coldResetRelease s = .next { s with dev := { s.dev with cold := false, supDue := true } })

/-- The fuse map is read once after cold reset (R323, R73, R329). FUSE_READ outside cold reset, with no map read yet,
holds the map as read, and leaves the integration data, the package flash and the queue; with good parity every
configured cell that it names stands FUSED, with a parity error nothing but the map changes. Once a map is held, or
under cold reset, a FUSE_READ changes nothing. -/
def Obligations.FuseMapIsReadOnce : Prop :=
  (∀ (s : State) (f : FuseMap), s.dev.cold = false → s.fuse = none →
    ∃ t, exec (.fuseRead f) s = .next t ∧ t.fuse = some f ∧ t.cfg = s.cfg ∧ t.flash = s.flash ∧ t.pending = s.pending ∧
      (f.good = true → ∀ c ∈ f.fused, c < 16 * s.cfg.n → t.cst c = cFused) ∧
      (f.good = false → t = { s with fuse := some f })) ∧
  (∀ (s : State) (f g : FuseMap), s.fuse = some g → exec (.fuseRead f) s = .next s) ∧
  (∀ (s : State) (f : FuseMap), s.dev.cold = true → exec (.fuseRead f) s = .next s)

/-- Hubs of a zone start when VFEED is good, and their self-test is taken once (R6, R329, R330, R336).
ZONE_VFEED_READY of a zone with districts, outside cold reset, starts the hubs of the zone and ends its wait for
VFEED; where no switch-on of the supply group is due nothing but the device state changes. SELF_TEST_COMPLETE of a
zone whose hubs have started and that is not yet tested counts the zone as tested, and every cell of its districts
that is not FUSED as tested; of a zone that is already tested, or whose hubs have not started, it changes nothing. A
cell all of whose phases a self-test finds bad is FAILED with the cause of all phases lost. The integration data, the
fuse map, the flash, the secrets, the periods and the queue stand (State.kept). -/
def Obligations.ZonesStartAndAreTested : Prop :=
  (∀ (s : State) (z : Nat), z < 4 → s.dev.cold = false → s.zoneUsed z = true →
    ∃ t, exec (.zoneVfeedReady z) s = .next t ∧ t.dev.hubs.testBit z = true ∧ t.dev.feedWait.testBit z = false ∧
      t.kept = s.kept ∧ (s.dev.supDue = false → t = { s with dev := t.dev })) ∧
  (∀ (s : State) (z : Nat) (bad : List (Nat × Nat × Nat)), z < 4 → s.dev.hubs.testBit z = true →
    s.dev.tested.testBit z = false →
    ∃ t, exec (.selfTestComplete z bad) s = .next t ∧ t.dev.tested.testBit z = true ∧ t.kept = s.kept ∧
      ∀ d ∈ s.inZone z, ∀ c ∈ cellsOf d, s.cst c ≠ cFused → (t.cell c).tested = true) ∧
  (∀ (s : State) (z : Nat) (bad : List (Nat × Nat × Nat)), z < 4 →
    s.dev.hubs.testBit z = false ∨ s.dev.tested.testBit z = true → exec (.selfTestComplete z bad) s = .next s) ∧
  (∀ (s : State) (c : Nat) (bad : List (Nat × Nat × Nat)), s.cst c ≠ cFused →
    (∀ p < 4, ∃ k, (c, p, k) ∈ bad) → (s.selfTest bad c).cst c = cFailed ∧ (s.selfTest bad c).get R.CEL_STAT_LAST_CAUSE c = 4)

/-- The control complex is released and reset (R302, R303, R323, R329, R419, R461). CONTROL_COMPLEX_RELEASE with the
complex powered, not released and the fuse map read without a parity error releases it, enables the PLL, starts the
collector's heartbeat, and shows COLD in the PG_FLT of the SYS page for the first release after a cold reset, WARM for
any other; otherwise it changes nothing. WARM_RESET of a gallery whose write of WRST passes, with the complex powered,
leaves it unreleased with the cause WRST, and the device in BOOT; that the device stays in SAFE_OFF where it stands
there is the model's choice (assumption 68). Both leave the integration data, the fuse map, the cells, the anvil cells
and the queue, and the flash where no command on it was in progress (what else a warm reset keeps: assumption 17). -/
def Obligations.ControlComplexIsReleased : Prop :=
  (∀ s : State, s.dev.powered = true → s.dev.released = false → s.fuseOk = true →
    ∃ t, exec .controlComplexRelease s = .next t ∧ t.dev.released = true ∧ t.get R.CLK_STAT_PLLEN = 1 ∧ t.flt.heartbeat = true ∧
      (s.dev.bootCause = 1 → t.get R.SYS_FLT_COLD = 1) ∧ (s.dev.bootCause ≠ 1 → t.get R.SYS_FLT_WARM = 1) ∧
      t.cfg = s.cfg ∧ t.fuse = s.fuse ∧ (s.cal.commit = false → s.dev.pgm = none → t.flash = s.flash) ∧
      t.cells = s.cells ∧ t.anv = s.anv ∧ t.pending = s.pending) ∧
  (∀ s : State, s.dev.powered = false ∨ s.dev.released = true ∨ s.fuseOk = false →
    exec .controlComplexRelease s = .next s) ∧
  (∀ (s : State) (g : Gal), s.rowPasses g R.PWR_CTL_WRST 0 1 → s.dev.powered = true →
    ∃ t, exec (.warmReset g) s = .next t ∧ t.dev.released = false ∧ t.dev.bootCause = 2 ∧
      t.devSt = (if s.devSt = devOff then devOff else devBoot) ∧
      t.cfg = s.cfg ∧ t.fuse = s.fuse ∧ (s.cal.commit = false → s.dev.pgm = none → t.flash = s.flash) ∧
      t.cells = s.cells ∧ t.anv = s.anv ∧ t.pending = s.pending)

/-- The PLL locks, is selected, fails to lock and loses lock (R320, R321, R33, R329, R411). PLL_LOCK of an enabled PLL
without lock sets LOCK with its saturated time; in a large configuration it changes nothing else, in a small one on
FIO it selects the PLL. PLL_SELECT whose write passes without the privilege of the page changes nothing but the
response; with it, while LOCK is 0 it is refused with SELREF, and nothing else; with LOCK at 1 it makes the PLL the
source, and where the PLL is the source already it changes nothing. NOLOCK of a small configuration on FIO without
lock sets NOLOCK and drives a report. PLL_LOCK_LOSS clears LOCK, and where the PLL is the source sets LOCKLOST and
drives a report; no other register changes. The reports fall on lines that no wiring fault has masked. -/
def Obligations.PllLockSelectAndLoss : Prop :=
  (∀ (s : State) (n : Nat), s.get R.CLK_STAT_PLLEN = 1 → s.get R.CLK_STAT_LOCK = 0 →
    ∃ t, exec (.pllLock n) s = .next t ∧ t.get R.CLK_STAT_LOCK = 1 ∧ t.get R.CLK_STAT_LOCKT = min n 65535 ∧
      t.kept = s.kept ∧ (s.large = true → s.only t [R.CLK_STAT_LOCK.key 0]) ∧
      (s.large = false → s.get R.CLK_STAT_SRC = 0 → t.get R.CLK_STAT_SRC = 1)) ∧
  (∀ (s : State) (g : Gal), s.rowPasses g R.CLK_SRC_SEL 0 1 → s.priv g 1 = false →
    exec (.pllSelect g) s = .next (s.okRsp g)) ∧
  (∀ (s : State) (g : Gal), s.rowPasses g R.CLK_SRC_SEL 0 1 → s.priv g 1 = true → s.get R.CLK_STAT_LOCK = 0 →
    ∃ t, exec (.pllSelect g) s = .next t ∧ t.get R.CLK_FLT_SELREF = 1 ∧ (s.okRsp g).only t [R.CLK_FLT_SELREF.key 0]) ∧
  (∀ (s : State) (g : Gal), s.rowPasses g R.CLK_SRC_SEL 0 1 → s.priv g 1 = true → s.get R.CLK_STAT_SRC = 0 →
    s.get R.CLK_STAT_LOCK = 1 →
    ∃ t, exec (.pllSelect g) s = .next t ∧ t.get R.CLK_STAT_SRC = 1 ∧ t.get R.CLK_SRC_SEL = 1 ∧ t.kept = s.kept ∧
      (s.adc.startDue = false →
        (s.okRsp g).only t [R.CLK_STAT_SRC.key 0, R.CLK_SRC_SEL.key 0, R.IMG_BOOT_PHASE.key 0])) ∧
  (∀ (s : State) (g : Gal), s.rowPasses g R.CLK_SRC_SEL 0 1 → s.get R.CLK_STAT_SRC = 1 → s.get R.CLK_STAT_LOCK = 1 →
    exec (.pllSelect g) s = .next (s.okRsp g)) ∧
  (∀ s : State, s.get R.CLK_STAT_PLLEN = 1 → s.get R.CLK_STAT_LOCK = 0 → s.large = false → s.get R.CLK_STAT_SRC = 0 →
    ∃ t, exec .nolock s = .next t ∧ t.get R.CLK_FLT_NOLOCK = 1 ∧ t = { s with regs := t.regs, flt := t.flt } ∧
      s.framed t [R.CLK_FLT_NOLOCK.key 0] ∧
      ((srcOf 9 0, clsNolock) ∉ s.flt.masked → t.flt = { s.flt with
        lines := s.flt.lines ++ [{ cls := clsNolock, cause := 0, src := srcOf 9 0 }] })) ∧
  (∀ s : State, s.get R.CLK_STAT_LOCK = 1 →
    ∃ t, exec .pllLockLoss s = .next t ∧ t.get R.CLK_STAT_LOCK = 0 ∧ t = { s with regs := t.regs, flt := t.flt } ∧
      s.framed t [R.CLK_STAT_LOCK.key 0, R.CLK_FLT_LOCKLOST.key 0] ∧
      (s.get R.CLK_STAT_SRC = 0 → t.flt = s.flt) ∧
      (s.get R.CLK_STAT_SRC = 1 → t.get R.CLK_FLT_LOCKLOST = 1 ∧ ((srcOf 9 0, clsPll) ∉ s.flt.masked → t.flt = { s.flt with
        lines := s.flt.lines ++ [{ cls := clsPll, cause := 0, src := srcOf 9 0 }] })))

/-- The Orrery starts, districts return in order, and BOOT ends (R27, R146, R319, R329, R333, R334, R351).
ORRERY_START with the complex released, the PLL selected, an image applied and the Orrery not started starts every
period at 0 with RUN set, region 0 and the sums of the currents at 0; otherwise it changes nothing. DISTRICT_RETURN in
BOOT with an image applied, the Orrery started, a first thermal point and no standing OFF cause begins the return of
the districts. RETURN_ORDER_ENTRY of a small configuration that returns its districts passes over an entry whose
district is not to be switched on, or is in a sequence already (the model's choice, assumption 69), waits with SEQWAIT
for a zone whose port is not UP, and otherwise begins its switch-on and passes on. ZONE_WAIT_ABANDON of an entry that
waits for a zone whose port is not UP sets ZONETMO and passes over it. BOOT_END at its condition ends BOOT. With no
HOLD cause standing and no entry in progress the stored DEV_REQ acts: with 0 the device is in RUN, with 1 in QUIET,
with 2 or 3 in RUN with the entry of DOZE or of SLEEP begun. Where a HOLD cause stands it is in SAFE_HOLD (the model's
choice, assumption 123). The integration data, the fuse map, the flash, the secrets, the periods and the queue stand
but for what is named (State.kept). -/
def Obligations.BootReturnsTheDistricts : Prop :=
  (∀ s : State, s.dev.released = true → s.get R.CLK_STAT_SRC = 1 → s.dev.imgDone = true → s.dev.orrRun = false →
    ∃ t, exec .orreryStart s = .next t ∧ t.get R.ORR_STAT_RUN = 1 ∧
      t = { s with regs := t.regs, law := t.law, cells := t.cells,
                   dev := { s.dev with orrRun := true, dper := 0, die := 0, ep := 0, slot := 0, slotStb := 0 } } ∧
      (∀ d < s.cfg.n, t.get R.DST_RGN_STAT_REGION d = 0 ∧ (t.lw d).imSum = 0 ∧ (t.lw d).imCnt = 0 ∧
        ∀ c ∈ cellsOf d, t.cell c = { s.cell c with curSum := 0 })) ∧
  (∀ s : State, s.dev.released = false ∨ s.get R.CLK_STAT_SRC = 0 ∨ s.dev.imgDone = false ∨ s.dev.orrRun = true →
    exec .orreryStart s = .next s) ∧
  (∀ s : State, s.devSt = devBoot → s.dev.imgDone = true → s.dev.orrRun = true → s.dev.thermOk = true →
    s.dev.returned = false → s.offStanding = [] → s.flt.wireOff = false →
    ∃ t, exec .districtReturn s = .next t ∧ t.dev.returned = true ∧ t.dev.retIdx = 0 ∧ t.kept = s.kept ∧
      (s.large = false → s.dev.supStayed = false →
        t = { s with regs := t.regs, dev := { s.dev with returned := true, retIdx := 0, retWait := false } } ∧
        s.framed t [R.IMG_BOOT_PHASE.key 0])) ∧
  (∀ s : State, s.large = false → s.dev.returned = true → s.dev.booted = false → s.devSt = devBoot → s.dev.retIdx < 16 →
    (s.toReturn (s.seqDist s.dev.retIdx) = false ∨ s.seqBusy (s.seqDist s.dev.retIdx) = true →
      exec .returnOrderEntry s = .next { s with dev := { s.dev with retIdx := s.dev.retIdx + 1, retWait := false } }) ∧
    (s.toReturn (s.seqDist s.dev.retIdx) = true → s.seqBusy (s.seqDist s.dev.retIdx) = false →
      s.pst (s.zoneOf (s.seqDist s.dev.retIdx)) ≠ lkUp →
      ∃ t, exec .returnOrderEntry s = .next t ∧ t.get R.PWR_FLT_SEQWAIT = 1 ∧
        t = { s with regs := t.regs, dev := { s.dev with retWait := true } } ∧ s.framed t [R.PWR_FLT_SEQWAIT.key 0]) ∧
    (s.toReturn (s.seqDist s.dev.retIdx) = true → s.seqBusy (s.seqDist s.dev.retIdx) = false →
      s.pst (s.zoneOf (s.seqDist s.dev.retIdx)) = lkUp →
      ∃ t, exec .returnOrderEntry s = .next t ∧ t.kept = s.kept ∧ t.dev.retWait = false ∧ t.dev.retIdx = s.dev.retIdx + 1 ∧
        (t.pw (s.seqDist s.dev.retIdx)).step = .onBegun)) ∧
  (∀ s : State, s.dev.retWait = true → s.pst (s.zoneOf (s.seqDist s.dev.retIdx)) ≠ lkUp →
    ∃ t, exec .zoneWaitAbandon s = .next t ∧ t.get R.IMG_FLT_ZONETMO = 1 ∧
      t = { s with regs := t.regs, dev := { s.dev with retIdx := s.dev.retIdx + 1, retWait := false } } ∧
      s.framed t [R.IMG_FLT_ZONETMO.key 0]) ∧
  (∀ s : State, s.bootOver = true → s.standing 2 = false → s.dev.entry = 0 →
    ∃ t, exec .bootEnd s = .next t ∧ t.kept = s.kept ∧ t.dev.booted = true ∧
      t.devSt = (if s.get R.PWR_CTL_DEV_REQ = 1 then devQuiet else devRun) ∧
      t.dev.entry = (if s.get R.PWR_CTL_DEV_REQ = 2 then 1 else if s.get R.PWR_CTL_DEV_REQ = 3 then 2 else 0) ∧
      t.get R.PWR_CTL_DEV_REQ = s.get R.PWR_CTL_DEV_REQ) ∧
  (∀ s : State, s.bootOver = true → s.standing 2 = true →
    ∃ t, exec .bootEnd s = .next t ∧ t.kept = s.kept ∧ t.dev.booted = true ∧ t.devSt = devHold)

/-- A district enters RETAIN or OFF step by step (R34, R304, R306, R308, R238). DISTRICT_ENTRY_BEGIN of a district
that is ON or in RETAIN, with an entry requested, no sequence in progress and no booking on it, and that is not the
control-complex supply district where R34 keeps it ON, begins the entry with the STEP of its target: from ON it stops
the district's clock; with no test signal on the district nothing changes but the district's sequence, its Forecaster
elements and the frame named. ISOLATE sets its clamps and SWITCHES drives fab_psw to the code of its target. CELLS of
an entry to OFF of any other district than the supply one sends a stop order to each of its cells.
RETAIN_ENTRY_COMPLETE and OFF_ENTRY_COMPLETE end the entry in their state, with the throttle request of the district
at 0; where no member of its coupling group is then in service the QUALCNT of the group is 0. Each step leaves the
integration data, the fuse map, the flash, the secrets, the periods and the queue (State.kept). -/
def Obligations.DistrictEntriesFollowTheirSteps : Prop :=
  (∀ (s : State) (d : Nat), d < s.cfg.n → (s.pw d).reqEntry = true → s.seqBusy d = false → s.dst d = 2 →
    s.noBooking d = true → d ≠ s.cfg.ccsup ∨ s.supplyFixed = false →
    ∃ t, exec (.districtEntryBegin d) s = .next t ∧ t.get R.PWR_DSTAT_CSTOP d = 1 ∧
      t.get R.PWR_DSTAT_STEP d = (if s.tgtOf d = 1 then 1 else 2) ∧ (t.pw d).step = .entBegun ∧ t.kept = s.kept ∧
      (s.get R.LOOP_TST_CTL_DIST ≠ d → t = { s with regs := t.regs, pwr := t.pwr, fcs := t.fcs } ∧
        s.framed t [R.PWR_DSTAT_STEP.key d, R.DST_FILL_STAT_SWWAIT.key d])) ∧
  (∀ (s : State) (d : Nat), d < s.cfg.n → (s.pw d).reqEntry = true → s.seqBusy d = false → s.dst d = 1 →
    s.noBooking d = true → d ≠ s.cfg.ccsup ∨ s.supplyFixed = false →
    ∃ t, exec (.districtEntryBegin d) s = .next t ∧ (t.pw d).step = .entIso ∧
      t.get R.PWR_DSTAT_STEP d = (if s.tgtOf d = 1 then 1 else 2) ∧
      t = { s with regs := t.regs, pwr := t.pwr, fcs := t.fcs } ∧
      s.framed t [R.PWR_DSTAT_STEP.key d, R.DST_FILL_STAT_SWWAIT.key d]) ∧
  (∀ (s : State) (d : Nat), d < s.cfg.n → (s.pw d).step = .entBegun →
    ∃ t, exec (.districtEntryIsolate d) s = .next t ∧ t.get R.PWR_DSTAT_ISO d = 1 ∧ (t.pw d).step = .entIso ∧
      t = { s with regs := t.regs, pwr := t.pwr } ∧ s.framed t [R.PWR_DSTAT_ISO.key d]) ∧
  (∀ (s : State) (d : Nat), d < s.cfg.n → (s.pw d).step = .entIso →
    ∃ t, exec (.districtEntrySwitches d) s = .next t ∧ (t.pw d).step = .entSw ∧
      t.get R.PWR_DSTAT_PSW d = (if (s.pw d).toRetain then 1 else 0) ∧ t.kept = s.kept) ∧
  (∀ (s : State) (d : Nat), d < s.cfg.n → (s.pw d).step = .entSw → (s.pw d).toRetain = true →
    ∃ t, exec (.districtEntryCells d) s = .next t ∧ (t.pw d).step = .entCells ∧ t.kept = s.kept) ∧
  (∀ (s : State) (d : Nat), d < s.cfg.n → (s.pw d).step = .entSw → (s.pw d).toRetain = false → d ≠ s.cfg.ccsup →
    ∃ t, exec (.districtEntryCells d) s = .next t ∧ (t.pw d).step = .entCells ∧
      (∀ c ∈ cellsOf d, (t.cell c).stopSent = true) ∧ t = { s with pwr := t.pwr, cells := t.cells }) ∧
  (∀ (s : State) (d : Nat), d < s.cfg.n → (s.pw d).step = .entCells → (s.pw d).toRetain = true →
    ∃ t, exec (.retainEntryComplete d) s = .next t ∧ t.dst d = 1 ∧ (t.pw d).step = .idle ∧
      t.get R.DST_FO_THR_THRQ d = 0 ∧ t.kept = s.kept ∧
      ((s.inGroup d).any t.inService' = false → ∀ e ∈ s.inGroup d, t.get R.DST_FO_THR_QUALCNT e = 0) ∧
      (s.get R.PWR_DSTAT_TPEND d = 0 → t.get R.PWR_DSTAT_STEP d = 0 ∧ t = { s with regs := t.regs, pwr := t.pwr, fo := t.fo } ∧
        s.framed t ([R.PWR_DSTAT_STATE.key d, R.DST_FO_THR_THRQ.key d, R.DST_FO_STAT_STATE.key d] ++
          (s.inGroup d).flatMap fun e => [R.DST_FO_THR_QUALCNT.key e, R.DST_FO_STAT_QUAL.key e]))) ∧
  (∀ (s : State) (d : Nat), d < s.cfg.n → (s.pw d).step = .entCells → (s.pw d).toRetain = false →
    s.get R.DST_FO_STAT_STATE d ≠ 2 →
    ∃ t, exec (.offEntryComplete d) s = .next t ∧ t.dst d = 0 ∧ t.get R.DST_FO_THR_THRQ d = 0 ∧ t.kept = s.kept ∧
      (s.get R.PWR_DSTAT_TPEND d = 0 → s.dev.sleepStep = 0 → s.dev.supDue = false →
        t.get R.PWR_DSTAT_STEP d = 0 ∧ (t.pw d).step = .idle ∧ t = { s with regs := t.regs, pwr := t.pwr, fo := t.fo } ∧
        s.framed t ([R.PWR_DSTAT_STATE.key d, R.DST_FO_THR_THRQ.key d, R.DST_FO_STAT_STATE.key d] ++
          (s.inGroup d).flatMap fun e => [R.DST_FO_THR_QUALCNT.key e, R.DST_FO_STAT_QUAL.key e])))

/-- A district is switched on step by step (R173, R174, R304, R309, R310, R314, R321). SWITCH_ON_BEGIN in RUN or
QUIET, before the OFF entries of SLEEP have begun, of a district that waits first in its zone, or that waits with an
allowance of 0, and that R173 admits, at a die period boundary begins its sequence at its start reference, and between
boundaries, or where R173 does not admit it, changes nothing; RAILOK with its rail in range drives fab_psw 0b10,
SWITCH_ON_POWER 0b11; SWITCH_ON_COMPLETE with every anvil cell READY or FAILED, outside SAFE_HOLD, with no darkening
or restart of the district in progress and no supply group that stayed ON and still waits for its return, makes it ON
with its clamps released; CLOCK_START lets its clock run; SWITCH_ON_FAIL before RAILOK sets SWFAIL, drives a report
where the line is not masked, and takes the district back to OFF. The order of those that wait is the model's choice
(assumption 28), and so are the SRC of the report (assumption 22) and that a district is ON from COMPLETE (assumption
50). Each step leaves the integration data, the fuse map, the flash, the secrets, the periods and the queue
(State.kept). -/
def Obligations.DistrictsSwitchOnStepByStep : Prop :=
  (∀ (s : State) (d : Nat), d < s.cfg.n → s.switchOns = true → s.atDie = true →
    (s.waiters (s.zoneOf d)).head? = some d ∨ (d ∈ s.waiters (s.zoneOf d) ∧ s.swon d = 0) → s.swFits d = true →
    ∃ t, exec (.switchOnBegin d) s = .next t ∧ (t.pw d).step = .onBegun ∧ (t.pw d).vs = s.startRef d ∧ t.kept = s.kept) ∧
  (∀ (s : State) (d : Nat), s.atDie = false ∨ s.swFits d = false → exec (.switchOnBegin d) s = .next s) ∧
  (∀ (s : State) (d : Nat), d < s.cfg.n → (s.pw d).step = .onBegun → s.railOk d = true →
    ∃ t, exec (.railok d) s = .next t ∧ t.get R.PWR_DSTAT_PSW d = 2 ∧ (t.pw d).step = .onRail ∧ t.kept = s.kept) ∧
  (∀ (s : State) (d : Nat), d < s.cfg.n → (s.pw d).step = .onRail →
    ∃ t, exec (.switchOnPower d) s = .next t ∧ t.get R.PWR_DSTAT_PSW d = 3 ∧ (t.pw d).step = .onPower ∧
      t = { s with regs := t.regs, pwr := t.pwr } ∧ s.framed t [R.PWR_DSTAT_PSW.key d]) ∧
  (∀ (s : State) (d : Nat), d < s.cfg.n → (s.pw d).step = .onPower → s.anvilsSet d = true → s.devSt ≠ devHold →
    s.dev.supStayed = false ∨ s.dev.returned = true → s.get R.DST_FO_STAT_STATE d < 2 →
    ∃ t, exec (.switchOnComplete d) s = .next t ∧ t.dst d = 2 ∧ t.get R.PWR_DSTAT_ISO d = 0 ∧ (t.pw d).step = .onIso ∧
      t.kept = s.kept ∧ (s.get R.PWR_DSTAT_TPEND d = 0 → t = { s with regs := t.regs, pwr := t.pwr, dev := t.dev } ∧
        s.framed t [R.PWR_DSTAT_STATE.key d])) ∧
  (∀ (s : State) (d : Nat), d < s.cfg.n → (s.pw d).step = .onIso →
    ∃ t, exec (.clockStart d) s = .next t ∧ t.get R.PWR_DSTAT_CSTOP d = 0 ∧ (t.pw d).step = .idle ∧
      t = { s with regs := t.regs, pwr := t.pwr } ∧ s.framed t [R.PWR_DSTAT_CSTOP.key d]) ∧
  (∀ (s : State) (d : Nat), d < s.cfg.n → (s.pw d).step = .onBegun →
    ∃ t, exec (.switchOnFail d) s = .next t ∧ t.get R.PWR_FLT_SWFAIL = 1 ∧ (t.pw d).step = .entIso ∧ (t.pw d).failed = true ∧
      t = { s with regs := t.regs, pwr := t.pwr, flt := t.flt } ∧
      ((srcOf 2 d, clsSwfail) ∉ s.flt.masked →
        t.flt.lines = s.flt.lines ++ [{ cls := clsSwfail, cause := 0, src := srcOf 2 d }]) ∧
      s.framed t [R.PWR_FLT_SWFAIL.key 0, R.PWR_DSTAT_STEP.key d])

/-- A target of a district is stored, refused or saturated as R306 sets (R306, R318, R322, R10). A
DISTRICT_TARGET_REQUEST whose write passes makes the request of each of its sixteen fields in turn, from the lowest
district on, and is answered OK; one whose fields name the targets in force of configured districts changes nothing
but the response. A passing write that differs from the targets in force in the field of one district alone, with a
change that R306 does not refuse, stores that target. In one district, the unused code 0b11 sets CFGSAT and nothing
else; a change that R306 refuses sets REQREF and nothing else; and a change that is not refused, of a district that is
not darkening or to ON, is stored. There is no register PWR_DTGT beyond the fourth: a request that names one changes
nothing (assumption 6). -/
def Obligations.TargetsAreRequestedOnlyWhereAllowed : Prop :=
  (∀ (s : State) (g : Gal) (j : Nat) (w : Word), j < 4 → s.passes g ((tgtFld j).addr 0) w →
    exec (.districtTargetRequest g j w) s = .next { (List.range 16).foldl
      (fun (u : State) k => u.request (16 * j + k) (bitsOf w (2 * k) 2)) s.newAccess with
      rsps := [{ gal := g, code := .ok, data := 0 }] }) ∧
  (∀ (s : State) (g : Gal) (j d : Nat) (w : Word), j < 4 → s.passes g ((tgtFld j).addr 0) w → d < s.cfg.n → d / 16 = j →
    (∀ k < 16, 16 * j + k < s.cfg.n → 16 * j + k ≠ d → bitsOf w (2 * k) 2 = s.tgtOf (16 * j + k) ∧ bitsOf w (2 * k) 2 ≠ 3) →
    bitsOf w (2 * (d % 16)) 2 < 3 → bitsOf w (2 * (d % 16)) 2 ≠ s.tgtOf d →
    s.get R.DST_FO_STAT_STATE d ≠ 2 ∨ bitsOf w (2 * (d % 16)) 2 = 2 → s.reqRefused d (bitsOf w (2 * (d % 16)) 2) = false →
    ∃ t, exec (.districtTargetRequest g j w) s = .next t ∧ t.tgtOf d = bitsOf w (2 * (d % 16)) 2 ∧ t.kept = s.kept ∧
      t.rsps = [{ gal := g, code := .ok, data := 0 }]) ∧
  (∀ (s : State) (g : Gal) (j : Nat) (w : Word), j < 4 → s.passes g ((tgtFld j).addr 0) w →
    (∀ k < 16, 16 * j + k < s.cfg.n → bitsOf w (2 * k) 2 = s.tgtOf (16 * j + k) ∧ bitsOf w (2 * k) 2 ≠ 3) →
    exec (.districtTargetRequest g j w) s = .next (s.okRsp g)) ∧
  (∀ (s : State) (d : Nat), d < s.cfg.n → s.request d 3 = s.cfgsat 2) ∧
  (∀ (s : State) (d v : Nat), d < s.cfg.n → v < 3 → v ≠ s.tgtOf d → s.get R.DST_FO_STAT_STATE d ≠ 2 ∨ v = 2 →
    s.reqRefused d v = true → s.request d v = s.raise R.PWR_FLT_REQREF) ∧
  (∀ (s : State) (d v : Nat), d < s.cfg.n → d < 64 → v < 3 → v ≠ s.tgtOf d → s.get R.DST_FO_STAT_STATE d ≠ 2 ∨ v = 2 →
    s.reqRefused d v = false → (s.request d v).tgtOf d = v ∧ (s.request d v).kept = s.kept) ∧
  (∀ (s : State) (g : Gal) (j : Nat) (w : Word), 4 ≤ j → exec (.districtTargetRequest g j w) s = .next s)

/-- The owner's requests move the device between RUN, QUIET, DOZE and SLEEP (R311, R312, R313, R314, R316, R318,
R322). With no entry in progress, a passing write of DEV_REQ by a gallery with the privilege takes a device in RUN to
QUIET, or begins the entry of DOZE or of SLEEP while PWR_STAT.DEV goes on to show RUN; a request of RUN returns a
device from QUIET. A write of DEV_REQ without the privilege that is answered OK, in RUN, changes nothing but the
response. DOZE_ENTRY_COMPLETE of an entry of DOZE with the ledgers empty through a die period takes the device to DOZE
with ORR_STAT.RUN at 0, gated unless a wake was latched, whose exit then begins at once. WAKE, whose write passes in
DOZE, begins the exit, counts the wake, and rewrites DEV_REQ to the state before DOZE. DOZE_EXIT_COMPLETE restores
that state and keeps DEV_REQ, which acts where the state is RUN and the owner has asked for QUIET since (the model's
choice, assumption 131). -/
def Obligations.OwnerRequestsDeviceStates : Prop :=
  (∀ (s : State) (g : Gal), s.rowPasses g R.PWR_CTL_DEV_REQ 0 0 → s.priv g 2 = true → s.devSt = devQuiet →
    s.dev.entry = 0 →
    ∃ t, exec (.devReqRun g) s = .next t ∧ t.devSt = devRun ∧ t.get R.PWR_CTL_DEV_REQ = 0 ∧
      (s.okRsp g).only t [R.PWR_STAT_DEV.key 0, R.PWR_CTL_DEV_REQ.key 0]) ∧
  (∀ (s : State) (g : Gal), s.rowPasses g R.PWR_CTL_DEV_REQ 0 1 → s.priv g 2 = true → s.devSt = devRun →
    s.dev.entry = 0 →
    ∃ t, exec (.devReqQuiet g) s = .next t ∧ t.devSt = devQuiet ∧ t.kept = s.kept) ∧
  (∀ (s : State) (g : Gal), s.rowPasses g R.PWR_CTL_DEV_REQ 0 2 → s.priv g 2 = true → s.devSt = devRun →
    s.dev.entry = 0 →
    ∃ t, exec (.devReqDoze g) s = .next t ∧ t.devSt = devRun ∧ t.get R.PWR_STAT_ENTRY = 1 ∧ t.dev.entry = 1 ∧
      t.dev.before = devRun ∧ t.get R.PWR_CTL_DEV_REQ = 2 ∧
      (s.okRsp g).framed t [R.PWR_STAT_DEV.key 0, R.PWR_CTL_DEV_REQ.key 0]) ∧
  (∀ (s : State) (g : Gal), s.rowPasses g R.PWR_CTL_DEV_REQ 0 3 → s.priv g 2 = true → s.devSt = devRun →
    s.dev.entry = 0 →
    ∃ t, exec (.devReqSleep g) s = .next t ∧ t.devSt = devRun ∧ t.get R.PWR_STAT_ENTRY = 1 ∧ t.dev.entry = 2 ∧
      t.get R.PWR_CTL_DEV_REQ = 3 ∧ (s.okRsp g).framed t [R.PWR_STAT_DEV.key 0, R.PWR_CTL_DEV_REQ.key 0]) ∧
  (∀ (s : State) (g : Gal), s.priv g 2 = false → s.devSt = devRun → s.dev.entry = 0 →
    (s.rowPasses g R.PWR_CTL_DEV_REQ 0 0 → exec (.devReqRun g) s = .next (s.okRsp g)) ∧
    (s.rowPasses g R.PWR_CTL_DEV_REQ 0 1 → exec (.devReqQuiet g) s = .next (s.okRsp g)) ∧
    (s.rowPasses g R.PWR_CTL_DEV_REQ 0 2 → exec (.devReqDoze g) s = .next (s.okRsp g)) ∧
    (s.rowPasses g R.PWR_CTL_DEV_REQ 0 3 → exec (.devReqSleep g) s = .next (s.okRsp g))) ∧
  (∀ s : State, s.dev.entry = 1 → s.dev.ledgersClear = true →
    ∃ t, exec .dozeEntryComplete s = .next t ∧ t.dev.entry = 0 ∧ t.devSt = devDoze ∧ t.get R.ORR_STAT_RUN = 0 ∧
      t.kept = s.kept ∧ (s.get R.PWR_STAT_WPEND = 0 → t.dev.gated = true ∧ t.dev.dozeExit = false) ∧
      (s.get R.PWR_STAT_WPEND = 1 → t.dev.gated = false ∧ t.dev.dozeExit = true)) ∧
  (∀ (s : State) (g : Gal), s.rowPasses g R.PWR_CTL_WAKE 0 1 → s.devSt = devDoze → s.dev.entry = 0 → s.dev.dozeExit = false →
    ∃ t, exec (.wake g) s = .next t ∧ t.get R.PWR_STAT_WSRC = wakeWrite ∧
      t.get R.PWR_STAT_WAKES = satU 16 (s.get R.PWR_STAT_WAKES + 1) ∧ t.get R.PWR_CTL_DEV_REQ = reqCode s.dev.before ∧
      t = { s.okRsp g with regs := t.regs, dev := { s.dev with dozeExit := true, gated := false } } ∧
      (s.okRsp g).framed t [R.PWR_STAT_WSRC.key 0, R.PWR_CTL_DEV_REQ.key 0]) ∧
  (∀ s : State, s.devSt = devDoze → s.dev.dozeExit = true → s.dev.entry = 0 → s.dev.before < 8 →
    s.dev.before ≠ devRun ∨ s.get R.PWR_CTL_DEV_REQ = 0 →
    ∃ t, exec .dozeExitComplete s = .next t ∧ t.devSt = s.dev.before ∧
      t = { s with regs := t.regs, dev := { s.dev with dozeExit := false, gated := false },
                   adm := { s.adm with back := 20 * (s.dev.dper - 1) } } ∧
      s.framed t [R.PWR_STAT_DEV.key 0]) ∧
  (∀ s : State, s.devSt = devDoze → s.dev.dozeExit = true → s.dev.entry = 0 → s.dev.before = devRun →
    s.get R.PWR_CTL_DEV_REQ = 1 →
    ∃ t, exec .dozeExitComplete s = .next t ∧ t.devSt = devQuiet ∧ t.dev.gated = false ∧ t.kept = s.kept)

/-- SLEEP empties the device, powers the control complex down, and ends in the switch-on of the supply group (R299,
R303, R314, R315, R450). SLEEP_ENTRY_BEGIN of an entry of SLEEP with every ledger empty begins the OFF entry of each
district outside the supply group that is ON with no sequence in progress and is not darkening, stops its clock, and
leaves no session, key or delivery; the integration data, the fuse map, the flash, operating time and the queue stand.
SLEEP_POWER_DOWN once they are complete, the ageing record is written and the Archive staging is flushed powers the
control complex down, and no session, key or delivery is left; the integration data, the fuse map and the queue stand,
and the flash where no command on it was in progress; with the record still due it changes nothing. SLEEP_WAKE of a
registered wake, in BOOT, takes it, begins the switch-on of each district of the supply group that is OFF or in RETAIN
with no sequence and no darkening in progress, at PWR_VREF.VBOOT, and leaves the integration data, the fuse map, the
flash, the secrets, the periods and the queue. -/
def Obligations.SleepPowersTheComplexDown : Prop :=
  (∀ s : State, s.dev.entry = 2 → s.dev.sleepStep = 0 → s.ledgersEmpty = true →
    ∃ t, exec .sleepEntryBegin s = .next t ∧ t.dev.sleepStep ≠ 0 ∧ t.sec.key = none ∧ t.sec.sess = none ∧
      t.sec.deliv.opened = false ∧ t.cfg = s.cfg ∧ t.fuse = s.fuse ∧ t.flash = s.flash ∧ t.pending = s.pending ∧
      t.ticks = s.ticks ∧
      ∀ d < s.cfg.n, s.isSupply d = false → s.dst d = 2 → (s.pw d).step = .idle → s.get R.DST_FO_STAT_STATE d ≠ 2 →
        (t.pw d).step = .entBegun ∧ (t.pw d).toRetain = false ∧ t.get R.PWR_DSTAT_CSTOP d = 1) ∧
  (∀ s : State, s.dev.entry = 2 → s.dev.sleepStep = 2 → s.age.due = false → s.flushed = true →
    ∃ t, exec .sleepPowerDown s = .next t ∧ t.dev.powered = false ∧ t.dev.released = false ∧ t.dev.sleepStep = 3 ∧
      t.sec.key = none ∧ t.sec.sess = none ∧ t.sec.deliv.opened = false ∧ t.cfg = s.cfg ∧ t.fuse = s.fuse ∧
      (s.cal.commit = false → s.dev.pgm = none → t.flash = s.flash) ∧ t.pending = s.pending) ∧
  (∀ s : State, s.age.due = true → exec .sleepPowerDown s = .next s) ∧
  (∀ s : State, s.dev.wakeDue = true → s.devSt = devBoot →
    ∃ t, exec .sleepWake s = .next t ∧ t.dev.wakeDue = false ∧ t.kept = s.kept ∧
      ∀ d ∈ s.supply, s.canSwitchOn d = true → (t.pw d).step = .onBegun ∧ (t.pw d).vs = s.get R.PWR_VREF_VBOOT)

/-- A report becomes an entry, and has the reaction of its class; a wiring fault masks its line and has that of the
line (R406, R407, R410, R411, R412, R414, R415, R416, R420, R421, R425, R336). FAULT_REPORT with one waiting report of
any class but WIRING, whose cause does not stand, counts it and puts it at the head of the history with its CAUSE and
SRC, the time, the device state, and a SEQ one above that of the entry before it (0 for the first). One of a REC class
leaves every other register, but for a CELL report of a phase removal or of a FAILED stage, which stages a FAULT
record too. One of reaction ALM or above is latched where the latch is free, sets GAL_ISTAT.FLT of each gallery whose
mask holds the FLT page, and stages its FAULT record where the staging has room. ALM leaves the device state; HOLD
makes the cause stand and forces SAFE_HOLD, from SAFE_OFF nothing; OFF, and HOLD before district return, makes the
cause stand and forces SAFE_OFF, with no session, key or open delivery. One whose cause stands makes its entry and
nothing else (the model's reading, assumption 128). Without the complex released the waiting reports are dropped (the
model's choice, assumption 23). A WIRING_FAULT on a checked line not yet masked masks the line, drops its report, sets
FLT_WIRE, and makes an entry of class WIRING with the line's class as CAUSE and its reaction, ALM at least: a REC or
ALM line leaves the device state, a HOLD line after district return forces SAFE_HOLD, an OFF line SAFE_OFF, each with
its cause standing. On a masked line, or one that is not checked, it changes nothing. -/
def Obligations.FaultReportsBecomeEntries : Prop :=
  (∀ (s : State) (r : Report) (e : Entry), s.dev.released = true → s.flt.lines = [r] → 2 ≤ r.cls → r.cls < 0x17 →
    r.cause < 256 → r.src < 65536 → r.react = none → r.injected = false → s.stands r.cls = false →
    e = { cls := r.cls, react := s.reactNow r, cause := r.cause, src := r.src, opsec := s.opsec, ticks := s.tick,
          dev := s.devSt, seq := (match s.flt.hist with
            | [] => 0
            | x :: _ => (x.seq + 1) % 256) } →
    (∃ t, exec .faultReport s = .next t ∧ t.flt.lines = [] ∧ t.flt.hist = (e :: s.flt.hist).take 32 ∧
      t.get R.FLT_STAT_EVENTS = satU R.FLT_STAT_EVENTS.w (s.get R.FLT_STAT_EVENTS + 1) ∧
      (e.react < 2 → t.devSt = s.devSt ∧ t.get R.FLT_CAUSE_CAUSE = s.get R.FLT_CAUSE_CAUSE)) ∧
    (reactOf r.cls = 0 → r.cls ≠ clsCell ∨ (r.cause / 16 ≠ 1 ∧ r.cause / 16 ≠ 3) →
      ∃ t, exec .faultReport s = .next t ∧ t = { s with regs := t.regs, flt := t.flt, bud := t.bud } ∧
        s.framed t [R.FLT_STAT_EVENTS.key 0]) ∧
    (1 ≤ reactOf r.cls →
      ∃ t, exec .faultReport s = .next t ∧ t.get R.FLT_STAT_FVALID = 1 ∧
        (s.get R.FLT_STAT_FVALID = 0 → t.flt.first = some e ∧ t.get R.FLT_FLT_FIRST = 1) ∧
        (s.get R.FLT_STAT_FVALID = 1 → t.flt.first = s.flt.first) ∧
        ∀ g < 8, s.access g 0x07 = true → (t.get R.GAL_ISTAT_IRQ g).testBit 1 = true) ∧
    (1 ≤ reactOf r.cls ∨ (r.cls = clsCell ∧ (r.cause / 16 = 1 ∨ r.cause / 16 = 3)) → s.arc.dropCnt = 0 →
      s.get R.ARC_STAT_MODE ≠ 3 → s.arc.bytes + 32 + overflowRoom ≤ stagingSize →
      ∃ t q, exec .faultReport s = .next t ∧ q ∈ t.arc.staged ∧ q.kind = 0x02 ∧
        q.payload = e.bytes ++ [BitVec.ofNat 8 (s.srcDistrict r.src), BitVec.ofNat 8 (s.srcZone r.src)]) ∧
    (e.react = 2 →
      ∃ t, exec .faultReport s = .next t ∧ t.stands r.cls = true ∧ t.devSt = (if s.devSt = devOff then devOff else devHold)) ∧
    (e.react = 3 →
      ∃ t, exec .faultReport s = .next t ∧ t.stands r.cls = true ∧ t.devSt = devOff ∧ t.sec.sess = none ∧ t.sec.key = none ∧
        t.sec.deliv.opened = false)) ∧
  (∀ (s : State) (r : Report), s.dev.released = true → s.flt.lines = [r] → 2 ≤ r.cls → s.stands r.cls = true →
    ∃ t e, exec .faultReport s = .next t ∧ t.flt.lines = [] ∧ t.flt.hist = (e :: s.flt.hist).take 32 ∧ e.cls = r.cls ∧
      t = { s with regs := t.regs, flt := t.flt, bud := t.bud } ∧
      s.framed t [R.FLT_STAT_EVENTS.key 0, R.FLT_CAUSE_CAUSE.key 0]) ∧
  (∀ s : State, s.dev.released = false →
    exec .faultReport s = .next { s with flt := { s.flt with lines := [] } }) ∧
  (∀ (s : State) (src cls : Nat), 2 ≤ cls → cls < 0x17 → src < 65536 → s.lineChecked src = true → (src, cls) ∉ s.flt.masked →
    (∃ t e, exec (.wiringFault src cls) s = .next t ∧ t.flt.masked = s.flt.masked ++ [(src, cls)] ∧
      t.flt.hist = (e :: s.flt.hist).take 32 ∧ e.cls = clsWiring ∧ e.cause = cls ∧ e.src = src ∧ 1 ≤ e.react ∧
      (e.react = max 1 (reactOf cls) ∨ (e.react = 3 ∧ s.devSt = devBoot ∧ s.dev.returned = false)) ∧
      t.get R.FLT_FLT_WIRE = 1 ∧ t.get R.FLT_STAT_FVALID = 1) ∧
    (reactOf cls ≤ 1 → ∃ t, exec (.wiringFault src cls) s = .next t ∧ t.kept = s.kept ∧ t.devSt = s.devSt ∧
      t.flt.lines = s.flt.lines.filter fun r => !(r.src == src && r.cls == cls)) ∧
    (reactOf cls = 2 → s.devSt ≠ devBoot ∨ s.dev.returned = true →
      ∃ t, exec (.wiringFault src cls) s = .next t ∧ t.flt.wireHold = true ∧ t.stands clsWiring = true ∧
        t.devSt = (if s.devSt = devOff then devOff else devHold)) ∧
    (reactOf cls = 3 →
      ∃ t, exec (.wiringFault src cls) s = .next t ∧ t.flt.wireOff = true ∧ t.stands clsWiring = true ∧ t.devSt = devOff ∧
        t.sec.sess = none ∧ t.sec.key = none)) ∧
  (∀ (s : State) (src cls : Nat), (src, cls) ∈ s.flt.masked ∨ s.lineChecked src = false →
    exec (.wiringFault src cls) s = .next s)

/-- A safe stop forces SAFE_OFF and zeroises the secrets; releases end what they name (R294, R408, R414, R415, R417,
R450). SAFE_STOP with the complex released drives the report line of its class, where that is not masked, and nothing
else but the pin and its release. FAULT_REPORT of that report, its cause not standing, leaves the device in SAFE_OFF
with no session, no key and no open delivery, and the integration data, fuse map and queue as they stood.
OFF_CAUSE_RESTART_RELEASE of a standing OFF class that no thermal state holds lets its restart release hold, and shows
the pin of SAFESTOP or of COOLANT high; of one that a thermal state holds it changes nothing. RESTART_PATH in SAFE_OFF
with every OFF entry complete and every standing OFF cause released begins the restart with the cause SAFE_OFF.
HOLD_RELEASE whose write passes clears the owner's HOLD causes; OFF_RELEASE with SAFE_STOP_N high clears the cause
SAFESTOP, with SAFE_STOP_N low nothing. -/
def Obligations.SafeOffEndsTheSecrets : Prop :=
  (∀ s : State, s.dev.released = true →
    ∃ t, exec .safeStop s = .next t ∧
      t = { s with flt := { s.flt with safeStopLow := true, relOk := s.flt.relOk.erase clsSafestop, lines := t.flt.lines } } ∧
      ((srcOf 8 1, clsSafestop) ∉ s.flt.masked →
        t.flt.lines = s.flt.lines ++ [{ cls := clsSafestop, cause := 0, src := srcOf 8 1 }])) ∧
  (∀ s : State, s.dev.released = true → s.stands clsSafestop = false →
    s.flt.lines = [{ cls := clsSafestop, cause := 0, src := srcOf 8 1 }] →
    ∃ t, exec .faultReport s = .next t ∧ t.devSt = devOff ∧ t.sec.key = none ∧ t.sec.sess = none ∧
      t.sec.deliv.opened = false ∧ t.cfg = s.cfg ∧ t.fuse = s.fuse ∧ t.pending = s.pending) ∧
  (∀ (s : State) (cls : Nat), reactOf cls = 3 → s.stands cls = true → s.thermHeld cls = false → cls ∉ s.flt.relOk →
    exec (.offCauseRestartRelease cls) s = .next { s with
      flt := { s.flt with relOk := s.flt.relOk ++ [cls],
                          safeStopLow := if cls = clsSafestop then false else s.flt.safeStopLow },
      bud := { s.bud with coolPin := if cls = clsCoolant then true else s.bud.coolPin } }) ∧
  (∀ (s : State) (cls : Nat), s.thermHeld cls = true → exec (.offCauseRestartRelease cls) s = .next s) ∧
  (∀ s : State, s.devSt = devOff → s.flt.offPhase = .down → s.flt.wireOff = false →
    s.allOff (fun d => !(s.dev.supStayed && s.isSupply d)) = true → (∀ c ∈ s.offStanding, s.released c = true) →
    ∃ t, exec .restartPath s = .next t ∧ t.dev.bootCause = 4 ∧ t.flt.offPhase ≠ .down ∧ t.cfg = s.cfg ∧ t.fuse = s.fuse ∧
      t.pending = s.pending ∧ (s.dev.supStayed = false → t.kept = s.kept)) ∧
  (∀ (s : State) (g : Gal), s.rowPasses g R.FLT_CTL_HREL 0 1 →
    ∃ t, exec (.holdRelease g) s = .next t ∧ t.kept = s.kept ∧ t.rsps = [{ gal := g, code := .ok, data := 0 }] ∧
      ∀ c ∈ [clsArithp, clsLedger, clsSupcap], t.stands c = false) ∧
  (∀ (s : State) (g : Gal), s.rowPasses g R.FLT_CTL_OREL 0 1 →
    (∃ t, exec (.offRelease g true) s = .next t ∧ t.kept = s.kept ∧ t.stands clsSafestop = false) ∧
    exec (.offRelease g false) s = .next (s.okRsp g))

/-- The first-fault latch is cleared, the history staged, an injection reported, and ERR_ALIVE follows the device
(R336, R411, R419, R421, R425). FIRST_FAULT_CLEAR, whose write passes, empties the latch. HISTORY_DUMP stages one
record of 384 bytes where there is room and no record has been dropped. FAULT_INJECT of an armed ARITH injection
disarms it and counts its entry. ERR_ALIVE_TOGGLE shows in ALIVE whether the device is alive, and drives the pin to
the other level while it is; HEARTBEAT_LOSS drives it low until the control complex is released anew.
SEQUENCER_VFEED_WATCH in BOOT, after the hubs of the supply zone have started and before the release, makes the supply
zone wait for VFEED, and the switch-on of the supply group due again. -/
def Obligations.FaultLatchHistoryAndAlive : Prop :=
  (∀ (s : State) (g : Gal), s.rowPasses g R.FLT_CTL_FIRST_CLR 0 1 →
    ∃ t, exec (.firstFaultClear g) s = .next t ∧ t.get R.FLT_STAT_FVALID = 0 ∧
      t = { s.okRsp g with regs := t.regs, flt := { s.flt with first := none } } ∧
      (s.okRsp g).framed t [R.FLT_STAT_FVALID.key 0]) ∧
  (∀ (s : State) (g : Gal), s.rowPasses g R.FLT_CTL_HDUMP 0 1 → s.dev.released = true → s.arc.dropCnt = 0 →
    s.get R.ARC_STAT_MODE ≠ 3 → s.arc.bytes + 400 + overflowRoom ≤ stagingSize →
    ∃ t, exec (.historyDump g) s = .next t ∧
      t.arc.staged = s.arc.staged ++ [{ kind := 0x04, payload := fit 384 (s.flt.hist.flatMap Entry.bytes),
                                         opsec := s.ticks / 65536, ticks := s.tick, acc := none }] ∧
      (s.okRsp g).framed t [R.ARC_STAT_STGB.key 0]) ∧
  (∀ s : State, s.get R.FLT_INJ_ARM = 1 → s.dev.released = true → s.get R.FLT_INJ_CLASS = clsArith →
    ∃ t, exec .faultInject s = .next t ∧ t.get R.FLT_INJ_ARM = 0 ∧
      t.get R.FLT_STAT_EVENTS = satU R.FLT_STAT_EVENTS.w (s.get R.FLT_STAT_EVENTS + 1) ∧
      s.framed t [R.FLT_INJ_ARM.key 0, R.FLT_STAT_EVENTS.key 0]) ∧
  (∀ s : State, ∃ t, exec .errAliveToggle s = .next t ∧ t.get R.FLT_STAT_ALIVE = (if s.alive then 1 else 0) ∧
    t = { s with regs := t.regs, flt := { s.flt with pin := s.alive && !s.flt.pin } } ∧
    s.framed t [R.FLT_STAT_ALIVE.key 0]) ∧
  (∀ s : State, ∃ t, exec .heartbeatLoss s = .next t ∧ t.get R.FLT_STAT_ALIVE = 0 ∧ t.alive = false ∧
    t = { s with regs := t.regs, flt := { s.flt with heartbeat := false, pin := false } } ∧
    s.framed t [R.FLT_STAT_ALIVE.key 0]) ∧
  (∀ s : State, s.dev.cold = false → s.dev.released = false → s.devSt = devBoot → s.dev.hubs.testBit (s.zoneOf s.cfg.ccsup) = true →
    ∃ t, exec .sequencerVfeedWatch s = .next t ∧ t.dev.feedWait.testBit (s.zoneOf s.cfg.ccsup) = true ∧
      t.dev.supDue = true ∧ t.kept = s.kept)

/-- The periods advance in the grid of the root counter while the Orrery runs, and compute commands, references,
reductions and group state; else they stand (R27, R28, R176, R103, R105, R139, R141, R251, R254, R255, R262, R313).
From the start of the Orrery, DISTRICT_PERIOD advances its own count by one and no other, and so does SLOT_BOUNDARY
from the first district period boundary on, boundary 0; each counts one pulse of fab_slot_stb. DIE_PERIOD acts once at
every tenth district period boundary from the first on, and takes the die period count to the number of those
boundaries; at any other district period boundary, or again at the same one, it changes nothing. BUDGET_EPOCH acts
once at every thousandth die period boundary from the first on, which ends no epoch; elsewhere it changes nothing.
That DIE_PERIOD follows the DISTRICT_PERIOD of its edge, and BUDGET_EPOCH the DIE_PERIOD, is the model's choice
(assumption 15). What advances keeps the integration data, the fuse map, the flash, the secrets, operating time and
the queue. Before the start of the Orrery none of the four changes anything. What they compute: a DISTRICT_PERIOD that
no upset strikes either leaves the commands of a district or moves each of them by no more than the slew limit of its
image, within 0 and its current cap, which goes before the slew (R103); in SAFE_HOLD no command frame issues and the
held commands stand, but for a frame that the hub reports dropped (R105). A DIE_PERIOD outside DOZE moves the die
target TRD and the absolute-limit target TRA by R251 and R255, 0 in group mode for TRD, and RED of each district is
the largest of its four requests, cut at 0xFFF (R254), with every actuator target 0 where RED is 0 (R256); the
reference of a district in SAFE_HOLD stands (R141), and that of one alone in its coupling group that is not held moves
by the step of R139 within its slew, its floor and its ceiling. Reallocation (R263) never raises an excess. A
BUDGET_EPOCH outside DOZE starts the counts of the quotas again, lets GMODE and GFREQ take effect (R261, R262), with
every target 0 at the entry to group mode, lets held shares begin to move, and judges the interval of the ended epoch
(R266). -/
def Obligations.PeriodsAreCountedWhileTheOrreryRuns : Prop :=
  (∀ (s : State) (m : List Meas), s.dev.orrRun = true →
    ∃ t, exec (.districtPeriod m) s = .next t ∧
      t.kept = State.kept { s with dev := { s.dev with dper := s.dev.dper + 1 } }) ∧
  (∀ (s : State) (e : List (Nat × StepErr)) (k : Nat), s.dev.orrRun = true →
    (0 < s.dev.dper → (s.dev.dper - 1) % 10 = 0 → s.dev.die ≤ (s.dev.dper - 1) / 10 →
      ∃ t, exec (.diePeriod e k) s = .next t ∧
        t.kept = State.kept { s with dev := { s.dev with die := (s.dev.dper - 1) / 10 + 1 } }) ∧
    (s.dev.dper = 0 ∨ (s.dev.dper - 1) % 10 ≠ 0 ∨ (s.dev.dper - 1) / 10 < s.dev.die →
      exec (.diePeriod e k) s = .next s)) ∧
  (∀ s : State, s.dev.orrRun = true →
    (0 < s.dev.die → (s.dev.die - 1) % 1000 = 0 → s.dev.ep ≤ (s.dev.die - 1) / 1000 →
      s.dev.dper = 10 * (s.dev.die - 1) + 1 →
      ∃ t, exec .budgetEpoch s = .next t ∧
        t.kept = State.kept { s with dev := { s.dev with
          ep := (s.dev.die - 1) / 1000 + 1, epoch := s.dev.epoch + (if s.dev.die = 1 then 0 else 1) } }) ∧
    (s.dev.die = 0 ∨ (s.dev.die - 1) % 1000 ≠ 0 ∨ (s.dev.die - 1) / 1000 < s.dev.ep ∨ s.dev.dper ≠ 10 * (s.dev.die - 1) + 1 →
      exec .budgetEpoch s = .next s)) ∧
  (∀ (s : State) (a : List (Nat × Nat)) (n : List Nat), s.dev.orrRun = true → 0 < s.dev.dper →
    ∃ t, exec (.slotBoundary a n) s = .next t ∧
      t.kept = State.kept { s with dev := { s.dev with slot := if s.dev.slotStb = 0 then s.dev.slot else s.dev.slot + 1 } } ∧
      t.dev.slotStb = s.dev.slotStb + 1) ∧
  (∀ (s : State) (a : List (Nat × Nat)) (n : List Nat), s.dev.dper = 0 → exec (.slotBoundary a n) s = .next s) ∧
  (∀ (s : State) (m : List Meas) (e : List (Nat × StepErr)) (k : Nat) (a : List (Nat × Nat)) (n : List Nat),
    s.dev.orrRun = false → exec (.districtPeriod m) s = .next s ∧ exec (.diePeriod e k) s = .next s ∧
      exec .budgetEpoch s = .next s ∧ exec (.slotBoundary a n) s = .next s) ∧
  (∀ (s : State) (m : List Meas) (d : Nat), s.dev.orrRun = true → d < s.cfg.n →
    (s.devSt = devHold → (m.getD d default).dropped = false ∨ (s.lw d).sent = false →
      ∃ t, exec (.districtPeriod m) s = .next t ∧ (t.lw d).applied = (s.lw d).applied ∧
        (t.lw d).appliedV = (s.lw d).appliedV ∧ (t.lw d).sent = false) ∧
    (s.devSt ≠ devHold → (m.getD d default).err.delta = 0 →
      ∃ t, exec (.districtPeriod m) s = .next t ∧ ((t.lw d).applied = (s.lw d).applied ∨
        ((t.lw d).applied.length = (s.lw d).img.m ∧ ∀ (c : Nat) (x p : Int), (t.lw d).applied[c]? = some x →
          p = (s.uPrev m d).getD c 0 → 0 ≤ x ∧ x ≤ t.ccap d c ∧ x ≤ max 0 (p + (s.lw d).img.slew) ∧
            min (t.ccap d c : Int) (p - (s.lw d).img.slew) ≤ x)))) ∧
  (∀ (s : State) (e : List (Nat × StepErr)) (k : Nat), s.dev.orrRun = true → s.dev.gated = false → 0 < s.dev.dper →
    (s.dev.dper - 1) % 10 = 0 → s.dev.die ≤ (s.dev.dper - 1) / 10 →
    ∃ t, exec (.diePeriod e k) s = .next t ∧
      t.get R.BUD_TRQ_TRD = (if s.bud.gmode = true then 0 else
        trStep (s.get R.BUD_TRQ_TRD) ((t.means.getD 3 0 : Int) - t.dieCap) (s.get R.BUD_CTL_KB) (s.get R.BUD_PRIO_REL)) ∧
      t.bud.tra = (if s.get R.BUD_DCAP_ABS < t.dieCode then min 0x3000 (s.bud.tra + (t.dieCode - s.get R.BUD_DCAP_ABS))
        else s.bud.tra - s.get R.BUD_PRIO_REL) ∧
      ∀ d < s.cfg.n,
        t.get R.BUD_DACT_RED d = min 0xFFF (max (max (t.foS d).rb (t.get R.DST_FO_THR_THRQ d))
          (max (t.get R.THM_DLVL_TH d) (t.foS d).ra)) ∧
        (t.get R.BUD_DACT_RED d = 0 → (t.foS d).skT = 0 ∧ (t.foS d).divT = 0 ∧ (t.foS d).pvT = 0) ∧
        (s.devSt = devHold → (t.lw d).vNext = s.vref d) ∧
        (s.devSt ≠ devHold → s.inGroup d = [d] → s.dst d = 2 → s.inSwitchOn d = false → s.computes d = true →
          s.testOn d = false → s.availCells d ≠ [] →
          (t.lw d).vAt = s.dev.dper ∧ (t.lw d).tgtNext = t.get R.DST_REF_TGT d ∧
          (t.lw d).vNext = (clampTo (s.vLo d) 0x1068 ((s.vref d : Int) + clampTo (-(s.get R.LOOP_CTL_SLEW_DN : Int))
            (s.get R.LOOP_CTL_SLEW_UP) (rdiv (s.get R.LOOP_CTL_KI * t.getI R.DST_ERR_ERR d) 64))).toNat ∧
          s.vLo d ≤ (t.lw d).vNext ∧ (t.lw d).vNext ≤ 0x1068)) ∧
  (∀ (exc : List Int) (spare order : List Nat) (c : Nat),
    (realloc exc spare order).getD c 0 ≤ (exc.map Int.toNat).getD c 0) ∧
  (∀ s : State, s.dev.gated = false → s.atDie = true → (s.dev.die - 1) % 1000 = 0 → s.dev.ep ≤ (s.dev.die - 1) / 1000 →
    ∃ t, exec .budgetEpoch s = .next t ∧ (∀ g < 8, t.get R.BUD_GCNT_COUNT g = 0) ∧
      t.bud.gmode = s.flag R.GRP_CTL_GMODE ∧ t.get R.GRP_STAT_ACTIVE = (if s.flag R.GRP_CTL_GMODE then 1 else 0) ∧
      t.get R.GRP_FREQ_NOW_GRATIO = (if s.flag R.GRP_CTL_GMODE then s.get R.GRP_CTL_GFREQ else 0x80) ∧
      (s.flag R.GRP_CTL_GMODE = true → s.bud.gmode = false →
        t.trc = [0, 0, 0] ∧ t.get R.BUD_TRQ_TRD = 0 ∧ t.bud.rx = [0, 0, 0] ∧ t.bud.rxD = 0 ∧
        ∀ d < s.cfg.n, (t.foS d).rb = 0) ∧
      (∀ l, s.bud.moving = none → s.bud.pend = some l →
        t.bud.shares = l ∧ t.bud.pend = none ∧ t.bud.moving = some 0) ∧
      (s.dev.die ≠ 1 → t.get R.GRP_IVL_VALID = 1 ∧ t.get R.GRP_IVL_EPOCH = s.dev.epoch % 2 ^ R.GRP_IVL_EPOCH.w ∧
        (t.get R.GRP_IVL_TF = 1 ↔ (s.bud.ivNoGrp = false ∧ s.bud.ivFchg = false ∧ s.bud.ivThr = false))))

/-- An access that is turned away changes no register but the counts and the log of the HPT page (R383, R379, R381). A
register write or read of a gallery without a waiting fence whose check answers DENIED or ERROR is answered with that
code and data 0; its counter rises with saturation, its event bit sets, and where the log was free it takes the
access. No other register word and nothing else of the state changes. -/
def Obligations.TurnedAwayAccessesActNowhere : Prop :=
  (∀ (s : State) (g : Gal) (a : Nat) (w : Word) (c : RspCode), (tabAt s.fence g).waiting = false →
    s.newAccess.check g true a w = c → c ≠ .ok →
    ∃ t, exec (.regWrite g a w) s = .next t ∧
      t = { s with regs := t.regs, rsps := [{ gal := g, code := c, data := 0 }] } ∧
      s.framed t [R.HPT_CNT_DENIALS.key 0, R.HPT_FLT_DENACC.key 0, R.HPT_ELOG_VALID.key 0] ∧
      t.get R.HPT_ELOG_VALID = 1 ∧
      (c = .denied → t.get R.HPT_FLT_DENACC = 1 ∧ t.get R.HPT_CNT_DENIALS = satU 16 (s.get R.HPT_CNT_DENIALS + 1)) ∧
      (c = .error → t.get R.HPT_FLT_ERRACC = 1 ∧ t.get R.HPT_CNT_ERRORS = satU 16 (s.get R.HPT_CNT_ERRORS + 1)) ∧
      (s.get R.HPT_ELOG_VALID = 0 → t.get R.HPT_ELOG_WR = 1 ∧ t.get R.HPT_ELOG_GAL = g % 8 ∧
        t.get R.HPT_ELOG_ADDR = a % 2 ^ 20 ∧ t.get R.HPT_ELOG_CODE = (if c = .denied then 1 else 2))) ∧
  (∀ (s : State) (g : Gal) (a : Nat) (c : RspCode), (tabAt s.fence g).waiting = false →
    s.newAccess.check g false a 0 = c → c ≠ .ok →
    ∃ t, exec (.regRead g a) s = .next t ∧
      t = { s with regs := t.regs, rsps := [{ gal := g, code := c, data := 0 }] } ∧
      s.framed t [R.HPT_CNT_DENIALS.key 0, R.HPT_FLT_DENACC.key 0, R.HPT_ELOG_VALID.key 0] ∧
      t.get R.HPT_ELOG_VALID = 1 ∧
      (c = .denied → t.get R.HPT_FLT_DENACC = 1 ∧ t.get R.HPT_CNT_DENIALS = satU 16 (s.get R.HPT_CNT_DENIALS + 1)) ∧
      (c = .error → t.get R.HPT_FLT_ERRACC = 1 ∧ t.get R.HPT_CNT_ERRORS = satU 16 (s.get R.HPT_CNT_ERRORS + 1)) ∧
      (s.get R.HPT_ELOG_VALID = 0 → t.get R.HPT_ELOG_WR = 0 ∧ t.get R.HPT_ELOG_GAL = g % 8 ∧
        t.get R.HPT_ELOG_ADDR = a % 2 ^ 20 ∧ t.get R.HPT_ELOG_CODE = (if c = .denied then 1 else 2)))

/-- SYS_WHO names the gallery that reads it (R465). A read of SYS_WHO by a gallery whose access mask holds page 0x00
answers its tag, and over I3C, as the first register of a private read with none begun and no write held, that of the
bound gallery; a write of it completes with OK and has no effect; to a gallery without page 0x00 every read of the SYS
page answers DENIED. -/
def Obligations.SysWhoNamesItsReader : Prop :=
  (∀ (s : State) (g : Gal), s.dev.released = true → (tabAt s.fence g).waiting = false → s.access g 0 = true →
    exec (.regRead g 0x4C) s = .next (s.answered g g) ∧ ∀ w : Word, exec (.regWrite g 0x4C w) s = .next (s.okRsp g)) ∧
  (∀ (s : State) (g : Gal) (o : Nat), o < 0x1000 → o % 4 = 0 → s.dev.released = true →
    (tabAt s.fence g).waiting = false → s.access g 0 = false →
    ∃ t, exec (.regRead g o) s = .next t ∧ t.rsps = [{ gal := g, code := .denied, data := 0 }]) ∧
  (∀ (s : State) (g : Nat), s.dev.released = true → s.i3cAway = false → s.get R.I3C_STAT_DAV = 1 → s.bound = some g →
    s.access g 0 = true → s.i3c.raddr = 0x4C → 5 ≤ s.i3c.mrl → s.i3c.pre = none → s.i3c.pend = false →
    (tabAt s.fence g : FenceS).held = [] →
    ∃ t, exec (.i3cPrivateRead false 5) s = .next t ∧
      t.i3c.resp = 0x00#8 :: leBytes 4 (0x80000000 + g))

/-- Reserved offsets of the ORR page read 0, writes to them have no effect, and the Exhibit copy lies 0x800 above
(R126). Every read at an offset from 0x068 to 0x7FF of the ORR page that passes answers 0 with OK and changes nothing;
every write there that passes changes nothing. An Exhibit taken while the page participates leaves at 0x800 above each
live offset what gallery 0 would read there, and a read that passes answers it. -/
def Obligations.ReservedOrreryOffsetsReadZero : Prop :=
  (∀ (s : State) (g : Gal) (o : Nat), 0x68 ≤ o → o < 0x800 → s.reads g (0xB000 + o) →
    exec (.regRead g (0xB000 + o)) s = .next (s.answered g 0)) ∧
  (∀ (s : State) (g : Gal) (o : Nat) (w : Word), 0x68 ≤ o → o < 0x800 → s.passes g (0xB000 + o) w →
    exec (.regWrite g (0xB000 + o) w) s = .next (s.okRsp g)) ∧
  (∀ (s : State) (g : Gal) (o : Nat), 0x40 ≤ o → o < 0x68 → s.reads g (0xB800 + o) →
    exec (.regRead g (0xB800 + o)) s = .next (s.answered g (tabAt s.exh.copies (0xB800 + o) : Word).toNat)) ∧
  (∀ (s : State) (o : Nat), 0x40 ≤ o → o < 0x68 → o % 4 = 0 → s.dev.released = true → s.exh.trig ≠ 0 →
    s.get R.EXH_STAT_HELD = 0 → s.participates 0xB = true →
    ∃ t, exec .exhibitEdge s = .next t ∧ tabAt t.exh.copies (0xB800 + o) = s.liveWord 0 false (s.maskBits 0) 0xB o)

/-- A write on the pages SYS, PWR, TEL, I3C, HPT, ANV or of DST_ADJ that carries no command stores each field by its
access type and leaves every other word (R16, R17, R18, R383, R391, R88, R304). On the pages SYS, TEL, I3C, HPT and
ANV, in the registers of the PWR page but PWR_CTL, the targets and the bias codes, and in DST_ADJ, none of which
carries a command, a write that passes and meets a register stores each of its fields: an RO or WO field stands, an RW
or RWS field without a range takes its bits, a W1C field clears where the data holds 1, an RWP setting without a range
takes its bits from a gallery that holds the privilege, and one with a range, RW, RWS or RWP, unsigned or signed,
takes the nearest code within it, with CFGSAT of the page set where that is another. Every word but that of the
register and the page's event word stands; on the I3C page with HJ_EN 0 a pending Hot-Join ends, and nothing else
changes. -/
def Obligations.WritesStoreWhatAccessTypesAllow : Prop :=
  ∀ (s : State) (g : Gal) (a : Nat) (w : Word) (r : RegDef), a / 0x1000 ∈ [0x00, 0x09, 0x15, 0x16, 0x17] ∨
      (a / 0x1000 = 0x02 ∧ (a % 0x1000 ∈ [0x44, 0x48] ∨ (0x5C ≤ a % 0x1000 ∧ a % 0x1000 < 0x68) ∨ 0x74 ≤ a % 0x1000)) ∨
      (0x40 ≤ a / 0x1000 ∧ a / 0x1000 < 0x80 ∧ a % 0x1000 = 0x48) →
    0x40 ≤ a % 0x1000 → a % 0x1000 < 0x800 → findReg a = some r → s.passes g a w →
    ∃ t, exec (.regWrite g a w) s = .next t ∧
      (∀ F ∈ r.flds,
        (F.acc = .ro ∨ F.acc = .wo → t.get F (s.instOf F a) = s.get F (s.instOf F a)) ∧
        ((F.acc = .rw ∨ F.acc = .rws) ∧ F.rng = none → t.get F (s.instOf F a) = bitsOf w F.lo F.w) ∧
        (F.acc = .w1c → t.get F (s.instOf F a) = s.get F (s.instOf F a) &&& (2 ^ F.w - 1 - bitsOf w F.lo F.w)) ∧
        (F.acc = .rwp ∧ F.reach = .setting ∧ F.rng = none ∧ s.priv g (a / 0x1000) = true →
          t.get F (s.instOf F a) = bitsOf w F.lo F.w) ∧
        (∀ lo hi v : Int, (F.acc = .rw ∨ F.acc = .rws ∨ F.acc = .rwp ∧ F.reach = .setting ∧ s.priv g (a / 0x1000) = true) →
          F.rng = some (lo, hi) → v = (if F.sgn then signedOf F.w (bitsOf w F.lo F.w) else (bitsOf w F.lo F.w : Int)) →
          (if F.sgn then t.getI F (s.instOf F a) else (t.get F (s.instOf F a) : Int)) = max lo (min v hi) ∧
          (v < lo ∨ hi < v → (t.get R.PG_FLT_FLT (a / 0x1000)).testBit (cfgsatBit (a / 0x1000)) = true))) ∧
      t = { s.okRsp g with
        regs := t.regs,
        i3c := if a / 0x1000 = 0x15 ∧ t.get R.I3C_CTL_HJ_EN = 0 then { s.i3c with hj := false } else s.i3c } ∧
      s.framed t ((r.flds.map fun F => F.key (s.instOf F a)) ++ [R.PG_FLT_FLT.key (a / 0x1000)])

/-- A locked page is privileged to no gallery (R463, R460, R383). PAGE_LOCK by a gallery that holds the privilege of a
lockable page sets LOCK, and changes no other word; then no gallery, gallery 0 included, holds the privilege for the
page. A write that then reaches an RWP field of a register of the page is answered DENIED and leaves every word of the
page but those of the HPT log as it was. On a page that is not lockable a passing PAGE_LOCK changes nothing. -/
def Obligations.PageLockWithholdsThePrivilege : Prop :=
  (∀ (s : State) (g : Gal) (p : Nat), lockable p = true → s.passes g (0x1000 * p + 0xC) 1 →
    ∃ t, exec (.pageLock g p) s = .next t ∧ t.get R.PG_CTL_LOCK p = 1 ∧ (∀ h, t.priv h p = false) ∧
      (s.okRsp g).only t [R.PG_CTL_LOCK.key p]) ∧
  (∀ (s : State) (g : Gal) (p : Nat), lockable p = false → s.passes g (0x1000 * p + 0xC) 1 →
    exec (.pageLock g p) s = .next (s.okRsp g)) ∧
  (∀ (s : State) (g : Gal) (a : Nat) (w : Word) (r : RegDef) (F : Fld), s.dev.released = true →
    (tabAt s.fence g).waiting = false → a % 4 = 0 → a < 0x100000 → s.pageOk (a / 0x1000) = true →
    (queueReg a && !s.bankOk a) = false → lockable (a / 0x1000) = true → s.get R.PG_CTL_LOCK (a / 0x1000) = 1 →
    findReg a = some r → F ∈ r.flds → F.acc = .rwp → s.reaches F a w = true →
    ∃ t, exec (.regWrite g a w) s = .next t ∧ t.rsps = [{ gal := g, code := .denied, data := 0 }] ∧
      s.framed t [R.HPT_CNT_DENIALS.key 0, R.HPT_FLT_DENACC.key 0, R.HPT_ELOG_VALID.key 0])

/-- A fence withholds its response and the accesses behind it (R388, R385, R382, R383). FENCE that passes its checks
begins to wait without a response and changes nothing else. While it waits a write of the gallery is held without
effect, and so are a PAGE_LOCK and a read, each with the rights, the privilege and the access mask it was accepted
with (that reads and PAGE_LOCK wait, and with these rights: the model's choice, assumption 87). FENCE_COMPLETE answers
OK, where the fence was written on the register port, and then performs what was held in order: one held write to a
setting of the TEL, I3C, HPT or ANV page stores it and is answered OK behind the fence. FENCE_TIMEOUT answers ERROR,
sets FENCETMO of the gallery's page, and counts an error. -/
def Obligations.FencesHoldBackLaterAccesses : Prop :=
  (∀ (s : State) (g p : Gal), s.passes g (0x18080 + 0x1000 * p) 0x80000000 →
    ∃ t, exec (.fence g p) s = .next t ∧ t.rsps = [] ∧ (tabAt t.fence g : FenceS).waiting = true ∧
      (tabAt t.fence g : FenceS).held = (tabAt s.fence g : FenceS).held ∧ t = { s with fence := t.fence, rsps := [] }) ∧
  (∀ (s : State) (g : Gal) (a : Nat) (w : Word), (tabAt s.fence g).waiting = true → (tabAt s.fence g).held = [] →
    ∃ t, exec (.regWrite g a w) s = .next t ∧
      (tabAt t.fence g : FenceS).held = [⟨false, true, a, w, s.rights g true a w, s.priv g (a / 0x1000), s.maskBits g⟩] ∧
      t = { s with fence := t.fence, rsps := [] }) ∧
  (∀ (s : State) (g : Gal) (a : Nat), (tabAt s.fence g).waiting = true → (tabAt s.fence g).held = [] →
    ∃ t, exec (.regRead g a) s = .next t ∧
      (tabAt t.fence g : FenceS).held = [⟨false, false, a, 0, s.rights g false a 0, s.priv g (a / 0x1000), s.maskBits g⟩] ∧
      t = { s with fence := t.fence, rsps := [] }) ∧
  (∀ (s : State) (g : Gal) (p : Nat), (tabAt s.fence g).waiting = true → (tabAt s.fence g).held = [] →
    ∃ t, exec (.pageLock g p) s = .next t ∧
      (tabAt t.fence g : FenceS).held =
        [⟨false, true, 0x1000 * p + 0xC, 1, s.rights g true (0x1000 * p + 0xC) 1, s.priv g ((0x1000 * p + 0xC) / 0x1000),
          s.maskBits g⟩] ∧
      t = { s with fence := t.fence, rsps := [] }) ∧
  (∀ (s : State) (g : Gal) (x : FenceS), tabAt s.fence g = x → x.waiting = true →
    exec (.fenceComplete g) s =
      .next (State.replay { s with
        fence := tabPut s.fence g {}, rsps := if x.i3c = true then [] else [{ gal := g, code := .ok, data := 0 }] } g x.held)) ∧
  (∀ (s : State) (g : Gal) (a m : Nat) (w : Word) (p : Bool) (r : RegDef), a / 0x1000 ∈ [0x09, 0x15, 0x16, 0x17] →
    0x40 ≤ a % 0x1000 → a % 0x1000 < 0x800 → findReg a = some r → (tabAt s.fence g).waiting = true →
    (tabAt s.fence g).i3c = false → (tabAt s.fence g).held = [⟨false, true, a, w, .ok, p, m⟩] → s.rowsOneTwo a .ok = .ok →
    ∃ t, exec (.fenceComplete g) s = .next t ∧ (tabAt t.fence g : FenceS) = {} ∧
      t.rsps = [{ gal := g, code := .ok, data := 0 }, { gal := g, code := .ok, data := 0 }] ∧
      ∀ F ∈ r.flds, F.rng = none → F.acc = .rw ∨ F.acc = .rwp ∧ F.reach = .setting ∧ p = true →
        t.get F (s.instOf F a) = bitsOf w F.lo F.w) ∧
  (∀ (s : State) (g : Gal), (tabAt s.fence g).waiting = true → (tabAt s.fence g).i3c = false → (tabAt s.fence g).held = [] →
    ∃ t, exec (.fenceTimeout g) s = .next t ∧ t.rsps = [{ gal := g, code := .error, data := 0 }] ∧
      (tabAt t.fence g : FenceS) = {} ∧ t.get R.GAL_FLT_FENCETMO g = 1 ∧
      t.get R.HPT_FLT_ERRACC = 1 ∧ t.get R.HPT_CNT_ERRORS = satU 16 (s.get R.HPT_CNT_ERRORS + 1) ∧
      t = { s with regs := t.regs, fence := t.fence, rsps := t.rsps } ∧
      s.framed t [R.GAL_FLT_FENCETMO.key g, R.HPT_CNT_ERRORS.key 0, R.HPT_FLT_ERRACC.key 0, R.HPT_ELOG_VALID.key 0]) ∧
  (∀ (s : State) (g : Gal), (tabAt s.fence g).waiting = false →
    exec (.fenceComplete g) s = .next s ∧ exec (.fenceTimeout g) s = .next s)

/-- Reads of SEC_MBDAT and SEC_CDAT return four bytes and advance their offset (R438, R440). A passing
MAILBOX_DATA_READ answers the four bytes of the response at OFS to the owner and 0 to any other gallery (the model's
choice, assumption 75), a passing CHAIN_DATA_READ the four bytes of the store; each then adds 4 to its offset and
changes nothing else. A passing CHAIN_DATA_WRITE within the store puts its four bytes at OFS, adds 4, and leaves every
other byte of the store. -/
def Obligations.DataPortsAdvanceTheirOffsets : Prop :=
  (∀ (s : State) (g : Gal), s.reads g 0x304C →
    exec (.mailboxDataRead g) s = .next
      ((s.answered g (if s.ownsMb g then ofLe (bytesAt s.sec.rsp (s.get R.SEC_MBADR_OFS) 4) else 0)).set R.SEC_MBADR_OFS 0
        (s.get R.SEC_MBADR_OFS + 4))) ∧
  (∀ (s : State) (g : Gal), s.reads g 0x3070 →
    ∃ t, exec (.chainDataRead g) s = .next t ∧
      t.rsps = [{ gal := g, code := .ok,
                  data := ofLe ((List.range 4).map fun k => tabAt s.sec.chain (s.get R.SEC_CADR_OFS + k)) }] ∧
      t.get R.SEC_CADR_OFS = (s.get R.SEC_CADR_OFS + 4) % 2 ^ 13 ∧
      t = { s with regs := t.regs, rsps := t.rsps } ∧ s.framed t [R.SEC_CADR_OFS.key 0]) ∧
  (∀ (s : State) (g : Gal) (w : Word), s.passes g 0x3070 w → s.get R.SEC_CADR_OFS + 4 ≤ chainSize →
    ∃ t, exec (.chainDataWrite g w) s = .next t ∧
      (∀ k, tabAt t.sec.chain k = (if s.get R.SEC_CADR_OFS ≤ k ∧ k < s.get R.SEC_CADR_OFS + 4
        then (leBytes 4 w.toNat).getD (k - s.get R.SEC_CADR_OFS) 0 else tabAt s.sec.chain k)) ∧
      t.get R.SEC_CADR_OFS = (s.get R.SEC_CADR_OFS + 4) % 2 ^ 13 ∧
      t = { s.okRsp g with regs := t.regs, sec := { s.sec with chain := t.sec.chain } } ∧
      s.framed t [R.SEC_CADR_OFS.key 0])

/-- The I3C target answers the common command codes and no others (R389, R390, R393, R394). While it is not away: ENEC
and DISEC set and clear ENINT and ENHJ, RSTDAA forgets the address, ENTDAA and SETDASA give one to a target without,
SETNEWDA a new one; GETPID, GETBCR, GETDCR, GETSTATUS, GETMWL and GETMRL return their bytes; SETMWL and SETMRL store
their value; ENTHDRx makes the target ignore the bus; any other direct code is NACKed. Away, each is NACKed and
changes no register. The bits of ENEC and DISEC, the third byte of GETMRL, and ENTDAA and SETDASA of a target without
an address alone are the model's choice (assumption 72), and so is the NACK while the target is away (assumption 88).
-/
def Obligations.TransactionsReachTheI3cTarget : Prop :=
  (∀ s : State, s.i3cAway = false → s.get R.I3C_STAT_DAV = 1 →
    ∃ x : I3cS, x = { s.i3c with nack := false, resp := [], todo := 0, hdr := false } ∧
    exec .getpid s = .next { s with i3c := { x with resp := beBytes 2 s.pidHigh ++ beBytes 4 s.pidLow } } ∧
    exec .getbcr s = .next { s with i3c := { x with resp := [0x06#8] } } ∧
    exec .getdcr s = .next { s with i3c := { x with resp := [0x00#8] } } ∧
    exec .getstatus s = .next { s with i3c := { x with resp := [BitVec.ofNat 8 s.pendCount, 0x00#8] } } ∧
    exec .getmwl s = .next { s with i3c := { x with resp := beBytes 2 (min s.i3c.mwl 256) } } ∧
    exec .getmrl s = .next { s with i3c := { x with resp := beBytes 2 (min s.i3c.mrl 250) ++ [0x01#8] } } ∧
    exec .enthdr s = .next { s with i3c := { x with hdr := true } } ∧
    (∀ n < 65536, exec (.setmwl n) s = .next { s with i3c := { x with mwl := n } } ∧
      exec (.setmrl n) s = .next { s with i3c := { x with mrl := n } }) ∧
    (∀ a < 128, ∃ t, exec (.setnewda a) s = .next t ∧ t.get R.I3C_STAT_DAV = 1 ∧ t.get R.I3C_STAT_DA = a ∧
      t = { s with regs := t.regs, i3c := t.i3c } ∧ s.framed t [R.I3C_STAT_DA.key 0])) ∧
  (∀ s : State, s.i3cAway = false → s.get R.I3C_STAT_DAV = 0 → ∀ a < 128, ∀ c ∈ [Instr.entdaa a, .setdasa s.cfg.saddr a],
    ∃ t, exec c s = .next t ∧ t.get R.I3C_STAT_DAV = 1 ∧ t.get R.I3C_STAT_DA = a ∧ t.i3c.nack = false ∧
      t = { s with regs := t.regs, i3c := t.i3c } ∧ s.framed t [R.I3C_STAT_DA.key 0]) ∧
  (∀ s : State, s.i3cAway = false →
    (∃ t, exec .rstdaa s = .next t ∧ t.get R.I3C_STAT_DAV = 0 ∧ t = { s with regs := t.regs, i3c := t.i3c } ∧
      s.framed t [R.I3C_STAT_DA.key 0]) ∧
    (∃ t, exec (.enec 9) s = .next t ∧ t.get R.I3C_STAT_ENINT = 1 ∧ t.get R.I3C_STAT_ENHJ = 1 ∧
      t = { s with regs := t.regs, i3c := t.i3c } ∧ s.framed t [R.I3C_STAT_DA.key 0]) ∧
    (∃ t, exec (.disec 9) s = .next t ∧ t.get R.I3C_STAT_ENINT = 0 ∧ t.get R.I3C_STAT_ENHJ = 0 ∧ t.i3c.ibi = false ∧
      t.i3c.hj = false ∧ t = { s with regs := t.regs, i3c := t.i3c } ∧ s.framed t [R.I3C_STAT_DA.key 0]) ∧
    (∃ t, exec (.cccUnsupported true) s = .next t ∧ t.i3c.nack = true ∧ t.get R.I3C_FLT_CCCN = 1 ∧
      t = { s with regs := t.regs, i3c := t.i3c } ∧ s.framed t [R.I3C_FLT_CCCN.key 0])) ∧
  (∀ s : State, s.i3cAway = true →
    ∀ c ∈ [Instr.getpid, .getbcr, .getdcr, .getstatus, .getmwl, .getmrl, .enthdr, .rstdaa, .enec 9, .disec 9,
      .cccUnsupported true, .entdaa 8, .setdasa s.cfg.saddr 8, .setnewda 8, .setmwl 8, .setmrl 8],
    exec c s = .next { s with i3c := { s.i3c with nack := true, resp := [], todo := 0, hdr := false } })

/-- A private transfer is an access of the bound gallery, and a target without one drops it (R391, R392, R393, R394,
R316). With the complex released and no gallery bound each group of a private write is dropped, a read returns status
0x03 and data 0, and UNB sets. I3C_READ_ADDRESS sets the read address and begins the read there, checked as a read of
the bound gallery: its status and data wait for the private read; with no gallery bound they are 0x03 and 0. A private
write of one group, no fence of the gallery waiting and itself no fence, does what the gallery's REG_WRITE at that
address does, without its response (what is held and what is dropped: assumption 88; at the dynamic address or at the
static one, on a page without commands, it stores the RW fields without a range of the register it meets, counts the
transfer, and leaves every word but those named; a target that is away, or without an address, NACKs it and nothing
else changes; a read that is begun ahead: assumption 130). I3C_ADDRESS_MATCH of the dynamic address in SLEEP registers
the wake and is NACKed. HOT_JOIN at its conditions requests an address; an accepted IBI_REQUEST returns the mandatory
byte and ends the request. -/
def Obligations.I3cTransfersActForTheBoundGallery : Prop :=
  (∀ s : State, s.i3cAway = false → s.get R.I3C_STAT_DAV = 1 → s.dev.released = true → s.bound = none → 5 ≤ s.i3c.mrl →
    s.i3c.pre = none → s.i3c.pend = false →
    (∀ (a : Nat) (l : List Byte), ∃ t, exec (.i3cPrivateWrite false a l) s = .next t ∧
      (4 ≤ l.length → 7 ≤ s.i3c.mwl → t.get R.I3C_FLT_UNB = 1) ∧
      t = { s with regs := t.regs, i3c := t.i3c } ∧ s.framed t [R.I3C_FLT_UNB.key 0, R.I3C_STAT_XFERS.key 0]) ∧
    (∃ t, exec (.i3cPrivateRead false 5) s = .next t ∧ t.get R.I3C_FLT_UNB = 1 ∧
      t.i3c.resp = [0x03#8, 0x00#8, 0x00#8, 0x00#8, 0x00#8] ∧
      t = { s with regs := t.regs, i3c := t.i3c } ∧ s.framed t [R.I3C_FLT_UNB.key 0, R.I3C_STAT_XFERS.key 0])) ∧
  (∀ (s u : State) (g a : Nat) (c : RspCode), s.i3cAway = false → s.get R.I3C_STAT_DAV = 1 → s.dev.released = true →
    s.bound = some g → (tabAt s.fence g : FenceS).held = [] → a < 2 ^ 20 → a ≠ 0x304C → a ≠ 0x3070 →
    u = (({ s with i3c := { s.i3c with nack := false, resp := [], todo := 0, hdr := false, raddr := a,
                                       hdrNo := s.i3c.hdrNo + 1, pre := none, pend := false } } : State).incWrap
          R.I3C_STAT_XFERS).set R.I3C_STAT_LEGACY 0 0 →
    u.check g false a 0 = c →
    ∃ t, exec (.i3cReadAddress false a) s = .next t ∧ t.i3c.raddr = a ∧
      t.i3c.pre = some (leBytes 1 c.status ++ leBytes 4 (if c = .ok then (u.readWord g true (u.maskBits g) a).toNat else 0)) ∧
      t = { s with regs := t.regs, i3c := t.i3c } ∧
      (c = .ok → s.framed t [R.I3C_STAT_XFERS.key 0]) ∧
      (c = .denied → t.get R.HPT_CNT_DENIALS = satU 16 (s.get R.HPT_CNT_DENIALS + 1)) ∧
      (c = .error → t.get R.HPT_CNT_ERRORS = satU 16 (s.get R.HPT_CNT_ERRORS + 1))) ∧
  (∀ (s : State) (a : Nat), s.i3cAway = false → s.get R.I3C_STAT_DAV = 1 → s.dev.released = true → s.bound = none →
    ∃ t, exec (.i3cReadAddress false a) s = .next t ∧ t.i3c.raddr = a % 2 ^ 20 ∧
      t.i3c.pre = some [0x03#8, 0x00#8, 0x00#8, 0x00#8, 0x00#8] ∧ t.get R.I3C_FLT_UNB = 1 ∧
      t.get R.I3C_STAT_XFERS = (s.get R.I3C_STAT_XFERS + 1) % 2 ^ 16 ∧ t = { s with regs := t.regs, i3c := t.i3c } ∧
      s.framed t [R.I3C_FLT_UNB.key 0, R.I3C_STAT_XFERS.key 0]) ∧
  (∀ (s u v : State) (g : Gal) (a : Nat) (b0 b1 b2 b3 : Byte), s.i3cAway = false → s.get R.I3C_STAT_DAV = 1 →
    s.dev.released = true → s.bound = some g.val → 256 ≤ s.i3c.mwl → a < 2 ^ 20 → s.rsps = [] →
    (tabAt s.fence g).waiting = false → fences a (BitVec.ofNat 32 (ofLe [b0, b1, b2, b3])) = false →
    u = (({ s with i3c := { s.i3c with nack := false, resp := [], todo := 0, hdr := false } } : State).incWrap
          R.I3C_STAT_XFERS).set R.I3C_STAT_LEGACY 0 0 →
    exec (.regWrite g a (BitVec.ofNat 32 (ofLe [b0, b1, b2, b3]))) u = .next v →
    exec (.i3cPrivateWrite false a [b0, b1, b2, b3]) s = .next { v with rsps := [] }) ∧
  (∀ (s : State) (leg : Bool) (g : Gal) (a : Nat) (w : Word) (b0 b1 b2 b3 : Byte) (r : RegDef), s.i3cAway = false →
    leg = true ∨ s.get R.I3C_STAT_DAV = 1 → s.dev.released = true → s.bound = some g.val → 7 ≤ s.i3c.mwl → a < 2 ^ 20 →
    a / 0x1000 ∈ [0x00, 0x09, 0x15, 0x16, 0x17] → 0x40 ≤ a % 0x1000 → a % 0x1000 < 0x800 → findReg a = some r →
    w = BitVec.ofNat 32 (ofLe [b0, b1, b2, b3]) → s.passes g a w →
    ∃ t, exec (.i3cPrivateWrite leg a [b0, b1, b2, b3]) s = .next t ∧
      (∀ F ∈ r.flds, F.acc = .rw → F.rng = none → t.get F (s.instOf F a) = bitsOf w F.lo F.w) ∧
      t.get R.I3C_STAT_XFERS = (s.get R.I3C_STAT_XFERS + 1) % 2 ^ 16 ∧ t.get R.I3C_STAT_LEGACY = (if leg then 1 else 0) ∧
      t = { s with regs := t.regs, i3c := t.i3c } ∧
      s.framed t ((r.flds.map fun F => F.key (s.instOf F a)) ++ [R.PG_FLT_FLT.key (a / 0x1000), R.I3C_STAT_XFERS.key 0])) ∧
  (∀ (s : State) (a : Nat) (l : List Byte), s.i3cAway = true ∨ s.get R.I3C_STAT_DAV = 0 →
    exec (.i3cPrivateWrite false a l) s =
      .next { s with i3c := { s.i3c with nack := true, resp := [], todo := 0, hdr := false } }) ∧
  (∀ s : State, s.dev.cold = false → s.devSt = devSleep → s.dev.entry = 0 → s.get R.I3C_STAT_DAV = 1 →
    ∃ t, exec (.i3cAddressMatch false (s.get R.I3C_STAT_DA)) s = .next t ∧ t.i3c.nack = true ∧ t.dev.wakeDue = true ∧
      t.devSt = devBoot ∧ t.get R.PWR_STAT_WSRC = wakeI3c ∧ t.kept = s.kept) ∧
  (∀ s : State, s.dev.released = true → s.i3cAway = false → s.get R.I3C_STAT_DAV = 0 → s.get R.I3C_CTL_HJ_EN = 1 →
    s.get R.I3C_STAT_ENHJ = 1 → exec .hotJoin s = .next { s with i3c := { s.i3c with hj := true } }) ∧
  (∀ (s : State) (g : Nat), s.i3c.ibi = true → s.get R.I3C_STAT_DAV = 1 → s.bound = some g →
    exec (.ibiRequest true) s = .next { s with i3c := { s.i3c with ibi := false, resp := [BitVec.ofNat 8 (s.irqBits g)] } } ∧
    exec (.ibiRequest false) s = .next s)

/-- SFDP decides whether the flash is usable, and a calibration set is used only when it is valid and bound (R324,
R325, R326, R348, R351, R299). SFDP_DISCOVERY once in a release, of bytes that name the signature, 8 MiB or more and a
4 KiB erase, sets SFDPOK, takes the density, at most 16 MiB, holds what the bytes name and sets QUAD by the 1-1-4 read
they name; of any other bytes it sets FLASH and leaves the Archive in staging-only mode. CALIBRATION_LOAD shows what
R348 finds in the flash, takes the set only when it is in use, sets NOBIND or BAD otherwise; without a usable flash it
sets NOREC. Neither does anything while the flash may not be read, nor a second time. Where the bytes hold each item
is the model's reading of JESD216 (assumption 125). -/
def Obligations.FlashIsDiscoveredAndRead : Prop :=
  (∀ (s : State) (b : List Byte), s.flashReads = true → s.dev.sfdp = false → (sfdpOf b).signature = true →
    (sfdpOf b).erase4k.isSome = true → 0x800000 ≤ (sfdpOf b).density →
    ∃ t, exec (.sfdpDiscovery b) s = .next t ∧ t.get R.IMG_FLASH_SFDPOK = 1 ∧
      t.get R.IMG_FLASH_QUAD = (if quadMode (sfdpOf b) then 1 else 0) ∧
      t.get R.IMG_FLASH_DENS = Nat.log2 (min (sfdpOf b).density 0x1000000) ∧
      t = { s with regs := t.regs, dev := { s.dev with sfdp := true, par := some (sfdpOf b), flashUsable := true,
                                                       dens := min (sfdpOf b).density 0x1000000 } } ∧
      s.framed t [R.IMG_FLASH_SFDPOK.key 0]) ∧
  (∀ (s : State) (b : List Byte), s.flashReads = true → s.dev.sfdp = false →
    (sfdpOf b).signature = false ∨ (sfdpOf b).erase4k = none ∨ (sfdpOf b).density < 0x800000 →
    ∃ t, exec (.sfdpDiscovery b) s = .next t ∧ t.dev.sfdp = true ∧ t.dev.flashUsable = false ∧ t.get R.IMG_FLT_FLASH = 1 ∧
      t.get R.ARC_STAT_MODE = 3 ∧ t.kept = s.kept ∧
      s.framed t [R.IMG_FLT_FLASH.key 0, R.ARC_STAT_MODE.key 0, R.ARC_HEAD_ACC.key 0, R.ARC_BASE_ACC.key 0]) ∧
  (∀ (s : State) (b : List Byte), s.flashReads = false ∨ s.dev.sfdp = true → exec (.sfdpDiscovery b) s = .next s) ∧
  (∀ s : State, s.flashReads = false ∨ s.dev.sfdp = false ∨ s.dev.calDone = true → exec .calibrationLoad s = .next s) ∧
  (∀ s : State, s.flashReads = true → s.dev.sfdp = true → s.dev.calDone = false → s.dev.flashUsable = false →
    ∃ t, exec .calibrationLoad s = .next t ∧ t.get R.AGE_FLT_NOREC = 1 ∧ t.dev.calDone = true ∧ t.cal = s.cal ∧
      t.kept = s.kept ∧ s.framed t [R.AGE_FLT_NOREC.key 0, R.IMG_BOOT_PHASE.key 0]) ∧
  (∀ s : State, s.flashReads = true → s.dev.sfdp = true → s.dev.calDone = false → s.dev.flashUsable = true →
    calState s.flash (s.fuse.getD default).dieId ≠ 1 →
    ∃ t, exec .calibrationLoad s = .next t ∧ t.cal = s.cal ∧ t.dev.calDone = true ∧ t.kept = s.kept ∧
      t.get R.CAL_STAT_STATE = calState s.flash (s.fuse.getD default).dieId ∧
      (calState s.flash (s.fuse.getD default).dieId = 2 → t.get R.CAL_FLT_NOBIND = 1) ∧
      (calState s.flash (s.fuse.getD default).dieId = 3 → t.get R.CAL_FLT_BAD = 1)) ∧
  (∀ s : State, s.flashReads = true → s.dev.sfdp = true → s.dev.calDone = false → s.dev.flashUsable = true →
    calState s.flash (s.fuse.getD default).dieId = 1 →
    ∃ t, exec .calibrationLoad s = .next t ∧ t.cal = calValues s.flash s.cfg.n ∧ t.dev.calDone = true ∧ t.kept = s.kept ∧
      t.get R.CAL_STAT_STATE = 1)

/-- The control image is the first slot tried that passes its checks, else the baseline ROM image (R337, R340, R341,
R343, R344, R346, R223, R351). IMAGE_SELECT after the calibration load, with no image applied and no weights image
held back: the first of the slots that R340 tries, as their bytes in the package flash stand, that passes every check
of R341 and holds no write list is applied: SRC, the formats, SEQ and the pairing id are its own, and its reason reads
0. One with a write list has its sections in force and then every entry of the list written in order, as a write with
every privilege: an entry for a register of a page without commands stores its RW, RWS and RWP fields, at the nearer
end of their range with CFGSAT set. A weights image held back is checked against what is applied: with the image's own
non-zero pairing id, declared features and its shape it stands as the weights with the Forecaster READY; with another
pairing id, or with none declared, no weights stand and the Forecaster is DISABLED with CAUSE pairing, and under the
baseline image with CAUSE baseline. Where every slot tried is rejected, or none is tried, the baseline image is
applied: SRC is 3, BASE is set. Each slot that is tried and rejected shows its reason and its event bit; one that is
not tried shows 0xF. With the complex not released, after SAFE_OFF, before the calibration load, or once an image is
applied, IMAGE_SELECT changes nothing. -/
def Obligations.ControlImageIsSelected : Prop :=
  (∀ (s : State) (errA errB : Nat), s.flashReads = true → s.dev.calDone = true → s.dev.imgDone = false → s.sec.wHeld = none →
    (∀ k ∈ s.slotsTried errA errB, s.rejects (s.slotOf errA errB k) ≠ 0) →
    ∃ t, exec (.imageSelect errA errB) s = .next t ∧ t.dev.imgDone = true ∧ t.get R.IMG_STAT_SRC = 3 ∧
      t.get R.IMG_FLT_BASE = 1 ∧ t.get R.IMG_SEQ_SEQ = 0 ∧ t.kept = s.kept ∧
      (∀ k < 2, k ∈ s.slotsTried errA errB →
        t.get (rejFld k) = s.rejects (s.slotOf errA errB k) ∧ t.get (rejFlt k) = 1) ∧
      (∀ k < 2, k ∉ s.slotsTried errA errB → t.get (rejFld k) = 0xF)) ∧
  (∀ (s : State) (errA errB k : Nat) (l r : List Nat), s.flashReads = true → s.dev.calDone = true → s.dev.imgDone = false →
    s.sec.wHeld = none → s.slotsTried errA errB = l ++ k :: r →
    (∀ j ∈ l, s.rejects (s.slotOf errA errB j) ≠ 0) → s.rejects (s.slotOf errA errB k) = 0 →
    (s.slotOf errA errB k).img.wlist = [] →
    ∃ t, exec (.imageSelect errA errB) s = .next t ∧ t.dev.imgDone = true ∧ t.get R.IMG_STAT_SRC = k + 1 ∧
      t.get R.IMG_STAT_FMT_MAJ = 2 ∧ t.get R.IMG_STAT_FMT_MIN = (s.slotOf errA errB k).img.fmtMin ∧
      t.get R.IMG_SEQ_SEQ = (s.slotOf errA errB k).img.seq % 2 ^ 32 ∧
      t.get R.FCS_PAIRC_PAIR = (s.slotOf errA errB k).img.pair % 2 ^ 32 ∧ t.get (rejFld k) = 0 ∧ t.kept = s.kept ∧
      (∀ j ∈ l, t.get (rejFld j) = s.rejects (s.slotOf errA errB j) ∧ t.get (rejFlt j) = 1) ∧
      (∀ j ∈ r, t.get (rejFld j) = 0xF)) ∧
  (∀ (s : State) (errA errB k : Nat) (l r : List Nat), s.flashReads = true → s.dev.calDone = true → s.dev.imgDone = false →
    s.sec.wHeld = none → s.slotsTried errA errB = l ++ k :: r →
    (∀ j ∈ l, s.rejects (s.slotOf errA errB j) ≠ 0) → s.rejects (s.slotOf errA errB k) = 0 →
    ∃ t v, exec (.imageSelect errA errB) s = .next t ∧ t.dev.imgDone = true ∧ t.kept = s.kept ∧
      v.get R.IMG_STAT_SRC = k + 1 ∧ v.get R.FCS_PAIRC_PAIR = (s.slotOf errA errB k).img.pair % 2 ^ 32 ∧
      (∀ d < s.cfg.n, v.get R.DST_RGN2_MAP d = ((s.slotOf errA errB k).img.dists.getD d default).map % 2 ^ R.DST_RGN2_MAP.w ∧
        (v.lw d).img = { (s.slotOf errA errB k).img.dists.getD d default with
          allow := min ((s.slotOf errA errB k).img.dists.getD d default).allow 0x177 }) ∧
      s.framed v ([R.IMG_STAT_SRC.key 0, R.IMG_SEQ_SEQ.key 0, R.IMG_FLT_BASE.key 0, R.FCS_SHAPE_FIN.key 0,
        R.FCS_PAIRC_PAIR.key 0] ++ (List.range s.cfg.n).flatMap fun d => [R.DST_RGN2_MAP.key d, R.DST_RGN_STAT_NSETS.key d]) ∧
      ((s.slotOf errA errB k).img.wlist.foldl State.listWrite v).framed t [R.IMG_BOOT_PHASE.key 0] ∧
      t.law = ((s.slotOf errA errB k).img.wlist.foldl State.listWrite v).law) ∧
  (∀ (s : State) (a w : Nat) (r : RegDef), a / 0x1000 ∈ [0x00, 0x09, 0x15, 0x16, 0x17] → 0x40 ≤ a % 0x1000 →
    a % 0x1000 < 0x800 → a % 4 = 0 → findReg a = some r →
    ∀ F ∈ r.flds, (F.acc = .rw ∨ F.acc = .rws ∨ (F.acc = .rwp ∧ F.reach = .setting)) →
      (F.rng = none → (s.listWrite (a, w)).get F (s.instOf F a) = bitsOf (BitVec.ofNat 32 w) F.lo F.w) ∧
      (∀ lo hi v : Int, F.sgn = false → F.rng = some (lo, hi) → v = (bitsOf (BitVec.ofNat 32 w) F.lo F.w : Int) →
        ((s.listWrite (a, w)).get F (s.instOf F a) : Int) = max lo (min v hi) ∧
        (v < lo ∨ hi < v →
          ((s.listWrite (a, w)).get R.PG_FLT_FLT (a / 0x1000)).testBit (cfgsatBit (a / 0x1000)) = true))) ∧
  (∀ (s : State) (errA errB : Nat) (dg : List Byte) (w : WeightsImg), s.flashReads = true → s.dev.calDone = true →
    s.dev.imgDone = false → s.sec.wHeld = some (dg, w) →
    ((∀ k ∈ s.slotsTried errA errB, s.rejects (s.slotOf errA errB k) ≠ 0) →
      ∃ t, exec (.imageSelect errA errB) s = .next t ∧ t.get R.FCS_STAT_STATE = fcDisabled ∧ t.get R.FCS_STAT_CAUSE = 3 ∧
        t.weights = [] ∧ t.sec.wHeld = none ∧ t.get R.FCS_PAIRW_PAIR = w.pair % 2 ^ 32) ∧
    (∀ (k : Nat) (l r : List Nat) (i : Image), s.slotsTried errA errB = l ++ k :: r →
      (∀ j ∈ l, s.rejects (s.slotOf errA errB j) ≠ 0) → s.rejects (s.slotOf errA errB k) = 0 →
      i = (s.slotOf errA errB k).img → i.wlist = [] →
      (w.pair = 0 ∨ w.pair ≠ i.pair % 2 ^ 32 ∨ i.fcdecl = false →
        ∃ t, exec (.imageSelect errA errB) s = .next t ∧ t.get R.FCS_STAT_STATE = fcDisabled ∧ t.get R.FCS_STAT_CAUSE = 1 ∧
          t.get R.FCS_FLT_PAIR = 1 ∧ t.weights = [] ∧ t.sec.wHeld = none ∧ t.get R.FCS_PAIRW_PAIR = w.pair % 2 ^ 32) ∧
      (w.pair ≠ 0 → w.pair = i.pair % 2 ^ 32 → i.fcdecl = true → w.fmtMaj = 1 → w.ndist = s.cfg.n → w.fin = i.fin →
        w.fh = i.fh → w.fo = i.fo → i.fin < 512 → i.fh < 128 → i.fo < 32 → w.len = weightsLen s.cfg.n i.fin i.fh i.fo →
        w.sets.length = s.cfg.n → (w.sets.all fun x => weightsFit x i.fin i.fh i.fo) = true →
        ∃ t, exec (.imageSelect errA errB) s = .next t ∧ t.get R.FCS_STAT_STATE = fcReady ∧
          t.weights = (List.range w.sets.length).zip w.sets ∧ t.sec.wDigest = dg ∧ t.sec.wHeld = none ∧
          t.get R.FCS_PAIRW_PAIR = w.pair % 2 ^ 32))) ∧
  (∀ (s : State) (errA errB : Nat), s.flashReads = true → s.dev.calDone = true → s.dev.imgDone = false →
    ∃ t, exec (.imageSelect errA errB) s = .next t ∧ t.dev.imgDone = true ∧ t.kept = s.kept) ∧
  (∀ (s : State) (errA errB : Nat), s.flashReads = false ∨ s.dev.calDone = false ∨ s.dev.imgDone = true →
    exec (.imageSelect errA errB) s = .next s)

/-- A calibration set is staged, checked, committed whole, or refused (R348, R349). CAL_CLEAR opens the staging
buffer; CAL_WDAT stores four bytes at OFS and advances it; CAL_COMMIT outside RUN and QUIET is refused with RESULT 3,
of a staged set that R348 does not pass with RESULT 2, and otherwise erases the calibration region and nothing else of
the flash, with LOST set and the commit counted. CAL_COMMIT_COMPLETE leaves the staged bytes in the region and every
other byte of the flash, closes the buffer, and stages the record of the commit where the staging queue has room; of a
failed one it shows RESULT 4. That COMMITS counts a commit where it is accepted is the model's reading (assumption
124), and so are the order in which a commit is refused (assumption 64) and that the buffer closes at its end
(assumption 65). A warm reset during a commit leaves no valid set. -/
def Obligations.CalibrationIsCommittedFromStaging : Prop :=
  (∀ (s : State) (g : Gal), s.passes g R.CAL_CMD_CLEAR.base 0x40000000 → s.cal.commit = false →
    ∃ t, exec (.calClear g) s = .next t ∧ t.get R.CAL_CSTAT_OPEN = 1 ∧
      t = { s.okRsp g with regs := t.regs, cal := { s.cal with stag := some [] } } ∧
      (s.okRsp g).framed t [R.CAL_CSTAT_OPEN.key 0]) ∧
  (∀ (s : State) (g : Gal) (w : Word) (m : List Host.Cell), s.passes g R.CAL_WDAT_DATA.base w → s.cal.stag = some m →
    s.cal.commit = false →
    ∃ t, exec (.calWdat g w) s = .next t ∧ t.get R.CAL_WADR_OFS = (s.get R.CAL_WADR_OFS + 4) % 2 ^ 16 ∧
      t = { s.okRsp g with regs := t.regs,
                           cal := { s.cal with stag := some (memWrite m (s.get R.CAL_WADR_OFS) (leBytes 4 w.toNat)) } } ∧
      (s.okRsp g).framed t [R.CAL_WADR_OFS.key 0]) ∧
  (∀ (s : State) (g : Gal), s.passes g R.CAL_CMD_COMMIT.base 0x8000005A → s.devSt ≠ devRun → s.devSt ≠ devQuiet →
    ∃ t, exec (.calCommit g) s = .next t ∧ t.get R.CAL_CSTAT_RESULT = 3 ∧ t.get R.CAL_FLT_CMTFAIL = 1 ∧
      (s.okRsp g).only t [R.CAL_CSTAT_RESULT.key 0, R.CAL_FLT_CMTFAIL.key 0]) ∧
  (∀ (s : State) (g : Gal) (m : List Host.Cell), s.passes g R.CAL_CMD_COMMIT.base 0x8000005A →
    s.devSt = devRun ∨ s.devSt = devQuiet → s.dev.pgm = none → s.cal.commit = false → s.dev.flashUsable = true →
    s.cal.stag = some m →
    (calState m (s.fuse.getD default).dieId ≠ 1 →
      ∃ t, exec (.calCommit g) s = .next t ∧ t.get R.CAL_CSTAT_RESULT = 2 ∧
        (s.okRsp g).only t [R.CAL_CSTAT_RESULT.key 0, R.CAL_FLT_CMTFAIL.key 0]) ∧
    (calState m (s.fuse.getD default).dieId = 1 →
      ∃ t, exec (.calCommit g) s = .next t ∧ t.get R.CAL_CSTAT_BUSY = 1 ∧ t.get R.CAL_FLT_LOST = 1 ∧
        t.get R.CAL_CSTAT_COMMITS = satU 16 (s.get R.CAL_CSTAT_COMMITS + 1) ∧
        (∀ a, memByte t.flash a = (if a < 0x10000 then 0xFF#8 else memByte s.flash a)) ∧
        t = { s.okRsp g with regs := t.regs, flash := t.flash, cal := { s.cal with commit := true } } ∧
        (s.okRsp g).framed t [R.CAL_CSTAT_BUSY.key 0, R.CAL_FLT_LOST.key 0])) ∧
  (∀ (s : State) (m : List Host.Cell), s.cal.commit = true → s.cal.stag = some m → s.canonical = true →
    ∃ t, exec (.calCommitComplete true) s = .next t ∧
      (∀ a, memByte t.flash a = (if a < 0x10000 then memByte m a else memByte s.flash a)) ∧
      t.get R.CAL_CSTAT_BUSY = 0 ∧ t.get R.CAL_CSTAT_OPEN = 0 ∧ t.get R.CAL_CSTAT_RESULT = 0 ∧
      t = { s with regs := t.regs, flash := t.flash, arc := t.arc, cal := { s.cal with commit := false, stag := none } } ∧
      s.framed t [R.CAL_CSTAT_BUSY.key 0, R.ARC_STAT_STGB.key 0, R.ARC_HEAD_ACC.key 0, R.ARC_DROP_STAGE.key 0,
        R.ARC_FLT_OVF.key 0] ∧
      (s.dev.released = true → s.arc.dropCnt = 0 → s.arc.bytes + 64 ≤ stagingSize →
        ∃ r : Rec, t.arc.staged = s.arc.staged ++ [r] ∧ r.kind = 3 ∧ r.payload.take 2 = [0x0A, 0x00])) ∧
  (∀ s : State, s.cal.commit = true →
    ∃ t, exec (.calCommitComplete false) s = .next t ∧ t.get R.CAL_CSTAT_RESULT = 4 ∧ t.get R.CAL_FLT_CMTFAIL = 1 ∧
      t.cal = { s.cal with commit := false, stag := none } ∧ t.cfg = s.cfg ∧ t.pending = s.pending) ∧
  (∀ (s : State) (g : Gal), s.rowPasses g R.PWR_CTL_WRST 0 1 → s.dev.powered = true → s.cal.commit = true →
    s.dev.pgm = none →
    ∃ t, exec (.warmReset g) s = .next t ∧ calState t.flash (t.fuse.getD default).dieId ≠ 1)

/-- A slot command is refused or holds its address until it completes (R350, R325). IMG_PDAT appends its four bytes to
the page buffer as far as it has room, IMG_EMPTY_BUFFER empties it. IMG_ERASE and IMG_PROGRAM are refused with RESULT
1 on the slot in use, 2 while the flash cannot be commanded, 3 at an offset that is not aligned or lies beyond the
slot, and otherwise set BUSY. IMG_PCMD_COMPLETE of an erase leaves its sector erased and every other byte; a good
program command leaves each byte of its page as the AND of what stood and what was written. The order of the results
1, 2, 3 (assumption 143), the erase whatever its operand (assumption 66) and the AND (assumption 67) are the model's
choice. -/
def Obligations.SlotsAreProgrammedPageByPage : Prop :=
  (∀ (s : State) (g : Gal) (w : Word), s.passes g R.IMG_PDAT_DATA.base w → s.pageBuf.length + 4 ≤ 256 →
    ∃ t, exec (.imgPdat g w) s = .next t ∧ t.get R.IMG_PSTAT_BUFCNT = s.pageBuf.length + 4 ∧
      t = { s.okRsp g with regs := t.regs, pageBuf := s.pageBuf ++ leBytes 4 w.toNat } ∧
      (s.okRsp g).framed t [R.IMG_PSTAT_BUFCNT.key 0]) ∧
  (∀ (s : State) (g : Gal), s.passes g R.IMG_PCMD_CMD.base 0xC0000000 →
    ∃ t, exec (.imgEmptyBuffer g) s = .next t ∧ t.get R.IMG_PSTAT_BUFCNT = 0 ∧
      t = { s.okRsp g with regs := t.regs, pageBuf := [] } ∧ (s.okRsp g).framed t [R.IMG_PSTAT_BUFCNT.key 0]) ∧
  (∀ (s : State) (g : Gal) (k : Nat) (c : Instr), (k = 1 ∧ c = .imgErase g) ∨ (k = 2 ∧ c = .imgProgram g) →
    s.passes g R.IMG_PCMD_CMD.base (BitVec.ofNat 32 (k * 2 ^ 30)) →
    (s.get R.IMG_STAT_SRC = s.get R.IMG_PADR_SLOT + 1 →
      ∃ t, exec c s = .next t ∧ t.get R.IMG_PSTAT_RESULT = 1 ∧ (s.okRsp g).only t [R.IMG_PSTAT_RESULT.key 0]) ∧
    (s.get R.IMG_STAT_SRC ≠ s.get R.IMG_PADR_SLOT + 1 → s.dev.flashUsable = false ∨ s.cal.commit = true →
      ∃ t, exec c s = .next t ∧ t.get R.IMG_PSTAT_RESULT = 2 ∧ (s.okRsp g).only t [R.IMG_PSTAT_RESULT.key 0]) ∧
    (s.get R.IMG_STAT_SRC ≠ s.get R.IMG_PADR_SLOT + 1 → s.devSt = devRun ∨ s.devSt = devQuiet →
      s.dev.flashUsable = true → s.cal.commit = false → s.dev.pgm = none →
      (s.get R.IMG_PADR_OFS % (if k = 1 then 0x1000 else 0x100) ≠ 0 ∨ s.slotSize ≤ s.get R.IMG_PADR_OFS →
        ∃ t, exec c s = .next t ∧ t.get R.IMG_PSTAT_RESULT = 3 ∧ (s.okRsp g).only t [R.IMG_PSTAT_RESULT.key 0]) ∧
      (s.get R.IMG_PADR_OFS % (if k = 1 then 0x1000 else 0x100) = 0 → s.get R.IMG_PADR_OFS < s.slotSize →
        ∃ t, exec c s = .next t ∧ t.get R.IMG_PSTAT_BUSY = 1 ∧
          t = { s.okRsp g with regs := t.regs,
                               dev := { s.dev with pgm := some (k, s.slotAt (s.get R.IMG_PADR_SLOT) + s.get R.IMG_PADR_OFS) } } ∧
          (s.okRsp g).framed t [R.IMG_PSTAT_BUSY.key 0]))) ∧
  (∀ (s : State) (a : Nat) (good : Bool), s.dev.pgm = some (1, a) →
    ∃ t, exec (.imgPcmdComplete good) s = .next t ∧ t.get R.IMG_PSTAT_BUSY = 0 ∧ t.get R.IMG_PSTAT_RESULT = 0 ∧
      (∀ k, memByte t.flash k = (if a ≤ k ∧ k < a + 0x1000 then 0xFF#8 else memByte s.flash k)) ∧
      t = { s with regs := t.regs, dev := { s.dev with pgm := none }, flash := t.flash } ∧
      s.framed t [R.IMG_PSTAT_BUSY.key 0]) ∧
  (∀ (s : State) (a : Nat), s.dev.pgm = some (2, a) → s.canonical = true →
    ∃ t, exec (.imgPcmdComplete true) s = .next t ∧ t.get R.IMG_PSTAT_BUSY = 0 ∧
      (∀ k, memByte t.flash k = (if a ≤ k ∧ k < a + s.pageBuf.length
        then memByte s.flash k &&& s.pageBuf.getD (k - a) 0 else memByte s.flash k)) ∧
      t = { s with regs := t.regs, dev := { s.dev with pgm := none }, flash := t.flash } ∧
      s.framed t [R.IMG_PSTAT_BUSY.key 0, R.IMG_FLT_PGMERR.key 0])

/-- The Archive programs its oldest record at the write position, erases on command, and shows what it holds (R423,
R424, R427, R428, R429, R430, R431). ARCHIVE_PROGRAM while recording, with room in the region and a good read-back,
takes the next accession number, programs the record at the write position, each byte of which then holds what it held
AND the byte of the record, so that an erased stretch holds the record; the write position moves past it, and no other
byte of the flash changes. Where the record does not fit, a FULL record of the next number (the model's choice,
assumption 24) is programmed where the write position stands and stays, and the Archive becomes full; in the full
state the record is counted and dropped. ARCHIVE_SCAN of a blank region starts recording at offset 0. ARCHIVE_ERASE in
RUN or QUIET while recording or full starts an erase, which ARCHIVE_ERASE_COMPLETE ends with the 32 bytes of the
ERASED record at offset 0, its number, time, the last number before the erase and the gallery in it, and every other
byte of the region 0xFF. ARCHIVE_FETCH shows 64 bytes of the flash. -/
def Obligations.ArchiveRecordsInOrder : Prop :=
  (∀ (s : State) (r : Rec) (l : List Rec), s.arc.staged = r :: l → s.arc.tornDue = false → s.get R.ARC_STAT_MODE = 1 →
    s.get R.ARC_WPOS_OFS + r.len ≤ arcSize - 16 → s.arc.dropCnt = 0 → s.canonical = true →
    ∃ t, exec (.archiveProgram []) s = .next t ∧ t.arc = { s.arc with staged := l, lastAcc := some s.nextAcc } ∧
      t.get R.ARC_HEAD_ACC = s.nextAcc % 2 ^ 32 ∧
      t.get R.ARC_WPOS_OFS = (s.get R.ARC_WPOS_OFS +
        (s.recOf r s.nextAcc).length) % 2 ^ 22 ∧
      (∀ k, k < s.arcAt + s.get R.ARC_WPOS_OFS ∨ s.arcAt + s.get R.ARC_WPOS_OFS +
          (s.recOf r s.nextAcc).length ≤ k →
        memByte t.flash k = memByte s.flash k) ∧
      (∀ i < (s.recOf r s.nextAcc).length, memByte t.flash (s.arcAt + s.get R.ARC_WPOS_OFS + i) =
        memByte s.flash (s.arcAt + s.get R.ARC_WPOS_OFS + i) &&& (s.recOf r s.nextAcc).getD i 0) ∧
      t = { s with regs := t.regs, flash := t.flash, arc := t.arc } ∧
      s.framed t [R.ARC_STAT_MODE.key 0, R.ARC_HEAD_ACC.key 0, R.ARC_BASE_ACC.key 0, R.ARC_WPOS_OFS.key 0]) ∧
  (∀ (s : State) (r : Rec) (l : List Rec) (bad : List Bool), s.arc.staged = r :: l → s.arc.tornDue = false →
    s.get R.ARC_STAT_MODE = 1 → arcSize - 16 < s.get R.ARC_WPOS_OFS + r.len → s.canonical = true →
    ∃ t, exec (.archiveProgram bad) s = .next t ∧ t.get R.ARC_STAT_MODE = 2 ∧ t.get R.ARC_FLT_FULL = 1 ∧
      t.arc.staged = s.arc.staged ∧ t.arc.lastAcc = some s.nextAcc ∧ t.get R.ARC_WPOS_OFS = s.get R.ARC_WPOS_OFS ∧
      (∀ i < 16, memByte t.flash (s.arcAt + s.get R.ARC_WPOS_OFS + i) = memByte s.flash (s.arcAt + s.get R.ARC_WPOS_OFS + i) &&&
        (recBytes 0xA7 0x0F s.nextAcc s.opsec s.tick s.arc.pcyc []).getD i 0)) ∧
  (∀ (s : State) (r : Rec) (l : List Rec) (bad : List Bool), s.arc.staged = r :: l → s.arc.tornDue = false →
    s.get R.ARC_STAT_MODE = 2 → s.arc.dropCnt = 0 →
    ∃ t, exec (.archiveProgram bad) s = .next t ∧ t.arc.staged = l ∧
      t.get R.ARC_DROP_FULL = satU 16 (s.get R.ARC_DROP_FULL + 1) ∧ t.flash = s.flash ∧ t.kept = s.kept) ∧
  (∀ s : State, s.dev.flashUsable = true → s.dev.imgDone = true → s.get R.ARC_STAT_MODE = 0 →
    ((memRead s.flash s.arcAt 16).all fun b => b == 0xFF#8) = true →
    ∃ t, exec .archiveScan s = .next t ∧ t.get R.ARC_STAT_MODE = 1 ∧ t.get R.ARC_WPOS_OFS = 0 ∧
      t = { s with regs := t.regs, arc := { s.arc with scanned := true, tornDue := false } } ∧
      s.framed t [R.ARC_STAT_MODE.key 0, R.ARC_WPOS_OFS.key 0]) ∧
  (∀ (s : State) (g : Gal), s.passes g R.ARC_CMD_ERASE.base 0x8000005A → s.devSt = devRun ∨ s.devSt = devQuiet →
    s.get R.ARC_STAT_MODE = 1 ∨ s.get R.ARC_STAT_MODE = 2 →
    ∃ t, exec (.archiveErase g) s = .next t ∧ t.get R.ARC_STAT_MODE = 4 ∧
      t = { s.okRsp g with regs := t.regs, arc := { s.arc with eraseGal := g, eraseAcc := s.arc.lastAcc } } ∧
      (s.okRsp g).framed t [R.ARC_STAT_MODE.key 0]) ∧
  (∀ (s : State) (g : Gal), s.passes g R.ARC_CMD_ERASE.base 0x8000005A →
    (s.devSt ≠ devRun ∧ s.devSt ≠ devQuiet) ∨ (s.get R.ARC_STAT_MODE ≠ 1 ∧ s.get R.ARC_STAT_MODE ≠ 2) →
    exec (.archiveErase g) s = .next (s.okRsp g)) ∧
  (∀ s : State, s.get R.ARC_STAT_MODE = 4 → s.canonical = true →
    ∃ t, exec .archiveEraseComplete s = .next t ∧ t.get R.ARC_STAT_MODE = 1 ∧ t.get R.ARC_STAT_EMPTY = 0 ∧
      t.get R.ARC_HEAD_ACC = s.nextAcc % 2 ^ 32 ∧ t.get R.ARC_BASE_ACC = s.nextAcc % 2 ^ 32 ∧
      t.arc.lastAcc = some s.nextAcc ∧
      (∀ i < 32, memByte t.flash (s.arcAt + i) = (recBytes 0xA7 0x07 s.nextAcc s.opsec s.tick s.arc.pcyc
        (leBytes 4 (s.arc.eraseAcc.getD 0xFFFFFFFF) ++ [BitVec.ofNat 8 s.arc.eraseGal])).getD i 0) ∧
      (∀ k, s.arcAt + 32 ≤ k → k < s.arcAt + arcSize → memByte t.flash k = 0xFF#8) ∧
      (∀ k, k < s.arcAt ∨ s.arcAt + arcSize ≤ k → memByte t.flash k = memByte s.flash k)) ∧
  (∀ (s : State) (g : Gal) (w : Word), s.passes g R.ARC_RADR_SRC.base w → bitsOf w 31 1 = 0 →
    ∃ t, exec (.archiveFetch g w) s = .next t ∧ t.get R.ARC_RADR_RDY = 1 ∧
      (∀ j < 16, t.get (rdatFld j) = ofLe (memRead s.flash (s.arcAt + bitsOf w 6 16 * 64 + 4 * j) 4)) ∧
      (s.okRsp g).only t (R.ARC_RADR_SRC.key 0 :: (List.range 16).map fun j => (rdatFld j).key 0))

/-- Triggers are registered, an Exhibit takes the next number on every page that takes part, and a held one counts
what it misses (R432, R433, R434, R464). EXHIBIT_TRIGGER and an enabled EXH_IN_RISE register their source.
EXHIBIT_EDGE without a trigger changes nothing; while an Exhibit is held it counts a miss and sets MISS, and a capture
engine armed for an Exhibit trigger runs; otherwise every page that takes part shows the next number in EXH_SEQ and
PG_EXH_SEQ, and the triggers are cleared. EXHIBIT_REARM clears HELD and nothing else. -/
def Obligations.ExhibitsCopyOnOneEdge : Prop :=
  (∀ (s : State) (g : Gal), s.rowPasses g R.EXH_CTL_TRIG 0 1 →
    exec (.exhibitTrigger g) s = .next { s.okRsp g with exh := { s.exh with trig := s.exh.trig ||| 1 } }) ∧
  (∀ s : State, s.get R.EXH_CTL_PIN_EN = 1 → s.dev.released = true →
    exec .exhInRise s = .next { s with exh := { s.exh with trig := s.exh.trig ||| 4 } }) ∧
  (∀ s : State, s.get R.EXH_CTL_PIN_EN = 0 → exec .exhInRise s = .next s) ∧
  (∀ s : State, s.exh.trig = 0 → exec .exhibitEdge s = .next s) ∧
  (∀ s : State, s.exh.trig ≠ 0 → s.dev.released = true → s.get R.EXH_STAT_HELD = 1 →
    ∃ t, exec .exhibitEdge s = .next t ∧ t.get R.EXH_STAT_MISSED = satU 16 (s.get R.EXH_STAT_MISSED + 1) ∧
      t.get R.EXH_FLT_MISS = 1 ∧ t = { s with regs := t.regs, exh := { s.exh with trig := 0 }, cap := t.cap } ∧
      s.framed t [R.EXH_STAT_MISSED.key 0, R.EXH_FLT_MISS.key 0, R.CAP_STAT_STATE.key 0] ∧
      (s.get R.CAP_STAT_STATE = 1 ∧ s.cap.trig = 4 → t.get R.CAP_STAT_STATE = 2 ∧ t.get R.CAP_STAT_TRIGD = 1) ∧
      (s.get R.CAP_STAT_STATE ≠ 1 ∨ s.cap.trig ≠ 4 → t.cap = s.cap ∧ t.get R.CAP_STAT_STATE = s.get R.CAP_STAT_STATE)) ∧
  (∀ s : State, s.exh.trig ≠ 0 → s.exh.trig < 16 → s.dev.released = true → s.get R.EXH_STAT_HELD = 0 →
    ∃ t, exec .exhibitEdge s = .next t ∧ t.exh.trig = 0 ∧ t.get R.EXH_SEQ_SEQ = nextExh (s.get R.EXH_SEQ_SEQ) ∧
      t.get R.EXH_STAT_SRC = s.exh.trig ∧ t.get R.EXH_STAT_HELD = s.get R.EXH_CTL_HOLD_EN ∧
      (∀ p < 256, s.participates p = true → t.get R.PG_EXH_SEQ_SEQ p = nextExh (s.get R.EXH_SEQ_SEQ)) ∧ t.kept = s.kept) ∧
  (∀ (s : State) (g : Gal), s.rowPasses g R.EXH_CTL_REARM 0 1 →
    ∃ t, exec (.exhibitRearm g) s = .next t ∧ t.get R.EXH_STAT_HELD = 0 ∧ (s.okRsp g).only t [R.EXH_STAT_HELD.key 0])

/-- GET_VERSION, a failed MAC, the claim's end, a debug request, resets, SLEEP, and a report, wiring fault or
injection of reaction OFF zeroise session and key (R450, R458, R407, R411, R314, R336). The answer to GET_VERSION, a
secured message whose MAC fails, the end of the claim by REL, FREL or timeout, a debug request over JTAG or a gallery,
a warm or cold reset, the begin of the entries of SLEEP and its power-down, with the ageing record written and the
staging flushed, and the entry to SAFE_OFF each answer a next state with no session and no released key. The entry to
SAFE_OFF is that by a lone report of any class whose reaction is OFF, or HOLD before district return (R336), and whose
cause does not stand, by a wiring fault on a checked line of an OFF class, and by an armed injection of an OFF class
that does not stand. After END_SESSION so does the step that sets RDY. A timeout of the claim behind a SEND that is
not yet answered changes nothing (R458). The order of the events of one edge is the model's reading (assumption 15).
-/
def Obligations.SecretsEndWithTheirEvents : Prop :=
  (∀ s : State, s.sec.idReady = true → s.spdmMsg.length = 4 → byteAt s.spdmMsg 1 = rqVersion →
    ∃ t, exec .getVersion s = .next t ∧ t.sec.sess = none ∧ t.sec.key = none) ∧
  (∀ s : State, s.atHand = .broken →
    ∃ t, exec .decryptError s = .next t ∧ t.sec.sess = none ∧ t.sec.key = none) ∧
  (∀ (s : State) (g : Gal), s.passes g R.SEC_MBCTL_REL.base 0x40000000 → s.ownsMb g = true →
    ∃ t, exec (.rel g) s = .next t ∧ t.sec.sess = none ∧ t.sec.key = none ∧ t.get R.SEC_MBSTAT_OWNED = 0) ∧
  (∀ s : State, s.passes 0 R.SEC_MBCTL_FREL.base 0x10000000 → s.get R.SEC_MBSTAT_OWNED = 1 →
    ∃ t, exec (.frel 0) s = .next t ∧ t.sec.sess = none ∧ t.sec.key = none ∧ t.get R.SEC_MBSTAT_OWNED = 0) ∧
  (∀ s : State, s.get R.SEC_MBSTAT_OWNED = 1 → s.get R.SEC_MBSTAT_BUSY = 0 →
    ∃ t, exec .mailboxTimeout s = .next t ∧ t.sec.sess = none ∧ t.sec.key = none ∧ t.get R.SEC_MBSTAT_OWNED = 0 ∧
      t.get R.SEC_FLT_MBTMO = 1) ∧
  (∀ s : State, s.get R.SEC_MBSTAT_OWNED = 0 ∨ s.get R.SEC_MBSTAT_BUSY = 1 → exec .mailboxTimeout s = .next s) ∧
  (∀ (s : State) (g : Gal), s.rowPasses g R.SEC_DBG_INV_REQ 0 1 → g = 0 ∨ g = s.get R.SEC_DBG_OPGAL →
    ∃ t, exec (.invReq g) s = .next t ∧ t.sec.sess = none ∧ t.sec.key = none) ∧
  (∀ s : State, s.tapOn = true →
    ∃ t, exec (.dbgen true) s = .next t ∧ t.sec.sess = none ∧ t.sec.key = none) ∧
  (∀ (s : State) (g : Gal), s.rowPasses g R.PWR_CTL_WRST 0 1 → s.dev.powered = true →
    ∃ t, exec (.warmReset g) s = .next t ∧ t.sec.sess = none ∧ t.sec.key = none) ∧
  (∀ s : State, ∃ t, exec .coldReset s = .next t ∧ t.sec.sess = none ∧ t.sec.key = none) ∧
  (∀ s : State, s.dev.entry = 2 → s.dev.sleepStep = 2 → s.age.due = false → s.flushed = true →
    ∃ t, exec .sleepPowerDown s = .next t ∧ t.sec.sess = none ∧ t.sec.key = none) ∧
  (∀ s : State, s.dev.entry = 2 → s.dev.sleepStep = 0 → s.ledgersEmpty = true →
    ∃ t, exec .sleepEntryBegin s = .next t ∧ t.sec.sess = none ∧ t.sec.key = none) ∧
  (∀ (s : State) (r : Report), s.dev.released = true → s.flt.lines = [r] → s.reactNow r = 3 → s.repeats r = false →
    ∃ t, exec .faultReport s = .next t ∧ t.devSt = devOff ∧ t.sec.sess = none ∧ t.sec.key = none) ∧
  (∀ (s : State) (src cls : Nat), 2 ≤ cls → cls < 0x17 → src < 65536 → reactOf cls = 3 → s.lineChecked src = true →
    (src, cls) ∉ s.flt.masked →
    ∃ t, exec (.wiringFault src cls) s = .next t ∧ t.devSt = devOff ∧ t.sec.sess = none ∧ t.sec.key = none) ∧
  (∀ s : State, s.get R.FLT_INJ_ARM = 1 → s.dev.released = true → reactOf (s.get R.FLT_INJ_CLASS) = 3 →
    s.stands (s.get R.FLT_INJ_CLASS) = false →
    ∃ t, exec .faultInject s = .next t ∧ t.devSt = devOff ∧ t.sec.sess = none ∧ t.sec.key = none) ∧
  (∀ (s : State) (k : Bool) (r : List Byte), s.sec.done = some (k, r) → s.sec.zeroPend = true →
    ∃ t, exec .spdmResponseReady s = .next t ∧ t.sec.sess = none ∧ t.sec.key = none ∧ t.get R.SEC_MBSTAT_RDY = 1)

/-- The mailbox serves one gallery at a time (R440, R441, R442). A CLAIM of an unowned mailbox names the gallery as
owner, of one that another gallery owns sets MBBUSY and nothing else. MAILBOX_DATA_WRITE puts four bytes at OFS and
advances it. SEND of the owner hands the request over with BUSY set and RDY cleared; while BUSY it sets MBBUSY.
SPDM_RESPONSE_READY puts the formed answer in the buffer with its length and kind. FREL of another gallery than 0 is
denied, and REL of a gallery that does not own changes no claim. -/
def Obligations.OneGalleryHoldsTheMailbox : Prop :=
  (∀ (s : State) (g : Gal), s.passes g R.SEC_MBCTL_CLAIM.base 0x80000000 → s.get R.SEC_MBSTAT_OWNED = 0 →
    ∃ t, exec (.claim g) s = .next t ∧ t.get R.SEC_MBSTAT_OWNED = 1 ∧ t.get R.SEC_MBSTAT_OWNER = g ∧
      (s.okRsp g).only t [R.SEC_MBSTAT_OWNER.key 0]) ∧
  (∀ (s : State) (g : Gal) (c : Instr) (w : Word), (c = .claim g ∧ w = 0x80000000) ∨ (c = .rel g ∧ w = 0x40000000) →
    s.passes g R.SEC_MBCTL_CLAIM.base w → s.get R.SEC_MBSTAT_OWNED = 1 → s.get R.SEC_MBSTAT_OWNER ≠ g →
    ∃ t, exec c s = .next t ∧ t.get R.SEC_FLT_MBBUSY = 1 ∧ (s.okRsp g).only t [R.SEC_FLT_MBBUSY.key 0]) ∧
  (∀ (s : State) (g : Gal) (w : Word), s.passes g R.SEC_MBDAT_DATA.base w → s.ownsMb g = true →
    s.get R.SEC_MBADR_OFS + 4 ≤ 4096 →
    ∃ t, exec (.mailboxDataWrite g w) s = .next t ∧
      (∀ k, tabAt t.sec.req k = (if s.get R.SEC_MBADR_OFS ≤ k ∧ k < s.get R.SEC_MBADR_OFS + 4
        then (leBytes 4 w.toNat).getD (k - s.get R.SEC_MBADR_OFS) 0 else tabAt s.sec.req k)) ∧
      t.get R.SEC_MBADR_OFS = (s.get R.SEC_MBADR_OFS + 4) % 2 ^ 12 ∧
      t = { s.okRsp g with regs := t.regs, sec := { s.sec with req := t.sec.req } } ∧
      (s.okRsp g).framed t [R.SEC_MBADR_OFS.key 0]) ∧
  (∀ (s : State) (g : Gal) (sec : Bool) (n : Nat), 0 < n → n ≤ 4096 →
    s.passes g R.SEC_MBCTL_SEND.base (BitVec.ofNat 32 (0x20000000 + (if sec then 0x01000000 else 0) + n)) →
    s.ownsMb g = true → s.get R.SEC_MBSTAT_BUSY = 0 →
    ∃ t, exec (.send g sec n) s = .next t ∧ t.get R.SEC_MBSTAT_BUSY = 1 ∧ t.get R.SEC_MBSTAT_RDY = 0 ∧
      t.sec.busy = some (sec, n) ∧ t.sec.done = none ∧ t.sec.req = s.sec.req ∧ t.kept = s.kept ∧
      (s.okRsp g).framed t [R.SEC_MBSTAT_BUSY.key 0]) ∧
  (∀ (s : State) (g : Gal) (sec : Bool) (n : Nat), n < 0x2000 →
    s.passes g R.SEC_MBCTL_SEND.base (BitVec.ofNat 32 (0x20000000 + (if sec then 0x01000000 else 0) + n)) →
    s.ownsMb g = true → s.get R.SEC_MBSTAT_BUSY = 1 →
    ∃ t, exec (.send g sec n) s = .next t ∧ t.get R.SEC_FLT_MBBUSY = 1 ∧ (s.okRsp g).only t [R.SEC_FLT_MBBUSY.key 0]) ∧
  (∀ (s : State) (k : Bool) (r : List Byte), s.sec.done = some (k, r) → s.sec.zeroPend = false →
    ∃ t, exec .spdmResponseReady s = .next t ∧ t.get R.SEC_MBSTAT_BUSY = 0 ∧ t.get R.SEC_MBSTAT_RDY = 1 ∧
      t.get R.SEC_MBSTAT_RKIND = (if k then 1 else 0) ∧ t.get R.SEC_MBSTAT_RLEN = r.length % 2 ^ 13 ∧
      t = { s with regs := t.regs, sec := { s.sec with busy := none, done := none, rsp := r } } ∧
      s.framed t [R.SEC_MBSTAT_BUSY.key 0]) ∧
  (∀ (s : State) (g : Gal), g ≠ 0 → s.dev.released = true → (tabAt s.fence g).waiting = false →
    ∃ t, exec (.frel g) s = .next t ∧ t.rsps = [{ gal := g, code := .denied, data := 0 }] ∧ t.sec = s.sec) ∧
  (∀ s : State, s.dev.released = true →
    exec .identityKeyReady s = .next { s with sec := { s.sec with idReady := true } } ∧
    ∃ t, exec .entropyHealthFail s = .next t ∧ t.get R.SEC_FLT_ENTFAIL = 1 ∧
      t = { s with regs := t.regs, sec := { s.sec with entFail := true } } ∧ s.framed t [R.SEC_FLT_ENTFAIL.key 0])

/-- The responder answers its requests in order, and anything else with the ERROR that R445 names (R441, R443, R444,
R445, R448). The row of a request code answers the message at hand, in the clear or in a session, and changes nothing
while the message at hand carries another code or none waits. With the identity key ready and a request in the clear
at hand: GET_VERSION answers version 1.2 and restarts the connection; GET_CAPABILITIES and NEGOTIATE_ALGORITHMS answer
in their connection state and move it on; GET_DIGESTS and GET_CERTIFICATE answer from the committed chain; CHALLENGE
and GET_MEASUREMENTS answer while the entropy source is healthy; GET_CAPABILITIES, CHALLENGE and KEY_EXCHANGE out of
order are answered with UnexpectedRequest, and an unknown code with UnsupportedRequest, and SPDMERR sets each time. A
secured message that names no session is answered empty. The lengths, offsets and codes of the messages are the
model's reading of DSP0274 (assumption 60), that unsigned measurements draw a nonce too is assumption 78, and that the
chain is that of the edge of SEND assumption 79. -/
def Obligations.SpdmRequestsAreAnsweredInTheirPlace : Prop :=
  (∀ (s : State) (c : Instr) (code : Nat) (m : List Byte),
    (c, code) ∈ [(Instr.getVersion, rqVersion), (.getCapabilities, rqCaps), (.negotiateAlgorithms, rqAlgs),
      (.getDigests, rqDigests), (.getCertificate, rqCert), (.challenge, rqChallenge), (.getMeasurements, rqMeas),
      (.keyExchange, rqKeyEx), (.finish, rqFinish), (.endSession, rqEnd)] →
    (2 ≤ m.length → byteAt m 1 = code →
      (s.atHand = .clear m → exec c s = .next ((s.spdmReply false m).2.putReply false (s.spdmReply false m).1)) ∧
      (∀ x, s.atHand = .data x (0x01#8 :: m) → exec c s = .next (s.sealReply x 1 (s.spdmReply true m)))) ∧
    (byteAt s.spdmMsg 1 ≠ code → exec c s = .next s)) ∧
  (∀ s : State, s.atHand = .lost →
    ∃ t, exec .spdmUnsupported s = .next t ∧ t.sec.done = some (false, []) ∧ t.get R.SEC_FLT_SPDMERR = 1 ∧
      t.kept = s.kept ∧ s.framed t [R.SEC_FLT_SPDMERR.key 0]) ∧
  ∀ (s : State) (m : List Byte), s.sec.idReady = true → s.atHand = .clear m → 2 ≤ m.length →
    (byteAt m 1 = rqVersion → m.length = 4 →
      ∃ t, exec .getVersion s = .next t ∧
        t.sec.done = some (false, [0x10#8, 0x04#8, 0x00#8, 0x00#8, 0x00#8, 0x01#8, 0x00#8, 0x12#8]) ∧
        t.get R.SEC_SESS_CONN = 1) ∧
    (byteAt m 0 = 0x12 →
      (byteAt m 1 = rqCaps → s.get R.SEC_SESS_CONN = 1 → m.length = 20 → 42 ≤ numAt m 12 4 → numAt m 12 4 ≤ numAt m 16 4 →
        ∃ t, exec .getCapabilities s = .next t ∧ t.sec.done = some (false, capsRsp) ∧ t.get R.SEC_SESS_CONN = 2 ∧
          t.kept = s.kept) ∧
      (byteAt m 1 = rqCaps → s.get R.SEC_SESS_CONN ≠ 1 →
        ∃ t, exec .getCapabilities s = .next t ∧ t.sec.done = some (false, errMsg 0x04 0) ∧
          t.get R.SEC_FLT_SPDMERR = 1 ∧ t.get R.SEC_SESS_CONN = s.get R.SEC_SESS_CONN ∧ t.kept = s.kept) ∧
      (∀ l, byteAt m 1 = rqAlgs → s.get R.SEC_SESS_CONN = 2 → 32 ≤ m.length → numAt m 4 2 = m.length →
        algStructs m (byteAt m 2) (32 + 4 * (byteAt m 28 + byteAt m 29)) = some l → (byteAt m 6).testBit 0 = true →
        byteAt m 7 &&& 2 ≠ 0 → (numAt m 8 4).testBit 7 = true → (numAt m 12 4).testBit 1 = true → offers l 2 = true →
        offers l 3 = true → offers l 5 = true →
        ∃ t r, exec .negotiateAlgorithms s = .next t ∧ t.sec.done = some (false, r) ∧ t.get R.SEC_SESS_CONN = 3 ∧
          byteAt r 1 = 0x63 ∧ numAt r 12 4 = 0x80 ∧ numAt r 16 4 = 2 ∧ t.kept = s.kept) ∧
      (byteAt m 1 = rqDigests → s.negDone = true → m.length = 4 → s.sec.snapChain ≠ [] →
        ∃ t, exec .getDigests s = .next t ∧
          t.sec.done = some (false, [0x12#8, 0x01#8, 0x00#8, 0x01#8] ++ fit 48 (Config.sha384 s.sec.snapChain)) ∧
          t.regs = s.regs ∧ t.kept = s.kept) ∧
      (byteAt m 1 = rqCert → s.negDone = true → m.length = 8 → byteAt m 2 % 16 = 0 → numAt m 4 2 < s.sec.snapChain.length →
        ∃ t r, exec .getCertificate s = .next t ∧ t.sec.done = some (false, r) ∧ byteAt r 1 = 0x02 ∧
          r.drop 8 = (s.sec.snapChain.drop (numAt m 4 2)).take (min (numAt m 6 2) 4088) ∧ t.regs = s.regs ∧
          t.kept = s.kept) ∧
      (byteAt m 1 = rqChallenge → s.negDone = true → s.sec.snapChain ≠ [] → m.length = 36 → byteAt m 2 = 0 →
        byteAt m 3 = 0 → s.sec.entFail = false →
        ∃ t r, exec .challenge s = .next t ∧ t.sec.done = some (false, r) ∧ byteAt r 1 = 0x03 ∧ r.length = 182 ∧
          t.sec.m1m2 = [] ∧ t.regs = s.regs ∧ t.kept = s.kept) ∧
      (byteAt m 1 = rqMeas → s.negDone = true → m.length = 4 → byteAt m 2 = 0 → byteAt m 3 = 0 → s.sec.entFail = false →
        ∃ t r, exec .getMeasurements s = .next t ∧ t.sec.done = some (false, r) ∧ byteAt r 1 = 0x60 ∧
          byteAt r 2 = 8 ∧ r.length = 42 ∧ t.sec.l1l2 = s.sec.l1l2 ++ m ++ r ∧ t.regs = s.regs ∧ t.kept = s.kept) ∧
      (byteAt m 1 = rqChallenge → s.negDone = false →
        ∃ t, exec .challenge s = .next t ∧ t.sec.done = some (false, errMsg 0x04 0) ∧
          t.get R.SEC_FLT_SPDMERR = 1 ∧ t.kept = s.kept) ∧
      (byteAt m 1 = rqKeyEx → s.sec.snapChain = [] →
        ∃ t, exec .keyExchange s = .next t ∧ t.sec.done = some (false, errMsg 0x04 0) ∧
          t.get R.SEC_FLT_SPDMERR = 1 ∧ t.kept = s.kept) ∧
      (byteAt m 1 ∉ [rqVersion, rqCaps, rqAlgs, rqDigests, rqCert, rqChallenge, rqMeas, rqKeyEx, rqFinish, rqEnd] →
        ∃ t, exec .spdmUnsupported s = .next t ∧ t.sec.done = some (false, errMsg 0x07 (byteAt m 1)) ∧
          t.get R.SEC_FLT_SPDMERR = 1 ∧ t.kept = s.kept ∧ s.framed t [R.SEC_FLT_SPDMERR.key 0]))

/-- A session is formed by KEY_EXCHANGE, established by FINISH, and ended by END_SESSION (R441, R443, R445, R449,
R450). KEY_EXCHANGE with a committed chain, no session and a healthy entropy source leaves a session in handshake;
while one stands it is answered with SessionLimitExceeded, in the clear and in the session. FINISH in the handshake
with the right verify data establishes the session, and with wrong data ends it. END_SESSION in the session is
acknowledged, and its keys go with the response. A secured message that names the session and fails its MAC is
answered in the clear with DecryptError, and DECRYPT_ERROR changes nothing of any other. An answer with which a
direction reaches 65,535 ends the session. Application data of an unknown kind is answered empty and counts in the
direction of the requester. Layouts, the answer to a MAC that fails and the end of the session with wrong verify data
are the model's reading of DSP0274 and DSP0277 (assumption 60). -/
def Obligations.OneSessionIsOpenedAndEnded : Prop :=
  (∀ (s : State) (m : List Byte), s.sec.idReady = true → s.atHand = .clear m → byteAt m 0 = 0x12 → byteAt m 1 = rqKeyEx →
    s.negDone = true → s.sec.snapChain ≠ [] → 138 ≤ m.length → m.length = 138 + numAt m 136 2 → byteAt m 3 = 0 →
    (s.sec.sess = none → byteAt m 2 = 0 → s.sec.entFail = false →
      ∃ t x, exec .keyExchange s = .next t ∧ t.sec.sess = some x ∧ x.established = false ∧
        x.reqSid = numAt m 4 2 ∧ t.get R.SEC_SESS_CONN = 4 ∧ t.get R.SEC_SESS_RSPSID = x.rspSid ∧
        s.framed t [R.SEC_SESS_CONN.key 0]) ∧
    (s.sec.sess ≠ none →
      ∃ t, exec .keyExchange s = .next t ∧ t.sec.done = some (false, errMsg 0x0A 0) ∧ t.kept = s.kept ∧
        t.get R.SEC_FLT_SPDMERR = 1)) ∧
  (∀ (s : State) (m : List Byte) (x : SessS), s.atHand = .data x (0x01#8 :: m) → s.negDone = true → s.sec.snapChain ≠ [] →
    138 ≤ m.length → m.length = 138 + numAt m 136 2 → byteAt m 0 = 0x12 → byteAt m 1 = rqKeyEx →
    ∃ r : Reply, r.1 = errMsg 0x0A 0 ∧ exec .keyExchange s = .next (s.sealReply x 1 r)) ∧
  (∀ (s : State) (p : List Byte) (x : SessS), s.atHand = .data x p → byteAt p 0 ≠ 1 → byteAt p 0 ≠ 2 → x.seqIn + 1 < 65535 →
    ∃ t, exec .spdmUnsupported s = .next t ∧ t.sec.done = some (false, []) ∧
      t.sec.sess = some { x with seqIn := x.seqIn + 1 } ∧ t.get R.SEC_FLT_SPDMERR = 1 ∧ t.sec.key = s.sec.key ∧
      s.framed t [R.SEC_FLT_SPDMERR.key 0]) ∧
  (∀ (s : State) (m : List Byte) (x : SessS), s.atHand = .data x (0x01#8 :: m) → x.established = false →
    byteAt m 0 = 0x12 → byteAt m 1 = rqFinish → m.length = 52 → byteAt m 2 = 0 →
    (bytesAt m 4 48 = fit 48 (Config.finishedMac 0 (x.th ++ m.take 4)) →
      ∃ t y, exec .finish s = .next t ∧ t.sec.sess = some y ∧ y.established = true ∧
        y.rspSid = x.rspSid ∧ t.get R.SEC_SESS_CONN = 5 ∧ t.sec.key = s.sec.key ∧ s.framed t [R.SEC_SESS_CONN.key 0]) ∧
    (bytesAt m 4 48 ≠ fit 48 (Config.finishedMac 0 (x.th ++ m.take 4)) →
      ∃ t, exec .finish s = .next t ∧ t.sec.sess = none ∧ t.sec.key = none ∧ t.sec.done = some (false, errMsg 0x06 0))) ∧
  (∀ (s : State) (m : List Byte) (x : SessS), s.atHand = .data x (0x01#8 :: m) → x.established = true →
    s.get R.SEC_SESS_CONN = 5 → byteAt m 0 = 0x12 → byteAt m 1 = rqEnd → m.length = 4 →
    x.seqIn + 1 < 65535 → x.seqOut + 1 < 65535 →
    ∃ t, exec .endSession s = .next t ∧ t.sec.zeroPend = true ∧ t.sec.done ≠ none ∧ t.regs = s.regs ∧
      t.sec.key = s.sec.key) ∧
  (∀ (s : State) (m : List Byte) (x : SessS), s.atHand = .data x (0x01#8 :: m) → x.established = true → byteAt m 1 = rqMeas →
    2 ≤ m.length → 65535 ≤ x.seqIn + 1 ∨ 65535 ≤ x.seqOut + 1 →
    ∃ t, exec .getMeasurements s = .next t ∧ t.sec.sess = none ∧ t.sec.key = none) ∧
  (∀ s : State, s.atHand = .broken →
    ∃ t, exec .decryptError s = .next t ∧ t.sec.done = some (false, errMsg 0x06 0) ∧ t.sec.sess = none ∧
      t.get R.SEC_FLT_SPDMERR = 1) ∧
  (∀ s : State, s.atHand ≠ .broken → exec .decryptError s = .next s)

/-- A key record is held or refused with its STATUS, a certificate chain is committed or emptied (R438, R451, R452). A
well-formed KEY_RECORD inside the session, with no key held, no debug enabled and its PAIR as the control image's
where one is in use, is held and shown in SEC_KEY; any other shows its STATUS, sets KEYREF, and leaves no key and no
open delivery (that it drops them, and the order of its checks: the model's choice, assumption 80; a PAIR with the
baseline image: assumption 81). CHAIN_CLEAR empties the store; CHAIN_COMMIT of a chain whose length field disagrees
with LEN empties the store with RESULT 3, whose leaf key is not the identity key with RESULT 2, and otherwise holds
the chain with RESULT 1. -/
def Obligations.KeysAndChainsAreTakenOrRefused : Prop :=
  (∀ (s : State) (m : List Byte) (x : SessS), s.atHand = .data x (0x02#8 :: m) → x.established = true →
    (s.keyStatus m = 0 → x.seqIn + 1 < 65535 → x.seqOut + 1 < 65535 →
      ∃ t, exec .keyRecord s = .next t ∧ t.sec.key = some (numAt m 8 4, bytesAt m 12 48, bytesAt m 60 32) ∧
        t.get R.SEC_KEY_HELD = 1 ∧ t.get R.SEC_KEY_LASTST = 0 ∧ s.framed t [R.SEC_KEY_HELD.key 0]) ∧
    (s.keyStatus m ≠ 0 →
      ∃ t, exec .keyRecord s = .next t ∧ t.sec.key = none ∧ t.get R.SEC_KEY_HELD = 0 ∧
        t.get R.SEC_KEY_LASTST = s.keyStatus m ∧ t.get R.SEC_FLT_KEYREF = 1 ∧ t.sec.deliv.opened = false)) ∧
  (∀ (s : State) (m : List Byte), s.sec.dbgReq ≠ 0 → s.keyStatus m = 1) ∧
  (∀ (s : State) (g : Gal), s.rowPasses g R.SEC_CCTL_CLEAR 0 1 →
    ∃ t, exec (.chainClear g) s = .next t ∧ t.get R.SEC_CSTAT_VALID = 0 ∧
      t = { s.okRsp g with regs := t.regs, sec := { s.sec with chain := [], committed := [] } } ∧
      (s.okRsp g).framed t [R.SEC_CSTAT_VALID.key 0]) ∧
  (∀ (s : State) (g : Gal) (c : List Byte), s.rowPasses g R.SEC_CCTL_COMMIT 0 1 →
    c = ((List.range (s.get R.SEC_CCTL_LEN)).map fun k => tabAt s.sec.chain k) →
    (ofLe (bytesAt c 0 2) ≠ s.get R.SEC_CCTL_LEN →
      ∃ t, exec (.chainCommit g) s = .next t ∧ t.get R.SEC_CSTAT_RESULT = 3 ∧ t.get R.SEC_CSTAT_VALID = 0 ∧
        t = { s.okRsp g with regs := t.regs, sec := { s.sec with chain := [], committed := [] } } ∧
        (s.okRsp g).framed t [R.SEC_CSTAT_VALID.key 0]) ∧
    (∀ ok : Prop, ofLe (bytesAt c 0 2) = s.get R.SEC_CCTL_LEN →
      ok = (s.sec.idReady = true ∧ fit 96 (Config.leafKey c) = fit 96 (Config.idPub (s.fuse.getD default).dieId)) →
      ∃ t, exec (.chainCommit g) s = .next t ∧
        (ok → t.get R.SEC_CSTAT_RESULT = 1 ∧ t.get R.SEC_CSTAT_VALID = 1 ∧
          t = { s.okRsp g with regs := t.regs, sec := { s.sec with committed := c } }) ∧
        (¬ok → t.get R.SEC_CSTAT_RESULT = 2 ∧ t.get R.SEC_CSTAT_VALID = 0 ∧ t.sec.committed = []) ∧
        (s.okRsp g).framed t [R.SEC_CSTAT_VALID.key 0]))

/-- A delivery opens under a held key, fails closed, and brings weights only with the right tag and digest (R453,
R452, R223, R232, R346). BEGIN without a key, or while the Forecaster runs, is refused with WREF and its RESULT;
otherwise the delivery opens. WEIGHTS_DATA_WRITE takes four bytes of the stream; a header that the check at its 48th
byte does not pass fails the delivery with RESULT 3; from the first byte of ciphertext on no weights stand; byte LEN
completes the stream. ABORT of an open delivery leaves neither key nor weights, with WFAIL. WEIGHTS_DELIVERY_END with
a wrong tag or digest fails the delivery with RESULT 4 or 5; with both right the key goes and the pairing id shows:
before the control image is applied the image is held, after it an image that passes R346 stands as the weights with
the Forecaster READY, and of any other no weights stand. What the stream decrypts to rests on the model's opaque
AES-256-GCM (assumption 9). -/
def Obligations.WeightsAreDeliveredUnderAKey : Prop :=
  (∀ (s : State) (g : Gal), s.rowPasses g R.SEC_WCTL_BEGIN 0 1 → s.ownsMb g = true → s.sec.deliv.opened = false →
    (s.sec.key = none →
      ∃ t, exec (.begin g) s = .next t ∧ t.get R.SEC_WSTAT_RESULT = 1 ∧ t.get R.SEC_FLT_WREF = 1 ∧
        (s.okRsp g).only t [R.SEC_WSTAT_RESULT.key 0, R.SEC_FLT_WREF.key 0]) ∧
    (s.sec.key ≠ none → s.get R.FCS_STAT_STATE = fcRun →
      ∃ t, exec (.begin g) s = .next t ∧ t.get R.SEC_WSTAT_RESULT = 2 ∧ t.get R.SEC_FLT_WREF = 1 ∧
        (s.okRsp g).only t [R.SEC_WSTAT_RESULT.key 0, R.SEC_FLT_WREF.key 0]) ∧
    (s.sec.key ≠ none → s.get R.FCS_STAT_STATE ≠ fcRun → s.get R.FCS_STAT_STATE ≠ fcReady ∨ s.get R.ORR_CTL_FC_EN = 0 →
      ∃ t, exec (.begin g) s = .next t ∧ t.get R.SEC_WSTAT_STATE = 1 ∧ t.get R.SEC_WSTAT_BYTES = 0 ∧
        t = { s.okRsp g with regs := t.regs, sec := { s.sec with deliv := { opened := true } } } ∧
        (s.okRsp g).framed t [R.SEC_WSTAT_STATE.key 0])) ∧
  (∀ (s : State) (g : Gal) (w : Word) (str : List Byte), s.passes g R.SEC_WDAT_DATA.base w → s.ownsMb g = true →
    s.sec.deliv.opened = true → s.sec.deliv.full = false → str = s.sec.deliv.str ++ leBytes 4 w.toNat →
    (str.length ≠ 48 ∨ s.hdrGood str = true → str.length < 2 ^ 21 →
      ∃ t, exec (.weightsDataWrite g w) s = .next t ∧ t.get R.SEC_WSTAT_BYTES = str.length ∧
        t.sec.deliv = { opened := true, str := str, full := decide (48 < str.length ∧ str.length = numAt str 8 4) } ∧
        t.weights = (if str.length = 52 then [] else s.weights) ∧ t.kept = s.kept ∧
        (s.okRsp g).framed t [R.SEC_WSTAT_BYTES.key 0]) ∧
    (str.length = 48 → s.hdrGood str = false →
      ∃ t, exec (.weightsDataWrite g w) s = .next t ∧ t.sec.deliv.opened = false ∧ t.sec.key = none ∧ t.weights = [] ∧
        t.get R.SEC_WSTAT_STATE = 4 ∧ t.get R.SEC_WSTAT_RESULT = 3 ∧ t.get R.SEC_FLT_WFAIL = 1)) ∧
  (∀ (s : State) (g : Gal), s.rowPasses g R.SEC_WCTL_ABORT 0 1 → s.ownsMb g = true → s.sec.deliv.opened = true →
    ∃ t, exec (.abort g) s = .next t ∧ t.sec.deliv.opened = false ∧ t.sec.key = none ∧ t.weights = [] ∧
      t.get R.SEC_WSTAT_STATE = 4 ∧ t.get R.SEC_WSTAT_RESULT = 6 ∧ t.get R.SEC_FLT_WFAIL = 1 ∧ t.get R.FCS_STAT_STATE = 0 ∧
      (s.okRsp g).framed t [R.SEC_WSTAT_STATE.key 0, R.SEC_FLT_WFAIL.key 0, R.SEC_KEY_HELD.key 0, R.FCS_STAT_STATE.key 0]) ∧
  (∀ (s : State) (p : Nat) (want key : List Byte), s.sec.deliv.opened = true → s.sec.deliv.full = true →
    s.sec.key = some (p, want, key) →
    (plainOf key s.sec.deliv.str = none ∨ fit 48 (Config.sha384 s.sec.deliv.str) ≠ want →
      ∃ t, exec .weightsDeliveryEnd s = .next t ∧ t.sec.deliv.opened = false ∧ t.sec.key = none ∧ t.weights = [] ∧
        t.get R.SEC_WSTAT_STATE = 4 ∧
        t.get R.SEC_WSTAT_RESULT = (if (plainOf key s.sec.deliv.str).isNone = true then 4 else 5) ∧
        t.get R.SEC_FLT_WFAIL = 1) ∧
    (∀ body, plainOf key s.sec.deliv.str = some body → fit 48 (Config.sha384 s.sec.deliv.str) = want →
      (s.dev.imgDone = false →
        ∃ t, exec .weightsDeliveryEnd s = .next t ∧ t.sec.deliv.opened = false ∧ t.sec.key = none ∧
          t.get R.SEC_WSTAT_STATE = 3 ∧ t.get R.SEC_KEY_HELD = 0 ∧
          t.sec.wHeld = some (want, weightsOf s.sec.deliv.str body) ∧
          s.framed t [R.SEC_WSTAT_STATE.key 0, R.SEC_KEY_HELD.key 0, R.FCS_PAIRW_PAIR.key 0]) ∧
      (s.dev.imgDone = true →
        ∃ t, exec .weightsDeliveryEnd s = .next t ∧ t.sec.deliv.opened = false ∧ t.sec.key = none ∧
          t.get R.SEC_WSTAT_STATE = 3 ∧ t.get R.SEC_KEY_HELD = 0 ∧
          t.get R.FCS_PAIRW_PAIR = numAt s.sec.deliv.str 12 4 ∧
          (s.baseline = false → numAt s.sec.deliv.str 12 4 ≠ 0 → numAt s.sec.deliv.str 12 4 = s.get R.FCS_PAIRC_PAIR →
            s.dev.fcdecl = true → s.shapeFits (weightsOf s.sec.deliv.str body) = true →
            t.get R.FCS_STAT_STATE = fcReady ∧ t.sec.wDigest = want ∧
            t.weights = (List.range s.cfg.n).zip (weightsOf s.sec.deliv.str body).sets) ∧
          (s.baseline = true ∨ numAt s.sec.deliv.str 12 4 = 0 ∨ numAt s.sec.deliv.str 12 4 ≠ s.get R.FCS_PAIRC_PAIR ∨
            s.dev.fcdecl = false ∨ s.shapeFits (weightsOf s.sec.deliv.str body) = false →
            t.get R.FCS_STAT_STATE = fcDisabled ∧ t.weights = []))))

/-- Invasive debug is granted at the cost of keys and weights; the TAP answers its instructions (R454, R455, R456,
R457). INV_REQ from gallery 0 or the operator gallery registers a request, after which no weights stand and the
Forecaster is NONE with CAUSE debug; from any other gallery it has no effect. a key record that waits then is answered
with STATUS 0x01. INVASIVE_DEBUG_ENABLED of a request sets INV and DBGEN. While the control complex is powered and not
in cold reset the TAP shows IDCODE in Test-Logic-Reset and acts on its instructions outside it; otherwise nothing of
it changes. EXTEST is taken only while every district is OFF. DBGACC acts only while INV is set; it changes no
register, reads what it wrote to a word of a coefficient set or of no array that the model holds, and neither reads
nor changes a word of the weights array or the key store. Where each word lies is open (Config.sramPlace, assumption
13); that a request registers and is enabled in two steps is assumption 84, and the rest of the TAP's behaviour that
of IEEE 1149.1, assumption 85. -/
def Obligations.DebugCostsTheWeights : Prop :=
  (∀ (s : State) (g : Gal), s.rowPasses g R.SEC_DBG_INV_REQ 0 1 →
    (g = 0 ∨ g = s.get R.SEC_DBG_OPGAL →
      ∃ t, exec (.invReq g) s = .next t ∧ t.sec.dbgReq = s.sec.dbgReq ||| 2 ∧ t.weights = [] ∧
        t.get R.FCS_STAT_STATE = 0 ∧ t.get R.FCS_STAT_CAUSE = 4 ∧ t.sec.deliv.opened = false ∧
        (s.recordAtHand = true → t.get R.SEC_KEY_LASTST = 1 ∧ t.get R.SEC_FLT_KEYREF = 1 ∧ t.sec.done ≠ none)) ∧
    (g ≠ 0 → g ≠ s.get R.SEC_DBG_OPGAL → exec (.invReq g) s = .next (s.okRsp g))) ∧
  (∀ s : State, s.sec.dbgReq ≠ 0 →
    ∃ t, exec .invasiveDebugEnabled s = .next t ∧ t.get R.SEC_DBG_INV = 1 ∧ t.get R.SEC_FLT_DBGEN = 1 ∧
      t.get R.FCS_FLT_DBGZ = 1 ∧ t = { s with regs := t.regs, sec := { s.sec with dbgReq := 0 } } ∧
      s.framed t [R.SEC_DBG_INV.key 0, R.SEC_FLT_DBGEN.key 0, R.FCS_FLT_DBGZ.key 0]) ∧
  (∀ s : State, s.tapLive = true → ∃ t u, exec .testLogicResetExit s = .next t ∧ t.get R.SEC_DBG_TAPACT = 1 ∧ t.dev.tapOut = true ∧
    s.framed t [R.SEC_DBG_TAPACT.key 0] ∧ t = { s with regs := t.regs, dev := { s.dev with tapOut := true } } ∧
    exec .testLogicResetEntry s = .next u ∧ u.get R.SEC_DBG_TAPACT = 0 ∧ s.framed u [R.SEC_DBG_TAPACT.key 0] ∧
    u = { s with regs := u.regs, dev := { s.dev with tapOut := false, tapIr := irIdcode } }) ∧
  (∀ (s : State) (b : Bool) (arr addr : Nat) (v : BitVec 64), s.dev.powered = false ∨ s.dev.cold = true →
    ∀ c ∈ [Instr.testLogicResetExit, .testLogicResetEntry, .idcode, .bypass, .dbgstat, .samplePreload, .extest, .dbgen b,
      .dbgacc b arr addr v], exec c s = .next s) ∧
  (∀ s : State, s.tapOn = true →
    exec .idcode s = .next { s with dev := { s.dev with tapIr := irIdcode, tapDr := s.idcode } } ∧
    exec .bypass s = .next { s with dev := { s.dev with tapIr := irBypass, tapDr := 0 } } ∧
    exec .dbgstat s = .next { s with dev := { s.dev with tapIr := irDbgstat, tapDr := (s.readWord 0 false (s.maskBits 0) 0x3064).toNat } } ∧
    (∃ t, exec .samplePreload s = .next t ∧ t = { s with dev := { s.dev with tapIr := irSample, tapDr := t.dev.tapDr },
                                                         free := s.free + 1 }) ∧
    ((∀ d < s.cfg.n, s.dst d = 0) →
      ∃ t, exec .extest s = .next t ∧ t = { s with dev := { s.dev with tapIr := irExtest, tapDr := t.dev.tapDr },
                                                   free := s.free + 1 }) ∧
    ((∃ d < s.cfg.n, s.dst d ≠ 0) →
      ∃ t, exec .extest s = .next t ∧ t.get R.SEC_FLT_TAPREF = 1 ∧ t.dev.tapIr = irBypass ∧
        s.framed t [R.SEC_FLT_TAPREF.key 0]) ∧
    exec (.dbgen false) s = .next { s with dev := { s.dev with tapIr := irDbgen, tapDr := 0 } } ∧
    (∃ t, exec (.dbgen true) s = .next t ∧ t.sec.dbgReq = s.sec.dbgReq ||| 1 ∧ t.weights = [])) ∧
  (∀ (s : State) (arr addr : Nat) (v : BitVec 64), s.tapOn = true → s.get R.SEC_DBG_INV = 1 →
    ∃ t u, exec (.dbgacc true arr addr v) s = .next t ∧ t.regs = s.regs ∧ t.kept = s.kept ∧ t.weights = s.weights ∧
      exec (.dbgacc false arr addr 0) t = .next u ∧ u = { t with dev := { t.dev with tapDr := u.dev.tapDr } } ∧
      (Config.sramPlace arr addr = .other → u.dev.tapDr = v.toNat ∧ t.coef = s.coef ∧ t.law = s.law) ∧
      (Config.sramPlace arr addr = .excluded → u.dev.tapDr = 0 ∧
        t = { s with dev := { s.dev with tapIr := irDbgacc, tapDr := v.toNat } }) ∧
      (∀ set i r j, Config.sramPlace arr addr = .coef set i r j → (tabGet s.coef set).isSome = true →
        r < ((tabAt s.coef set : CoefSet).mat i).rows.length → j + 4 ≤ (((tabAt s.coef set : CoefSet).mat i).rows.getD r []).length →
        u.dev.tapDr = v.toNat ∧ ∀ k, k ≠ set → (tabAt t.coef k : CoefSet) = tabAt s.coef k)) ∧
  (∀ (s : State) (w : Bool) (arr addr : Nat) (v : BitVec 64), s.tapOn = true → s.get R.SEC_DBG_INV = 0 →
    exec (.dbgacc w arr addr v) s = .next { s with dev := { s.dev with tapIr := irDbgacc, tapDr := 0 } })

/-- A Contrail port opens, aligns, goes down with its reason and retries, as R373 sets (R6, R332, R355, R372, R373,
R374). MODULE_PRESENT and MODULE_ABSENT of a zone with districts follow the module, and absence takes an open port to
RESET; where a reset of the control complex has taken the port out of UP before, the absence reports the departure
after the release (the model's choice, assumption 95). PORT_OPEN at its conditions enters SYNC, ALIGNMENT of an open
port aligns its receiver, which a loss of alignment undoes; in SYNC it sends HELLO as frame 0. The timeout of a state,
the loss of alignment and the link timeout take the port to DOWN with their reason and a count; a loss of alignment
and the link timeout on a port that was UP with a district of its zone not OFF are a departure with its report.
DOWN_RETRY with the module present enters SYNC again, and with the receiver still aligned sends HELLO as frame 0 at
once, in HELLO; a port whose receiver is aligned has no timeout of SYNC. PORT_EN_CLEAR takes the port to RESET. A
command that names no port of the four, and MODULE_PRESENT and MODULE_ABSENT of a zone with no districts, change
nothing (the model's choice for the former, assumption 6). -/
def Obligations.PortsFollowTheirStates : Prop :=
  (∀ (s : State) (p : Nat), p < 4 →
    (s.zoneUsed p = false → exec (.modulePresent p) s = .next s ∧ exec (.moduleAbsent p) s = .next s) ∧
    (s.zoneUsed p = true → ∃ t, exec (.modulePresent p) s = .next t ∧ t.get R.LNK_PSTAT_PRSNT p = 1 ∧ (t.port p).present = true ∧
      t = { s with regs := t.regs, ports := t.ports } ∧ s.framed t [R.LNK_PSTAT_STATE.key p]) ∧
    (s.zoneUsed p = true → s.pst p = lkReset → (s.port p).present = true → (s.port p).unsaid = true → s.dev.released = true →
      (∃ d ∈ s.inZone p, s.dst d ≠ 0) → (srcOf 5 p, clsModloss) ∉ s.flt.masked →
      ∃ t, exec (.moduleAbsent p) s = .next t ∧ (t.port p).present = false ∧ (t.get R.LNK_FLT_DEPART).testBit p = true ∧
        t.flt.lines = s.flt.lines ++ [{ cls := clsModloss, cause := 0, src := srcOf 5 p }] ∧
        s.framed t [R.LNK_PSTAT_STATE.key p, R.LNK_FLT_DEPART.key 0]) ∧
    (s.zoneUsed p = true → s.pst p = lkReset → (s.port p).unsaid = false → ∃ t, exec (.moduleAbsent p) s = .next t ∧ t.get R.LNK_PSTAT_PRSNT p = 0 ∧
      (t.port p).present = false ∧ t = { s with regs := t.regs, ports := t.ports } ∧
      s.framed t [R.LNK_PSTAT_STATE.key p]) ∧
    (s.zoneUsed p = true → s.pst p ≠ lkReset → ∃ t, exec (.moduleAbsent p) s = .next t ∧ t.get R.LNK_PSTAT_PRSNT p = 0 ∧
      t.pst p = lkReset ∧ t.get R.LNK_PSTAT_DOWNR p = dnAbsent ∧ t.zoneLimit p = 0 ∧ t.kept = s.kept ∧
      s.framed t [R.LNK_PSTAT_STATE.key p, R.LNK_FLT_DOWN.key 0] ∧
      (s.pst p ≠ lkUp → t = { s with regs := t.regs, ports := t.ports } ∧ s.framed t [R.LNK_PSTAT_STATE.key p])) ∧
    (s.pst p = lkReset → (s.port p).present = true → s.zoneUsed p = true → s.get R.CLK_STAT_SRC = 1 → s.dev.released = true →
      (s.get R.LNK_CTL_PORT_EN).testBit p = true →
      ∃ t, exec (.portOpen p) s = .next t ∧ t.pst p = lkSync ∧ t.get R.LNK_TRIM_DV p = 0 ∧
        s.only t [R.LNK_PSTAT_STATE.key p, R.LNK_TRIM_DV.key p]) ∧
    ((s.get R.LNK_CTL_PORT_EN).testBit p = false → exec (.portOpen p) s = .next s) ∧
    (s.pst p = lkSync → ∃ t f, exec (.alignment p) s = .next t ∧ t.pst p = lkHello ∧ (t.port p).tx = [f] ∧ f.ty = 0x08 ∧
      f.seq = 0 ∧ (t.port p).rxSeq = 0 ∧ (t.port p).txSeq = 1 ∧ t.get R.LNK_PSTAT_UNACK p = 1 ∧
      t = { s with regs := t.regs, ports := t.ports } ∧ s.framed t [R.LNK_PSTAT_STATE.key p]) ∧
    (s.pst p = lkReset → exec (.alignment p) s = .next s) ∧
    (s.pst p ≠ lkReset → s.pst p ≠ lkSync → ∃ t, exec (.alignment p) s = .next t ∧ (t.port p).aligned = true ∧
      t = { s with ports := t.ports }) ∧
    (s.pst p = lkDown → ∃ t, exec (.alignmentLoss p) s = .next t ∧ (t.port p).aligned = false ∧ t = { s with ports := t.ports }) ∧
    (s.pst p = lkDown → (s.port p).present = true → (s.port p).aligned = false →
      ∃ t, exec (.downRetry p) s = .next t ∧ t.pst p = lkSync ∧
        t.get R.LNK_TRIM_DV p = 0 ∧ s.only t [R.LNK_PSTAT_STATE.key p, R.LNK_TRIM_DV.key p]) ∧
    (s.pst p = lkDown → (s.port p).present = true → (s.port p).aligned = true →
      ∃ t f, exec (.downRetry p) s = .next t ∧ t.pst p = lkHello ∧ t.get R.LNK_TRIM_DV p = 0 ∧ (t.port p).tx = [f] ∧
        f.ty = 0x08 ∧ f.seq = 0 ∧ (t.port p).rxSeq = 0 ∧ (t.port p).txSeq = 1 ∧ (t.port p).aligned = true ∧
        t = { s with regs := t.regs, ports := t.ports } ∧ s.framed t [R.LNK_PSTAT_STATE.key p, R.LNK_TRIM_DV.key p]) ∧
    ((s.port p).aligned = true → exec (.linkSyncTimeout p) s = .next s)) ∧
  (∀ (s : State) (p st reason : Nat) (c : Instr), p < 4 →
    (c, st, reason) ∈ [(Instr.linkSyncTimeout p, lkSync, dnSync), (.helloTimeout p, lkHello, dnHello),
      (.capsTimeout p, lkCaps, dnCaps), (.alignmentLoss p, lkSync, dnAlign), (.alignmentLoss p, lkHello, dnAlign),
      (.alignmentLoss p, lkCaps, dnAlign), (.linkTimeout p, lkHello, dnLink), (.linkTimeout p, lkCaps, dnLink)] →
    s.pst p = st → st ≠ lkSync ∨ (s.port p).aligned = false →
    ∃ t, exec c s = .next t ∧ t.pst p = lkDown ∧ t.get R.LNK_PSTAT_DOWNR p = reason ∧ (t.port p).tx = [] ∧
      t.get R.LNK_CNT1_DOWNS p = satU 16 (s.get R.LNK_CNT1_DOWNS p + 1) ∧
      (t.get R.LNK_FLT_DOWN).testBit p = true ∧ t = { s with regs := t.regs, ports := t.ports } ∧
      s.framed t [R.LNK_PSTAT_STATE.key p, R.LNK_CNT1_DOWNS.key p, R.LNK_FLT_DOWN.key 0]) ∧
  (∀ (s : State) (p reason : Nat) (c : Instr), p < 4 →
    (c, reason) ∈ [(Instr.alignmentLoss p, dnAlign), (.linkTimeout p, dnLink)] → s.pst p = lkUp →
    (∃ d ∈ s.inZone p, s.dst d ≠ 0) → (srcOf 5 p, clsModloss) ∉ s.flt.masked →
    ∃ t, exec c s = .next t ∧ t.pst p = lkDown ∧ t.get R.LNK_PSTAT_DOWNR p = reason ∧ t.zoneLimit p = 0 ∧
      (t.get R.LNK_FLT_DEPART).testBit p = true ∧
      t.flt.lines = s.flt.lines ++ [{ cls := clsModloss, cause := 1, src := srcOf 5 p }] ∧
      s.framed t [R.LNK_PSTAT_STATE.key p, R.LNK_CNT1_DOWNS.key p, R.LNK_FLT_DOWN.key 0]) ∧
  (∀ (s : State) (g : Gal) (p : Nat), p < 4 → (s.get R.LNK_CTL_PORT_EN).testBit p = true →
    s.rowPasses g R.LNK_CTL_PORT_EN 0 (s.get R.LNK_CTL_PORT_EN - 2 ^ p) → s.pst p ≠ lkReset →
    ∃ t, exec (.portEnClear g p) s = .next t ∧ (t.get R.LNK_CTL_PORT_EN).testBit p = false ∧ t.pst p = lkReset ∧
      t.get R.LNK_PSTAT_DOWNR p = dnPortEn ∧ t.kept = s.kept ∧
      (s.okRsp g).framed t [R.LNK_PSTAT_STATE.key p, R.LNK_CTL_PORT_EN.key 0, R.LNK_FLT_DOWN.key 0] ∧
      (s.pst p ≠ lkUp → t = { s.okRsp g with regs := t.regs, ports := t.ports })) ∧
  (∀ (s : State) (p : Nat), 4 ≤ p →
    ∀ c ∈ [Instr.modulePresent p, .moduleAbsent p, .portOpen p, .alignment p, .alignmentLoss p, .linkSyncTimeout p,
      .helloTimeout p, .capsTimeout p, .downRetry p, .linkTimeout p], exec c s = .next s)

/-- The link layer accepts frames in order, answers for others, and sends again what is not acknowledged (R356, R357,
R358, R359, R360, R361, R362). On a port that receives: a discarded frame is counted and answered by one NAK, and by
another only 2,000 ns after it; the bytes of a frame that does not pass its checks are discarded; a good frame that
carries the expected number is accepted and acknowledged, moves the expected number on, and delivers its message,
which has the effect of the row of that message; one of a type that no module sends is counted and ignored; a HELLO is
taken whatever its number; a repeated frame is acknowledged again and not delivered; a frame out of order is answered
by a NAK and not delivered. ACK of the oldest frame releases it. RETRANSMIT_TIMEOUT and NAK send frames again and
count them, and after eight repeats take the port down. KEEPALIVE_SEND sends a frame. Each frame is sent with the
bytes of R356 and R357. Otherwise nothing is received but a HELLO in SYNC or DOWN, while the receiver is aligned,
which is acknowledged and starts both directions anew, and the port stays. What a port receives in each state is the
model's reading (assumption 93). -/
def Obligations.FramesAreAcknowledgedInOrder : Prop :=
  (∀ (s : State) (p : Nat), p < 4 → s.receives p = true →
    (∀ ns, (s.port p).nakOut = false ∨ 2000 ≤ ns →
      ∃ t, exec (.frameDiscard p ns) s = .next t ∧ (t.port p).wire = ctlBytes false (s.port p).rxSeq ∧ t.get R.LNK_CNT0_CRCERR p = satU 16 (s.get R.LNK_CNT0_CRCERR p + 1) ∧
        (t.port p).ctl = some (false, (s.port p).rxSeq) ∧ (t.port p).nakOut = true ∧ (t.port p).rxSeq = (s.port p).rxSeq ∧
        t = { s with regs := t.regs, ports := t.ports } ∧ s.framed t [R.LNK_CNT0_CRCERR.key p]) ∧
    (∀ ns, (s.port p).nakOut = true → ns < 2000 →
      ∃ t, exec (.frameDiscard p ns) s = .next t ∧ t.get R.LNK_CNT0_CRCERR p = satU 16 (s.get R.LNK_CNT0_CRCERR p + 1) ∧
        t.port p = s.port p ∧ t = { s with regs := t.regs, ports := t.ports } ∧ s.framed t [R.LNK_CNT0_CRCERR.key p]) ∧
    (∀ (b : List Byte) (ns : Nat), parseFrame b = none → exec (.frameReceive p b ns) s = exec (.frameDiscard p ns) s) ∧
    (∀ (b pay : List Byte) (ns ty sq : Nat), parseFrame b = some (ty, sq, pay) →
      (ty = 0x08 → exec (.frameReceive p b ns) s = exec (.hello p pay) s) ∧
      (sq = (s.port p).rxSeq → ∀ c, (ty, c) ∈ [(0x09, Instr.caps p pay), (0x0B, .telem p pay), (0x0C, .alert p pay),
        (0x0F, .bye p pay)] → exec (.frameReceive p b ns) s = exec c s) ∧
      (sq = (s.port p).rxSeq → ty = 0x0E → ∃ t, exec (.frameReceive p b ns) s = .next t ∧
        (t.port p).rxSeq = (sq + 1) % 32 ∧ (t.port p).ctl = some (true, sq) ∧ (t.port p).wire = ctlBytes true sq ∧
        (t.port p).nakOut = false ∧ (t.port p).lastAck = some sq ∧ t = { s with ports := t.ports }) ∧
      (sq = (s.port p).rxSeq → ty ∉ [0x01, 0x02, 0x08, 0x09, 0x0B, 0x0C, 0x0E, 0x0F] →
        ∃ t, exec (.frameReceive p b ns) s = .next t ∧ (t.port p).rxSeq = (sq + 1) % 32 ∧
          (t.port p).ctl = some (true, sq) ∧ t.get R.LNK_CNT1_IGN p = satU 16 (s.get R.LNK_CNT1_IGN p + 1) ∧
          t = { s with regs := t.regs, ports := t.ports } ∧ s.framed t [R.LNK_CNT1_IGN.key p]) ∧
      (sq = (s.port p).rxSeq → ty = 0x0B → s.pst p ≠ lkHello → 16 ≤ pay.length →
        ∃ t, exec (.frameReceive p b ns) s = .next t ∧ (t.port p).rxSeq = (sq + 1) % 32 ∧
          (t.port p).ctl = some (true, sq) ∧ t.get R.LNK_TEL0_VOUT p = payU16 pay 4 ∧
          (t.port p).telNew = some (payU16 pay 4) ∧ t = { s with regs := t.regs, ports := t.ports } ∧
          s.framed t [R.LNK_TEL0_VOUT.key p, R.LNK_TEL1_VIN.key p, R.LNK_TEL2_IIN.key p])) ∧
    (∃ t, exec (.keepalive p) s = .next t ∧ (t.port p).wire = ctlBytes true (s.port p).rxSeq ∧ (t.port p).rxSeq = ((s.port p).rxSeq + 1) % 32 ∧
      (t.port p).ctl = some (true, (s.port p).rxSeq) ∧ (t.port p).nakOut = false ∧ (t.port p).tx = (s.port p).tx ∧
      t = { s with ports := t.ports }) ∧
    (∀ (b pay : List Byte) (ns ty sq : Nat), parseFrame b = some (ty, sq, pay) → ty ∉ [0x01, 0x02, 0x08] →
      (s.port p).rxSeq < 32 → sq ≠ (s.port p).rxSeq →
      (((s.port p).rxSeq + 32 - sq) % 32 ≤ 16 →
        ∃ t, exec (.frameReceive p b ns) s = .next t ∧ (t.port p).rxSeq = (s.port p).rxSeq ∧
          (∀ n, (s.port p).lastAck = some n → (t.port p).ctl = some (true, n) ∧ (t.port p).wire = ctlBytes true n) ∧
          ((s.port p).lastAck = none → t.port p = s.port p) ∧ t = { s with ports := t.ports }) ∧
      (16 < ((s.port p).rxSeq + 32 - sq) % 32 → (s.port p).nakOut = false ∨ 2000 ≤ ns →
        ∃ t, exec (.frameReceive p b ns) s = .next t ∧ (t.port p).rxSeq = (s.port p).rxSeq ∧
          (t.port p).ctl = some (false, (s.port p).rxSeq) ∧ t = { s with ports := t.ports })) ∧
    (∀ (f : TxFrame) (r : List TxFrame), (s.port p).tx = f :: r → (s.port p).waiting = [] →
      ∃ t, exec (.ack p f.seq) s = .next t ∧ (t.port p).tx = r ∧ t.get R.LNK_PSTAT_UNACK p = r.length % 32 ∧
        t = { s with regs := t.regs, ports := t.ports } ∧ s.framed t [R.LNK_PSTAT_UNACK.key p]) ∧
    (∀ f : TxFrame, (s.port p).tx = [f] → f.tries < 8 → ∀ c ∈ [Instr.retransmitTimeout p, .nak p f.seq],
      ∃ t, exec c s = .next t ∧ (t.port p).tx = [{ f with tries := f.tries + 1 }] ∧
        (t.port p).wire = frameBytes f.ty f.seq false true (f.pay.map (BitVec.ofNat 8)) ∧
        t.get R.LNK_CNT0_RTX p = satU 16 (s.get R.LNK_CNT0_RTX p + 1) ∧
        t = { s with regs := t.regs, ports := t.ports } ∧ s.framed t [R.LNK_CNT0_RTX.key p]) ∧
    (∀ f : TxFrame, (s.port p).tx = [f] → 8 ≤ f.tries → ∀ c ∈ [Instr.retransmitTimeout p, .nak p f.seq],
      ∃ t, exec c s = .next t ∧ t.pst p = lkDown ∧ t.get R.LNK_PSTAT_DOWNR p = dnRetry ∧ t.kept = s.kept) ∧
    ((s.port p).waiting = [] → (s.port p).tx.length < 16 →
      ∃ t f, exec (.keepaliveSend p) s = .next t ∧ (t.port p).tx = (s.port p).tx ++ [f] ∧ f.ty = 0x0E ∧
        f.seq = (s.port p).txSeq ∧ (t.port p).wire = frameBytes 0x0E f.seq false false [] ∧ (t.port p).txSeq = ((s.port p).txSeq + 1) % 32 ∧
        t = { s with regs := t.regs, ports := t.ports } ∧ s.framed t [R.LNK_PSTAT_UNACK.key p])) ∧
  (∀ (s : State) (p : Nat), p < 4 → s.receives p = false →
    (∀ (n ns : Nat) (pay : List Byte), ∀ c ∈ [Instr.frameDiscard p ns, .ack p n, .nak p n, .caps p pay, .telem p pay,
      .alert p pay, .keepalive p, .bye p pay, .keepaliveSend p], exec c s = .next s) ∧
    (∀ (b : List Byte) (ns : Nat), (∀ x, parseFrame b ≠ some (0x08, x)) → exec (.frameReceive p b ns) s = .next s) ∧
    (∀ pay : List Byte, (s.pst p ≠ lkSync ∧ s.pst p ≠ lkDown) ∨ (s.port p).aligned = false →
      exec (.hello p pay) s = .next s) ∧
    (∀ pay : List Byte, s.pst p = lkSync ∨ s.pst p = lkDown → (s.port p).aligned = true → 8 ≤ pay.length → pay.length ≤ 32 →
      ∃ t, exec (.hello p pay) s = .next t ∧ t.pst p = s.pst p ∧ (t.port p).rxSeq = 1 ∧ (t.port p).ctl = some (true, 0) ∧
        (t.port p).txSeq = 0 ∧ (t.port p).tx = [] ∧ t.get R.LNK_ID_ID p = ofLe (bytesAt pay 4 4) ∧
        t = { s with regs := t.regs, ports := t.ports } ∧ s.framed t [R.LNK_PSTAT_STATE.key p, R.LNK_ID_ID.key p]))

/-- Each message of a module has the effect that its table gives it (R364, R366, R368, R369, R370, R371, R373, R376,
R377, R311). On an aligned port: HELLO of version 1 in HELLO takes the port to CAPS with the module's version and
identity; of another version to DOWN. CAPS in CAPS takes it to UP with the module's limits where a VFEED target
remains, and to DOWN with reason range where none does. TELEM in UP loads its registers. ALERT loads its registers and
sets its bit. BYE takes the port to DOWN, with reason BYE unless it crosses one of Korrath's. TELEM_STALE of a zone
with districts, in whatever state of its port, sets TELSTALE and takes 1.600 V from the next die period boundary. A
message that a port in HELLO does not expect is counted and ignored. TRIM_DISABLE clears TRIM_EN. LINK_ACTIVITY_WAKE
ends SLEEP, with DEV_REQ rewritten to RUN. -/
def Obligations.MessagesOfTheModuleTakeEffect : Prop :=
  (∀ (s : State) (p : Nat) (pay : List Byte), p < 4 → pay.length ≤ 32 → (s.port p).aligned = true →
    (s.pst p = lkHello → 8 ≤ pay.length → (pay.getD 0 0).toNat = 1 →
      ∃ t, exec (.hello p pay) s = .next t ∧ t.pst p = lkCaps ∧ t.get R.LNK_PSTAT_PMAJ p = 1 ∧
        t.get R.LNK_PSTAT_PMIN p = (pay.getD 1 0).toNat ∧ t.get R.LNK_ID_ID p = ofLe (bytesAt pay 4 4) ∧
        (t.port p).rxSeq = 1 ∧ (t.port p).ctl = some (true, 0) ∧ t = { s with regs := t.regs, ports := t.ports } ∧
        s.framed t [R.LNK_PSTAT_STATE.key p, R.LNK_ID_ID.key p]) ∧
    (s.pst p = lkHello → 8 ≤ pay.length → (pay.getD 0 0).toNat ≠ 1 →
      ∃ t, exec (.hello p pay) s = .next t ∧ t.pst p = lkDown ∧ t.get R.LNK_PSTAT_DOWNR p = dnVersion ∧
        (t.port p).bye = some 4 ∧ t.kept = s.kept) ∧
    (s.pst p = lkCaps → 12 ≤ pay.length → max (payU16 pay 2) 0x1A90 ≤ min (payU16 pay 4) 0x1DB0 →
      ∃ t, exec (.caps p pay) s = .next t ∧ t.pst p = lkUp ∧ t.get R.LNK_CAPS0_ILIM p = payU16 pay 0 ∧
        t.get R.LNK_CAPS1_VMIN p = payU16 pay 2 ∧ t.get R.LNK_CAPS1_VMAX p = payU16 pay 4 ∧ (t.port p).capsNew = true ∧
        t = { s with regs := t.regs, ports := t.ports } ∧
        s.framed t [R.LNK_PSTAT_STATE.key p, R.LNK_CAPS0_ILIM.key p, R.LNK_CAPS1_VMIN.key p, R.LNK_FLT_CAPSLOW.key 0]) ∧
    (s.pst p = lkCaps → 12 ≤ pay.length → min (payU16 pay 4) 0x1DB0 < max (payU16 pay 2) 0x1A90 →
      ∃ t, exec (.caps p pay) s = .next t ∧ t.pst p = lkDown ∧ t.get R.LNK_PSTAT_DOWNR p = dnRange ∧ t.kept = s.kept) ∧
    (s.pst p = lkUp → 16 ≤ pay.length →
      ∃ t, exec (.telem p pay) s = .next t ∧ t.get R.LNK_TEL0_VOUT p = payU16 pay 4 ∧
        t.get R.LNK_TEL0_IOUT p = payU16 pay 6 ∧ t.get R.LNK_TEL1_VIN p = payU16 pay 0 ∧
        t.get R.LNK_TEL1_STAT p = payU16 pay 10 ∧ t.get R.LNK_TEL2_IIN p = payU16 pay 2 ∧
        t.get R.LNK_TEL2_TMOD p = payU16 pay 8 ∧ (t.port p).telNew = some (payU16 pay 4) ∧ (t.port p).stale = false ∧
        t = { s with regs := t.regs, ports := t.ports } ∧
        s.framed t [R.LNK_TEL0_VOUT.key p, R.LNK_TEL1_VIN.key p, R.LNK_TEL2_IIN.key p]) ∧
    (s.pst p = lkUp → 4 ≤ pay.length → (pay.getD 0 0).toNat.testBit 0 = false → (pay.getD 0 0).toNat.testBit 4 = false →
      (pay.getD 1 0).toNat < 2 → s.get R.ADC_CTL_ALERT_EN = 0 →
      ∃ t, exec (.alert p pay) s = .next t ∧ t.get R.LNK_ALERT_CODE p = (pay.getD 0 0).toNat ∧
        t.get R.LNK_ALERT_SEV p = (pay.getD 1 0).toNat ∧ t.get R.LNK_ALERT_TIME p = payU16 pay 2 ∧
        (t.get R.LNK_FLT_ALERT).testBit p = true ∧ t.pst p = lkUp ∧ t.kept = s.kept) ∧
    (s.pst p = lkUp ∨ s.pst p = lkCaps → 2 ≤ pay.length →
      ∃ t, exec (.bye p pay) s = .next t ∧ t.pst p = lkDown ∧ t.kept = s.kept ∧
        ((s.port p).bye = none → t.get R.LNK_PSTAT_DOWNR p = dnBye) ∧
        ((s.port p).bye ≠ none → t.get R.LNK_PSTAT_DOWNR p = s.get R.LNK_PSTAT_DOWNR p ∧ t.flt = s.flt)) ∧
    (s.pst p = lkHello → 12 ≤ pay.length →
      ∃ t, exec (.caps p pay) s = .next t ∧ t.pst p = lkHello ∧
        t.get R.LNK_CNT1_IGN p = satU 16 (s.get R.LNK_CNT1_IGN p + 1) ∧ t = { s with regs := t.regs, ports := t.ports } ∧
        s.framed t [R.LNK_CNT1_IGN.key p])) ∧
  (∀ (s : State) (p : Nat), p < 4 → s.zoneUsed p = true →
    ∃ t, exec (.telemStale p) s = .next t ∧ (t.get R.LNK_FLT_TELSTALE).testBit p = true ∧ (t.port p).telNew = some 6400 ∧
      (t.port p).stale = true ∧
      t = { s with regs := t.regs, ports := t.ports } ∧ s.framed t [R.LNK_FLT_TELSTALE.key 0]) ∧
  (∀ (s : State) (g : Gal), s.rowPasses g R.LNK_CTL_TRIM_EN 0 0 → s.get R.LNK_CTL_TRIM_EN = 1 →
    ∃ t, exec (.trimDisable g) s = .next t ∧ t.get R.LNK_CTL_TRIM_EN = 0 ∧ t.kept = s.kept) ∧
  (∀ (s : State) (p : Nat), p < 4 → s.zoneUsed p = true → s.get R.PWR_WAKE_LNK_EN = 1 → s.devSt = devSleep →
    s.dev.entry = 0 →
    ∃ t, exec (.linkActivityWake p) s = .next t ∧ t.devSt = devBoot ∧ t.get R.PWR_STAT_WSRC = wakeLink ∧
      t.get R.PWR_STAT_WLNK = 2 ^ p ∧ t.dev.wakeDue = true ∧ t.get R.PWR_CTL_DEV_REQ = 0 ∧ t.kept = s.kept ∧
      s.framed t [R.PWR_STAT_WSRC.key 0, R.PWR_CTL_DEV_REQ.key 0])

/-- A switching cycle measures the output and forms the demand of a cell that switches (R62, R64, R65, R66, R82). In
RUN and CURRENT mode, with Thunderhead of the district neither FIRED nor in its taper, the demand of a cycle is the
command in mA plus its limited trim, clamped to the limit of the active phases; in LOCAL mode it is 1000 times the
distance of the output from the local reference, plus the integral, clamped alike, where the integral was not just
loaded. While FIRED it is the limit. PH_ACT shows the active set. A phase whose share of the demand lies below its
current at the turn-on edge stays off, any other is on for 0.40 ns to 9.00 ns. A cell that does not switch only
measures, and in HICCUP counts its off time down. No register but those of the cell changes. That the integral of a
demand ends before its own cycle (assumption 105), what ends an on-time at exactly 9.00 ns and what holds the integral
(assumption 139), and that a cell beyond the configuration changes nothing (assumption 6) are the model's choices. -/
def Obligations.SwitchingCyclesFollowTheDemand : Prop :=
  (∀ (s : State) (c v f : Nat) (obs : List PhaseObs), c < 16 * s.cfg.n → s.cst c = cRun ∨ s.cst c = cSoft →
    ∃ t, exec (.switchingCycle c v f obs) s = .next t ∧ (t.cell c).vcell = v ∧ t.get R.CEL_STAT_PH_ACT c = (s.cell c).act % 16 ∧
      t.cst c = s.cst c ∧ (∀ e, e ≠ c → t.cell e = s.cell e) ∧
      t = { s with regs := t.regs, cells := t.cells, phases := t.phases } ∧ s.framed t [R.CEL_STAT_STATE.key c]) ∧
  (∀ (s : State) (c v f : Nat) (obs : List PhaseObs), c < 16 * s.cfg.n → s.cst c = cRun → s.get R.CEL_STAT_LOCAL c = 0 →
    s.thSt (c / 16) ≠ 2 → (tabAt s.hub (c / 16) : HubS).taper = 0 →
    ∃ t, exec (.switchingCycle c v f obs) s = .next t ∧
      (t.cell c).dem = clampTo 0 (56000 * (popN 4 (s.cell c).act : Int)) (40 * (s.get R.CEL_CUR_I_CMD c : Int) +
        clampTo (-400 * ((s.cell c).trimMax : Int)) (400 * ((s.cell c).trimMax : Int))
          (10 * ((s.cell c).gTrim : Int) * (((s.cell c).vref : Int) - (v : Int))))) ∧
  (∀ (s : State) (c v f : Nat) (obs : List PhaseObs), c < 16 * s.cfg.n → s.get R.CEL_STAT_LOCAL c = 1 →
    s.cst c = cSoft ∨ (s.cst c = cRun ∧ s.thSt (c / 16) ≠ 2 ∧ (tabAt s.hub (c / 16) : HubS).taper = 0) →
    (s.cell c).loadInteg = false →
    ∃ t, exec (.switchingCycle c v f obs) s = .next t ∧
      (t.cell c).dem = clampTo 0 (56000 * (popN 4 (s.cell c).act : Int))
        (1000 * ((s.cell c).vloc - 5 * (v : Int)) + (s.cell c).integ)) ∧
  (∀ (dem : Int) (n : Nat) (o : PhaseObs),
    (dem < 40 * (n : Int) * o.start → (phaseRun dem n o).onTime = 0 ∧ (phaseRun dem n o).stop = o.start) ∧
    (40 * (n : Int) * o.start ≤ dem → 400 ≤ (phaseRun dem n o).onTime ∧ (phaseRun dem n o).onTime ≤ 9000)) ∧
  (∀ (s : State) (c v f : Nat) (obs : List PhaseObs), c < 16 * s.cfg.n → s.cst c = cRun → s.thSt (c / 16) = 2 →
    ∃ t, exec (.switchingCycle c v f obs) s = .next t ∧ (t.cell c).dem = 56000 * (popN 4 (s.cell c).act : Int)) ∧
  (∀ (s : State) (c v f : Nat) (obs : List PhaseObs), c < 16 * s.cfg.n → s.cst c ≠ cRun → s.cst c ≠ cSoft →
    exec (.switchingCycle c v f obs) s = .next (s.updCell c fun x =>
      { x with vcell := v, offCnt := if s.cst c = cHiccup then x.offCnt - 1 else x.offCnt })) ∧
  (∀ (s : State) (c v f : Nat) (obs : List PhaseObs), 16 * s.cfg.n ≤ c →
    exec (.switchingCycle c v f obs) s = .next s)

/-- A start order leads through soft start to RUN, a stop order to OFF (R71, R73, R75, R76, R80). CELL_START_ORDER on
a cell that is OFF and has a phase to use begins a soft start where it may act, and is held where it may not; of a
cell without a phase to use it is refused; CELL_HELD_START begins a held one once it may act. SOFTSTART_COMPLETE of a
cell that has met its target makes it available. CELL_STOP_ORDER opens every switch and leaves the cell OFF.
CLEAN_WINDOW_CLOSE clears the hiccup count. No register but those of the cell and the event word of its page changes.
-/
def Obligations.CellsStartAndStopOnOrders : Prop :=
  ∀ (s : State) (c : Nat), c < 16 * s.cfg.n →
    (∀ v, (s.cell c).startSent = some v → s.cst c = cOff → s.startable c = true → s.mayStart c = true →
      ∃ t, exec (.cellStartOrder c) s = .next t ∧ t.cst c = cSoft ∧ t.get R.CEL_STAT_LOCAL c = 1 ∧
        t.get R.CEL_STAT_AVAIL c = 0 ∧ (t.cell c).target = v ∧ (t.cell c).start = v ∧ (t.cell c).ordered = true ∧ (t.cell c).startSent = none ∧
        t = { s with regs := t.regs, cells := t.cells } ∧
        s.framed t [R.CEL_STAT_STATE.key c, R.CEL_CUR_I_CMD.key c, R.CEL_FLT_DRZBAD.key (c / 16)]) ∧
    (∀ v, (s.cell c).startSent = some v → s.cst c = cOff → s.startable c = true → s.mayStart c = false →
      exec (.cellStartOrder c) s = .next ((s.updCell c fun x => { x with startSent := none, ordered := true, start := v }).updCell
        c fun x => { x with held := true })) ∧
    (∀ v, (s.cell c).startSent = some v → s.cst c = cOff → s.startable c = false →
      ∃ t, exec (.cellStartOrder c) s = .next t ∧ t.cst c = cOff ∧ (t.cell c).ordered = false ∧ t = { s with cells := t.cells }) ∧
    ((s.cell c).startSent = none → exec (.cellStartOrder c) s = .next s) ∧
    (s.cst c = cOff → (s.cell c).held = true → s.mayStart c = true → s.startable c = true →
      ∃ t, exec (.cellHeldStart c) s = .next t ∧ t.cst c = cSoft ∧ (t.cell c).held = false ∧
        t = { s with regs := t.regs, cells := t.cells } ∧
        s.framed t [R.CEL_STAT_STATE.key c, R.CEL_CUR_I_CMD.key c, R.CEL_FLT_DRZBAD.key (c / 16)]) ∧
    (s.cst c = cSoft → (s.cell c).ssDone = true → (s.cell c).shortCnt ≤ 200 →
      ∃ t, exec (.softstartComplete c) s = .next t ∧ t.cst c = cRun ∧ t.avail c = true ∧ t.get R.CEL_STAT_AVAIL c = 1 ∧
        (t.cell c).window = 1000 ∧ t = { s with regs := t.regs, cells := t.cells } ∧
        s.framed t [R.CEL_STAT_STATE.key c]) ∧
    ((s.cell c).stopSent = true → s.cst c = cRun ∨ s.cst c = cSoft ∨ s.cst c = cHiccup →
      ∃ t, exec (.cellStopOrder c) s = .next t ∧ t.cst c = cOff ∧ t.get R.CEL_STAT_PH_ACT c = 0 ∧
        t.get R.CEL_STAT_HIC_CNT c = s.get R.CEL_STAT_HIC_CNT c ∧ (t.cell c).act = 0 ∧ (t.cell c).ordered = false ∧
        t = { s with regs := t.regs, cells := t.cells, phases := t.phases } ∧
        s.framed t [R.CEL_STAT_STATE.key c, R.CEL_CUR_I_CMD.key c]) ∧
    (s.cst c = cRun → (s.cell c).winOpen = true → (s.cell c).window = 0 →
      ∃ t, exec (.cleanWindowClose c) s = .next t ∧ t.get R.CEL_STAT_HIC_CNT c = 0 ∧ (t.cell c).winOpen = false ∧
        t = { s with regs := t.regs, cells := t.cells } ∧ s.framed t [R.CEL_STAT_STATE.key c])

/-- A trigger opens the switches for 2,000 cycles, and the ninth fails the cell (R77, R81, R82, R83, R87, R406).
CELL_HICCUP at HIC_N limited cycles, SOFTSTART_SHORT beyond 200 short cycles and SOFTSTART_TIMEOUT at the end of its
time take the cell with fewer than 8 hiccups counted to HICCUP with their cause, one more counted, every switch open,
2,000 cycles of off time and a report; at 8 counted to FAILED. HICCUP_END begins a soft start only once the off time
is over. -/
def Obligations.HiccupsOpenTheSwitches : Prop :=
  ∀ (s : State) (c : Nat), c < 16 * s.cfg.n → (srcOf 1 c, clsCell) ∉ s.flt.masked →
    (∀ (x : Instr) (k : Nat),
      (x = .cellHiccup c ∧ k = 1 ∧ s.cst c = cRun ∧ (s.cell c).hicN ≤ (s.cell c).limCnt) ∨
      (x = .softstartShort c ∧ k = 2 ∧ s.cst c = cSoft ∧ 200 < (s.cell c).shortCnt) ∨
      (x = .softstartTimeout c ∧ k = 3 ∧ s.cst c = cSoft ∧ (s.cell c).ssLeft = 0 ∧ (s.cell c).ssDone = false) →
      (s.get R.CEL_STAT_HIC_CNT c < 8 →
        ∃ t, exec x s = .next t ∧ t.cst c = cHiccup ∧ t.get R.CEL_STAT_PH_ACT c = 0 ∧ t.get R.CEL_STAT_AVAIL c = 0 ∧
          t.get R.CEL_STAT_HIC_CNT c = s.get R.CEL_STAT_HIC_CNT c + 1 ∧ t.get R.CEL_STAT_LAST_CAUSE c = k ∧
          (t.cell c).offCnt = 2000 ∧ (t.cell c).act = 0 ∧ (t.get R.CEL_FLT_CELEV (c / 16)).testBit (c % 16) = true ∧
          t.flt.lines = s.flt.lines ++ [{ cls := clsCell, cause := 0x20 + k, src := srcOf 1 c }] ∧ t.kept = s.kept ∧
          s.framed t [R.CEL_STAT_STATE.key c, R.CEL_CUR_I_CMD.key c, R.CEL_FLT_CELEV.key (c / 16)]) ∧
      (s.get R.CEL_STAT_HIC_CNT c = 8 →
        ∃ t, exec x s = .next t ∧ t.cst c = cFailed ∧ t.get R.CEL_STAT_PH_ACT c = 0 ∧ t.get R.CEL_STAT_AVAIL c = 0 ∧
          t.get R.CEL_STAT_LAST_CAUSE c = k ∧
          t.flt.lines = s.flt.lines ++ [{ cls := clsCell, cause := 0x30 + k, src := srcOf 1 c }] ∧ t.kept = s.kept ∧
          s.framed t [R.CEL_STAT_STATE.key c, R.CEL_CUR_I_CMD.key c, R.CEL_FLT_CELEV.key (c / 16)])) ∧
    (s.cst c = cHiccup → (s.cell c).offCnt ≠ 0 → exec (.hiccupEnd c) s = .next s) ∧
    (s.cst c = cHiccup → (s.cell c).offCnt = 0 → (s.cell c).ordered = true → s.get R.CEL_SYNC_LOCK (c / 16) = 1 →
      ∃ t, exec (.hiccupEnd c) s = .next t ∧ t.cst c = cSoft ∧ t.get R.CEL_STAT_LOCAL c = 1 ∧
        t = { s with regs := t.regs, cells := t.cells } ∧
        s.framed t [R.CEL_STAT_STATE.key c, R.CEL_CUR_I_CMD.key c, R.CEL_FLT_DRZBAD.key (c / 16)])

/-- Drizzle sheds the last phase of the set, and a phase that fails its checks is removed for good (R78, R79, R80,
R84, R85, R86). DRIZZLE_SHED of a cell in RUN whose count is complete leaves the first phases in the order 0, 2, 1, 3,
one fewer; without its condition it changes nothing. PHASE_REMOVAL of a phase with a completed failure count marks it
failed with its cause and reports it; the cell goes on while another phase is good, be it held off by PH_DIS or not,
and fails with the last good one. -/
def Obligations.PhasesAreShedAndRemoved : Prop :=
  (∀ (s : State) (c : Nat), c < 16 * s.cfg.n → s.cst c = cRun → (s.cell c).drzEn = true → s.drzOk c = true →
    (s.cell c).shed = 16 → 1 < popN 4 (s.cell c).act →
    ∃ t, exec (.drizzleShed c) s = .next t ∧
      (t.cell c).act = firstActive (popN 4 (s.cell c).act - 1) (s.usable c) ∧ (t.cell c).shed = 0 ∧
      t = { s with cells := t.cells, phases := t.phases }) ∧
  (∀ (s : State) (c : Nat), c < 16 * s.cfg.n → s.cst c ≠ cRun ∨ (s.cell c).drzEn = false ∨ s.drzOk c = false ∨
      (s.cell c).shed ≠ 16 ∨ popN 4 (s.cell c).act ≤ 1 →
    exec (.drizzleShed c) s = .next s) ∧
  (∀ (s : State) (c p : Nat), c < 16 * s.cfg.n → p < 4 → s.cst c = cRun ∨ s.cst c = cSoft →
    (tabAt s.phases (4 * c + p) : PhaseS).done ≠ 0 → (tabAt s.phases (4 * c + p) : PhaseS).done < 4 →
    (s.good c).testBit p = true → (srcOf 1 c, clsCell) ∉ s.flt.masked →
    ((∃ q < 4, q ≠ p ∧ (s.good c).testBit q = true) →
      ∃ t, exec (.phaseRemoval c p) s = .next t ∧ (t.get R.CEL_STAT_PH_FAIL c).testBit p = true ∧ t.cst c = s.cst c ∧
        t.get { R.CEL_PH_CAUSE0 with lo := 2 * p } c = (tabAt s.phases (4 * c + p) : PhaseS).done ∧
        t.flt.lines = s.flt.lines ++ [{ cls := clsCell, cause := 0x10 + p, src := srcOf 1 c }] ∧ t.kept = s.kept ∧
        s.framed t [R.CEL_STAT_STATE.key c, R.CEL_PH_CAUSE0.key c, R.CEL_FLT_CELEV.key (c / 16)]) ∧
    ((∀ q < 4, q ≠ p → (s.good c).testBit q = false) →
      ∃ t, exec (.phaseRemoval c p) s = .next t ∧ t.cst c = cFailed ∧ t.get R.CEL_STAT_LAST_CAUSE c = 4 ∧
        t.kept = s.kept)) ∧
  (∀ (s : State) (c p : Nat), c < 16 * s.cfg.n → (tabAt s.phases (4 * c + p) : PhaseS).done = 0 →
    exec (.phaseRemoval c p) s = .next s)

/-- The delay-locked line of a district locks, holds over and returns (R69, R72). DLL_LOCK sets LOCK and clears
HOLDOVER. SYNC_HOLDOVER of a locked line clears LOCK, sets HOLDOVER and SYNCLOSS and reports. SYNC_RETURN in holdover
sets LOCK again and changes no switching state but how far the phases have drifted. The position at which a phase
turns on lies within one switching period. -/
def Obligations.CellsKeepTheirPhaseToSync : Prop :=
  (∀ (s : State) (d : Nat), d < s.cfg.n →
    (∃ t, exec (.dllLock d) s = .next t ∧ t.get R.CEL_SYNC_LOCK d = 1 ∧ t.get R.CEL_SYNC_HOLDOVER d = 0 ∧
      s.only t [R.CEL_SYNC_LOCK.key d]) ∧
    (s.get R.CEL_SYNC_LOCK d = 1 → (srcOf 9 (0x100 + d), clsSync) ∉ s.flt.masked →
      ∃ t, exec (.syncHoldover d) s = .next t ∧ t.get R.CEL_SYNC_LOCK d = 0 ∧ t.get R.CEL_SYNC_HOLDOVER d = 1 ∧
        t.get R.CEL_FLT_SYNCLOSS d = 1 ∧
        t = { s with regs := t.regs, flt := { s.flt with
          lines := s.flt.lines ++ [{ cls := clsSync, cause := 0, src := srcOf 9 (0x100 + d) }] } } ∧
        s.framed t [R.CEL_SYNC_LOCK.key d, R.CEL_FLT_SYNCLOSS.key d]) ∧
    (s.get R.CEL_SYNC_LOCK d = 0 → exec (.syncHoldover d) s = .next s) ∧
    (s.get R.CEL_SYNC_HOLDOVER d = 1 →
      ∃ t, exec (.syncReturn d) s = .next t ∧ t.get R.CEL_SYNC_LOCK d = 1 ∧ t.get R.CEL_SYNC_HOLDOVER d = 0 ∧
        (∀ c, { t.cell c with drift := 0 } = { s.cell c with drift := 0 }) ∧
        t = { s with regs := t.regs, cells := t.cells, free := s.free + 1 } ∧ s.framed t [R.CEL_SYNC_LOCK.key d])) ∧
  (∀ skew ilv p : Nat, position skew ilv p < 64 ∧ position skew ilv (p + 4) = position skew ilv p)

/-- A hub sample takes the minimum of the valid sensors, and a suspect sensor leaves it until it is readmitted (R131,
R132, R133, R134, R17). HUB_SAMPLE holds the hub minimum of its sample, adds it to the sums of the die period and
keeps its least. SENSOR_SUSPECT of a sensor that has met a condition for its count marks it, sets SUSP and reports it;
of another it changes nothing. SENSOR_READMIT clears the marks of the suspect sensors that its data names and restarts
their counts, and the counts of no other; SENSOR_RETIRE_WRITE stores the retirements and changes nothing else until
the boundary. That a third register of the pair, and a district beyond the configuration, change nothing is the
model's choice (assumption 6). -/
def Obligations.SensorsAreSampledMarkedAndRetired : Prop :=
  (∀ (s : State) (d : Nat) (codes vst vloc : List Nat) (vfeed : Nat), d < s.cfg.n →
    ∃ t, exec (.hubSample d codes vst vloc vfeed) s = .next t ∧ (t.hubOf d).min = s.hubMin d codes ∧
      (t.hubOf d).sum = (s.hubOf d).sum + s.hubMin d codes ∧ (t.hubOf d).cnt = (s.hubOf d).cnt + 1 ∧
      (t.hubOf d).low = min (s.hubOf d).low (s.hubMin d codes) ∧ (t.hubOf d).droop = codes ∧
      (∀ e, e ≠ d → t.hubOf e = s.hubOf e) ∧ t.kept = s.kept) ∧
  (∀ (s : State) (d k : Nat), d < s.cfg.n → k < 64 → (s.hubOf d).suspectDue k = true → s.retired d k = false →
    s.suspect d k = false → (srcOf 2 d, clsSensor) ∉ s.flt.masked →
    ∃ t, exec (.sensorSuspect d k) s = .next t ∧ t.suspect d k = true ∧ t.get R.DST_FLT_SUSP d = 1 ∧
      (∀ j, j ≠ k → j < 64 → t.suspect d j = s.suspect d j) ∧
      t = { s with regs := t.regs, hub := t.hub, flt := { s.flt with
        lines := s.flt.lines ++ [{ cls := clsSensor, cause := 0, src := srcOf 2 d }] } } ∧
      s.framed t [R.DST_SSUSP0_SUSP.key d, R.DST_SSUSP1_SUSP.key d, R.DST_FLT_SUSP.key d]) ∧
  (∀ (s : State) (d k : Nat), d < s.cfg.n → (s.hubOf d).suspectDue k = false → exec (.sensorSuspect d k) s = .next s) ∧
  (∀ (s : State) (g : Gal) (d j : Nat) (w : Word), d < s.cfg.n → j < 2 → s.passes g ((suspFld j).addr d) w →
    ∃ t, exec (.sensorReadmit g d j w) s = .next t ∧
      (∀ k < 32, t.suspect d (32 * j + k) = (s.suspect d (32 * j + k) && !w.getLsbD k)) ∧
      ((∀ k < 32, w.getLsbD k = true → s.suspect d (32 * j + k) = false) → t.hubOf d = s.hubOf d) ∧
      t = { s.okRsp g with regs := t.regs, hub := t.hub } ∧ (s.okRsp g).framed t [(suspFld j).key d]) ∧
  (∀ (s : State) (g : Gal) (d j : Nat) (w : Word), d < s.cfg.n → j < 2 → s.passes g ((retFld j).addr d) w →
    ∃ t, exec (.sensorRetireWrite g d j w) s = .next t ∧ t.get (retFld j) d = w.toNat ∧
      (s.okRsp g).only t [(retFld j).key d]) ∧
  (∀ (s : State) (g : Gal) (d j : Nat) (w : Word), 2 ≤ j →
    exec (.sensorReadmit g d j w) s = .next s ∧ exec (.sensorRetireWrite g d j w) s = .next s) ∧
  (∀ (s : State) (d k : Nat) (codes vst vloc : List Nat) (vfeed : Nat), s.cfg.n ≤ d →
    exec (.hubSample d codes vst vloc vfeed) s = .next s ∧ exec (.sensorSuspect d k) s = .next s)

/-- Thunderhead fires on depth, forces no longer than MAXHOLD, tapers and arms again (R154, R155, R156, R157, R158,
R159, R160). A HUB_SAMPLE of a district in ARMED or TAPER at the conditions of R156 whose minimum lies below TRIP
fires: STATE, the depth bit of SRC, FIRES and THFIRE. One of a DISARMED district at those conditions arms it; one of
any other that has lost them disarms it, and out of FIRED also restarts the count of exits. THUNDERHEAD_MAXHOLD of a
FIRED district at its time counts the exit and enters TAPER, or at the storm count DISARMED with a report. TAPER_END
at the end of the taper arms it again. -/
def Obligations.ThunderheadFiresAndReturns : Prop :=
  (∀ (s : State) (d : Nat) (codes vst vloc : List Nat) (vfeed : Nat), d < s.cfg.n → s.thSt d = thArmed ∨ s.thSt d = thTaper →
    s.armOk d = true → s.hubMin d codes < s.get R.DST_TH_STAT_TRIP d →
    ∃ t, exec (.hubSample d codes vst vloc vfeed) s = .next t ∧ t.thSt d = thFired ∧
      (t.get R.DST_TH_STAT_SRC d).testBit 0 = true ∧ t.get R.DST_FLT_THFIRE d = 1 ∧
      t.get R.DST_TH_CNT_FIRES d = satU 16 (s.get R.DST_TH_CNT_FIRES d + 1) ∧ t.kept = s.kept) ∧
  (∀ (s : State) (d : Nat) (codes vst vloc : List Nat) (vfeed : Nat), d < s.cfg.n → s.thSt d = thDisarmed → s.armOk d = true →
    ∃ t, exec (.hubSample d codes vst vloc vfeed) s = .next t ∧ t.thSt d = thArmed ∧ t.kept = s.kept) ∧
  (∀ (s : State) (d : Nat) (codes vst vloc : List Nat) (vfeed : Nat), d < s.cfg.n → s.thSt d ≠ thDisarmed → s.armOk d = false →
    ∃ t, exec (.hubSample d codes vst vloc vfeed) s = .next t ∧ t.thSt d = thDisarmed ∧
      (s.thSt d = thFired → (t.hubOf d).storm = 0) ∧ t.kept = s.kept) ∧
  (∀ (s : State) (d : Nat), d < s.cfg.n → s.thSt d = thFired → 2 * s.get R.DST_TH_TIME_MAXHOLD d ≤ (s.hubOf d).fireCnt →
    (s.hubOf d).storm + 1 < s.get R.DST_TH_TIME_STORM d →
    ∃ t, exec (.thunderheadMaxhold d) s = .next t ∧ t.thSt d = thTaper ∧ t.get R.DST_FLT_THMAX d = 1 ∧
      t.get R.DST_TH_CNT_MAXEXIT d = satU 16 (s.get R.DST_TH_CNT_MAXEXIT d + 1) ∧
      (t.hubOf d).taper = s.get R.DST_TH_TIME_TAPER d ∧ (t.hubOf d).storm = (s.hubOf d).storm + 1 ∧ t.kept = s.kept) ∧
  (∀ (s : State) (d : Nat), d < s.cfg.n → s.thSt d = thFired → 2 * s.get R.DST_TH_TIME_MAXHOLD d ≤ (s.hubOf d).fireCnt →
    s.get R.DST_TH_TIME_STORM d ≤ (s.hubOf d).storm + 1 → (srcOf 2 d, clsStorm) ∉ s.flt.masked →
    ∃ t, exec (.thunderheadMaxhold d) s = .next t ∧ t.thSt d = thDisarmed ∧ t.get R.DST_TH_STAT_STORMD d = 1 ∧
      t.flt.lines = s.flt.lines ++ [{ cls := clsStorm, cause := 0, src := srcOf 2 d }] ∧ t.kept = s.kept) ∧
  (∀ (s : State) (d : Nat), d < s.cfg.n → s.thSt d ≠ thFired → exec (.thunderheadMaxhold d) s = .next s) ∧
  (∀ (s : State) (d : Nat), d < s.cfg.n → s.thSt d = thTaper → (s.hubOf d).taper = 0 →
    ∃ t, exec (.taperEnd d) s = .next t ∧ t.thSt d = thArmed ∧ s.only t [R.DST_TH_STAT_STATE.key d])

/-- An anvil cell charges, releases, recharges and fails by its table, and a VFEED excursion is reported (R42, R164,
R165, R166, R167, R168, R336). ANVIL_CHARGED of a charging or recharging cell within 20 mV of VFEED makes it READY
with its bit of ANV_RDY; a HUB_SAMPLE at which the district fires starts the release of a READY one that ANV_EN names,
unless that sample fails it, and already forms its current, from TRIP and SPAN; one while it releases and the district
stays below TRIP forms it again; ANVIL_RELEASE_END of a releasing one at 40 ns, at its floor, or out of FIRED starts
its recharge with LASTLEN at most 40 ns; ANVIL_LEAK_RECHARGE of a READY one whose leak count is complete recharges it;
ANVIL_CHARGE_TIMEOUT of one that charges for CHG_TMO fails it with its events and report. Short of its condition none
changes anything. VFEED_EXCURSION of a started zone is reported once the control complex is released, and before makes
the zone wait for VFEED. That the current follows the rail from sample to sample (assumption 118) and how it is
rounded (assumption 140) are the model's choices. -/
def Obligations.AnvilCellsChargeReleaseAndFail : Prop :=
  (∀ (s : State) (a : Nat), a < 4 * s.cfg.n →
    (∀ vst vfeed, s.ast a = aCharging ∨ s.ast a = aRecharge → vfeed ≤ vst + 80 →
      ∃ t, exec (.anvilCharged a vst vfeed) s = .next t ∧ t.ast a = aReady ∧
        (t.get R.DST_TH_STAT_ANV_RDY (a / 4)).testBit (a % 4) = true ∧ t = { s with regs := t.regs, anv := t.anv } ∧
        s.framed t [R.ANV_STAT_STATE.key a, R.DST_TH_STAT_ANV_RDY.key (a / 4)]) ∧
    (∀ vst vfeed, (s.ast a ≠ aCharging ∧ s.ast a ≠ aRecharge) ∨ vst + 80 < vfeed →
      exec (.anvilCharged a vst vfeed) s = .next s) ∧
    (∀ ns vst, s.ast a = aRelease → (tabAt s.anv a : AnvS).relNs ≤ ns → ns ≤ (tabAt s.anv a : AnvS).relNs + 5 →
      40 ≤ ns ∨ vst ≤ s.anvFloor a ∨ s.thSt (a / 4) ≠ thFired →
      ∃ t, exec (.anvilReleaseEnd a ns vst) s = .next t ∧ t.ast a = aRecharge ∧ t.get R.ANV_STAT_LASTLEN a = min ns 40 ∧
        (t.get R.DST_TH_STAT_ANV_RDY (a / 4)).testBit (a % 4) = false ∧ t = { s with regs := t.regs, anv := t.anv } ∧
        s.framed t [R.ANV_STAT_STATE.key a, R.DST_TH_STAT_ANV_RDY.key (a / 4)]) ∧
    (∀ ns vst, s.ast a ≠ aRelease ∨ (ns < 40 ∧ s.anvFloor a < vst ∧ s.thSt (a / 4) = thFired) →
      exec (.anvilReleaseEnd a ns vst) s = .next s) ∧
    (s.ast a = aReady → (tabAt s.anv a : AnvS).leak = 200 →
      ∃ t, exec (.anvilLeakRecharge a) s = .next t ∧ t.ast a = aRecharge ∧ t = { s with regs := t.regs, anv := t.anv } ∧
        s.framed t [R.ANV_STAT_STATE.key a, R.DST_TH_STAT_ANV_RDY.key (a / 4)]) ∧
    (s.ast a = aCharging ∨ s.ast a = aRecharge → 2 * s.get R.ANV_CFG_CHG_TMO ≤ (tabAt s.anv a : AnvS).chg →
      (srcOf 3 a, clsAnvil) ∉ s.flt.masked →
      ∃ t, exec (.anvilChargeTimeout a) s = .next t ∧ t.ast a = aFailed ∧ t.get R.ANV_FLT_ANVFAIL = 1 ∧
        t.get R.DST_FLT_ANVFAIL (a / 4) = 1 ∧
        t.flt.lines = s.flt.lines ++ [{ cls := clsAnvil, cause := 0, src := srcOf 3 a }] ∧ t.kept = s.kept ∧
        s.framed t [R.ANV_STAT_STATE.key a, R.DST_TH_STAT_ANV_RDY.key (a / 4), R.ANV_FLT_ANVFAIL.key 0,
          R.DST_FLT_ANVFAIL.key (a / 4)]) ∧
    ((s.ast a ≠ aCharging ∧ s.ast a ≠ aRecharge) ∨ (tabAt s.anv a : AnvS).chg < 2 * s.get R.ANV_CFG_CHG_TMO →
      exec (.anvilChargeTimeout a) s = .next s)) ∧
  (∀ (s : State) (d k : Nat) (codes vst vloc : List Nat) (vfeed : Nat), d < s.cfg.n → k < 4 → s.ast (4 * d + k) = aRelease →
    s.thSt d = thFired → s.armOk d = true → s.hubMin d codes < s.get R.DST_TH_STAT_TRIP d →
    ∃ t, exec (.hubSample d codes vst vloc vfeed) s = .next t ∧ t.ast (4 * d + k) = aRelease ∧
      (tabAt t.anv (4 * d + k) : AnvS).cur =
        anvCurrent (s.get R.DST_TH_STAT_TRIP d) (s.get R.ANV_CFG_SPAN) (vloc.getD k 0 : Nat) ∧ t.kept = s.kept) ∧
  (∀ (s : State) (d k : Nat) (codes vst vloc : List Nat) (vfeed : Nat), d < s.cfg.n → k < 4 → s.ast (4 * d + k) = aReady →
    (s.get R.DST_TH_TIME_ANV_EN d).testBit k = true →
    (tabAt s.anv (4 * d + k) : AnvS).win.foldl max 0 < vst.getD k 0 + 800 → s.thSt d = thArmed ∨ s.thSt d = thTaper →
    s.armOk d = true → s.hubMin d codes < s.get R.DST_TH_STAT_TRIP d →
    ∃ t, exec (.hubSample d codes vst vloc vfeed) s = .next t ∧ t.ast (4 * d + k) = aRelease ∧
      (tabAt t.anv (4 * d + k) : AnvS).cur =
        anvCurrent (s.get R.DST_TH_STAT_TRIP d) (s.get R.ANV_CFG_SPAN) (vloc.getD k 0 : Nat) ∧ t.kept = s.kept) ∧
  (∀ (s : State) (d : Nat), d < s.cfg.n → s.dev.hubs.testBit (s.zoneOf d) = true →
    (s.dev.released = true → (srcOf 12 d, clsVfeed) ∉ s.flt.masked →
      ∃ t, exec (.vfeedExcursion d) s = .next t ∧ t.regs = s.regs ∧ t.kept = s.kept ∧
        t.flt.lines = s.flt.lines ++ [{ cls := clsVfeed, cause := 0, src := srcOf 12 d }]) ∧
    (s.dev.released = false →
      ∃ t, exec (.vfeedExcursion d) s = .next t ∧ t.regs = s.regs ∧ t.flt.lines = s.flt.lines ∧
        t.dev = { s.dev with feedWait := s.dev.feedWait ||| 2 ^ (s.zoneOf d) } ∧ t.kept = s.kept))

/-- A posted forecast is registered or dropped, takes its turn, is scanned, and barrier forecasts are slotted together
(R178, R179, R180, R182, R183, R192, R117, R121, R206, R208, R209, R210). FORECAST_POST without a credit sets NOCRED
and changes nothing else. Otherwise the forecast becomes the last pending entry of its queue with its edge and t_ref,
the queue expects the next number, and it takes its place in admission order by its edge and queue number, marked
FORMAT where R179 says so; a barrier forecast of an initialised queue that meets a free record opens it.
ADMISSION_ISSUE of the forecast whose turn it is issues its scan, which an armed injection strikes; out of turn it
changes nothing. SCAN_COMPLETE (flags and counter of a failed check: assumption 111) passes a scan whose residues
agree; one in which an element of the two vectors was changed by no multiple of 7, or which an injection struck, is
repeated once and then fails. SUNRISE_SLOTTING of a closed barrier with one participant, whose scans no upset strikes,
books it at T0 and its offset where the ledger and the zone allow it, refuses it with ZONE where only the zone forbids
it, and with STATE where its district admits none; T0 is the 32nd slot of its close or, where the device has come out
of DOZE since, not before the first slot that can be booked after the return (assumption 138). BARRIER_TIMEOUT refuses
the participant with BARRIER and frees the record; before its time it changes nothing. -/
def Obligations.ForecastsAreRegisteredScannedAndSlotted : Prop :=
  (∀ (s : State) (q : Nat) (f : BitVec 64) (e : Nat), q < 256 * s.cfg.n → s.storeRuns = true →
    (s.q q).ents.length + (s.q q).infl = 8 →
    ∃ t, exec (.forecastPost q f e) s = .next t ∧ t.get R.GQ_FLT_NOCRED = 1 ∧ s.only t [R.GQ_FLT_NOCRED.key 0]) ∧
  (∀ (s : State) (q : Nat) (f : BitVec 64) (e : Nat), q < 256 * s.cfg.n → s.storeRuns = true →
    (s.q q).ents.length + (s.q q).infl ≠ 8 → s.get R.PWR_WAKE_FCW_EN = 0 ∨ (s.dev.entry = 0 ∧ s.devSt = devRun) →
    ∃ t x, exec (.forecastPost q f e) s = .next t ∧ (t.q q).ents = (s.q q).ents ++ [x] ∧ x.fc = f.toNat ∧ x.edge = e ∧
      x.tref = slotAt e ∧ x.decided = none ∧ (t.q q).nextSeq = (fcSeq f.toNat + 1) % 256 ∧ (t.q q).out = (s.q q).out ∧
      (∀ r, r ≠ q → t.q r = s.q r) ∧ t = { s with queues := t.queues, adm := t.adm } ∧
      (fcSeq f.toNat ≠ (s.q q).nextSeq ∨ fcBadFormat f.toNat = true →
        x.pre = some whyFormat ∧ x.st = .waiting ∧ t.adm = { s.adm with order := putInOrder e q s.adm.order }) ∧
      (fcSeq f.toNat = (s.q q).nextSeq → fcBadFormat f.toNat = false → fcBar f.toNat = false →
        x.pre = none ∧ x.st = .waiting ∧ t.adm = { s.adm with order := putInOrder e q s.adm.order }) ∧
      (fcSeq f.toNat = (s.q q).nextSeq → fcBadFormat f.toNat = false → fcBar f.toNat = true → s.admits (q / 256) = true →
        (s.q q).inited = true → (s.bar (fcBid f.toNat)).st = .free →
        x.pre = none ∧ x.st = .barrier ∧ t.adm.order = s.adm.order ∧
        (t.bar (fcBid f.toNat)).st = (if fcBcnt f.toNat = 1 then BarSt.closed else BarSt.opened) ∧
        (t.bar (fcBid f.toNat)).arrived = 1 ∧ (t.bar (fcBid f.toNat)).firstSlot = slotAt e ∧
        (t.bar (fcBid f.toNat)).bcnt = fcBcnt f.toNat)) ∧
  (∀ (s : State) (q : Nat), q < 256 * s.cfg.n → s.nextIssue ≠ some q → exec (.admissionIssue q) s = .next s) ∧
  (∀ (s : State) (q p : Nat), q < 256 * s.cfg.n → s.nextTurn = some (p, q) → s.adm.inflight.length < 12 → s.devSt ≠ devDoze →
    ∃ t hit, exec (.admissionIssue q) s = .next t ∧
      (hit = true ↔ s.get R.ORR_INJ_ARM = 1 ∧ s.get R.ORR_INJ_STAGE = 0xC ∧ s.get R.ORR_INJ_DIST = q / 256 ∧
        s.get R.ORR_INJ_KIND ≠ 0) ∧
      (hit = true → t.get R.ORR_INJ_ARM = 0) ∧
      (t.q q).ents = updFirst .waiting (fun x => { x with st := .issued, retry := false, inj := hit }) (s.q q).ents ∧
      t.adm = { s.adm with order := s.adm.order.erase (p, q), inflight := s.adm.inflight ++ [q] } ∧
      (∀ r, r ≠ q → t.q r = s.q r) ∧ t = { s with regs := t.regs, queues := t.queues, adm := t.adm } ∧
      s.framed t [R.ORR_INJ_ARM.key 0] ∧ (s.get R.ORR_INJ_ARM = 0 → t.regs = s.regs)) ∧
  (∀ (s : State) (q at_ : Nat) (delta : Int) (e : Ent), q < 256 * s.cfg.n →
    (s.q q).ents.find? (fun x => x.st == .issued) = some e →
    (e.inj = false → delta % 7 = 0 →
      ∃ t, exec (.scanComplete q at_ delta) s = .next t ∧
        (t.q q).ents = updFirst .issued (fun x => { x with st := .scanned, ups := (at_, delta) }) (s.q q).ents ∧
        t = { s with regs := t.regs, queues := t.queues } ∧ s.framed t [R.ORR_FLT_SCANFLT.key 0]) ∧
    (e.inj = true ∨ (delta % 7 ≠ 0 ∧ at_ < 512) →
      ∃ t, exec (.scanComplete q at_ delta) s = .next t ∧ t.get R.ORR_FLT_SCANFLT = 1 ∧ t.get R.ORR_FLT_RES = 1 ∧
        (e.retry = false →
          (t.q q).ents = updFirst .issued (fun x => { x with retry := true, inj := false }) (s.q q).ents) ∧
        (e.retry = true → (t.q q).ents = updFirst .issued (fun x => { x with st := .failed }) (s.q q).ents) ∧
        t.adm = s.adm ∧ t.kept = s.kept ∧
        s.framed t [R.ORR_FLT_SCANFLT.key 0, R.ORR_CNT1_RES.key 0, R.ORR_ERRLOC_VALID.key 0])) ∧
  (∀ (s : State) (b d q : Nat) (e : Ent), b < 64 → (s.bar b).st = .closed → s.devSt ≠ devDoze → d < s.cfg.n →
    q / 256 = d → s.zoneOf d < 4 → (s.q q).ents = [e] → s.participants b d = [(q, e)] →
    (∀ k < s.cfg.n, k ≠ d → s.participants b k = []) → (s.bk d).grants.length < 1024 → s.get R.ORR_INJ_ARM = 0 →
    ∀ (ups : List ScanUp) (t0 : Nat) (off : Nat → Nat), (∀ u ∈ ups, u.delta = 0) → t0 = max (slotAt ((s.bar b).closeEdge + 200)) (slotAt (s.adm.back + 60)) →
    (∀ r, off r = t0 + min 63 (((fcDelta e.fc).toNat + r - 1) / r - 1)) →
    (s.admits d = false →
      ∃ t, exec (.sunriseSlotting b ups) s = .next t ∧ (t.bar b).st = .booked ∧ (t.q q).ents = [] ∧
        (t.q q).out = (s.q q).out ++ (refuseWord e.fc whyState, some (s.bar b).closeEdge) ::
          e.after.map (fun v => (v, none)) ∧ t.book = s.book ∧ t.kept = s.kept) ∧
    (s.admits d = true → s.trial d [((q, e), off (s.get R.GQ_SUN_RAMP))] = true → (fcDelta e.fc).toNat ≤ s.zoneLeft b (s.zoneOf d) →
      ∃ t g, exec (.sunriseSlotting b ups) s = .next t ∧ (t.bar b).st = .booked ∧ (t.bar b).t0 = t0 ∧ (t.q q).ents = [] ∧
        (t.q q).out = (s.q q).out ++ (rspWord stGranted 0 (fcSeq e.fc) (s.bk d).freeGid (off (s.get R.GQ_SUN_RAMP) - e.tref),
          some (s.bar b).closeEdge) :: e.after.map (fun v => (v, none)) ∧
        (t.bk d).grants = (s.bk d).grants ++ [g] ∧ g.start = off (s.get R.GQ_SUN_RAMP) ∧ g.dur = fcDur e.fc ∧
        g.d = fcDelta e.fc ∧ g.queue = q ∧ t.kept = s.kept) ∧
    (s.admits d = true → (∀ r ∈ ([s.get R.GQ_SUN_RAMP, max 1 (s.get R.GQ_SUN_RAMP / 2), max 1 (s.get R.GQ_SUN_RAMP / 4)] : List Nat),
        s.trial d [((q, e), off r)] = true) → s.zoneLeft b (s.zoneOf d) < (fcDelta e.fc).toNat →
      ∃ t, exec (.sunriseSlotting b ups) s = .next t ∧ (t.bar b).st = .booked ∧ (t.q q).ents = [] ∧
        (t.q q).out = (s.q q).out ++ (refuseWord e.fc whyZone, some (s.bar b).closeEdge) ::
          e.after.map (fun v => (v, none)) ∧ t.book = s.book ∧ t.kept = s.kept)) ∧
  (∀ (s : State) (b : Nat), b < 64 → s.dev.slot < (s.bar b).firstSlot + s.get R.GQ_SUN_TMO →
    exec (.barrierTimeout b) s = .next s) ∧
  (∀ (s : State) (b d q : Nat) (e : Ent), b < 64 → (s.bar b).st = .opened →
    (s.bar b).firstSlot + s.get R.GQ_SUN_TMO ≤ s.dev.slot → d < s.cfg.n → q / 256 = d → (s.q q).ents = [e] →
    s.participants b d = [(q, e)] → (∀ k < s.cfg.n, k ≠ d → s.participants b k = []) →
    ∃ t, exec (.barrierTimeout b) s = .next t ∧ (t.bar b).st = .free ∧ t.get R.GQ_FLT_BARTMO = 1 ∧ (t.q q).ents = [] ∧
      (t.q q).out = (s.q q).out ++ (refuseWord e.fc whyBarrier, some (slotEdge s.dev.slot)) ::
        e.after.map (fun v => (v, none)) ∧ t.book = s.book ∧ t.kept = s.kept)

/-- The decision answers a forecast GRANTED, DEFERRED or REFUSED, and responses, INIT, a flush and an expiry do what
the spec says (R179, R181, R182, R184, R185, R187, R195, R201, R202, R210, R211, R212). ADMISSION_DECISION of the only
entry of the queue whose scan is next is answered REFUSED with FORMAT, STATE (also ahead of the INIT of its queue:
assumption 150), BARRIER, TABLE or CHECK in this order, GRANTED with START = LEAD for an announced fall, GRANTED at
the requested start where it fits, DEFERRED at the first start that fits, and otherwise REFUSED with CAPACITY, ZONE or
CAP; a grant takes the lowest free identifier. RESPONSE_DELIVERY moves the next word to the fabric and shows its
latency. INIT_NOTICE to an empty queue sends INIT and expects number 0. GQ_FLUSH refuses the undecided entries with
STATE and makes INIT due. GQ_CNT_CLR clears the counts. GRANT_EXPIRY frees an unobserved grant after its time, once
the observation of the same edge has gone first (R202); before, and a consumed one, it leaves. -/
def Obligations.ForecastsAreDecidedAndAnswered : Prop :=
  (∀ (s : State) (q edge : Nat) (e : Ent) (r : List Nat), q < 256 * s.cfg.n → s.adm.inflight = q :: r →
    s.devSt ≠ devDoze → (s.q q).ents = [e] → isHead e = true →
    (∀ why, (e.pre = some whyFormat ∧ why = whyFormat) ∨
      (e.pre ≠ some whyFormat ∧ (s.admits (q / 256) = false ∨ (s.q q).inited = false ∨ e.pre = some whyState) ∧
        why = whyState) ∨
      (e.pre = some whyBarrier ∧ s.admits (q / 256) = true ∧ (s.q q).inited = true ∧ why = whyBarrier) ∨
      (e.pre = none ∧ s.admits (q / 256) = true ∧ (s.q q).inited = true ∧ 1024 ≤ (s.bk (q / 256)).grants.length ∧ why = whyTable) ∨
      (e.pre = none ∧ s.admits (q / 256) = true ∧ (s.q q).inited = true ∧ (s.bk (q / 256)).grants.length < 1024 ∧
        e.st = .failed ∧ why = whyCheck) →
      ∃ t, exec (.admissionDecision q edge) s = .next t ∧ t.adm = { s.adm with inflight := r } ∧ (t.q q).ents = [] ∧
        (t.q q).out = (s.q q).out ++ (refuseWord e.fc why, some e.edge) :: e.after.map (fun v => (v, none)) ∧
        t.get R.GQ_QCNT0_REFUSED q = satU R.GQ_QCNT0_REFUSED.w (s.get R.GQ_QCNT0_REFUSED q + 1) ∧
        t = { s with regs := t.regs, queues := t.queues, adm := t.adm } ∧
        s.framed t [R.GQ_QCNT0_REFUSED.key q, R.GQ_FLT_FMT.key 0]) ∧
    (e.pre = none → s.admits (q / 256) = true → (s.q q).inited = true → (s.bk (q / 256)).grants.length < 1024 →
      e.st = .scanned →
      (fcDelta e.fc < 0 →
        ∃ t g, exec (.admissionDecision q edge) s = .next t ∧ (t.q q).ents = [] ∧
          (t.q q).out = (s.q q).out ++ (rspWord stGranted 0 (fcSeq e.fc) (s.bk (q / 256)).freeGid (fcLead e.fc), some e.edge) ::
            e.after.map (fun v => (v, none)) ∧ (t.bk (q / 256)).grants = (s.bk (q / 256)).grants ++ [g] ∧
          g.gid = (s.bk (q / 256)).freeGid ∧ g.start = e.tref + fcLead e.fc ∧ g.dur = 1 ∧ g.d = fcDelta e.fc ∧
          (∀ k, t.bookAt (q / 256) k = s.bookAt (q / 256) k) ∧ t.kept = s.kept) ∧
      (0 < fcDelta e.fc →
        s.fitsIn (s.prefixes (q / 256) (s.get R.GQ_QCTL_GAL q) (fcDelta e.fc).toNat e.ups) (q / 256) (s.get R.GQ_QCTL_GAL q)
          (fcDelta e.fc).toNat (slotAt (edge + 60)) (e.tref + fcLead e.fc) (fcDur e.fc) = true →
        ∃ t g, exec (.admissionDecision q edge) s = .next t ∧ (t.q q).ents = [] ∧
          (t.q q).out = (s.q q).out ++ (rspWord stGranted 0 (fcSeq e.fc) (s.bk (q / 256)).freeGid (fcLead e.fc), some e.edge) ::
            e.after.map (fun v => (v, none)) ∧ (t.bk (q / 256)).grants = (s.bk (q / 256)).grants ++ [g] ∧
          g.gid = (s.bk (q / 256)).freeGid ∧ g.start = e.tref + fcLead e.fc ∧ g.dur = fcDur e.fc ∧ g.d = fcDelta e.fc ∧
          g.gal = s.get R.GQ_QCTL_GAL q ∧
          t.get R.BUD_GCNT_COUNT (s.get R.GQ_QCTL_GAL q) =
            satU 32 (s.get R.BUD_GCNT_COUNT (s.get R.GQ_QCTL_GAL q) + (fcDelta e.fc).toNat * fcDur e.fc) ∧ t.kept = s.kept) ∧
      (∀ (fit : Nat → Bool) (lo hi : Nat), 0 < fcDelta e.fc →
        (∀ k, fit k = s.fitsIn (s.prefixes (q / 256) (s.get R.GQ_QCTL_GAL q) (fcDelta e.fc).toNat e.ups) (q / 256)
          (s.get R.GQ_QCTL_GAL q) (fcDelta e.fc).toNat (slotAt (edge + 60)) k (fcDur e.fc)) →
        lo = max (e.tref + fcLead e.fc - fcEarly e.fc) (slotAt (edge + 60)) → hi = min (s.dev.slot + 255) (e.tref + 255) →
        fit (e.tref + fcLead e.fc) = false →
        (∀ k, lo ≤ k → k ≤ hi → fit k = true → (∀ j < k, lo ≤ j → fit j = false) →
          ∃ t g, exec (.admissionDecision q edge) s = .next t ∧ (t.q q).ents = [] ∧
            (t.q q).out = (s.q q).out ++ (rspWord stDeferred 0 (fcSeq e.fc) (s.bk (q / 256)).freeGid (k - e.tref), some e.edge) ::
              e.after.map (fun v => (v, none)) ∧ (t.bk (q / 256)).grants = (s.bk (q / 256)).grants ++ [g] ∧
            g.start = k ∧ g.dur = fcDur e.fc ∧ g.d = fcDelta e.fc ∧ t.kept = s.kept) ∧
        ((∀ k ≤ hi, lo ≤ k → fit k = false) →
          ∃ t why, exec (.admissionDecision q edge) s = .next t ∧ why ∈ [whyCapacity, whyZone, whyCap] ∧ (t.q q).ents = [] ∧
            (t.q q).out = (s.q q).out ++ (refuseWord e.fc why, some e.edge) :: e.after.map (fun v => (v, none)) ∧
            t.book = s.book ∧ t.kept = s.kept)))) ∧
  (∀ (s : State) (q edge : Nat) (w : BitVec 32) (r : List (BitVec 32 × Option Nat)), q < 256 * s.cfg.n →
    ((s.q q).out = (w, none) :: r → ∃ t, exec (.responseDelivery q edge) s = .next t ∧ (t.q q).out = r ∧
      (t.q q).rsp = some w ∧ (t.q q).ents = (s.q q).ents ∧ t = { s with queues := t.queues }) ∧
    (∀ e, (s.q q).out = (w, some e) :: r → ∃ t, exec (.responseDelivery q edge) s = .next t ∧ (t.q q).out = r ∧
      (t.q q).rsp = some w ∧ t.get R.GQ_LAT_LAST = min 255 (edge - e) ∧
      t.get R.GQ_LAT_MAX = max (min 255 (edge - e)) (s.get R.GQ_LAT_MAX) ∧
      t = { s with regs := t.regs, queues := t.queues } ∧ s.framed t [R.GQ_LAT_LAST.key 0, R.GQ_LAT_MAX.key 0])) ∧
  (∀ (s : State) (q : Nat), q < 256 * s.cfg.n → s.storeRuns = true → (s.q q).initDue = true ∨
    (s.dev.booted = true ∧ (s.q q).inited = false) → (s.q q).ents = [] → (s.q q).infl = 0 →
    ∃ t, exec (.initNotice q) s = .next t ∧ (t.q q).out = (s.q q).out ++ [(rspWord stInit 0 0 0 0, none)] ∧
      (t.q q).nextSeq = 0 ∧ (t.q q).inited = true ∧ (t.q q).initDue = false ∧ t = { s with queues := t.queues }) ∧
  (∀ (s : State) (g : Gal) (q : Nat), s.get R.GQ_QSEL_QUEUE = q → s.rowPasses g R.GQ_QCTL_FLUSH q 1 →
    (s.q q).ents.length ≤ 8 → (∀ e ∈ (s.q q).ents, e.st = .waiting ∧ e.decided = none) →
    ∃ t, exec (.gqFlush g) s = .next t ∧ (t.q q).ents = [] ∧ (t.q q).initDue = true ∧
      (t.q q).out = (s.q q).out ++ (s.q q).ents.flatMap (fun e =>
        (refuseWord e.fc whyState, some e.edge) :: e.after.map (fun v => (v, none))) ∧
      t.adm.order = s.adm.order.filter (fun x => x.2 != q) ∧ t.book = s.book ∧
      t = { s.okRsp g with regs := t.regs, queues := t.queues, adm := t.adm } ∧
      s.framed t [R.GQ_QCNT0_REFUSED.key q]) ∧
  (∀ (s : State) (g : Gal), s.rowPasses g R.GQ_CTL_CNT_CLR 0 1 →
    ∃ t, exec (.gqCntClr g) s = .next t ∧ t.get R.GQ_LAT_MAX = 0 ∧
      (∀ q, t.get R.GQ_QCNT0_GRANTED q = 0 ∧ t.get R.GQ_QCNT0_REFUSED q = 0 ∧ t.get R.GQ_QCNT1_EXPIRED q = 0 ∧
        t.get R.GQ_QCNT1_REVOKED q = 0) ∧
      t = { s.okRsp g with regs := t.regs } ∧ (∀ q, t.get R.GQ_QCTL_GAL q = s.get R.GQ_QCTL_GAL q)) ∧
  (∀ (s : State) (d gid : Nat) (g : Grant), d < s.cfg.n →
    (s.bk d).grants.find? (fun x => x.gid == gid) = some g →
    (g.consumed = true ∨ slotEdge (s.dev.slot + 1) < g.expiry ∨ 20 * s.dev.dper ≤ g.expiry →
      exec (.grantExpiry d gid) s = .next s) ∧
    (g.consumed = false → g.expiry = slotEdge (g.start + g.dur) + 400 → g.expiry ≤ slotEdge (s.dev.slot + 1) →
      g.expiry < 20 * s.dev.dper →
      ∃ t, exec (.grantExpiry d gid) s = .next t ∧
        (t.bk d).grants = (s.bk d).grants.filter (fun x => x.gid != gid) ∧
        t.get R.BUD_GCNT_COUNT g.gal = s.get R.BUD_GCNT_COUNT g.gal - g.booked ∧
        t.get R.GQ_QCNT1_EXPIRED g.queue = satU 16 (s.get R.GQ_QCNT1_EXPIRED g.queue + 1) ∧ t.get R.DST_FLT_UNOBS d = 1 ∧
        t = { s with regs := t.regs, book := t.book } ∧
        s.framed t [R.BUD_GCNT_COUNT.key g.gal, R.GQ_QCNT1_EXPIRED.key g.queue, R.DST_FLT_UNOBS.key d]))

/-- Orrery errors are flagged, counted and reported, lost frames put cells in LOCAL mode, and the test-signal
generator arms, starts and stops (R66, R104, R110, R118, R120, R122, R123, R149, R150, R152, R153, R407).
COMMAND_DEADLINE_MISS of a late frame sets OVR and reports ARITH with cause 2; PERSISTENT_ARITH_FAULT sets PERSIST,
reports ARITHP and stops the generator of the district. HUB_FRAME_LOSS puts the cells in RUN that missed two frames,
or all of them while the Orrery does not run, in LOCAL mode on the last reference. SCRUB_WORD, while the scrubber is
enabled, CLK_REG runs on the PLL and the Orrery is not gated, counts passes and corrected words, and flags, counts and
reports an uncorrectable word, also one of no configured district under 0xFFF, which is bad from then on; otherwise it
changes nothing. ORR_INJ_ARM takes the fields of the word, ORR_CNT_CLR clears the counts. A stage sum and a
renormalisation that no upset strikes pass their residue checks, and one of which an accumulator or a rounded element
was changed by no multiple of 7, as by the change of a single bit, fails them. TEST_SIGNAL_ARM clamps the amplitude
and arms, is refused with TSTREF, or changes nothing while the generator is armed or active; TEST_SIGNAL_START begins
from the seed; TEST_SIGNAL_DISARM and TEST_SIGNAL_DUR_EXPIRE record the stop conditions 1 and 2 of an active
generator, of which the second goes before the first. ORR_INJ_ARM and TEST_SIGNAL_DISARM of a gallery without the
privilege of the page act on nothing. The model's choices: STAGE 5 of a missed command (assumption 136), that a stop
condition ends an arming too (114), what MODE written between arming and start does (112). -/
def Obligations.OrreryErrorsAndTestSignals : Prop :=
  (∀ (s : State) (d : Nat), d < s.cfg.n → d < 64 →
    ((s.lw d).late = false → exec (.commandDeadlineMiss d) s = .next s) ∧
    ((s.lw d).late = true → (srcOf 4 d, clsArith) ∉ s.flt.masked →
      ∃ t, exec (.commandDeadlineMiss d) s = .next t ∧ t.get R.ORR_FLT_OVR = 1 ∧ (t.lw d).late = false ∧
        (s.get R.ORR_ERRLOC_VALID = 0 → t.get R.ORR_ERRLOC_VALID = 1 ∧ t.get R.ORR_ERRLOC_CAUSE = 2 ∧
          t.get R.ORR_ERRLOC_STAGE = 5 ∧ t.get R.ORR_ERRLOC_DIST = d) ∧
        t = { s with regs := t.regs, law := t.law, flt := { s.flt with
          lines := s.flt.lines ++ [{ cls := clsArith, cause := 2, src := srcOf 4 d }] } } ∧
        s.framed t [R.ORR_FLT_OVR.key 0, R.ORR_ERRLOC_VALID.key 0]) ∧
    ((s.lw d).persDue = false → exec (.persistentArithFault d) s = .next s) ∧
    ((s.lw d).persDue = true → (srcOf 4 d, clsArithp) ∉ s.flt.masked →
      ∃ t, exec (.persistentArithFault d) s = .next t ∧ t.get R.ORR_FLT_PERSIST = 1 ∧ (t.lw d).persDue = false ∧
        (s.get R.LOOP_TST_CTL_DIST = d → s.get R.LOOP_TST_STAT_ACTIVE = 1 ∨ s.tst.armed = true →
          s.tst.stop = 0 ∨ s.tst.stop = 1 → t.tst.stop = 6) ∧
        (s.get R.LOOP_TST_CTL_DIST ≠ d → t.tst = s.tst) ∧
        t = { s with regs := t.regs, law := t.law, tst := t.tst, flt := { s.flt with
          lines := s.flt.lines ++ [{ cls := clsArithp, cause := 0, src := srcOf 4 d }] } } ∧
        s.framed t [R.ORR_FLT_PERSIST.key 0])) ∧
  (∀ (s : State) (d : Nat), d < s.cfg.n →
    ∃ t, exec (.hubFrameLoss d) s = .next t ∧ t = { s with regs := t.regs, cells := t.cells } ∧
      (∀ c, c < 16 → s.cst (cellIx d c) = cRun → s.get R.CEL_STAT_LOCAL (cellIx d c) = 0 →
        s.dev.orrRun = false ∨ (c < (s.lw d).applied.length ∧ 2 ≤ (s.lw d).missed) ∨
          ((s.lw d).applied.length ≤ c ∧ 2 ≤ (s.lw d).missedHi) → t.get R.CEL_STAT_LOCAL (cellIx d c) = 1 ∧ t.get R.CEL_CUR_I_CMD (cellIx d c) = 0 ∧
        (t.cell (cellIx d c)).vloc = 5 * ((s.lw d).appliedV : Int)) ∧
      (∀ c, s.cst c ≠ cRun → t.cell c = s.cell c ∧ t.get R.CEL_STAT_LOCAL c = s.get R.CEL_STAT_LOCAL c)) ∧
  (∀ (s : State) (d : Nat), d < s.cfg.n →
    (∀ hit last, s.get R.ORR_CTL_SCRUB_EN = 0 ∨ s.onPll = false ∨ s.dev.gated = true →
      exec (.scrubWord hit last d) s = .next s) ∧
    (s.get R.ORR_CTL_SCRUB_EN = 1 → s.onPll = true → s.dev.gated = false → exec (.scrubWord .none false d) s = .next s ∧
      (∃ t, exec (.scrubWord .none true d) s = .next t ∧
        t.get R.ORR_SCRUB_PASSES = (s.get R.ORR_SCRUB_PASSES + 1) % 2 ^ 32 ∧ s.only t [R.ORR_SCRUB_PASSES.key 0]) ∧
      (∃ t, exec (.scrubWord .corrected false d) s = .next t ∧ t.get R.ORR_FLT_SBE = 1 ∧
        t.get R.ORR_CNT0_SBE = satU 16 (s.get R.ORR_CNT0_SBE + 1) ∧
        s.only t [R.ORR_FLT_SBE.key 0, R.ORR_CNT0_SBE.key 0]))) ∧
  (∀ (s : State) (w : SramPlace) (d src : Nat), s.get R.ORR_CTL_SCRUB_EN = 1 → s.onPll = true →
    s.dev.gated = false → src = srcOf 4 (if d < s.cfg.n then d else 0xFFF) → (src, clsMemdbe) ∉ s.flt.masked →
    ∃ t, exec (.scrubWord (.uncor w) false d) s = .next t ∧ t.get R.ORR_FLT_DBE = 1 ∧
      t.get R.ORR_CNT0_DBE = satU 16 (s.get R.ORR_CNT0_DBE + 1) ∧
      (w.isCoef = true → ∀ e, e < s.cfg.n → w ∈ (t.lw e).badWord) ∧
      (∀ e k, w = .xhat e k ∨ w = .xhatExp e ∨ w = .uPrev e k → e < s.cfg.n → w ∈ (t.lw e).badWord ∧
        (t.lw e).xhat = (s.lw e).xhat) ∧
      (∀ e st mat, w = .weights e st mat → e < s.cfg.n → w ∈ (t.fc e).badWord ∧ t.law = s.law) ∧
      (∀ m, w = .message m 0 ∨ w = .other → t.law = s.law ∧ t.fcs = s.fcs) ∧
      t = { s with regs := t.regs, law := t.law, fcs := t.fcs, flt := { s.flt with
        lines := s.flt.lines ++ [{ cls := clsMemdbe, cause := 0, src := src }] } } ∧
      s.framed t [R.ORR_FLT_DBE.key 0, R.ORR_CNT0_DBE.key 0]) ∧
  (∀ (s : State) (g : Gal) (w : Word), s.passes g R.ORR_INJ_ARM.base w → s.priv g 0xB = false →
    exec (.orrInjArm g w) s = .next (s.okRsp g)) ∧
  (∀ (s : State) (g : Gal) (w : Word), s.passes g R.ORR_INJ_ARM.base w → s.priv g 0xB = true →
    ∃ t, exec (.orrInjArm g w) s = .next t ∧ t.get R.ORR_INJ_KIND = bitsOf w 16 2 ∧ t.get R.ORR_INJ_STAGE = bitsOf w 8 4 ∧
      t.get R.ORR_INJ_DIST = bitsOf w 0 6 ∧
      t.get R.ORR_INJ_ARM = (if bitsOf w 31 1 = 1 ∧ bitsOf w 16 2 ≠ 0 then 1 else 0) ∧
      (s.okRsp g).only t [R.ORR_INJ_ARM.key 0]) ∧
  (∀ (s : State) (g : Gal), s.rowPasses g R.ORR_CTL_CNT_CLR 0 1 →
    ∃ t, exec (.orrCntClr g) s = .next t ∧ t.get R.ORR_CNT0_DBE = 0 ∧ t.get R.ORR_CNT0_SBE = 0 ∧ t.get R.ORR_CNT1_SAT = 0 ∧
      t.get R.ORR_CNT1_RES = 0 ∧ (∀ d, d < s.cfg.n → t.get R.ORR_DLY_MAX d = 0 ∧
        t.get R.ORR_DLY_LAST d = s.get R.ORR_DLY_LAST d ∧ (t.lw d).heldDly = ((s.lw d).heldDly.1, 0)) ∧
      t = { s.okRsp g with regs := t.regs, law := t.law } ∧
      (s.okRsp g).framed t (R.ORR_CNT0_DBE.key 0 :: R.ORR_CNT1_SAT.key 0 :: (List.range s.cfg.n).map R.ORR_DLY_MAX.key)) ∧
  (∀ (s : State) (g : Gal), s.rowPasses g R.LOOP_TST_CTL_ARM 0 1 → s.get R.LOOP_TST_STAT_ACTIVE = 1 ∨ s.tst.armed = true →
    exec (.testSignalArm g) s = .next (s.okRsp g)) ∧
  (∀ (ts : List Term) (u : Upset) (st n : Nat),
    ((∀ i < n, upHits u st false i = false) → (stage false u st n ts).2 = true) ∧
    (∀ i < n, upHits u st false i = true → u.delta % 7 ≠ 0 → (∃ x ∈ ts, ∃ l, x.accs = some l ∧ i < l.length) →
      (stage false u st n ts).2 = false)) ∧
  (∀ (u : Upset) (st w : Nat) (l : List Acc),
    ((∀ i < l.length, upHits u st true i = false) → (renormC u st w l).2.2 = true) ∧
    (∀ i < l.length, upHits u st true i = true → u.delta % 7 ≠ 0 → (renormC u st w l).2.2 = false)) ∧
  (∀ k : Nat, (2 : Int) ^ k % 7 ≠ 0) ∧
  (∀ (s : State) (g : Gal), s.rowPasses g R.LOOP_TST_CTL_ARM 0 1 → s.get R.LOOP_TST_STAT_ACTIVE = 0 → s.tst.armed = false →
    (s.armRefused = true → ∃ t, exec (.testSignalArm g) s = .next t ∧ t.get R.LOOP_TST_CTL_ARM = 0 ∧
      t.get R.LOOP_FLT_TSTREF = 1 ∧ (s.okRsp g).only t [R.LOOP_TST_CTL_ARM.key 0, R.LOOP_FLT_TSTREF.key 0]) ∧
    (∀ lim : Int, s.armRefused = false → lim = (if s.get R.LOOP_TST_CTL_TGT = 1 then 0x578 else 0x140) →
      ∃ t, exec (.testSignalArm g) s = .next t ∧ t.get R.LOOP_TST_CTL_ARM = 1 ∧ t.tst = { s.tst with armed := true, stop := 0 } ∧
        t.getI R.LOOP_TST_AMP_AMP = clampTo (-lim) lim (s.getI R.LOOP_TST_AMP_AMP) ∧
        (t.getI R.LOOP_TST_AMP_AMP ≠ s.getI R.LOOP_TST_AMP_AMP → t.get R.LOOP_FLT_CFGSAT = 1) ∧
        t = { s.okRsp g with regs := t.regs, tst := t.tst } ∧
        s.framed t [R.LOOP_TST_CTL_ARM.key 0, R.LOOP_TST_AMP_AMP.key 0, R.LOOP_FLT_CFGSAT.key 0])) ∧
  (∀ s : State, s.tst.armed = true → s.tst.stop = 0 → s.get R.LOOP_TST_STAT_ACTIVE = 0 →
    ∃ t, exec .testSignalStart s = .next t ∧ t.get R.LOOP_TST_STAT_ACTIVE = 1 ∧ t.get R.LOOP_TST_STAT_STOP = 0 ∧
      t.get R.LOOP_TST_STAT_PERIODS = 0 ∧ t.tst.s = s.get R.LOOP_TST_GEN_FTW % 2 ^ 15 ∧ t.tst.p = 0 ∧ t.tst.g = 0 ∧
      t.tst.dur = 0 ∧ t = { s with regs := t.regs, tst := t.tst, cap := t.cap } ∧
      s.framed t [R.LOOP_TST_STAT_ACTIVE.key 0]) ∧
  (∀ (s : State) (g : Gal), s.rowPasses g R.LOOP_TST_CTL_ARM 0 0 → s.priv g 0xC = false →
    exec (.testSignalDisarm g) s = .next (s.okRsp g)) ∧
  (∀ (s : State) (g : Gal), s.rowPasses g R.LOOP_TST_CTL_ARM 0 0 → s.priv g 0xC = true →
    (s.get R.LOOP_TST_STAT_ACTIVE = 1 → s.tst.stop = 0 →
      exec (.testSignalDisarm g) s = .next { s.okRsp g with tst := { s.tst with stop := 1 } }) ∧
    (s.get R.LOOP_TST_STAT_ACTIVE = 0 → s.tst.armed = true → ∃ t, exec (.testSignalDisarm g) s = .next t ∧
      t.get R.LOOP_TST_CTL_ARM = 0 ∧ t = { s.okRsp g with regs := t.regs, tst := { s.tst with armed := false } } ∧
      s.framed t [R.LOOP_TST_CTL_ARM.key 0])) ∧
  (∀ s : State, s.get R.LOOP_TST_STAT_ACTIVE = 1 →
    (s.get R.LOOP_TST_AMP_DUR = 0 → exec .testSignalDurExpire s = .next s) ∧
    (s.get R.LOOP_TST_AMP_DUR ≠ 0 → s.get R.LOOP_TST_AMP_DUR ≤ s.tst.dur → s.tst.stop = 0 ∨ s.tst.stop = 1 →
      exec .testSignalDurExpire s = .next { s with tst := { s.tst with stop := 2 } }))

/-- A Forecaster step that fails leaves no outputs, attribution is published on one edge, and a district darkens in
the steps of R243 (R113, R224, R231, R232, R242, R243, R244). FORECASTER_DEADLINE_MISS of a running district in the
first five district periods of a die period sets FCOVR, leaves it without outputs and loads a free ORR_ERRLOC, with
the stage that the model chose (assumption 122); outside them it changes nothing; FORECASTER_DISTRICT_DISABLE at two
uncorrectable periods in a row sets OFF, WDBE and FCOFF. ATTRIBUTION_PUBLISH shows the results of every district and
the number of the closed epoch; FCS_CNT_CLR clears the counts. DARKENING_BEGIN of a qualified district that stands
alone in its group revokes its grants, requests the largest reduction, sets DARK and reports it; DARKENING_ISOLATE
stops its clocks and sets its clamps; DARKENING_STOP orders its cells to stop; DARKENING_COMPLETE leaves it DARK and
OFF. DARK_RESTART returns a DARK district to NORMAL with the target ON and the QUALCNT of its group at 0. SUPCAP_FAULT
reports the supply group. -/
def Obligations.ForecastersStopAndDistrictsDarken : Prop :=
  (∀ (s : State) (d : Nat), d < s.cfg.n → s.get R.FCS_STAT_STATE = 2 → s.get R.FCS_DSTAT_OFF d = 0 →
    1 ≤ s.dev.dper % 10 → s.dev.dper % 10 ≤ 5 →
    ∃ t, exec (.forecasterDeadlineMiss d) s = .next t ∧ t.get R.ORR_FLT_FCOVR = 1 ∧ (t.fc d).outNext = ⟨minExp, []⟩ ∧
      (t.fc d).pred1 = none ∧ (∀ e, e ≠ d → t.fc e = s.fc e) ∧ t = { s with regs := t.regs, fcs := t.fcs } ∧
      (s.get R.ORR_ERRLOC_VALID = 0 → t.get R.ORR_ERRLOC_VALID = 1 ∧ t.get R.ORR_ERRLOC_CAUSE = 2 ∧
        t.get R.ORR_ERRLOC_DIST = d % 64) ∧
      s.framed t [R.ORR_FLT_FCOVR.key 0, R.ORR_ERRLOC_VALID.key 0]) ∧
  (∀ (s : State) (d : Nat), d < s.cfg.n → s.get R.FCS_STAT_STATE ≠ 2 ∨ s.get R.FCS_DSTAT_OFF d = 1 ∨ s.dev.dper % 10 = 0 ∨
    5 < s.dev.dper % 10 → exec (.forecasterDeadlineMiss d) s = .next s) ∧
  (∀ (s : State) (d : Nat), d < s.cfg.n → 2 ≤ (s.fc d).uncor → s.get R.FCS_DSTAT_OFF d = 0 →
    ∃ t, exec (.forecasterDistrictDisable d) s = .next t ∧ t.get R.FCS_DSTAT_OFF d = 1 ∧ t.get R.FCS_FLT_WDBE = 1 ∧
      t.get R.DST_FLT_FCOFF d = 1 ∧ (t.fc d).out = ⟨minExp, []⟩ ∧ (t.fc d).outNext = ⟨minExp, []⟩ ∧
      (∀ e, e ≠ d → t.fc e = s.fc e) ∧ t = { s with regs := t.regs, fcs := t.fcs } ∧
      s.framed t [R.FCS_DSTAT_OFF.key d, R.FCS_FLT_WDBE.key 0, R.DST_FLT_FCOFF.key d]) ∧
  (∀ s : State, s.dev.pubDue = false → exec .attributionPublish s = .next s) ∧
  (∀ s : State, s.dev.pubDue = true →
    ∃ t, exec .attributionPublish s = .next t ∧ t.get R.FCS_EPOCH_EPOCH = (s.dev.epoch - 1) % 2 ^ 32 ∧
      (∀ d, d < s.cfg.n → t.get R.FCS_SCALE_VALID d = (if (s.fc d).pubValid then 1 else 0) ∧
        t.get R.FCS_DSTAT_ATTV d = (if (s.fc d).pubValid then 1 else 0) ∧
        t.get R.FCS_EMEAS_E d = satU 24 (s.fc d).pubMeas ∧ t.get R.FCS_BASEE_E d = satU 24 (s.fc d).pubBase ∧
        (∀ q, q < 256 → t.get R.FCS_ATT_EQ (256 * d + q) = satU 24 (tabAt (s.fc d).pubEq q))) ∧
      t = { s with regs := t.regs, dev := { s.dev with pubDue := false, telDue := true } }) ∧
  (∀ (s : State) (g : Gal), s.rowPasses g R.FCS_CTL_CNT_CLR 0 1 →
    ∃ t, exec (.fcsCntClr g) s = .next t ∧ t.get R.FCS_STAT_LOADS = 0 ∧
      (∀ d, d < s.cfg.n → t.get R.FCS_DSTAT_REDUCTIONS d = 0 ∧ t.get R.FCS_DSTAT_GAIN d = s.get R.FCS_DSTAT_GAIN d) ∧
      (s.okRsp g).only t (R.FCS_STAT_LOADS.key 0 :: (List.range s.cfg.n).map R.FCS_DSTAT_REDUCTIONS.key)) ∧
  (∀ (s : State) (d : Nat), d < s.cfg.n → d < 64 →
    (s.qualified d = false → exec (.darkeningBegin d) s = .next s) ∧
    (s.qualified d = true → s.isSupply d = false → s.devSt ≠ devOff → s.inGroup d = [d] → s.darkens d = true →
      (srcOf 2 d, clsDark) ∉ s.flt.masked →
      ∃ t, exec (.darkeningBegin d) s = .next t ∧ t.get R.DST_FO_STAT_STATE d = 2 ∧ t.get R.DST_FO_THR_THRQ d = 0xFFF ∧
        t.get R.DST_FLT_DARK d = 1 ∧ t.get R.BUD_DACT_RED d = 0xFFF ∧ (t.bk d).grants = [] ∧ (t.foS d).darkStep = 1 ∧
        t.flt.lines = s.flt.lines ++ [{ cls := clsDark, cause := 0, src := srcOf 2 d }] ∧ t.kept = s.kept) ∧
    (s.get R.DST_FO_STAT_STATE d = 2 → (s.foS d).darkStep = 1 →
      ∃ t, exec (.darkeningIsolate d) s = .next t ∧ t.get R.PWR_DSTAT_CSTOP d = 1 ∧ t.get R.PWR_DSTAT_ISO d = 1 ∧
        (t.fc d).out = ⟨minExp, []⟩ ∧ (t.foS d).darkStep = 2 ∧
        t = { s with regs := t.regs, fcs := t.fcs, fo := t.fo } ∧ s.framed t [R.PWR_DSTAT_CSTOP.key d]) ∧
    (s.get R.DST_FO_STAT_STATE d = 2 → (s.foS d).darkStep = 2 →
      ∃ t, exec (.darkeningStop d) s = .next t ∧ (∀ c, c < 16 → (t.cell (cellIx d c)).stopSent = true) ∧
        t.get R.PWR_DSTAT_STEP d = 2 ∧ (t.pw d).step = .entCells ∧ (t.foS d).darkStep = 3 ∧
        t.get R.DST_FO_STAT_STATE d = 2 ∧ t.kept = s.kept) ∧
    (s.get R.DST_FO_STAT_STATE d = 2 → (s.foS d).darkStep = 3 → s.dev.sleepStep = 0 →
      ∃ t, exec (.darkeningComplete d) s = .next t ∧ t.get R.DST_FO_STAT_STATE d = 3 ∧ t.dst d = 0 ∧
        t.get R.DST_FO_THR_THRQ d = 0 ∧ t.get R.DST_FO_CNT_DARKS d = satU R.DST_FO_CNT_DARKS.w (s.get R.DST_FO_CNT_DARKS d + 1) ∧
        (t.foS d).darkStep = 0 ∧ (t.pw d).step = .idle ∧ t = { s with regs := t.regs, pwr := t.pwr, fo := t.fo } ∧
        s.framed t ([R.PWR_DSTAT_STATE.key d, R.DST_FO_STAT_STATE.key d, R.DST_FO_CNT_DARKS.key d, R.DST_FO_THR_THRQ.key d] ++
          (s.inGroup d).flatMap (fun e => [R.DST_FO_THR_QUALCNT.key e, R.DST_FO_STAT_QUAL.key e]))) ∧
    (∀ g : Gal, s.rowPasses g R.DST_FO_CTL_RESTART d 1 →
      (s.get R.DST_FO_STAT_STATE d ≠ 3 → exec (.darkRestart g d) s = .next (s.okRsp g)) ∧
      (s.get R.DST_FO_STAT_STATE d = 3 →
        ∃ t, exec (.darkRestart g d) s = .next t ∧ t.get R.DST_FO_STAT_STATE d = 0 ∧ t.tgtOf d = 2 ∧
          t.get R.DST_FO_CNT_RESTARTS d = satU R.DST_FO_CNT_RESTARTS.w (s.get R.DST_FO_CNT_RESTARTS d + 1) ∧
          (∀ e ∈ s.inGroup d, t.get R.DST_FO_THR_QUALCNT e = 0) ∧
          (s.noPursuit = false → s.dst d = 0 → (t.pw d).reqOn.isSome = true) ∧ t.kept = s.kept))) ∧
  (∀ s : State, s.qualified s.cfg.ccsup = false → exec .supcapFault s = .next s) ∧
  (∀ s : State, s.qualified s.cfg.ccsup = true → (srcOf 2 s.cfg.ccsup, clsSupcap) ∉ s.flt.masked →
    ∃ t, exec .supcapFault s = .next t ∧ (∀ d ∈ s.supply, (t.foS d).supRep = true) ∧
      t = { s with fo := t.fo, flt := { s.flt with
        lines := s.flt.lines ++ [{ cls := clsSupcap, cause := 0, src := srcOf 2 s.cfg.ccsup }] } })

/-- Excursions of group mode, gallery shares and the coolant latch follow their rules (R260, R264, R268, R269, R271,
R417). GROUP_EXCURSION at EXC_T die periods of residual, by the EXC_T that the last die period boundary latched, sets
EXC and GEXC and counts it, and GROUP_EXCURSION_END at EXC_T periods without clears EXC; before that each changes
nothing. BUD_CNT_CLR clears the counts. SHARE_WRITE that is answered OK acts on nothing without the privilege of the
page; with it, one of SHR0 above 256 sets SHRBAD only; otherwise the shares and the remainder of gallery 0 are held
for the next epoch, behind a change that waits. COOLANT_LOSS from a selected pin sets COOLLOSS and COOL and reports
COOLANT; COOLLOSS_CLEAR clears it, and the cause COOLANT but for an injected one, only where the selected sources are
good. That a third register of the shares changes nothing is the model's choice (assumption 6). -/
def Obligations.GroupsSharesAndCoolant : Prop :=
  (∀ s : State, s.bud.gmode = true → s.get R.GRP_STAT_EXC = 0 →
    (s.bud.excOn < s.budLat.excT → exec .groupExcursion s = .next s) ∧
    (s.budLat.excT ≤ s.bud.excOn →
      ∃ t, exec .groupExcursion s = .next t ∧ t.get R.GRP_STAT_EXC = 1 ∧ t.get R.GRP_FLT_GEXC = 1 ∧
        t.get R.GRP_CNT_EXCURSIONS = satU 16 (s.get R.GRP_CNT_EXCURSIONS + 1) ∧
        t.bud = { s.bud with excEpoch := true } ∧ t.kept = s.kept)) ∧
  (∀ s : State, s.get R.GRP_STAT_EXC = 1 →
    (s.bud.excOff < s.budLat.excT → exec .groupExcursionEnd s = .next s) ∧
    (s.budLat.excT ≤ s.bud.excOff → ∃ t, exec .groupExcursionEnd s = .next t ∧ t.get R.GRP_STAT_EXC = 0 ∧
      s.only t [R.GRP_STAT_EXC.key 0])) ∧
  (∀ (s : State) (g : Gal), s.rowPasses g R.BUD_CTL_CNT_CLR 0 1 →
    ∃ t, exec (.budCntClr g) s = .next t ∧ t.get R.GRP_CNT_EXCURSIONS = 0 ∧ t.get R.GRP_CNT_NTF = 0 ∧
      (s.okRsp g).only t [R.GRP_CNT_EXCURSIONS.key 0]) ∧
  (∀ (s : State) (g : Gal) (w : Word) (sum : Nat), s.passes g R.BUD_SHR0_SH1.base w →
    sum = bitsOf w 0 8 + bitsOf w 8 8 + bitsOf w 16 8 + bitsOf w 24 8 + s.get R.BUD_SHR1_SH5 + s.get R.BUD_SHR1_SH6 +
      s.get R.BUD_SHR1_SH7 →
    (s.priv g 0xD = false → exec (.shareWrite g 0 w) s = .next (s.okRsp g)) ∧
    (s.priv g 0xD = true → 256 < sum → ∃ t, exec (.shareWrite g 0 w) s = .next t ∧ t.get R.BUD_FLT_SHRBAD = 1 ∧
      (s.okRsp g).only t [R.BUD_FLT_SHRBAD.key 0]) ∧
    (s.priv g 0xD = true → sum ≤ 256 → [bitsOf w 0 8, bitsOf w 8 8, bitsOf w 16 8, bitsOf w 24 8] ≠
        [s.get R.BUD_SHR0_SH1, s.get R.BUD_SHR0_SH2, s.get R.BUD_SHR0_SH3, s.get R.BUD_SHR0_SH4] →
      ∃ t all, exec (.shareWrite g 0 w) s = .next t ∧ t.get R.BUD_SHR0_SH1 = bitsOf w 0 8 ∧
        t.get R.BUD_SHR0_SH2 = bitsOf w 8 8 ∧ t.get R.BUD_SHR0_SH3 = bitsOf w 16 8 ∧ t.get R.BUD_SHR0_SH4 = bitsOf w 24 8 ∧
        t.get R.BUD_SHR2_SH0 = 256 - sum ∧ t.get R.BUD_SHR2_PEND = 1 ∧
        all = [256 - sum, bitsOf w 0 8, bitsOf w 8 8, bitsOf w 16 8, bitsOf w 24 8, s.get R.BUD_SHR1_SH5,
          s.get R.BUD_SHR1_SH6, s.get R.BUD_SHR1_SH7] ∧
        t = { s.okRsp g with regs := t.regs, bud := (if s.get R.BUD_SHR2_PEND = 0 then { s.bud with pend := some all }
          else { s.bud with heldW := some all }) } ∧
        s.framed t [R.BUD_SHR0_SH1.key 0, R.BUD_SHR2_SH0.key 0])) ∧
  (∀ (s : State) (g : Gal) (j : Nat) (w : Word), 2 ≤ j → exec (.shareWrite g j w) s = .next s) ∧
  (∀ s : State, s.coolPinSel = true → s.dev.released = true → (srcOf 8 0, clsCoolant) ∉ s.flt.masked →
    ∃ t, exec .coolantLoss s = .next t ∧ t.get R.GRP_STAT_COOLLOSS = 1 ∧ t.get R.BUD_FLT_COOL = 1 ∧
      t = { s with regs := t.regs, bud := { s.bud with coolPin := false }, flt := { s.flt with
        relOk := s.flt.relOk.erase clsCoolant,
        lines := s.flt.lines ++ [{ cls := clsCoolant, cause := 0, src := srcOf 8 0 }] } } ∧
      s.framed t [R.GRP_STAT_COOLLOSS.key 0, R.BUD_FLT_COOL.key 0]) ∧
  (∀ s : State, s.coolPinSel = false → ∃ t, exec .coolantLoss s = .next t ∧ t.regs = s.regs ∧ t.flt.lines = s.flt.lines ∧
    t.bud = { s.bud with coolPin := false }) ∧
  (∀ (s : State) (g : Gal), s.rowPasses g R.GRP_STAT_COOLLOSS 0 1 → s.devSt ≠ devOff →
    (s.coolPinSel = true → exec (.coollossClear g false) s = .next { s.okRsp g with bud := { s.bud with coolPin := false } }) ∧
    (s.coolAlertSel = false ∨ s.alertGood = true → ∃ t, exec (.coollossClear g true) s = .next t ∧
      t.get R.GRP_STAT_COOLLOSS = 0 ∧ t.bud = { s.bud with coolPin := true } ∧
      t.stands clsCoolant = (s.stands clsCoolant && decide (clsCoolant ∈ s.flt.injected)) ∧ t.kept = s.kept))

/-- Rounds, conversions, rotation and calibration of the ADC, the thermal restart, and the ageing reads and records
(R272, R273, R274, R275, R276, R277, R282, R284, R295, R297, R298, R299). A START begins a round with the next number,
during a round it sets OVRUN, and before CLK_HK runs it is held, as the end of an ageing read is; the round timer and
the watchdog begin rounds under their conditions. A slice that has started up takes its next conversion;
ADC_CONVERSION stores the corrected code of its channel with the number of the round, and the slice goes on.
SLICE_ROTATION waits for a round in progress, and otherwise takes the next slice out of service;
SLICE_CALIBRATION_DONE forms coefficients within their limits, or marks the slice bad and reports ADCCAL. An injected
sequence begins, is held, or is merged. THERMAL_RESTART releases THERMTRIP_N at 100 ms. Ageing reads begin at their
time or by READ_NOW; AGEING_LATCH takes the codes of every district that is ON; AGEING_RECORD_WRITE leaves the record
in the other slot, and nothing outside it changes. That a sixth slice changes nothing is the model's choice
(assumption 6). -/
def Obligations.ConversionsCalibrationAndAgeing : Prop :=
  (∀ (s : State) (g : Gal), s.rowPasses g R.ADC_CTL_START 0 1 →
    (s.onPll = false → exec (.adcRoundStart g) s = .next { s.okRsp g with adc := { s.adc with startDue := true } }) ∧
    (s.onPll = true → s.get R.ADC_STAT_BUSY = 1 → ∃ t, exec (.adcRoundStart g) s = .next t ∧ t.get R.ADC_FLT_OVRUN = 1 ∧
      (s.okRsp g).only t [R.ADC_FLT_OVRUN.key 0]) ∧
    (s.onPll = true → s.get R.ADC_STAT_BUSY = 0 → ∃ t, exec (.adcRoundStart g) s = .next t ∧ t.get R.ADC_STAT_BUSY = 1 ∧
      t.get R.ADC_STAT_ROUND = (s.get R.ADC_STAT_ROUND + 1) % 2 ^ R.ADC_STAT_ROUND.w ∧ t.adc.startDue = false ∧
      t = { s.okRsp g with regs := t.regs, adc := t.adc } ∧ s.framed t [R.ADC_STAT_BUSY.key 0, R.ADC_STAT_ROUND.key 0])) ∧
  (∀ s : State, s.onPll = true →
    (s.get R.ADC_CTL_RT_EN = 0 → exec .roundTimer s = .next s) ∧
    (s.get R.ADC_CTL_RT_EN = 1 → s.get R.ADC_STAT_BUSY = 0 → ∃ t, exec .roundTimer s = .next t ∧ t.get R.ADC_STAT_BUSY = 1 ∧
      t = { s with regs := t.regs, adc := t.adc } ∧ s.framed t [R.ADC_STAT_BUSY.key 0, R.ADC_STAT_ROUND.key 0]) ∧
    (s.get R.ADC_STAT_BUSY = 1 → exec .roundWatchdog s = .next s) ∧
    (s.get R.ADC_STAT_BUSY = 0 → ∃ t, exec .roundWatchdog s = .next t ∧ t.get R.ADC_STAT_BUSY = 1 ∧ t.get R.ADC_FLT_RTWD = 1 ∧
      t = { s with regs := t.regs, adc := t.adc } ∧
      s.framed t [R.ADC_STAT_BUSY.key 0, R.ADC_STAT_ROUND.key 0, R.ADC_FLT_RTWD.key 0])) ∧
  (∀ (s : State) (k : Nat), k < 5 → s.onPll = true → (s.slice k).on = true → (s.slice k).ready = false →
    ∃ t, exec (.sliceStartupDone k) s = .next t ∧ t.slice k = { s.slice k with ready := true }.next ∧
      (∀ j, j ≠ k → t.slice j = s.slice j) ∧ t = { s with adc := t.adc }) ∧
  (∀ (s : State) (k : Nat), 5 ≤ k ∨ s.onPll = false → exec (.sliceStartupDone k) s = .next s) ∧
  (∀ (s : State) (k ch j : Nat) (raw : Int), k < 5 → s.onPll = true → (s.slice k).ready = true →
    (s.slice k).cur = some (false, ch) → s.adc.therm = false → s.get R.ADC_STAT_INJ_BUSY = 0 → j < 5 → j ≠ k →
    (s.slice j).hasReg (fun _ => true) = true →
    ∃ t, exec (.adcConversion k raw) s = .next t ∧ t = { s with adc := t.adc } ∧ t.slice k = (s.slice k).next ∧
      tabAt t.adc.res ch = (codeOf 12 (corrected (s.getI R.ADC_CAL_OFS k) (s.get R.ADC_CAL_GAIN k) (s.chDiff ch) raw),
        s.get R.ADC_STAT_ROUND, s.chDiff ch) ∧
      (∀ c, c ≠ ch → (tabAt t.adc.res c : Nat × Nat × Bool) = tabAt s.adc.res c)) ∧
  (∀ (s : State) (k : Nat) (raw : Int), k < 5 → (s.slice k).cur = none → exec (.adcConversion k raw) s = .next s) ∧
  (∀ s : State, s.onPll = true → s.get R.ADC_STAT_BAD = 0 →
    (s.get R.ADC_STAT_BUSY = 1 → exec .sliceRotation s = .next { s with adc := { s.adc with rotDue := true } }) ∧
    (s.get R.ADC_STAT_BUSY = 0 → s.get R.ADC_STAT_INJ_BUSY = 0 → s.get R.ADC_STAT_OUT < 5 →
      ∃ t, exec .sliceRotation s = .next t ∧ t.get R.ADC_STAT_OUT = (s.get R.ADC_STAT_OUT + 1) % 5 ∧
        ((s.slice (s.get R.ADC_STAT_OUT)).calDone = false → ∀ k, t.get R.ADC_CAL_GAIN k = s.get R.ADC_CAL_GAIN k) ∧
        t = { s with regs := t.regs, adc := t.adc } ∧
        s.framed t [R.ADC_STAT_OUT.key 0, R.ADC_CAL_OFS.key (s.get R.ADC_STAT_OUT)])) ∧
  (∀ (s : State) (ground half full : Int), s.onPll = false → exec (.sliceCalibrationDone ground half full) s = .next s) ∧
  (∀ (s : State) (ground half full : Int) (o : Nat), s.onPll = true → o = s.get R.ADC_STAT_OUT → o < 5 → 0 < full - half →
    (ground.natAbs ≤ 128 → 32113 ≤ rdiv (1792 * 16 * 32768) (full - half).toNat →
      rdiv (1792 * 16 * 32768) (full - half).toNat ≤ 33423 →
      ∃ t, exec (.sliceCalibrationDone ground half full) s = .next t ∧ (t.slice o).calDone = true ∧
        (t.slice o).newOfs = ground ∧ (t.slice o).newGain = (rdiv (1792 * 16 * 32768) (full - half).toNat).toNat ∧
        t = { s with adc := t.adc }) ∧
    (128 < ground.natAbs → (s.get R.ADC_STAT_BAD).testBit o = false → (srcOf 7 o, clsAdccal) ∉ s.flt.masked →
      ∃ t, exec (.sliceCalibrationDone ground half full) s = .next t ∧ (t.get R.ADC_STAT_BAD).testBit o = true ∧
        t.get R.ADC_FLT_CALFAIL = 1 ∧ t = { s with regs := t.regs, flt := { s.flt with
          lines := s.flt.lines ++ [{ cls := clsAdccal, cause := 0, src := srcOf 7 o }] } } ∧
        s.framed t [R.ADC_STAT_BAD.key 0, R.ADC_FLT_CALFAIL.key 0])) ∧
  (∀ (s : State) (g : Gal), s.rowPasses g R.ADC_CTL_INJ_START 0 1 → s.onPll = true → s.get R.ADC_INJCFG_LEN ≠ 0 →
    (s.get R.ADC_STAT_INJ_BUSY = 1 → s.get R.ADC_STAT_INJ_PEND = 0 → ∃ t, exec (.adcInjStart g) s = .next t ∧
      t.get R.ADC_STAT_INJ_PEND = 1 ∧ (s.okRsp g).only t [R.ADC_STAT_INJ_PEND.key 0]) ∧
    (s.get R.ADC_STAT_INJ_BUSY = 1 → s.get R.ADC_STAT_INJ_PEND = 1 → ∃ t, exec (.adcInjStart g) s = .next t ∧
      t.get R.ADC_FLT_INJMRG = 1 ∧ (s.okRsp g).only t [R.ADC_FLT_INJMRG.key 0]) ∧
    (s.get R.ADC_STAT_INJ_BUSY = 0 → s.get R.ADC_STAT_BUSY = 0 → ∃ t, exec (.adcInjStart g) s = .next t ∧
      t.get R.ADC_STAT_INJ_BUSY = 1 ∧ t.get R.ADC_STAT_INJ_PEND = 0 ∧ t = { s.okRsp g with regs := t.regs, adc := t.adc } ∧
      s.framed t [R.ADC_STAT_INJ_BUSY.key 0])) ∧
  (∀ s : State, (s.get R.THM_STAT_STATE ≠ 1 → exec .thermalRestart s = .next s) ∧
    (s.get R.THM_STAT_STATE = 1 → s.get R.THM_STAT_COOLMS = 100 →
      ∃ t, exec .thermalRestart s = .next t ∧ t.get R.THM_STAT_STATE = 0 ∧ t.thm = { s.thm with trip := false, cool := none } ∧
        clsThermal ∈ t.flt.relOk ∧ t = { s with regs := t.regs, thm := t.thm, flt := t.flt } ∧
        s.framed t [R.THM_STAT_STATE.key 0])) ∧
  (∀ s : State, s.get R.AGE_CTL_EN = 1 → s.onPll = true → s.age.reading = false →
    (s.ticks / 65536 < s.age.lastRead + 10 → exec .ageingRead s = .next s) ∧
    (s.sleeping = false → s.age.lastRead + 10 ≤ s.ticks / 65536 →
      exec .ageingRead s = .next { s with age := { s.age with reading := true, lastRead := s.ticks / 65536 } })) ∧
  (∀ (s : State) (g : Gal), s.rowPasses g R.AGE_CTL_READ_NOW 0 1 →
    exec (.ageReadNow g) s = .next { s.okRsp g with age := { s.age with reading := true } }) ∧
  (∀ (s : State) (codes : List Nat), s.age.reading = false ∨ s.onPll = false → exec (.ageingLatch codes) s = .next s) ∧
  (∀ (s : State) (codes : List Nat), s.age.reading = true → s.onPll = true →
    ∃ t, exec (.ageingLatch codes) s = .next t ∧ t.age.reading = false ∧ t.age.fresh = false ∧
      t.get R.AGE_LAST_SEC = s.opsec ∧
      (∀ d k, d < s.cfg.n → k < 4 → s.isOn d = true → t.get R.AGE_MON_CODE (4 * d + k) = codes.getD (4 * d + k) 0 % 256 ∧
        (codes.getD (4 * d + k) 0 % 256 ∈ [0, 0xFF] → t.get R.AGE_MON_BAD (4 * d + k) = 1 ∧ t.get R.AGE_FLT_MONBAD = 1) ∧
        (codes.getD (4 * d + k) 0 % 256 ∉ [0, 0xFF] → t.get R.AGE_MON_BAD (4 * d + k) = 0 ∧
          t.get R.AGE_MON_DEG (4 * d + k) =
            max (s.get R.AGE_MON_DEG (4 * d + k)) (codes.getD (4 * d + k) 0 % 256 - s.get R.AGE_MON_OFS (4 * d + k)))) ∧
      (∀ d, d < s.cfg.n → s.get R.AGE_DIST_AGE d ≤ t.get R.AGE_DIST_AGE d) ∧
      t = { s with regs := t.regs, age := t.age }) ∧
  (∀ (s : State) (good : Bool) (a : Nat), s.canonical = true → a = ageAt (1 - s.age.slot) →
    (s.ageWriteDue = false → exec (.ageingRecordWrite good) s = .next s) ∧
    (s.ageWriteDue = true → ∃ t, exec (.ageingRecordWrite good) s = .next t ∧
      (∀ k, k < a ∨ a + 0x1000 ≤ k → memByte t.flash k = memByte s.flash k) ∧
      (good = true → memRead t.flash a 512 = s.ageRecord (s.age.seq + 1) ∧ t.age.seq = s.age.seq + 1 ∧
        t.age.changed = false ∧ t.age.due = false ∧ t.age.retry = false ∧ t.get R.AGE_CNT_WRITES = satU R.AGE_CNT_WRITES.w (s.get R.AGE_CNT_WRITES + 1)) ∧
      (good = false → t.get R.AGE_FLT_FLWR = 1 ∧ t.age.retry = true ∧ t.age.seq = s.age.seq ∧ t.age.slot = s.age.slot)))

/-- Rings, the memory write port and the capture engine follow their rules (R396, R397, R398, R399, R400, R401, R403,
R481, R32). RING_ENABLE of a disabled telemetry ring, or of a capture ring that the engine does not use, samples its
base and size with HEAD = TAIL. RING_TAIL_WRITE within the filled part moves TAIL, elsewhere it sets BADTAIL only.
MEMORY_WRITE_ISSUE takes the next 32 bytes under the lowest free identifier. MEMORY_WRITE_COMPLETION of the last write
of an entry moves HEAD past it and counts the record; one with an error, and MEMORY_WRITE_TIMEOUT, disable the ring
with MERR; an unknown identifier is ignored. TELEMETRY_RECORD puts the record of an enabled ring with room in its
queue, and counts it as lost in a full one. CAPTURE_ARM arms an idle engine, and with the trigger 0 starts it at once,
or is refused with REF; CAPTURE_DISARM with the privilege of the page, and CAPTURE_STOP at the end of POST, leave it
draining, with the end chunk put where the buffer has room. The memory port runs on CLK_REG from the PLL (R32). The
model's choices: the order of the rings and of write identifiers (assumption 41), that an error of a write in flight
stops its ring whatever EN shows (42), the chunks of a capture, its gaps and its end chunk (43, 45, 46), and the
refusal of an ARM while a capture runs (48). Left out here: GAL_ISTAT.RERR, and the completion and the error of a
write of the capture ring. -/
def Obligations.RingsAndCapturesReachMemory : Prop :=
  (∀ (s : State) (g r : Gal) (cap : Bool) (k : Nat), k = ringIx r cap → s.rowPasses g (ringEn k) r 1 →
    (s.ringOn k = true → exec (.ringEnable g r cap) s = .next (s.okRsp g)) ∧
    (s.ringOn k = false → (cap = true → s.cap.gal ≠ r) → ∃ t, exec (.ringEnable g r cap) s = .next t ∧ t.ringOn k = true ∧
      t.get (ringHead k) r = s.get (ringTail k) r ∧ (t.ring k).queue = [] ∧ (t.ring k).gen = (s.ring k).gen + 1 ∧
      (cap = false → (t.ring k).base = 2 ^ 32 * s.get R.GAL_TBASE1_BASE r + 4096 * s.get R.GAL_TBASE0_BASE r ∧
        (t.ring k).log2 = s.get R.GAL_TBASE0_LOG2 r) ∧
      (cap = true → (t.ring k).base = 2 ^ 32 * s.get R.GAL_CBASE1_BASE r + 4096 * s.get R.GAL_CBASE0_BASE r ∧
        (t.ring k).log2 = s.get R.GAL_CBASE0_LOG2 r) ∧
      t = { s.okRsp g with regs := t.regs, rings := t.rings } ∧ s.framed t [(ringEn k).key r, (ringHead k).key r])) ∧
  (∀ (s : State) (g r : Gal) (cap : Bool) (k tail n : Nat), k = ringIx r cap → n = s.ringLen k → tail < 65536 →
    s.rowPasses g (ringTail k) r tail → (cap = true → s.cap.gal ≠ r) →
    (tail < n → (tail + n - s.get (ringTail k) r % n) % n ≤ (s.get (ringHead k) r + n - s.get (ringTail k) r % n) % n →
      ∃ t, exec (.ringTailWrite g r cap tail) s = .next t ∧ t.get (ringTail k) r = tail ∧
        (s.okRsp g).only t [(ringTail k).key r]) ∧
    (n ≤ tail → ∃ t, exec (.ringTailWrite g r cap tail) s = .next t ∧ t.get R.GAL_FLT_BADTAIL r = 1 ∧
      (s.okRsp g).only t [R.GAL_FLT_BADTAIL.key r])) ∧
  (∀ (s : State) (r id i : Nat) (b : List Byte) (m o : Nat),
    ringOrder.find? (fun r => (nextWrite (s.ring r).queue).isSome) = some r →
    (List.range 64).find? (fun k => !(s.mw.any fun w => w.id == k)) = some id → nextWrite (s.ring r).queue = some i →
    (s.ring r).queue[i]? = some (b, m, o) → s.onPll = true →
    ∃ t w, exec .memoryWriteIssue s = .next t ∧ t.mw = s.mw ++ [w] ∧ w.id = id ∧ w.ring = r ∧ w.dead = false ∧
      w.addr = ((s.ring r).base + (s.get (ringHead r) (r / 2) + i) % s.ringLen r * entrySize r + 32 * m) % 2 ^ 64 ∧
      w.data = (b.drop (32 * m)).take 32 ∧ (t.ring r).queue = (s.ring r).queue.set i (b, m + 1, o + 1) ∧
      t = { s with rings := t.rings, mw := t.mw }) ∧
  (∀ s : State, s.onPll = false ∨ (∀ r, r < 16 → nextWrite (s.ring r).queue = none) → exec .memoryWriteIssue s = .next s) ∧
  (∀ (s : State) (id : Nat) (err : Bool), (∀ w ∈ s.mw, w.id ≠ id) → exec (.memoryWriteCompletion id err) s = .next s) ∧
  (∀ (s : State) (id g : Nat) (w : MemW) (b : List Byte) (m : Nat), g < 8 → s.mw.find? (fun x => x.id == id) = some w →
    w.dead = false → w.ring = 2 * g →
    (∃ t, exec (.memoryWriteCompletion id true) s = .next t ∧ t.ringOn (2 * g) = false ∧ t.get R.TEL_FLT_MERR = 1 ∧
      (t.get R.TEL_CTL_DIS).testBit g = true ∧ (t.ring (2 * g)).queue = [] ∧ t.mw = s.mw.filter (fun x => x.id != id) ∧
      t.kept = s.kept) ∧
    (s.ringOn (2 * g) = true → (s.ring (2 * g)).gen = w.gen → (s.ring (2 * g)).log2 ≤ 16 → (s.ring (2 * g)).queue = [(b, m, 1)] → b.length ≤ 32 * m →
      w.ent = s.get R.GAL_TPTR_HEAD g % s.ringLen (2 * g) →
      ∃ t, exec (.memoryWriteCompletion id false) s = .next t ∧ (t.ring (2 * g)).queue = [] ∧
        t.get R.GAL_TPTR_HEAD g = (s.get R.GAL_TPTR_HEAD g + 1) % s.ringLen (2 * g) ∧
        t.get R.TEL_CNT_RECORDS = (s.get R.TEL_CNT_RECORDS + 1) % 2 ^ 32 ∧ t.mw = s.mw.filter (fun x => x.id != id) ∧
        t.kept = s.kept)) ∧
  (∀ (s : State) (id g : Nat) (w : MemW), g < 8 → s.mw.find? (fun x => x.id == id && !x.dead) = some w → w.ring = 2 * g →
    ∃ t, exec (.memoryWriteTimeout id) s = .next t ∧ t.ringOn (2 * g) = false ∧ t.get R.TEL_FLT_MERR = 1 ∧
      (∀ x ∈ t.mw, x.id = id → x.dead = true) ∧ t.mw.length = s.mw.length ∧ t.kept = s.kept) ∧
  (∀ (s : State) (id : Nat), s.mw.find? (fun x => x.id == id && !x.dead) = none → exec (.memoryWriteTimeout id) s = .next s) ∧
  (∀ s : State, s.dev.telDue = false → exec .telemetryRecord s = .next s) ∧
  (∀ (s : State) (g : Nat), g < 8 → s.dev.telDue = true → s.tel.gals = 2 ^ g → s.ringOn (2 * g) = true →
    (s.ringRoom (2 * g) ≠ 0 → ∃ t, exec .telemetryRecord s = .next t ∧
      (t.ring (2 * g)).queue = (s.ring (2 * g)).queue ++ [(s.telRecord g (s.ring (2 * g)).lost, 0, 0)] ∧
      (t.ring (2 * g)).lost = 0 ∧ t = { s with dev := { s.dev with telDue := false }, rings := t.rings }) ∧
    (s.ringRoom (2 * g) = 0 → ∃ t, exec .telemetryRecord s = .next t ∧ (t.ring (2 * g)).queue = (s.ring (2 * g)).queue ∧
      (t.ring (2 * g)).lost = (s.ring (2 * g)).lost + 1 ∧ t.get R.GAL_FLT_TLOST g = 1 ∧
      t.get R.GAL_STAT_TLOST g = satU R.GAL_STAT_TLOST.w (s.get R.GAL_STAT_TLOST g + 1) ∧ t.kept = s.kept)) ∧
  (∀ (s : State) (g : Gal), s.rowPasses g R.CAP_CTL_ARM 0 1 →
    (s.get R.CAP_STAT_STATE ∉ [0, 4] → ∃ t, exec (.captureArm g) s = .next t ∧ t.get R.CAP_FLT_REF = 1 ∧
      (s.okRsp g).only t [R.CAP_FLT_REF.key 0]) ∧
    (s.get R.CAP_STAT_STATE ∈ [0, 4] → s.ringOn (ringIx (s.get R.CAP_CTL_GAL) true) = false →
      ∃ t, exec (.captureArm g) s = .next t ∧ t.get R.CAP_FLT_REF = 1 ∧ t.get R.CAP_CTL_ARM = 0 ∧
        t.get R.CAP_STAT_STATE = s.get R.CAP_STAT_STATE ∧
        (s.okRsp g).only t [R.CAP_FLT_REF.key 0, R.CAP_CTL_ARM.key 0]) ∧
    (s.get R.CAP_STAT_STATE ∈ [0, 4] → s.ringOn (ringIx (s.get R.CAP_CTL_GAL) true) = true → s.cal.stag = none →
      s.get R.CAP_CTL_TRIG ≤ 5 →
      ∃ t, exec (.captureArm g) s = .next t ∧ t.get R.CAP_CTL_ARM = 1 ∧
        t.get R.CAP_STAT_STATE = (if s.get R.CAP_CTL_TRIG = 0 then 2 else 1) ∧
        t.get R.CAP_STAT_TRIGD = (if s.get R.CAP_CTL_TRIG = 0 then 1 else 0) ∧ t.get R.CAP_LOST_SAMPLES = 0 ∧ t.cap.gal = s.get R.CAP_CTL_GAL ∧
        t.cap.trig = s.get R.CAP_CTL_TRIG ∧ t.cap.nch = s.get R.CAP_CTL_NCHM1 + 1 ∧ t.cap.div = s.get R.CAP_CTL_DIV ∧
        t.cap.pre = s.get R.CAP_CTL_PRE ∧ t.cap.post = s.get R.CAP_LEN_POST ∧
        t = { s.okRsp g with regs := t.regs, cap := t.cap } ∧
        s.framed t [R.CAP_CTL_ARM.key 0, R.CAP_STAT_STATE.key 0, R.CAP_LOST_SAMPLES.key 0])) ∧
  (∀ (s : State) (g : Gal), s.rowPasses g R.CAP_CTL_ARM 0 0 → s.priv g 0xA = false →
    exec (.captureDisarm g) s = .next (s.okRsp g)) ∧
  (∀ (s : State) (g : Gal), s.rowPasses g R.CAP_CTL_ARM 0 0 → s.priv g 0xA = true →
    (s.get R.CAP_STAT_STATE ∉ [1, 2] → exec (.captureDisarm g) s = .next (s.okRsp g)) ∧
    (s.get R.CAP_STAT_STATE ∈ [1, 2] → ∃ t, exec (.captureDisarm g) s = .next t ∧ t.get R.CAP_STAT_STATE = 3 ∧
      t.kept = s.kept ∧
      (s.cap.preBuf = [] → s.cap.gapOpen = false → s.cap.endPut = false → s.chunksHeld < 127 → t.cap.endPut = true))) ∧
  (∀ s : State, s.get R.CAP_STAT_STATE = 2 →
    (s.cap.post = 0 ∨ s.cap.left ≠ 0 ∨ s.cap.trigDue = true → exec .captureStop s = .next s) ∧
    (s.cap.post ≠ 0 → s.cap.left = 0 → s.cap.trigDue = false → ∃ t, exec .captureStop s = .next t ∧ t.get R.CAP_STAT_STATE = 3 ∧
      t.kept = s.kept ∧
      (s.cap.preBuf = [] → s.cap.gapOpen = false → s.cap.endPut = false → s.chunksHeld < 127 → t.cap.endPut = true)))
end

