-- ==== Sys2Proof/Laws/Checks.lean ====
section
/-!
SUPPORT. What the residues of the Orrery carry (R117, R118), and what opening a sealed message gives (R441, R453).
-/
namespace Sys2Proof.Machine

/-! ### Residues -/

theorem res7_cast (x : Int) : ((res7 x : Nat) : Int) = x % 7 := Int.toNat_of_nonneg (Int.emod_nonneg x (by decide))

theorem res7_add (x y : Int) : res7 (x + y) = addRes (res7 x) (res7 y) := by
  have h1 := res7_cast x
  have h2 := res7_cast y
  have h3 := res7_cast (x + y)
  unfold addRes
  omega

theorem res7_mul (x y : Int) : res7 (x * y) = mulRes (res7 x) (res7 y) := by
  have h : ((res7 (x * y) : Nat) : Int) = ((mulRes (res7 x) (res7 y) : Nat) : Int) := by
    rw [res7_cast, mulRes, Int.natCast_mod, Int.natCast_mul, res7_cast, res7_cast, Int.mul_emod]
    rfl
  exact_mod_cast h

theorem res7_neg (x : Int) : res7 (-x) = negRes (res7 x) := by
  have h1 := res7_cast x
  have h2 := res7_cast (-x)
  unfold negRes
  omega

/-- The residue that a row carries beside its products is that of their sum. -/
theorem dotRes_dot (xs ys : List Int) : dotRes false xs ys = res7 (dot xs ys) := by
  induction xs generalizing ys with
  | nil => rfl
  | cons x xs ih =>
    cases ys with
    | nil => rfl
    | cons y ys => simp [dotRes, dot, res7_add, res7_mul, ih]

/-- A shift to the right passes its check with the value that rounding gives. -/
theorem shiftOk_rdiv (a : Int) (s : Nat) : shiftOk a (rdiv a (2 ^ s)) s = true := by
  have h : res7 a = res7 (rdiv a (2 ^ s) * ((2 ^ s : Nat) : Int) + (a - rdiv a (2 ^ s) * ((2 ^ s : Nat) : Int))) := by
    congr 1; omega
  simp only [shiftOk, Int.natCast_nonneg, if_true, Int.toNat_natCast, beq_iff_eq]
  rw [h, res7_add, res7_mul]
  have hp : res7 ((2 ^ s : Nat) : Int) = 2 ^ s % 7 := by
    have := res7_cast ((2 ^ s : Nat) : Int)
    omega
  rw [hp]
  simp [mulRes, addRes, Nat.add_mod, Nat.mul_mod]

/-! ### Sealed messages -/

@[simp] theorem ctrCrypt_length (key iv l : List Byte) : (ctrCrypt key iv l).length = l.length := by simp [ctrCrypt]

/-- The key stream applied twice gives the text back. -/
@[simp] theorem ctrCrypt_ctrCrypt (key iv l : List Byte) : ctrCrypt key iv (ctrCrypt key iv l) = l := by
  apply List.ext_getElem
  · simp
  · intro i h1 h2
    simp [ctrCrypt]

/-- What was sealed under a key opens under it. -/
theorem gcmOpen_gcmSeal (key iv aad l : List Byte) : gcmOpen key iv aad (gcmSeal key iv aad l) = some l := by
  have hf : (fit 16 (Config.gcmTag key iv aad (ctrCrypt key iv l))).length = 16 := by simp [fit, bytesAt]
  have hl : (gcmSeal key iv aad l).length - 16 = l.length := by simp [gcmSeal, hf]
  have ht : (gcmSeal key iv aad l).take l.length = ctrCrypt key iv l := by
    rw [gcmSeal, ← ctrCrypt_length key iv l, List.take_left]
  have hd : (gcmSeal key iv aad l).drop l.length = fit 16 (Config.gcmTag key iv aad (ctrCrypt key iv l)) := by
    rw [gcmSeal, ← ctrCrypt_length key iv l, List.drop_left]
  unfold gcmOpen
  simp [hl, ht, hd, show 16 ≤ (gcmSeal key iv aad l).length by simp [gcmSeal, hf]]

end Sys2Proof.Machine
end

