-- ==== Sys2Proof/Laws/Tables.lean ====
section
/-!
SUPPORT. The sparse tables and the package flash: what each operation over them does, and that it keeps the canonical form.
-/
namespace Sys2Proof.Machine

theorem tabAbove_mono {α : Type} {b k : Nat} (h : b < k) (t : Tab α) (hk : tabAbove k t = true) : tabAbove b t = true := by
  cases t with
  | nil => rfl
  | cons x r => simp [tabAbove] at hk ⊢; exact ⟨by omega, hk.2⟩

theorem tabAbove_put {α : Type} (t : Tab α) (k : Nat) (v : α) :
    ∀ b, b < k → tabAbove b (tabPut t k v) = tabAbove b t := by
  induction t with
  | nil => intro b hb; simp [tabPut, tabAbove, hb]
  | cons x r ih =>
    intro b hb
    rcases Nat.lt_trichotomy x.1 k with h | h | h
    · simp [tabPut, h, tabAbove, ih x.1 h]
    · simp [tabPut, h, tabAbove]
    · simp [tabPut, tabAbove, h, hb, show ¬x.1 < k by omega, show x.1 ≠ k by omega, show b < x.1 by omega]

theorem tabWf_put {α : Type} (t : Tab α) (k : Nat) (v : α) : tabWf (tabPut t k v) = tabWf t := by
  rcases t with _ | ⟨x, r⟩
  · rfl
  rcases Nat.lt_trichotomy x.1 k with h | h | h
  · simp [tabPut, h, tabWf, tabAbove_put]
  · simp [tabPut, h, tabWf]
  · simp [tabPut, tabWf, tabAbove, h, show ¬x.1 < k by omega, show x.1 ≠ k by omega]

theorem tabAbove_map {α : Type} (f : Nat × α → Nat × α) (h : ∀ r, (f r).1 = r.1) (b : Nat) (t : Tab α) :
    tabAbove b (t.map f) = tabAbove b t := by
  induction t generalizing b with
  | nil => rfl
  | cons x r ih => simp only [List.map_cons, tabAbove, h, ih]

theorem tabWf_map {α : Type} (f : Nat × α → Nat × α) (h : ∀ r, (f r).1 = r.1) (t : Tab α) :
    tabWf (t.map f) = tabWf t := by
  cases t with
  | nil => rfl
  | cons x r => simp only [List.map_cons, tabWf, h, tabAbove_map f h]

theorem tabAbove_wf {α : Type} {b : Nat} {t : Tab α} (h : tabAbove b t = true) : tabWf t = true := by
  cases t with
  | nil => rfl
  | cons x r => simpa [tabWf] using (Bool.and_eq_true _ _ ▸ h : _ ∧ _).2

theorem tabAbove_filter {α : Type} (p : Nat × α → Bool) (t : Tab α) :
    ∀ b, tabAbove b t = true → tabAbove b (t.filter p) = true := by
  induction t with
  | nil => exact fun _ h => h
  | cons x r ih =>
    intro b h
    obtain ⟨h1, h2⟩ : b < x.1 ∧ tabAbove x.1 r = true := by simpa [tabAbove] using h
    cases hp : p x
    · simpa [hp] using ih b (tabAbove_mono h1 r h2)
    · simpa [hp, tabAbove, h1] using ih x.1 h2

theorem tabWf_filter {α : Type} (p : Nat × α → Bool) (t : Tab α) (h : tabWf t = true) : tabWf (t.filter p) = true := by
  rcases t with _ | ⟨x, r⟩
  · rfl
  have hr : tabAbove x.1 (r.filter p) = true := tabAbove_filter p r x.1 h
  cases hp : p x
  · simpa [hp] using tabAbove_wf hr
  · simpa [hp, tabWf] using hr

theorem tabDel_wf {α : Type} (t : Tab α) (k : Nat) (h : tabWf t = true) : tabWf (tabDel t k) = true := tabWf_filter _ t h

theorem filter_all {α : Type} (p q : α → Bool) (t : List α) (h : t.all p = true) : (t.filter q).all p = true := by
  rw [List.all_eq_true] at h ⊢
  exact fun x hx => h x (List.mem_filter.mp hx).1

theorem tabPut_all {α : Type} (p : Nat × α → Bool) (t : Tab α) (k : Nat) (v : α) (h : t.all p = true) (hv : p (k, v) = true) :
    (tabPut t k v).all p = true := by
  induction t with
  | nil => simp [tabPut, hv]
  | cons x r ih =>
    obtain ⟨h1, h2⟩ : p x = true ∧ r.all p = true := by simpa using h
    rcases Nat.lt_trichotomy x.1 k with hk | hk | hk
    · rw [tabPut, if_pos hk, List.all_cons, h1, ih h2]; rfl
    · simpa [tabPut, hk, hv] using h2
    · simpa [tabPut, show ¬x.1 < k by omega, show x.1 ≠ k by omega, hv, h1] using h2

theorem memPut_wf (m : List Host.Cell) (a : Nat) (b : Byte) (h : memWf m = true) : memWf (memPut m a b) = true := by
  simp only [memWf, Bool.and_eq_true] at h ⊢
  by_cases hb : b = 0xFF#8
  · rw [memPut, if_pos hb]; exact ⟨tabDel_wf _ _ h.1, filter_all _ _ _ h.2⟩
  · rw [memPut, if_neg hb]; exact ⟨by rw [tabWf_put]; exact h.1, tabPut_all _ _ _ _ h.2 (by simp [hb])⟩

theorem memWrite_wf (l : List Byte) (m : List Host.Cell) (a : Nat) (h : memWf m = true) : memWf (memWrite m a l) = true := by
  induction l generalizing m a with
  | nil => exact h
  | cons b r ih => exact ih _ _ (memPut_wf _ _ _ h)

theorem memProg_wf (l : List Byte) (m : List Host.Cell) (a : Nat) (h : memWf m = true) : memWf (memProg m a l) = true := by
  induction l generalizing m a with
  | nil => exact h
  | cons b r ih => exact ih _ _ (memPut_wf _ _ _ h)

theorem memLeave_wf (m : List Host.Cell) (a n v : Nat) (h : memWf m = true) : memWf (memLeave m a n v) = true :=
  memWrite_wf _ _ _ h

theorem memErase_wf (m : List Host.Cell) (a n : Nat) (h : memWf m = true) : memWf (memErase m a n) = true := by
  simp only [memWf, Bool.and_eq_true] at h ⊢
  exact ⟨tabWf_filter _ _ h.1, filter_all _ _ _ h.2⟩

end Sys2Proof.Machine
end

