-- ==== Sys2Proof/Laws/Kept.lean ====
section
/-!
SUPPORT. What a change of the register file, of a hidden structure or of a list of units keeps (`State.kept`).
-/
namespace Sys2Proof.Machine

@[simp ↓] theorem State.set_kept (s : State) (F : Fld) (i v : Nat) : (s.set F i v).kept = s.kept := by
  simp [State.kept, State.set, tabWf_put]

section
set_option autoImplicit true
set_option relaxedAutoImplicit true

/-- A change of any other part of the state. -/
@[simp ↓] theorem State.kept_with (s : State) :
    (State.mk s.cfg s.fuse s.regs cells' phases' law' hub' anv' book' queues' fcs' fo' pwr' fab' ports' coef'
    weights' adm' bud' tst' adc' thm' age' cal' s.dev flt' arc' exh' fence' rsps' i3c' rings' tel' mw' cap' s.sec
    s.flash pageBuf' s.ticks base' free' s.pending).kept = s.kept := rfl

/-- A change of any other part of the attestation block. -/
@[simp ↓] theorem State.kept_withSec (s u : State) (hu : s.kept = u.kept) :
    (State.mk s.cfg s.fuse s.regs cells' phases' law' hub' anv' book' queues' fcs' fo' pwr' fab' ports' coef'
    weights' adm' bud' tst' adc' thm' age' cal' s.dev flt' arc' exh' fence' rsps' i3c' rings' tel' mw' cap' (SecS.mk
    idReady₁ entFail₁ req₁ rsp₁ busy₁ done₁ zeroPend₁ chain₁ committed₁ vca₁ m1m2₁ l1l2₁ u.sec.sess u.sec.key
    u.sec.deliv u.sec.dbgReq snap₁ snapChain₁ dbg₁ imgDigest₁ wDigest₁ wHeld₁) s.flash pageBuf' s.ticks base' free'
    s.pending).kept = s.kept := by
  simp only [State.kept, Prod.mk.injEq] at *
  simp_all

/-- A change of any other part of the device state. -/
@[simp ↓] theorem State.kept_withDev (s v : State) (hv : s.kept = v.kept) :
    (State.mk s.cfg s.fuse s.regs cells' phases' law' hub' anv' book' queues' fcs' fo' pwr' fab' ports' coef'
    weights' adm' bud' tst' adc' thm' age' cal' (DevS.mk v.dev.cold powered₂ released₂ hubs₂ tested₂ feedWait₂
    bootCause₂ sfdp₂ flashUsable₂ dens₂ par₂ calDone₂ imgDone₂ orrRun₂ thermOk₂ returned₂ booted₂ bootTick₂ nextSel₂
    supDue₂ pgm₂ ageLoaded₂ retIdx₂ retWait₂ entry₂ before₂ ledgerBusy₂ ledgersClear₂ quiet₂ fcRan₂ sleepStep₂ wakeDue₂
    wakeSrc₂ wakeLnk₂ gated₂ dozeExit₂ supStayed₂ reqSeq₂ tapOut₂ tapIr₂ tapDr₂ zoneLim₂ zoneEta₂ fcdecl₂ imgKey₂
    v.dev.dper v.dev.die v.dev.epoch v.dev.ep v.dev.slot slotStb₂ pubDue₂ telDue₂ zoneFeed₂) flt' arc' exh' fence'
    rsps' i3c' rings' tel' mw' cap' s.sec s.flash pageBuf' s.ticks base' free' s.pending).kept = s.kept := by
  simp only [State.kept, Prod.mk.injEq] at *
  simp_all

/-- Both changes at once. -/
@[simp ↓] theorem State.kept_withSecDev (s u v : State) (hu : s.kept = u.kept) (hv : s.kept = v.kept) :
    (State.mk s.cfg s.fuse s.regs cells' phases' law' hub' anv' book' queues' fcs' fo' pwr' fab' ports' coef'
    weights' adm' bud' tst' adc' thm' age' cal' (DevS.mk v.dev.cold powered₂ released₂ hubs₂ tested₂ feedWait₂
    bootCause₂ sfdp₂ flashUsable₂ dens₂ par₂ calDone₂ imgDone₂ orrRun₂ thermOk₂ returned₂ booted₂ bootTick₂ nextSel₂
    supDue₂ pgm₂ ageLoaded₂ retIdx₂ retWait₂ entry₂ before₂ ledgerBusy₂ ledgersClear₂ quiet₂ fcRan₂ sleepStep₂ wakeDue₂
    wakeSrc₂ wakeLnk₂ gated₂ dozeExit₂ supStayed₂ reqSeq₂ tapOut₂ tapIr₂ tapDr₂ zoneLim₂ zoneEta₂ fcdecl₂ imgKey₂
    v.dev.dper v.dev.die v.dev.epoch v.dev.ep v.dev.slot slotStb₂ pubDue₂ telDue₂ zoneFeed₂) flt' arc' exh' fence'
    rsps' i3c' rings' tel' mw' cap' (SecS.mk idReady₁ entFail₁ req₁ rsp₁ busy₁ done₁ zeroPend₁ chain₁ committed₁ vca₁
    m1m2₁ l1l2₁ u.sec.sess u.sec.key u.sec.deliv u.sec.dbgReq snap₁ snapChain₁ dbg₁ imgDigest₁ wDigest₁ wHeld₁)
    s.flash pageBuf' s.ticks base' free' s.pending).kept = s.kept := by
  simp only [State.kept, Prod.mk.injEq] at *
  simp_all

/-- A change of a delivery that leaves it open or shut. -/
@[simp ↓] theorem State.kept_withDel (s u : State) (hu : s.kept = u.kept) :
    (State.mk s.cfg s.fuse s.regs cells' phases' law' hub' anv' book' queues' fcs' fo' pwr' fab' ports' coef'
    weights' adm' bud' tst' adc' thm' age' cal' s.dev flt' arc' exh' fence' rsps' i3c' rings' tel' mw' cap' (SecS.mk
    idReady₁ entFail₁ req₁ rsp₁ busy₁ done₁ zeroPend₁ chain₁ committed₁ vca₁ m1m2₁ l1l2₁ u.sec.sess u.sec.key
    (DelivS.mk u.sec.deliv.opened str₃ full₃) u.sec.dbgReq snap₁ snapChain₁ dbg₁ imgDigest₁ wDigest₁ wHeld₁) s.flash
    pageBuf' s.ticks base' free' s.pending).kept = s.kept := by
  simp only [State.kept, Prod.mk.injEq] at *
  simp_all

end

@[simp ↓] theorem State.kept_ite (c : Prop) [Decidable c] (a b : State) :
    (if c then a else b).kept = if c then a.kept else b.kept := apply_ite _ _ _ _

@[simp ↓] theorem State.each_kept (s : State) (l : List Nat) (f : State → Nat → State)
    (h : ∀ s x, (f s x).kept = s.kept) : (s.each l f).kept = s.kept := by
  unfold State.each
  induction l generalizing s with
  | nil => rfl
  | cons a l ih => simp [ih, h]

@[simp ↓] theorem State.foldl_kept {α : Type} (l : List α) (f : State → α → State) (s : State)
    (h : ∀ s x, (f s x).kept = s.kept) : (l.foldl f s).kept = s.kept := by
  induction l generalizing s with
  | nil => rfl
  | cons a l ih => simp [ih, h]
end Sys2Proof.Machine
end

