-- ==== Sys2Proof/Laws/KeptOps.lean ====
section
/-!
SUPPORT. What the operations of the shared operations keep (`State.kept`): one lemma for each operation.
-/
namespace Sys2Proof.Machine

/-! ### Ops -/

@[simp ↓] theorem State.setI_kept (s : State) (F : Fld) (i : Nat) (x : Int) : (State.setI s F i x).kept = s.kept := by
  simp [State.setI]

@[simp ↓] theorem State.setSat_kept (s : State) (F : Fld) (i : Nat) (v : Nat) :
    (State.setSat s F i v).kept = s.kept := by
  simp [State.setSat]

@[simp ↓] theorem State.inc_kept (s : State) (F : Fld) (i : Nat) (by_ : Nat) : (State.inc s F i by_).kept = s.kept := by
  simp [State.inc]

@[simp ↓] theorem State.incWrap_kept (s : State) (F : Fld) (i : Nat) (by_ : Nat) :
    (State.incWrap s F i by_).kept = s.kept := by
  simp [State.incWrap]

@[simp ↓] theorem State.raise_kept (s : State) (F : Fld) (i : Nat) : (State.raise s F i).kept = s.kept := by
  simp [State.raise]

@[simp ↓] theorem State.raiseBit_kept (s : State) (F : Fld) (i b : Nat) : (State.raiseBit s F i b).kept = s.kept := by
  simp [State.raiseBit]

@[simp ↓] theorem State.clearBit_kept (s : State) (F : Fld) (i b : Nat) : (State.clearBit s F i b).kept = s.kept := by
  simp [State.clearBit]

@[simp ↓] theorem State.raiseIf_kept (s : State) (c : Bool) (F : Fld) (i : Nat) :
    (State.raiseIf s c F i).kept = s.kept := by
  simp [State.raiseIf]

@[simp ↓] theorem State.freeBits_kept (s : State) (w : Nat) : (State.freeBits s w).2.kept = s.kept := by
  simp [State.freeBits]

@[simp ↓] theorem State.ibiCheck_kept (s : State) (s0 : State) : (State.ibiCheck s s0).kept = s.kept := by
  unfold State.ibiCheck; split <;> simp

@[simp ↓] theorem State.irq_kept (s : State) (g b : Nat) : (State.irq s g b).kept = s.kept := by
  simp [State.irq]

@[simp ↓] theorem State.irqAll_kept (s : State) (b page : Nat) : (State.irqAll s b page).kept = s.kept := by
  simp [State.irqAll]

@[simp ↓] theorem State.capRuns_kept (s : State) : (State.capRuns s).kept = s.kept := by
  simp [State.capRuns]

@[simp ↓] theorem State.capTrig_kept (s : State) (c : Nat) : (State.capTrig s c).kept = s.kept := by
  simp [State.capTrig]

@[simp ↓] theorem State.exhTrig_kept (s : State) (b : Nat) : (State.exhTrig s b).kept = s.kept := by
  simp [State.exhTrig]

@[simp ↓] theorem State.exhGq_kept (s : State) (ev : Fld) : (State.exhGq s ev).kept = s.kept := by
  simp [State.exhGq]

@[simp ↓] theorem State.report_kept (s : State) (cls cause src : Nat) :
    (State.report s cls cause src).kept = s.kept := by
  simp [State.report]

@[simp ↓] theorem State.enqueue_kept (s : State) (kind : Nat) (payload : List Byte) :
    (State.enqueue s kind payload).kept = s.kept := by
  simp [State.enqueue]

@[simp ↓] theorem State.stageOverflow_kept (s : State) : (State.stageOverflow s).kept = s.kept := by
  simp [State.stageOverflow]

@[simp ↓] theorem State.stage_kept (s : State) (kind : Nat) (payload : List Byte) :
    (State.stage s kind payload).kept = s.kept := by
  simp [State.stage]

@[simp ↓] theorem State.event_kept (s : State) (code a0 : Nat) (a1 : Nat) (a2 : Nat) :
    (State.event s code a0 a1 a2).kept = s.kept := by
  simp [State.event]

@[simp ↓] theorem State.updPort_kept (s : State) (p : Nat) (f : PortS → PortS) :
    (State.updPort s p f).kept = s.kept := by
  simp [State.updPort]

@[simp ↓] theorem State.wakeNow_kept (s : State) (src lnk : Nat) : (State.wakeNow s src lnk).kept = s.kept := by
  simp [State.wakeNow]

@[simp ↓] theorem State.wake_kept (s : State) (src lnk : Nat) : (State.wake s src lnk).kept = s.kept := by
  simp [State.wake]

@[simp ↓] theorem State.wakePending_kept (s : State) : (State.wakePending s).kept = s.kept := by
  simp [State.wakePending]

/-! ### Operands -/

@[simp ↓] theorem State.logBad_kept (s : State) (g : Nat) (we : Bool) (addr : Nat) (code : RspCode) :
    (State.logBad s g we addr code).kept = s.kept := by
  unfold State.logBad; split <;> simp

@[simp ↓] theorem State.respond_kept (s : State) (g : Nat) (code : RspCode) (data : Nat) :
    (State.respond s g code data).kept = s.kept := by
  simp [State.respond]

@[simp ↓] theorem State.newAccess_kept (s : State) : (State.newAccess s).kept = s.kept := by
  simp [State.newAccess]

@[simp ↓] theorem State.writeWith_kept (s : State) (g addr : Nat) (code : RspCode) (eff : State → State)
    (heff : ∀ z, (eff z).kept = z.kept) : (State.writeWith s g addr code eff).kept = s.kept := by
  unfold State.writeWith; split <;> simp [heff]

@[simp ↓] theorem State.writeNow_kept (s : State) (g addr : Nat) (data : Word) (eff : State → State) (heff : ∀ z, (eff z).kept = z.kept) :
    (State.writeNow s g addr data eff).kept = s.kept := by
  simp [State.writeNow, heff]

@[simp ↓] theorem State.holdAccess_kept (s : State) (g : Nat) (i3c we : Bool) (addr : Nat) (data : Word) :
    (State.holdAccess s g i3c we addr data).kept = s.kept := by
  simp [State.holdAccess]

@[simp ↓] theorem State.hostWrite_kept (s : State) (g addr : Nat) (data : Word) (eff : State → State) (heff : ∀ z, (eff z).kept = z.kept) :
    (State.hostWrite s g addr data eff).kept = s.kept := by
  simp [State.hostWrite,heff]

@[simp ↓] theorem State.hostRow_kept (s : State) (g : Nat) (F : Fld) (i v : Nat) (eff : State → State) (heff : ∀ z, (eff z).kept = z.kept) :
    (State.hostRow s g F i v eff).kept = s.kept := by
  simp [State.hostRow,heff]

@[simp ↓] theorem State.cfgsat_kept (s : State) (p : Nat) : (State.cfgsat s p).kept = s.kept := by
  simp [State.cfgsat]

@[simp ↓] theorem State.storeFld_kept (s : State) (priv : Bool) (addr : Nat) (data : Word) (F : Fld) :
    (State.storeFld s priv addr data F).kept = s.kept := by
  unfold State.storeFld; split <;> simp

@[simp ↓] theorem State.storeReg_kept (s : State) (priv : Bool) (addr : Nat) (data : Word) :
    (State.storeReg s priv addr data).kept = s.kept := by
  unfold State.storeReg; split <;> simp

/-! ### Reset -/

@[simp ↓] theorem State.calRefuse_kept (s : State) (r : Nat) : (State.calRefuse s r).kept = s.kept := by
  simp [State.calRefuse]

@[simp ↓] theorem State.commitRec_kept (s : State) : (State.commitRec s).kept = s.kept := by
  simp [State.commitRec]

@[simp ↓] theorem State.undarken_kept (s : State) (d : Nat) : (State.undarken s d).kept = s.kept := by
  simp [State.undarken]

/-! ### Keys -/

@[simp ↓] theorem State.dropWeights_kept (s : State) (st cause : Nat) :
    (State.dropWeights s st cause).kept = s.kept := by
  simp [State.dropWeights]

@[simp ↓] theorem State.ifPriv_kept (s : State) (g page : Nat) (f : State → State) (hf : ∀ z, (f z).kept = z.kept) :
    (State.ifPriv s g page f).kept = s.kept := by
  simp [State.ifPriv, hf]

end Sys2Proof.Machine
end

