-- ==== Sys2Proof/Laws/KeptCells.lean ====
section
/-!
SUPPORT. What the operations of the cells, Thunderhead and the anvil cells keep (`State.kept`): one lemma for each operation.
-/
namespace Sys2Proof.Machine

/-! ### Cells -/

@[simp ↓] theorem State.updCell_kept (s : State) (c : Nat) (f : CellS → CellS) :
    (State.updCell s c f).kept = s.kept := by
  simp [State.updCell]

@[simp ↓] theorem State.clearPhase_kept (s : State) (c p : Nat) : (State.clearPhase s c p).kept = s.kept := by
  simp [State.clearPhase]

@[simp ↓] theorem State.clearPhases_kept (s : State) (c : Nat) : (State.clearPhases s c).kept = s.kept := by
  simp [State.clearPhases]

@[simp ↓] theorem State.setCst_kept (s : State) (c st : Nat) : (State.setCst s c st).kept = s.kept := by
  simp [State.setCst]

@[simp ↓] theorem State.cellEvent_kept (s : State) (c cause : Nat) : (State.cellEvent s c cause).kept = s.kept := by
  simp [State.cellEvent]

@[simp ↓] theorem State.openSwitches_kept (s : State) (c : Nat) : (State.openSwitches s c).kept = s.kept := by
  simp [State.openSwitches]

@[simp ↓] theorem State.noteLoss_kept (s : State) (c : Nat) : (State.noteLoss s c).kept = s.kept := by
  simp [State.noteLoss]

@[simp ↓] theorem State.notePhase_kept (s : State) (c : Nat) : (State.notePhase s c).kept = s.kept := by
  simp [State.notePhase]

@[simp ↓] theorem State.cellFail_kept (s : State) (c cause : Nat) : (State.cellFail s c cause).kept = s.kept := by
  simp [State.cellFail]

@[simp ↓] theorem State.trigger_kept (s : State) (c cause : Nat) : (State.trigger s c cause).kept = s.kept := by
  simp [State.trigger]

@[simp ↓] theorem State.beginSoft_kept (s : State) (c : Nat) : (State.beginSoft s c).kept = s.kept := by
  simp [State.beginSoft]

@[simp ↓] theorem State.cellCurrent_kept (s : State) (c cmd vref : Nat) :
    (State.cellCurrent s c cmd vref).kept = s.kept := by
  simp [State.cellCurrent]

@[simp ↓] theorem State.cellLocal_kept (s : State) (c vloc : Nat) : (State.cellLocal s c vloc).kept = s.kept := by
  simp [State.cellLocal]

@[simp ↓] theorem State.switchCell_kept (s : State) (c vcell vfeed : Nat) (obs : List PhaseObs) :
    (State.switchCell s c vcell vfeed obs).kept = s.kept := by
  have h (o : Nat → PhaseObs) : ∀ (s : State) (p : Nat), State.kept { s with
      phases := tabUpd s.phases (4 * c + p) (phaseCheck (s.lp (4 * c + p)) vfeed vcell (o p)) } = s.kept :=
    fun _ _ => rfl
  unfold State.switchCell
  dsimp only
  rw [State.updCell_kept, State.set_kept, State.each_kept _ _ _ (h _), State.updCell_kept]

@[simp ↓] theorem effSwitching_kept (s : State) (c vcell vfeed : Nat) (obs : List PhaseObs) :
    (effSwitching s c vcell vfeed obs).kept = s.kept := by
  simp [effSwitching]

@[simp ↓] theorem effDrizzleShed_kept (s : State) (c : Nat) : (effDrizzleShed s c).kept = s.kept := by
  simp [effDrizzleShed]

@[simp ↓] theorem effPhaseRemoval_kept (s : State) (c p : Nat) : (effPhaseRemoval s c p).kept = s.kept := by
  simp [effPhaseRemoval]

@[simp ↓] theorem State.rampCell_kept (s : State) (c target : Nat) : (State.rampCell s c target).kept = s.kept := by
  simp [State.rampCell]

@[simp ↓] theorem State.sendStart_kept (s : State) (c target : Nat) : (State.sendStart s c target).kept = s.kept := by
  simp [State.sendStart]

@[simp ↓] theorem State.sendStop_kept (s : State) (c : Nat) : (State.sendStop s c).kept = s.kept := by
  simp [State.sendStop]

@[simp ↓] theorem effStartOrder_kept (s : State) (c : Nat) : (effStartOrder s c).kept = s.kept := by
  unfold effStartOrder; split <;> simp

@[simp ↓] theorem effHeldStart_kept (s : State) (c : Nat) : (effHeldStart s c).kept = s.kept := by
  simp [effHeldStart]

@[simp ↓] theorem State.stopCell_kept (s : State) (c : Nat) : (State.stopCell s c).kept = s.kept := by
  simp [State.stopCell]

@[simp ↓] theorem effStopOrder_kept (s : State) (c : Nat) : (effStopOrder s c).kept = s.kept := by
  simp [effStopOrder]

@[simp ↓] theorem effSoftComplete_kept (s : State) (c : Nat) : (effSoftComplete s c).kept = s.kept := by
  simp [effSoftComplete]

@[simp ↓] theorem effSoftShort_kept (s : State) (c : Nat) : (effSoftShort s c).kept = s.kept := by
  simp [effSoftShort]

@[simp ↓] theorem effSoftTimeout_kept (s : State) (c : Nat) : (effSoftTimeout s c).kept = s.kept := by
  simp [effSoftTimeout]

@[simp ↓] theorem effHiccup_kept (s : State) (c : Nat) : (effHiccup s c).kept = s.kept := by
  simp [effHiccup]

@[simp ↓] theorem effHiccupEnd_kept (s : State) (c : Nat) : (effHiccupEnd s c).kept = s.kept := by
  simp [effHiccupEnd]

@[simp ↓] theorem effCleanWindow_kept (s : State) (c : Nat) : (effCleanWindow s c).kept = s.kept := by
  simp [effCleanWindow]

@[simp ↓] theorem effDllLock_kept (s : State) (d : Nat) : (effDllLock s d).kept = s.kept := by
  simp [effDllLock]

@[simp ↓] theorem effHoldover_kept (s : State) (d : Nat) : (effHoldover s d).kept = s.kept := by
  simp [effHoldover]

@[simp ↓] theorem effSyncReturn_kept (s : State) (d : Nat) : (effSyncReturn s d).kept = s.kept := by
  simp [effSyncReturn]

/-! ### Transients -/

@[simp ↓] theorem State.updHub_kept (s : State) (d : Nat) (f : HubS → HubS) : (State.updHub s d f).kept = s.kept := by
  simp [State.updHub]

@[simp ↓] theorem State.testSensors_kept (s : State) (d : Nat) (codes : List Nat) :
    (State.testSensors s d codes).kept = s.kept := by
  simp [State.testSensors]

@[simp ↓] theorem State.updAnv_kept (s : State) (a : Nat) (f : AnvS → AnvS) : (State.updAnv s a f).kept = s.kept := by
  simp [State.updAnv]

@[simp ↓] theorem State.setAnv_kept (s : State) (a st : Nat) : (State.setAnv s a st).kept = s.kept := by
  simp [State.setAnv]

@[simp ↓] theorem State.anvFail_kept (s : State) (a : Nat) : (State.anvFail s a).kept = s.kept := by
  simp [State.anvFail]

@[simp ↓] theorem State.anvRelEnd_kept (s : State) (a ns : Nat) : (State.anvRelEnd s a ns).kept = s.kept := by
  simp [State.anvRelEnd]

@[simp ↓] theorem State.endReleases_kept (s : State) (d : Nat) : (State.endReleases s d).kept = s.kept := by
  simp [State.endReleases]

@[simp ↓] theorem State.anvilsOff_kept (s : State) (d : Nat) : (State.anvilsOff s d).kept = s.kept := by
  simp [State.anvilsOff]

@[simp ↓] theorem State.anvilsCharge_kept (s : State) (d : Nat) : (State.anvilsCharge s d).kept = s.kept := by
  simp [State.anvilsCharge]

@[simp ↓] theorem State.anvDeliver_kept (s : State) (a vloc : Nat) : (State.anvDeliver s a vloc).kept = s.kept := by
  simp [State.anvDeliver]

@[simp ↓] theorem State.anvSample_kept (s : State) (a vst vfeed : Nat) : (State.anvSample s a vst vfeed).kept = s.kept := by
  simp [State.anvSample]

@[simp ↓] theorem State.thDisarm_kept (s : State) (d : Nat) : (State.thDisarm s d).kept = s.kept := by
  simp [State.thDisarm]

@[simp ↓] theorem State.thFire_kept (s : State) (d : Nat) (depth slope : Bool) :
    (State.thFire s d depth slope).kept = s.kept := by
  simp [State.thFire]

@[simp ↓] theorem State.thTaperBegin_kept (s : State) (d : Nat) : (State.thTaperBegin s d).kept = s.kept := by
  simp [State.thTaperBegin]

@[simp ↓] theorem State.thSample_kept (s : State) (d mn : Nat) : (State.thSample s d mn).kept = s.kept := by
  simp [State.thSample]

@[simp ↓] theorem effHubSample_kept (s : State) (d : Nat) (codes vst vloc : List Nat) (vfeed : Nat) :
    (effHubSample s d codes vst vloc vfeed).kept = s.kept := by
  simp [effHubSample]

@[simp ↓] theorem effSensorSuspect_kept (s : State) (d k : Nat) : (effSensorSuspect s d k).kept = s.kept := by
  simp [effSensorSuspect]

@[simp ↓] theorem effSsusp_kept (s : State) (d j : Nat) (w : Word) : (effSsusp s d j w).kept = s.kept := by
  simp [effSsusp]

@[simp ↓] theorem effSret_kept (s : State) (d j : Nat) (w : Word) : (effSret s d j w).kept = s.kept := by
  simp [effSret]

@[simp ↓] theorem State.applyRet_kept (s : State) (d : Nat) : (State.applyRet s d).kept = s.kept := by
  simp [State.applyRet]

@[simp ↓] theorem effMaxhold_kept (s : State) (d : Nat) : (effMaxhold s d).kept = s.kept := by
  simp [effMaxhold]

@[simp ↓] theorem effTaperEnd_kept (s : State) (d : Nat) : (effTaperEnd s d).kept = s.kept := by
  simp [effTaperEnd]

@[simp ↓] theorem effAnvRelease_kept (s : State) (a ns vst : Nat) : (effAnvRelease s a ns vst).kept = s.kept := by
  simp [effAnvRelease]

@[simp ↓] theorem effAnvCharged_kept (s : State) (a vst vfeed : Nat) : (effAnvCharged s a vst vfeed).kept = s.kept := by
  simp [effAnvCharged]

@[simp ↓] theorem effAnvTimeout_kept (s : State) (a : Nat) : (effAnvTimeout s a).kept = s.kept := by
  simp [effAnvTimeout]

@[simp ↓] theorem effAnvLeak_kept (s : State) (a : Nat) : (effAnvLeak s a).kept = s.kept := by
  simp [effAnvLeak]

@[simp ↓] theorem effVfeedExcursion_kept (s : State) (d : Nat) : (effVfeedExcursion s d).kept = s.kept := by
  simp [effVfeedExcursion]

end Sys2Proof.Machine
end

