-- ==== Sys2Proof/Laws/KeptGrants.lean ====
section
/-!
SUPPORT. What the operations of the books, the arithmetic checks and the grant queues keep (`State.kept`): one lemma for each operation.
-/
namespace Sys2Proof.Machine

/-! ### Book -/

@[simp ↓] theorem State.updBk_kept (s : State) (d : Nat) (f : BookS → BookS) : (State.updBk s d f).kept = s.kept := by
  simp [State.updBk]

@[simp ↓] theorem State.updQ_kept (s : State) (q : Nat) (f : QueueS → QueueS) : (State.updQ s q f).kept = s.kept := by
  simp [State.updQ]

@[simp ↓] theorem State.bookGrant_kept (s : State) (d q start dur : Nat) (dc : Int) (cls : Nat) (iref : Option Int) :
    (State.bookGrant s d q start dur dc cls iref).2.kept = s.kept := by
  simp [State.bookGrant]

@[simp ↓] theorem State.emitHeads_kept (s : State) (q : Nat) (x0 : Nat) : (State.emitHeads s q x0).kept = s.kept := by
  induction x0 generalizing s with
  | zero => simp [State.emitHeads]
  | succ n ih =>
    unfold State.emitHeads
    repeat' split
    all_goals simp [ih]

@[simp ↓] theorem State.notice_kept (s : State) (q gid : Nat) (w : BitVec 32) :
    (State.notice s q gid w).kept = s.kept := by
  simp [State.notice]

@[simp ↓] theorem State.revoke_kept (s : State) (d : Nat) (g : Grant) : (State.revoke s d g).kept = s.kept := by
  simp [State.revoke]

@[simp ↓] theorem State.revokePass_kept (s : State) (d : Nat) (x0 : List Grant) :
    (State.revokePass s d x0).kept = s.kept := by
  induction x0 generalizing s with
  | nil => simp [State.revokePass]
  | cons x l ih => simp [State.revokePass, ih]

@[simp ↓] theorem State.capUpdate_kept (s : State) (d : Nat) (chg : Bool) :
    (State.capUpdate s d chg).kept = s.kept := by
  simp [State.capUpdate]

@[simp ↓] theorem State.ledgerFault_kept (s : State) (d : Nat) : (State.ledgerFault s d).kept = s.kept := by
  simp [State.ledgerFault]

@[simp ↓] theorem State.baseUpdate_kept (s : State) (d : Nat) : (State.baseUpdate s d).kept = s.kept := by
  simp [State.baseUpdate]

/-! ### Arith -/

@[simp ↓] theorem State.errLoc_kept (s : State) (cause stage d : Nat) :
    (State.errLoc s cause stage d).kept = s.kept := by
  simp [State.errLoc]

@[simp ↓] theorem State.resFlag_kept (s : State) : (State.resFlag s).kept = s.kept := by
  simp [State.resFlag]

@[simp ↓] theorem State.dbeFlag_kept (s : State) : (State.dbeFlag s).kept = s.kept := by
  simp [State.dbeFlag]

@[simp ↓] theorem State.sbeFlag_kept (s : State) (n : Nat) : (State.sbeFlag s n).kept = s.kept := by
  simp [State.sbeFlag]

@[simp ↓] theorem State.seqFault_kept (s : State) (d stage : Nat) (residue uncor : Bool) :
    (State.seqFault s d stage residue uncor).kept = s.kept := by
  simp [State.seqFault]

@[simp ↓] theorem State.fcFault_kept (s : State) (d stage : Nat) (residue uncor : Bool) :
    (State.fcFault s d stage residue uncor).kept = s.kept := by
  simp [State.fcFault]

@[simp ↓] theorem State.scanFault_kept (s : State) (d : Nat) : (State.scanFault s d).kept = s.kept := by
  simp [State.scanFault]

@[simp ↓] theorem State.takeInj_kept (s : State) (stage d : Nat) : (State.takeInj s stage d).2.kept = s.kept := by
  unfold State.takeInj; split <;> simp

/-! ### Grants -/

@[simp ↓] theorem State.updBar_kept (s : State) (b : Nat) (f : Barrier → Barrier) :
    (State.updBar s b f).kept = s.kept := by
  simp [State.updBar]

@[simp ↓] theorem State.joinBar_kept (s : State) (d b bcnt edge tref : Nat) :
    (State.joinBar s d b bcnt edge tref).kept = s.kept := by
  simp [State.joinBar]

@[simp ↓] theorem State.register_kept (s : State) (q f edge : Nat) : (State.register s q f edge).kept = s.kept := by
  simp [State.register]

@[simp ↓] theorem effForecastPost_kept (s : State) (q : Nat) (fc : BitVec 64) (edge : Nat) :
    (effForecastPost s q fc edge).kept = s.kept := by
  simp [effForecastPost]

@[simp ↓] theorem effIssue_kept (s : State) (q : Nat) : (effIssue s q).kept = s.kept := by
  unfold effIssue; split <;> simp

@[simp ↓] theorem effScan_kept (s : State) (q at_ : Nat) (delta : Int) : (effScan s q at_ delta).kept = s.kept := by
  unfold effScan; split <;> simp

@[simp ↓] theorem State.granted_kept (s : State) (d q start dur tref : Nat) (dc : Int) (f status : Nat) (iref : Option Int) :
    (State.granted s d q start dur tref dc f status iref).2.kept = s.kept := by
  simp [State.granted]

@[simp ↓] theorem State.admitRise_kept (s : State) (q : Nat) (e : Ent) (edge : Nat) :
    (State.admitRise s q e edge).2.kept = s.kept := by
  simp [State.admitRise]; repeat' split
  all_goals simp

@[simp ↓] theorem State.decideFc_kept (s : State) (q : Nat) (e : Ent) (edge : Nat) :
    (State.decideFc s q e edge).2.kept = s.kept := by
  simp [State.decideFc]; repeat' split
  all_goals simp

@[simp ↓] theorem effDecision_kept (s : State) (q edge : Nat) : (effDecision s q edge).kept = s.kept := by
  unfold effDecision; split <;> simp

@[simp ↓] theorem State.sunScan_kept (s : State) (ups : List ScanUp) (d k : Nat) (v : List (Int × Bool)) :
    (State.sunScan s ups d k v).2.kept = s.kept := by
  simp [State.sunScan]; repeat' split
  all_goals simp

@[simp ↓] theorem State.answer_kept (s : State) (b close : Nat) (q : Nat) (w : BitVec 32) :
    (State.answer s b close q w).kept = s.kept := by
  simp [State.answer]

@[simp ↓] theorem State.refuseAll_kept (s : State) (b close why : Nat) (ps : List (Nat × Ent)) :
    (State.refuseAll s b close why ps).kept = s.kept := by
  simp [State.refuseAll]

@[simp ↓] theorem State.sunriseDist_kept (s : State) (ups : List ScanUp) (b t0 close d : Nat) (pre : Option (List Int)) (left : Nat) :
    (State.sunriseDist s ups b t0 close d pre left).2.kept = s.kept := by
  simp [State.sunriseDist]; repeat' split
  all_goals simp

@[simp ↓] theorem State.endLifts_kept (s : State) (b slot : Nat) : (State.endLifts s b slot).kept = s.kept := by
  simp [State.endLifts]

@[simp ↓] theorem State.prefixScans_kept (s : State) (ups : List ScanUp) (b : Nat) (x0 : List Nat) :
    (State.prefixScans s ups b x0).2.kept = s.kept := by
  induction x0 generalizing s with
  | nil => rfl
  | cons d r ih =>
    unfold State.prefixScans
    dsimp only
    split
    · exact ih s
    · simp [ih]

@[simp ↓] theorem State.sunriseAll_kept (s : State) (ups : List ScanUp) (b t0 close : Nat) (lefts : List Nat) (x0 : List (Nat × Option (List Int))) :
    (State.sunriseAll s ups b t0 close lefts x0).kept = s.kept := by
  induction x0 generalizing s lefts with
  | nil => rfl
  | cons d r ih => simp [State.sunriseAll, ih]

@[simp ↓] theorem effSunrise_kept (s : State) (b : Nat) (ups : List ScanUp) : (effSunrise s b ups).kept = s.kept := by
  unfold effSunrise
  dsimp only
  split
  · simp
  · rfl

@[simp ↓] theorem effBarTimeout_kept (s : State) (b : Nat) : (effBarTimeout s b).kept = s.kept := by
  simp [effBarTimeout]

@[simp ↓] theorem State.fill_kept (s : State) (d : Nat) (nak : Bool) : (State.fill s d nak).kept = s.kept := by
  simp [State.fill]

@[simp ↓] theorem State.observe_kept (s : State) (d j : Nat) (ma : Int) : (State.observe s d j ma).kept = s.kept := by
  simp [State.observe]

@[simp ↓] theorem effExpiry_kept (s : State) (d gid : Nat) : (effExpiry s d gid).kept = s.kept := by
  unfold effExpiry; split <;> simp

@[simp ↓] theorem effResponse_kept (s : State) (q edge : Nat) : (effResponse s q edge).kept = s.kept := by
  unfold effResponse; repeat' split
  all_goals simp

@[simp ↓] theorem effInit_kept (s : State) (q : Nat) : (effInit s q).kept = s.kept := by
  simp [effInit]

@[simp ↓] theorem State.refusePending_kept (s : State) (q : Nat) : (State.refusePending s q).kept = s.kept := by
  simp [State.refusePending]

@[simp ↓] theorem effFlush_kept (s : State) (q : Nat) : (effFlush s q).kept = s.kept := by
  simp [effFlush]

@[simp ↓] theorem State.refuseHeld_kept (s : State) : (State.refuseHeld s).kept = s.kept := by
  simp [State.refuseHeld]

@[simp ↓] theorem State.clearBank_kept (s : State) (F : Fld) : (State.clearBank s F).kept = s.kept := by
  simp only [State.clearBank, State.kept]
  rw [tabWf_map]
  intro r
  split <;> rfl

@[simp ↓] theorem effGqClr_kept (s : State) : (effGqClr s).kept = s.kept := by
  simp [effGqClr]

end Sys2Proof.Machine
end

