-- ==== Sys2Proof/Laws/KeptLaw.lean ====
section
/-!
SUPPORT. What the operations of the Orrery and the housekeeping ADC keep (`State.kept`): one lemma for each operation.
-/
namespace Sys2Proof.Machine

/-! ### Bfp -/

/-! ### Law -/

@[simp ↓] theorem State.updLaw_kept (s : State) (d : Nat) (f : LawS → LawS) : (State.updLaw s d f).kept = s.kept := by
  simp [State.updLaw]

@[simp ↓] theorem State.updPw_kept (s : State) (d : Nat) (f : PwrS → PwrS) : (State.updPw s d f).kept = s.kept := by
  simp [State.updPw]

@[simp ↓] theorem State.clearLaw_kept (s : State) (d : Nat) : (State.clearLaw s d).kept = s.kept := by
  simp [State.clearLaw]

@[simp ↓] theorem State.tstStop_kept (s : State) (code : Nat) : (State.tstStop s code).kept = s.kept := by
  simp [State.tstStop]

@[simp ↓] theorem State.tstEnd_kept (s : State) : (State.tstEnd s).kept = s.kept := by
  simp [State.tstEnd]

@[simp ↓] theorem State.tstStep_kept (s : State) : (State.tstStep s).kept = s.kept := by
  simp [State.tstStep]

@[simp ↓] theorem State.frame_kept (s : State) (d : Nat) (cmd : List Int) (v : Nat) :
    (State.frame s d cmd v).kept = s.kept := by
  simp [State.frame]

@[simp ↓] theorem State.issueFrame_kept (s : State) (d : Nat) (cmd : List Int) (v delay : Nat) :
    (State.issueFrame s d cmd v delay).kept = s.kept := by
  simp [State.issueFrame]

@[simp ↓] theorem State.dropFrame_kept (s : State) (d : Nat) (m : Meas) : (State.dropFrame s d m).kept = s.kept := by
  simp [State.dropFrame]

@[simp ↓] theorem State.holdFrame_kept (s : State) (d : Nat) : (State.holdFrame s d).kept = s.kept := by
  simp [State.holdFrame]

@[simp ↓] theorem State.noFrame_kept (s : State) (d : Nat) : (State.noFrame s d).kept = s.kept := by
  simp [State.noFrame]

@[simp ↓] theorem effFrameLoss_kept (s : State) (d : Nat) : (effFrameLoss s d).kept = s.kept := by
  simp [effFrameLoss]

@[simp ↓] theorem State.discard_kept (s : State) (d : Nat) : (State.discard s d).kept = s.kept := by
  simp [State.discard]

@[simp ↓] theorem State.seqInj_kept (s : State) (d : Nat) : (State.seqInj s d).2.2.2.kept = s.kept := by
  simp [State.seqInj]; repeat' split
  all_goals simp

@[simp ↓] theorem State.updFc_kept (s : State) (d : Nat) (f : FcsS → FcsS) : (State.updFc s d f).kept = s.kept := by
  simp [State.updFc]

@[simp ↓] theorem State.satFlag_kept (s : State) (n : Nat) : (State.satFlag s n).kept = s.kept := by
  simp [State.satFlag]

@[simp ↓] theorem State.noteBad_kept (s : State) (w : SramPlace) : (State.noteBad s w).kept = s.kept := by
  unfold State.noteBad; split <;> simp

@[simp ↓] theorem State.passSeq_kept (s : State) (d : Nat) (o : SeqOut) : (State.passSeq s d o).kept = s.kept := by
  simp [State.passSeq]

@[simp ↓] theorem State.lateSeq_kept (s : State) (d : Nat) : (State.lateSeq s d).kept = s.kept := by
  simp [State.lateSeq]

@[simp ↓] theorem State.distribute_kept (s : State) (d : Nat) (o : SeqOut) (unc : Bool) (issue : Nat) :
    (State.distribute s d o unc issue).kept = s.kept := by
  simp [State.distribute]

@[simp ↓] theorem State.runSeq_kept (s : State) (ms : List Meas) (d : Nat) : (State.runSeq s ms d).kept = s.kept := by
  simp [State.runSeq]; split <;> simp

@[simp ↓] theorem State.lawPeriod_kept (s : State) (ms : List Meas) (d n : Nat) :
    (State.lawPeriod s ms d n).kept = s.kept := by
  simp [State.lawPeriod]

@[simp ↓] theorem State.region_kept (s : State) (d : Nat) : (State.region s d).kept = s.kept := by
  simp [State.region]

@[simp ↓] theorem effDeadline_kept (s : State) (d : Nat) : (effDeadline s d).kept = s.kept := by
  simp [effDeadline]

@[simp ↓] theorem effPersistent_kept (s : State) (d : Nat) : (effPersistent s d).kept = s.kept := by
  simp [effPersistent]

@[simp ↓] theorem effScrub_kept (s : State) (hit : ScrubHit) (last : Bool) (d : Nat) :
    (effScrub s hit last d).kept = s.kept := by
  unfold effScrub; cases hit <;> simp

@[simp ↓] theorem effInj_kept (s : State) (w : Word) : (effInj s w).kept = s.kept := by
  simp [effInj]

@[simp ↓] theorem effOrrClr_kept (s : State) : (effOrrClr s).kept = s.kept := by
  simp [effOrrClr]

@[simp ↓] theorem effArm_kept (s : State) : (effArm s).kept = s.kept := by
  simp [effArm]

@[simp ↓] theorem effDisarm_kept (s : State) : (effDisarm s).kept = s.kept := by
  simp [effDisarm]

@[simp ↓] theorem effTstStart_kept (s : State) : (effTstStart s).kept = s.kept := by
  simp [effTstStart]

@[simp ↓] theorem effDurExpire_kept (s : State) : (effDurExpire s).kept = s.kept := by
  simp [effDurExpire]

/-! ### Adc -/

@[simp ↓] theorem State.updSlice_kept (s : State) (k : Nat) (f : SliceS → SliceS) :
    (State.updSlice s k f).kept = s.kept := by
  simp [State.updSlice]

@[simp ↓] theorem effStartup_kept (s : State) (k : Nat) : (effStartup s k).kept = s.kept := by
  simp [effStartup]

@[simp ↓] theorem State.injStart_kept (s : State) : (State.injStart s).kept = s.kept := by
  simp [State.injStart]

@[simp ↓] theorem State.injTrigger_kept (s : State) : (State.injTrigger s).kept = s.kept := by
  simp [State.injTrigger]

@[simp ↓] theorem State.roundBegin_kept (s : State) : (State.roundBegin s).kept = s.kept := by
  simp [State.roundBegin]

@[simp ↓] theorem State.roundStart_kept (s : State) : (State.roundStart s).kept = s.kept := by
  simp [State.roundStart]

@[simp ↓] theorem effRoundTimer_kept (s : State) : (effRoundTimer s).kept = s.kept := by
  simp [effRoundTimer]

@[simp ↓] theorem effRoundWatchdog_kept (s : State) : (effRoundWatchdog s).kept = s.kept := by
  simp [effRoundWatchdog]

@[simp ↓] theorem State.rotate_kept (s : State) : (State.rotate s).kept = s.kept := by
  simp [State.rotate]

@[simp ↓] theorem effRotation_kept (s : State) : (effRotation s).kept = s.kept := by
  simp [effRotation]

@[simp ↓] theorem State.rotateIfDue_kept (s : State) : (State.rotateIfDue s).kept = s.kept := by
  simp [State.rotateIfDue]

@[simp ↓] theorem effCalibration_kept (s : State) (ground half full : Int) :
    (effCalibration s ground half full).kept = s.kept := by
  simp [effCalibration]

end Sys2Proof.Machine
end

