-- ==== Sys2Proof/Laws/KeptPower.lean ====
section
/-!
SUPPORT. What the operations of Contrail, the power states and the faults keep (`State.kept`): one lemma for each operation.
-/
namespace Sys2Proof.Machine

/-! ### Link -/

@[simp ↓] theorem State.clearCause_kept (s : State) (cls : Nat) : (State.clearCause s cls).kept = s.kept := by
  simp [State.clearCause]

@[simp ↓] theorem State.unack_kept (s : State) (p : Nat) : (State.unack s p).kept = s.kept := by
  simp [State.unack]

@[simp ↓] theorem State.sendFrame_kept (s : State) (p ty : Nat) (pay : List Nat) :
    (State.sendFrame s p ty pay).kept = s.kept := by
  simp [State.sendFrame]

@[simp ↓] theorem State.sendBye_kept (s : State) (p reason : Nat) : (State.sendBye s p reason).kept = s.kept := by
  simp [State.sendBye]

@[simp ↓] theorem State.depart_kept (s : State) (p cause : Nat) : (State.depart s p cause).kept = s.kept := by
  simp [State.depart]

@[simp ↓] theorem State.portDown_kept (s : State) (p st reason cause : Nat) :
    (State.portDown s p st reason cause).kept = s.kept := by
  simp [State.portDown]

@[simp ↓] theorem State.linkDown_kept (s : State) (p reason : Nat) (from_ : List Nat) :
    (State.linkDown s p reason from_).kept = s.kept := by
  simp [State.linkDown]

@[simp ↓] theorem effPresent_kept (s : State) (p : Nat) : (effPresent s p).kept = s.kept := by
  simp [effPresent]

@[simp ↓] theorem effAbsent_kept (s : State) (p : Nat) : (effAbsent s p).kept = s.kept := by
  simp [effAbsent]

@[simp ↓] theorem effPortOpen_kept (s : State) (p : Nat) : (effPortOpen s p).kept = s.kept := by
  simp [effPortOpen]

@[simp ↓] theorem effAlignLoss_kept (s : State) (p : Nat) : (effAlignLoss s p).kept = s.kept := by
  simp [effAlignLoss]

@[simp ↓] theorem State.syncDone_kept (s : State) (p : Nat) : (State.syncDone s p).kept = s.kept := by
  simp [State.syncDone]

@[simp ↓] theorem effSyncTimeout_kept (s : State) (p : Nat) : (effSyncTimeout s p).kept = s.kept := by
  simp [effSyncTimeout]

@[simp ↓] theorem effAlign_kept (s : State) (p : Nat) : (effAlign s p).kept = s.kept := by
  simp [effAlign]

@[simp ↓] theorem effDownRetry_kept (s : State) (p : Nat) : (effDownRetry s p).kept = s.kept := by
  simp [effDownRetry]

@[simp ↓] theorem State.portEnFell_kept (s : State) (p : Nat) : (State.portEnFell s p).kept = s.kept := by
  simp [State.portEnFell]

@[simp ↓] theorem State.nakFrame_kept (s : State) (p ns : Nat) : (State.nakFrame s p ns).kept = s.kept := by
  simp [State.nakFrame]

@[simp ↓] theorem effDiscard_kept (s : State) (p ns : Nat) : (effDiscard s p ns).kept = s.kept := by
  simp [effDiscard]

@[simp ↓] theorem effAck_kept (s : State) (p n : Nat) : (effAck s p n).kept = s.kept := by
  simp [effAck]

@[simp ↓] theorem State.resend_kept (s : State) (p n : Nat) : (State.resend s p n).kept = s.kept := by
  simp [State.resend]

@[simp ↓] theorem effNak_kept (s : State) (p n : Nat) : (effNak s p n).kept = s.kept := by
  simp [effNak]

@[simp ↓] theorem effRetransmit_kept (s : State) (p : Nat) : (effRetransmit s p).kept = s.kept := by
  unfold effRetransmit; split <;> simp

@[simp ↓] theorem State.coolLoss_kept (s : State) (src : Nat) : (State.coolLoss s src).kept = s.kept := by
  simp [State.coolLoss]

@[simp ↓] theorem State.onHello_kept (s : State) (p : Nat) (pay : List Byte) :
    (State.onHello s p pay).kept = s.kept := by
  simp [State.onHello]

@[simp ↓] theorem State.onCaps_kept (s : State) (p : Nat) (pay : List Byte) : (State.onCaps s p pay).kept = s.kept := by
  simp [State.onCaps]; split <;> simp

@[simp ↓] theorem State.onTelem_kept (s : State) (p : Nat) (pay : List Byte) :
    (State.onTelem s p pay).kept = s.kept := by
  simp [State.onTelem]

@[simp ↓] theorem State.onAlert_kept (s : State) (p : Nat) (pay : List Byte) :
    (State.onAlert s p pay).kept = s.kept := by
  simp [State.onAlert]

@[simp ↓] theorem State.onBye_kept (s : State) (p : Nat) : (State.onBye s p).kept = s.kept := by
  unfold State.onBye; split <;> simp

@[simp ↓] theorem State.deliver_kept (s : State) (p ty : Nat) (pay : List Byte) :
    (State.deliver s p ty pay).kept = s.kept := by
  unfold State.deliver; repeat' split
  all_goals simp

@[simp ↓] theorem State.acceptFrame_kept (s : State) (p ty sq : Nat) (pay : List Byte) :
    (State.acceptFrame s p ty sq pay).kept = s.kept := by
  simp [State.acceptFrame]

@[simp ↓] theorem State.rxFrame_kept (s : State) (p ty sq : Nat) (pay : List Byte) (ns : Nat) :
    (State.rxFrame s p ty sq pay ns).kept = s.kept := by
  simp [State.rxFrame]

@[simp ↓] theorem effFrame_kept (s : State) (p : Nat) (b : List Byte) (ns : Nat) :
    (effFrame s p b ns).kept = s.kept := by
  unfold effFrame; split <;> simp

@[simp ↓] theorem State.nextFrame_kept (s : State) (p ty : Nat) (pay : List Byte) :
    (State.nextFrame s p ty pay).kept = s.kept := by
  simp [State.nextFrame]

@[simp ↓] theorem effKeepalive_kept (s : State) (p : Nat) : (effKeepalive s p).kept = s.kept := by
  simp [effKeepalive]

@[simp ↓] theorem effStale_kept (s : State) (p : Nat) : (effStale s p).kept = s.kept := by
  simp [effStale]

@[simp ↓] theorem State.portDie_kept (s : State) (p : Nat) : (State.portDie s p).kept = s.kept := by
  simp [State.portDie]

@[simp ↓] theorem State.sendTrim_kept (s : State) (p : Nat) (dv : Int) : (State.sendTrim s p dv).kept = s.kept := by
  simp [State.sendTrim]

@[simp ↓] theorem State.trimRound_kept (s : State) (p res : Nat) : (State.trimRound s p res).kept = s.kept := by
  simp [State.trimRound]

@[simp ↓] theorem State.trimOff_kept (s : State) : (State.trimOff s).kept = s.kept := by
  simp [State.trimOff]

@[simp ↓] theorem State.byeAll_kept (s : State) (reason : Nat) : (State.byeAll s reason).kept = s.kept := by
  simp [State.byeAll]

@[simp ↓] theorem State.byeSleep_kept (s : State) (p : Nat) : (State.byeSleep s p).kept = s.kept := by
  simp [State.byeSleep]

@[simp ↓] theorem effLinkActivity_kept (s : State) (p : Nat) : (effLinkActivity s p).kept = s.kept := by
  simp [effLinkActivity]

/-! ### Power -/

@[simp ↓] theorem State.redrive_kept (s : State) (d : Nat) : (State.redrive s d).kept = s.kept := by
  simp [State.redrive]

@[simp ↓] theorem State.driveState_kept (s : State) (d st : Nat) : (State.driveState s d st).kept = s.kept := by
  simp [State.driveState]

@[simp ↓] theorem State.pwrStep_kept (s : State) (d : Nat) (st : PwrStep) (code : Nat) :
    (State.pwrStep s d st code).kept = s.kept := by
  simp [State.pwrStep]

@[simp ↓] theorem State.setTgt_kept (s : State) (d v : Nat) : (State.setTgt s d v).kept = s.kept := by
  simp [State.setTgt]

@[simp ↓] theorem State.endWait_kept (s : State) (d : Nat) : (State.endWait s d).kept = s.kept := by
  simp [State.endWait]

@[simp ↓] theorem State.pursue_kept (s : State) (d : Nat) : (State.pursue s d).kept = s.kept := by
  simp [State.pursue]

@[simp ↓] theorem State.request_kept (s : State) (d v : Nat) : (State.request s d v).kept = s.kept := by
  simp [State.request]

@[simp ↓] theorem effTargets_kept (s : State) (j : Nat) (w : Word) : (effTargets s j w).kept = s.kept := by
  simp [effTargets]

@[simp ↓] theorem State.pursueLatched_kept (s : State) (d : Nat) : (State.pursueLatched s d).kept = s.kept := by
  simp [State.pursueLatched]

@[simp ↓] theorem State.pursueAll_kept (s : State) : (State.pursueAll s).kept = s.kept := by
  simp [State.pursueAll]

@[simp ↓] theorem State.zeroF_kept (s : State) (d : Nat) : (State.zeroF s d).kept = s.kept := by
  simp [State.zeroF]

@[simp ↓] theorem State.clearThr_kept (s : State) (d : Nat) : (State.clearThr s d).kept = s.kept := by
  simp [State.clearThr]

@[simp ↓] theorem State.entryStart_kept (s : State) (d : Nat) (retain : Bool) :
    (State.entryStart s d retain).kept = s.kept := by
  simp [State.entryStart]

@[simp ↓] theorem effEntryBegin_kept (s : State) (d : Nat) : (effEntryBegin s d).kept = s.kept := by
  simp [effEntryBegin]

@[simp ↓] theorem effEntryIsolate_kept (s : State) (d : Nat) : (effEntryIsolate s d).kept = s.kept := by
  simp [effEntryIsolate]

@[simp ↓] theorem effEntrySwitches_kept (s : State) (d : Nat) : (effEntrySwitches s d).kept = s.kept := by
  simp [effEntrySwitches]

@[simp ↓] theorem State.qualZero_kept (s : State) (d : Nat) : (State.qualZero s d).kept = s.kept := by
  simp [State.qualZero]

@[simp ↓] theorem State.qualHold_kept (s : State) (d : Nat) : (State.qualHold s d).kept = s.kept := by
  simp [State.qualHold]

@[simp ↓] theorem effRetainDone_kept (s : State) (d : Nat) : (effRetainDone s d).kept = s.kept := by
  simp [effRetainDone]

@[simp ↓] theorem State.sleepProgress_kept (s : State) (z : Nat) : (State.sleepProgress s z).kept = s.kept := by
  simp [State.sleepProgress]

@[simp ↓] theorem State.offDone_kept (s : State) (d : Nat) : (State.offDone s d).kept = s.kept := by
  simp [State.offDone]

@[simp ↓] theorem State.switchOn_kept (s : State) (d vs : Nat) : (State.switchOn s d vs).kept = s.kept := by
  simp [State.switchOn]

@[simp ↓] theorem State.supplyOn_kept (s : State) : (State.supplyOn s).kept = s.kept := by
  simp [State.supplyOn]

@[simp ↓] theorem State.supplyDue_kept (s : State) : (State.supplyDue s).kept = s.kept := by
  simp [State.supplyDue]

@[simp ↓] theorem effOffDone_kept (s : State) (d : Nat) : (effOffDone s d).kept = s.kept := by
  simp [effOffDone]

@[simp ↓] theorem effRailok_kept (s : State) (d : Nat) : (effRailok s d).kept = s.kept := by
  simp [effRailok]

@[simp ↓] theorem effOnPower_kept (s : State) (d : Nat) : (effOnPower s d).kept = s.kept := by
  simp [effOnPower]

@[simp ↓] theorem effOnComplete_kept (s : State) (d : Nat) : (effOnComplete s d).kept = s.kept := by
  simp [effOnComplete]

@[simp ↓] theorem effClockStart_kept (s : State) (d : Nat) : (effClockStart s d).kept = s.kept := by
  simp [effClockStart]

@[simp ↓] theorem effOnFail_kept (s : State) (d : Nat) : (effOnFail s d).kept = s.kept := by
  simp [effOnFail]

@[simp ↓] theorem State.waitOn_kept (s : State) (e : Nat) : (State.waitOn s e).kept = s.kept := by
  simp [State.waitOn]

@[simp ↓] theorem State.admitOn_kept (s : State) (behind : Bool) (x0 : List Nat) :
    (State.admitOn s behind x0).kept = s.kept := by
  induction x0 generalizing s behind with
  | nil => rfl
  | cons d r ih => simp [State.admitOn, ih]

@[simp ↓] theorem State.dieSwitchOn_kept (s : State) : (State.dieSwitchOn s).kept = s.kept := by
  simp [State.dieSwitchOn]

@[simp ↓] theorem effSwitchOnBegin_kept (s : State) (d : Nat) : (effSwitchOnBegin s d).kept = s.kept := by
  simp [effSwitchOnBegin]

@[simp ↓] theorem State.actReq_kept (s : State) (v : Nat) : (State.actReq s v).kept = s.kept := by
  unfold State.actReq; repeat' split
  all_goals simp

@[simp ↓] theorem effDevReq_kept (s : State) (v : Nat) : (effDevReq s v).kept = s.kept := by
  simp [effDevReq]

@[simp ↓] theorem State.devReqBy_kept (s : State) (priv : Bool) (v : Nat) : (State.devReqBy s priv v).kept = s.kept := by
  simp [State.devReqBy]

@[simp ↓] theorem State.reachRun_kept (s : State) : (State.reachRun s).kept = s.kept := by
  simp [State.reachRun]

@[simp ↓] theorem effDozeDone_kept (s : State) : (effDozeDone s).kept = s.kept := by
  simp [effDozeDone]

@[simp ↓] theorem effDozeExit_kept (s : State) : (effDozeExit s).kept = s.kept := by
  simp [effDozeExit]

@[simp ↓] theorem State.turnOff_kept (s : State) (d : Nat) : (State.turnOff s d).kept = s.kept := by
  simp [State.turnOff]; split <;> simp

@[simp ↓] theorem State.sleepEntries_kept (s : State) : (State.sleepEntries s).kept = s.kept := by
  unfold State.sleepEntries
  dsimp only
  rw [State.each_kept, State.each_kept]
  · intro s d
    repeat' split
    all_goals simp
  · intro s z
    simp

@[simp ↓] theorem effSleepWake_kept (s : State) : (effSleepWake s).kept = s.kept := by
  simp [effSleepWake]

/-! ### Faults -/

@[simp ↓] theorem State.stageFault_kept (s : State) (e : Entry) : (State.stageFault s e).kept = s.kept := by
  simp [State.stageFault]

@[simp ↓] theorem State.latchFirst_kept (s : State) (e : Entry) : (State.latchFirst s e).kept = s.kept := by
  simp [State.latchFirst]

@[simp ↓] theorem State.endDoze_kept (s : State) : (State.endDoze s).kept = s.kept := by
  simp [State.endDoze]

@[simp ↓] theorem State.forceHold_kept (s : State) : (State.forceHold s).kept = s.kept := by
  simp [State.forceHold]

@[simp ↓] theorem State.offNow_kept (s : State) (d : Nat) : (State.offNow s d).kept = s.kept := by
  simp [State.offNow]; split <;> simp

@[simp ↓] theorem State.stayOn_kept (s : State) (d : Nat) : (State.stayOn s d).kept = s.kept := by
  simp [State.stayOn]

@[simp ↓] theorem State.dropBooks_kept (s : State) : (State.dropBooks s).kept = s.kept := by
  simp [State.dropBooks]

@[simp ↓] theorem State.foNormal_kept (s : State) (d : Nat) : (State.foNormal s d).kept = s.kept := by
  simp [State.foNormal]

@[simp ↓] theorem State.enter_kept (s : State) (r : Report) : (State.enter s r).2.kept = s.kept := by
  simp [State.enter]

@[simp ↓] theorem effRestartRelease_kept (s : State) (cls : Nat) : (effRestartRelease s cls).kept = s.kept := by
  simp [effRestartRelease]

@[simp ↓] theorem State.clearOff_kept (s : State) (c : Nat) : (State.clearOff s c).kept = s.kept := by
  simp [State.clearOff]

@[simp ↓] theorem State.offCheck_kept (s : State) : (State.offCheck s).kept = s.kept := by
  simp [State.offCheck]

@[simp ↓] theorem effHrel_kept (s : State) : (effHrel s).kept = s.kept := by
  simp [effHrel]

@[simp ↓] theorem effOrel_kept (s : State) (pinHigh : Bool) : (effOrel s pinHigh).kept = s.kept := by
  simp [effOrel]

@[simp ↓] theorem effFirstClear_kept (s : State) : (effFirstClear s).kept = s.kept := by
  simp [effFirstClear]

@[simp ↓] theorem State.stageHistory_kept (s : State) : (State.stageHistory s).kept = s.kept := by
  simp [State.stageHistory]

@[simp ↓] theorem State.phase_kept (s : State) : (State.phase s).kept = s.kept := by
  simp [State.phase]

@[simp ↓] theorem State.bootMicros_kept (s : State) : (State.bootMicros s).2.kept = s.kept := by
  simp [State.bootMicros]

@[simp ↓] theorem State.bootDone_kept (s : State) : (State.bootDone s).kept = s.kept := by
  simp [State.bootDone]

@[simp ↓] theorem State.roundPass_kept (s : State) (good : Bool) : (State.roundPass s good).kept = s.kept := by
  simp [State.roundPass]

@[simp ↓] theorem State.holdRelease_kept (s : State) : (State.holdRelease s).kept = s.kept := by
  simp [State.holdRelease]

@[simp ↓] theorem effAlive_kept (s : State) : (effAlive s).kept = s.kept := by
  simp [effAlive]

@[simp ↓] theorem effHeartbeatLoss_kept (s : State) : (effHeartbeatLoss s).kept = s.kept := by
  simp [effHeartbeatLoss]

end Sys2Proof.Machine
end

