-- ==== Sys2Proof/Laws/KeptDie.lean ====
section
/-!
SUPPORT. What the operations of the Archive, thermal and ageing, the die loop, the Forecaster, the budget and failover keep (`State.kept`): one lemma for each operation.
-/
namespace Sys2Proof.Machine

/-! ### Archive -/

@[simp ↓] theorem State.recorded_kept (s : State) (acc : Nat) : (State.recorded s acc).kept = s.kept := by
  simp [State.recorded]

@[simp ↓] theorem State.unstage_kept (s : State) : (State.unstage s).kept = s.kept := by
  simp [State.unstage]

@[simp ↓] theorem State.stagingOnly_kept (s : State) : (State.stagingOnly s).kept = s.kept := by
  simp [State.stagingOnly]

@[simp ↓] theorem State.stampUp_kept (s : State) (n : Nat) (c : Bool) (F : Fld) :
    (State.stampUp s n c F).kept = s.kept := by
  simp [State.stampUp]

@[simp ↓] theorem State.histUp_kept (s : State) (n : Nat) : (State.histUp s n).kept = s.kept := by
  simp [State.histUp]

@[simp ↓] theorem State.addBase_kept (s : State) (n : Nat) : (State.addBase s n).kept = s.kept := by
  simp [State.addBase]

@[simp ↓] theorem effArcErase_kept (s : State) (g : Nat) : (effArcErase s g).kept = s.kept := by
  simp [effArcErase]

@[simp ↓] theorem effArcFetch_kept (s : State) (w : Word) : (effArcFetch s w).kept = s.kept := by
  unfold effArcFetch; split <;> simp

@[simp ↓] theorem effExhIn_kept (s : State) : (effExhIn s).kept = s.kept := by
  simp [effExhIn]

/-! ### Thermal -/

@[simp ↓] theorem State.readSensor_kept (s : State) (i : Nat) : (State.readSensor s i).kept = s.kept := by
  simp [State.readSensor]

@[simp ↓] theorem State.thermDistrict_kept (s : State) (d : Nat) (dmax : Int) :
    (State.thermDistrict s d dmax).kept = s.kept := by
  simp [State.thermDistrict]

@[simp ↓] theorem State.thermTrip_kept (s : State) (i : Nat) : (State.thermTrip s i).kept = s.kept := by
  simp [State.thermTrip]

@[simp ↓] theorem State.cooling_kept (s : State) (cool : Bool) : (State.cooling s cool).kept = s.kept := by
  simp [State.cooling]

@[simp ↓] theorem State.trimFrom_kept (s : State) (nbr : Nat) (F : Fld) (c0 c1 c2 : Int) :
    (State.trimFrom s nbr F c0 c1 c2).kept = s.kept := by
  simp [State.trimFrom]

@[simp ↓] theorem State.thermalPoint_kept (s : State) : (State.thermalPoint s).kept = s.kept := by
  simp [State.thermalPoint]; split <;> simp

@[simp ↓] theorem effThermalRestart_kept (s : State) : (effThermalRestart s).kept = s.kept := by
  simp [effThermalRestart]

@[simp ↓] theorem State.injEnd_kept (s : State) : (State.injEnd s).kept = s.kept := by
  simp [State.injEnd]

@[simp ↓] theorem State.refChecks_kept (s : State) : (State.refChecks s).kept = s.kept := by
  simp [State.refChecks]

@[simp ↓] theorem State.roundEnd_kept (s : State) : (State.roundEnd s).kept = s.kept := by
  simp [State.roundEnd]

@[simp ↓] theorem State.storeConv_kept (s : State) (inj : Bool) (i : Nat) (sl : Nat) (raw : Int) :
    (State.storeConv s inj i sl raw).kept = s.kept := by
  simp [State.storeConv]

@[simp ↓] theorem effConversion_kept (s : State) (sl : Nat) (raw : Int) : (effConversion s sl raw).kept = s.kept := by
  simp [effConversion]; split <;> simp

@[simp ↓] theorem effAgeingRead_kept (s : State) : (effAgeingRead s).kept = s.kept := by
  simp [effAgeingRead]

@[simp ↓] theorem effReadNow_kept (s : State) : (effReadNow s).kept = s.kept := by
  simp [effReadNow]

@[simp ↓] theorem State.latchMon_kept (s : State) (k code : Nat) : (State.latchMon s k code).kept = s.kept := by
  simp [State.latchMon]

@[simp ↓] theorem State.ageDistrict_kept (s : State) (d : Nat) : (State.ageDistrict s d).kept = s.kept := by
  simp [State.ageDistrict]

@[simp ↓] theorem effAgeingLatch_kept (s : State) (codes : List Nat) : (effAgeingLatch s codes).kept = s.kept := by
  simp [effAgeingLatch]

/-! ### DieLoop -/

@[simp ↓] theorem State.updFo_kept (s : State) (d : Nat) (f : FoS → FoS) : (State.updFo s d f).kept = s.kept := by
  simp [State.updFo]

@[simp ↓] theorem State.formValid_kept (s : State) (d : Nat) : (State.formValid s d).kept = s.kept := by
  simp [State.formValid]

@[simp ↓] theorem State.restartMin_kept (s : State) (d : Nat) : (State.restartMin s d).kept = s.kept := by
  simp [State.restartMin]

@[simp ↓] theorem State.closeMin_kept (s : State) (d : Nat) : (State.closeMin s d).kept = s.kept := by
  simp [State.closeMin]

@[simp ↓] theorem State.compose_kept (s : State) (d : Nat) : (State.compose s d).kept = s.kept := by
  simp [State.compose]

@[simp ↓] theorem State.sendTrip_kept (s : State) (d at_ : Nat) : (State.sendTrip s d at_).kept = s.kept := by
  simp [State.sendTrip]

@[simp ↓] theorem State.groupRef_kept (s : State) (at_ : Nat) (members : List Nat) :
    (State.groupRef s at_ members).kept = s.kept := by
  simp [State.groupRef]

@[simp ↓] theorem State.dieLoop_kept (s : State) : (State.dieLoop s).kept = s.kept := by
  simp [State.dieLoop]

@[simp ↓] theorem State.liftsEnd_kept (s : State) : (State.liftsEnd s).kept = s.kept := by
  simp [State.liftsEnd]

@[simp ↓] theorem State.stormRearm_kept (s : State) (d : Nat) : (State.stormRearm s d).kept = s.kept := by
  simp [State.stormRearm]

@[simp ↓] theorem State.feedUpdate_kept (s : State) : (State.feedUpdate s).kept = s.kept := by
  simp [State.feedUpdate]

/-! ### Forecast -/

@[simp ↓] theorem State.snapshot_kept (s : State) : (State.snapshot s).kept = s.kept := by
  simp [State.snapshot]

@[simp ↓] theorem State.fcState_kept (s : State) : (State.fcState s).kept = s.kept := by
  simp [State.fcState]

@[simp ↓] theorem State.fcInj_kept (s : State) (d : Nat) : (State.fcInj s d).2.2.2.2.kept = s.kept := by
  simp [State.fcInj]; repeat' split
  all_goals simp

@[simp ↓] theorem State.fcZero_kept (s : State) (d : Nat) : (State.fcZero s d).kept = s.kept := by
  simp [State.fcZero]

@[simp ↓] theorem State.noteUncor_kept (s : State) (d : Nat) : (State.noteUncor s d).kept = s.kept := by
  simp [State.noteUncor]

@[simp ↓] theorem State.uncorNext_kept (s : State) (d : Nat) : (State.uncorNext s d).kept = s.kept := by
  simp [State.uncorNext]

@[simp ↓] theorem State.fcStep_kept (s : State) (d : Nat) (errs : List (Nat × StepErr)) :
    (State.fcStep s d errs).kept = s.kept := by
  simp [State.fcStep]; split <;> simp

@[simp ↓] theorem State.fcIdle_kept (s : State) (d : Nat) : (State.fcIdle s d).kept = s.kept := by
  simp [State.fcIdle]

@[simp ↓] theorem State.attribute_kept (s : State) (d : Nat) : (State.attribute s d).kept = s.kept := by
  unfold State.attribute; split <;> simp

@[simp ↓] theorem State.fcEnter_kept (s : State) (d : Nat) : (State.fcEnter s d).kept = s.kept := by
  simp [State.fcEnter]

@[simp ↓] theorem State.fcMask_kept (s : State) (d : Nat) : (State.fcMask s d).kept = s.kept := by
  simp [State.fcMask]

@[simp ↓] theorem State.fcAct_kept (s : State) (ran : Bool) : (State.fcAct s ran).kept = s.kept := by
  simp [State.fcAct]

@[simp ↓] theorem State.enterTr_kept (s : State) (d : Nat) (pred : Int) (im : Nat) :
    (State.enterTr s d pred im).kept = s.kept := by
  simp [State.enterTr]

@[simp ↓] theorem State.showPred_kept (s : State) (d : Nat) (pred : Int) (im : Nat) :
    (State.showPred s d pred im).kept = s.kept := by
  simp [State.showPred]

@[simp ↓] theorem State.trustCheck_kept (s : State) (d : Nat) (pred : Int) (im : Nat) :
    (State.trustCheck s d pred im).kept = s.kept := by
  simp [State.trustCheck]

@[simp ↓] theorem State.window_kept (s : State) (d : Nat) : (State.window s d).kept = s.kept := by
  simp [State.window]; split <;> simp

@[simp ↓] theorem State.fcDie_kept (s : State) (errs : List (Nat × StepErr)) : (State.fcDie s errs).kept = s.kept := by
  simp [State.fcDie]

@[simp ↓] theorem State.trustEpoch_kept (s : State) (d : Nat) : (State.trustEpoch s d).kept = s.kept := by
  simp [State.trustEpoch]

@[simp ↓] theorem State.attClose_kept (s : State) (d : Nat) : (State.attClose s d).kept = s.kept := by
  simp [State.attClose]

@[simp ↓] theorem State.publish_kept (s : State) (d : Nat) : (State.publish s d).kept = s.kept := by
  simp [State.publish]

@[simp ↓] theorem State.fcAccept_kept (s : State) : (State.fcAccept s).kept = s.kept := by
  simp [State.fcAccept]

@[simp ↓] theorem effFcDeadline_kept (s : State) (d : Nat) : (effFcDeadline s d).kept = s.kept := by
  simp [effFcDeadline]

@[simp ↓] theorem effFcDisable_kept (s : State) (d : Nat) : (effFcDisable s d).kept = s.kept := by
  simp [effFcDisable]

@[simp ↓] theorem effPublish_kept (s : State) : (effPublish s).kept = s.kept := by
  simp [effPublish]

@[simp ↓] theorem effFcsClr_kept (s : State) : (effFcsClr s).kept = s.kept := by
  simp [effFcsClr]

/-! ### Budget -/

@[simp ↓] theorem State.actTarget_kept (s : State) (d red : Nat) : (State.actTarget s d red).kept = s.kept := by
  simp [State.actTarget]

@[simp ↓] theorem State.drive_kept (s : State) (d : Nat) : (State.drive s d).kept = s.kept := by
  simp [State.drive]

@[simp ↓] theorem State.sampleSkip_kept (s : State) (mask d : Nat) : (State.sampleSkip s mask d).kept = s.kept := by
  simp [State.sampleSkip]

@[simp ↓] theorem effShare_kept (s : State) (j : Nat) (w : Word) : (effShare s j w).kept = s.kept := by
  simp [effShare]

@[simp ↓] theorem State.shareMove_kept (s : State) : (State.shareMove s).kept = s.kept := by
  unfold State.shareMove; split <;> simp

@[simp ↓] theorem State.shareEpoch_kept (s : State) : (State.shareEpoch s).kept = s.kept := by
  unfold State.shareEpoch; split <;> simp

@[simp ↓] theorem State.markInterval_kept (s : State) : (State.markInterval s).kept = s.kept := by
  simp [State.markInterval]

@[simp ↓] theorem State.closeMeans_kept (s : State) : (State.closeMeans s).kept = s.kept := by
  simp [State.closeMeans]

@[simp ↓] theorem State.setTargets_kept (s : State) (trc : List Nat) (trd tra : Nat) :
    (State.setTargets s trc trd tra).kept = s.kept := by
  simp [State.setTargets]

@[simp ↓] theorem State.updateTargets_kept (s : State) : (State.updateTargets s).kept = s.kept := by
  simp [State.updateTargets]

@[simp ↓] theorem State.allocate_kept (s : State) : (State.allocate s).kept = s.kept := by
  simp [State.allocate]

@[simp ↓] theorem State.closeInterval_kept (s : State) : (State.closeInterval s).kept = s.kept := by
  simp [State.closeInterval]

@[simp ↓] theorem State.noResidual_kept (s : State) : (State.noResidual s).kept = s.kept := by
  simp [State.noResidual]

@[simp ↓] theorem State.groupEpoch_kept (s : State) : (State.groupEpoch s).kept = s.kept := by
  simp [State.groupEpoch]

@[simp ↓] theorem State.quotaReset_kept (s : State) : (State.quotaReset s).kept = s.kept := by
  simp [State.quotaReset]

@[simp ↓] theorem effExcursion_kept (s : State) : (effExcursion s).kept = s.kept := by
  simp [effExcursion]

@[simp ↓] theorem effExcursionEnd_kept (s : State) : (effExcursionEnd s).kept = s.kept := by
  simp [effExcursionEnd]

@[simp ↓] theorem effCoolant_kept (s : State) : (effCoolant s).kept = s.kept := by
  simp [effCoolant]

@[simp ↓] theorem effCoolClear_kept (s : State) (pinHigh : Bool) : (effCoolClear s pinHigh).kept = s.kept := by
  simp [effCoolClear]

@[simp ↓] theorem effBudClr_kept (s : State) : (effBudClr s).kept = s.kept := by
  simp [effBudClr]

/-! ### Failover -/

@[simp ↓] theorem State.latchCap_kept (s : State) (d : Nat) : (State.latchCap s d).kept = s.kept := by
  simp [State.latchCap]

@[simp ↓] theorem State.closeCaps_kept (s : State) (d : Nat) : (State.closeCaps s d).kept = s.kept := by
  simp [State.closeCaps]

@[simp ↓] theorem State.throttle_kept (s : State) (d : Nat) : (State.throttle s d).kept = s.kept := by
  simp [State.throttle]

@[simp ↓] theorem State.floorTest_kept (s : State) (members : List Nat) :
    (State.floorTest s members).kept = s.kept := by
  simp [State.floorTest]

@[simp ↓] theorem State.failover_kept (s : State) : (State.failover s).kept = s.kept := by
  simp [State.failover]

@[simp ↓] theorem State.darken_kept (s : State) (d : Nat) : (State.darken s d).kept = s.kept := by
  simp [State.darken]

@[simp ↓] theorem effDarkenBegin_kept (s : State) (d : Nat) : (effDarkenBegin s d).kept = s.kept := by
  simp [effDarkenBegin]

@[simp ↓] theorem effDarkenIsolate_kept (s : State) (d : Nat) : (effDarkenIsolate s d).kept = s.kept := by
  simp [effDarkenIsolate]

@[simp ↓] theorem effDarkenStop_kept (s : State) (d : Nat) : (effDarkenStop s d).kept = s.kept := by
  simp [effDarkenStop]

@[simp ↓] theorem effDarkenDone_kept (s : State) (d : Nat) : (effDarkenDone s d).kept = s.kept := by
  simp [effDarkenDone]

@[simp ↓] theorem effSupcap_kept (s : State) : (effSupcap s).kept = s.kept := by
  simp [effSupcap]

@[simp ↓] theorem effDarkRestart_kept (s : State) (d : Nat) : (effDarkRestart s d).kept = s.kept := by
  simp [effDarkRestart]

end Sys2Proof.Machine
end

