-- ==== Sys2Proof/Laws/KeptPeriods.lean ====
section
/-!
SUPPORT. What the operations of the rings, the periods and the writes keep (`State.kept`): one lemma for each operation.
-/
namespace Sys2Proof.Machine

/-! ### Rings -/

@[simp ↓] theorem State.updRing_kept (s : State) (r : Nat) (f : RingS → RingS) :
    (State.updRing s r f).kept = s.kept := by
  simp [State.updRing]

@[simp ↓] theorem State.bufch_kept (s : State) : (State.bufch s).kept = s.kept := by
  simp [State.bufch]

@[simp ↓] theorem State.putChunk_kept (s : State) (kind nfr period lost : Nat) (body : List Byte) :
    (State.putChunk s kind nfr period lost body).kept = s.kept := by
  simp [State.putChunk]

@[simp ↓] theorem State.capFeed_kept (s : State) (x0 : Nat) : (State.capFeed s x0).kept = s.kept := by
  induction x0 generalizing s with
  | zero => simp [State.capFeed]
  | succ n ih =>
    unfold State.capFeed
    dsimp only
    split
    · rfl
    · split
      · rw [ih]; split <;> simp
      · rfl

@[simp ↓] theorem State.closeChunk_kept (s : State) : (State.closeChunk s).kept = s.kept := by
  unfold State.closeChunk; split <;> simp

@[simp ↓] theorem State.closeGap_kept (s : State) : (State.closeGap s).kept = s.kept := by
  simp [State.closeGap]

@[simp ↓] theorem State.holdGap_kept (s : State) : (State.holdGap s).kept = s.kept := by
  simp [State.holdGap]

@[simp ↓] theorem State.storeFrame_kept (s : State) (f : Nat × List Nat) : (State.storeFrame s f).kept = s.kept := by
  simp [State.storeFrame]

@[simp ↓] theorem State.capFrame_kept (s : State) (f : Nat × List Nat) : (State.capFrame s f).kept = s.kept := by
  simp [State.capFrame]

@[simp ↓] theorem State.capPeriod_kept (s : State) (n : Nat) : (State.capPeriod s n).kept = s.kept := by
  simp [State.capPeriod]

@[simp ↓] theorem State.capEnd_kept (s : State) : (State.capEnd s).kept = s.kept := by
  simp [State.capEnd]

@[simp ↓] theorem State.capStop_kept (s : State) : (State.capStop s).kept = s.kept := by
  simp [State.capStop]

@[simp ↓] theorem State.trigCheck_kept (s : State) : (State.trigCheck s).kept = s.kept := by
  simp [State.trigCheck]

@[simp ↓] theorem effCapArm_kept (s : State) : (effCapArm s).kept = s.kept := by
  simp [effCapArm]

@[simp ↓] theorem effCapDisarm_kept (s : State) : (effCapDisarm s).kept = s.kept := by
  simp [effCapDisarm]

@[simp ↓] theorem effCapStop_kept (s : State) : (effCapStop s).kept = s.kept := by
  simp [effCapStop]

@[simp ↓] theorem State.ringRise_kept (s : State) (r : Nat) : (State.ringRise s r).kept = s.kept := by
  simp [State.ringRise]

@[simp ↓] theorem State.ringFall_kept (s : State) (r : Nat) : (State.ringFall s r).kept = s.kept := by
  simp [State.ringFall]

@[simp ↓] theorem effRingEn_kept (s : State) (r v : Nat) : (effRingEn s r v).kept = s.kept := by
  simp [effRingEn]

@[simp ↓] theorem effTail_kept (s : State) (r tail : Nat) : (effTail s r tail).kept = s.kept := by
  simp [effTail]

@[simp ↓] theorem State.advance_kept (s : State) (r : Nat) (x0 : Nat) : (State.advance s r x0).kept = s.kept := by
  induction x0 generalizing s with
  | zero => simp [State.advance]
  | succ n ih =>
    unfold State.advance
    dsimp only
    split
    · rfl
    · split
      · rw [ih]; repeat' split
        all_goals simp
      · rfl

@[simp ↓] theorem State.memError_kept (s : State) (r : Nat) : (State.memError s r).kept = s.kept := by
  simp [State.memError]

@[simp ↓] theorem effMemIssue_kept (s : State) : (effMemIssue s).kept = s.kept := by
  unfold effMemIssue; repeat' split
  all_goals simp

@[simp ↓] theorem State.memDone_kept (s : State) (id : Nat) (err : Bool) : (State.memDone s id err).kept = s.kept := by
  unfold State.memDone; split <;> simp

@[simp ↓] theorem effMemTimeout_kept (s : State) (id : Nat) : (effMemTimeout s id).kept = s.kept := by
  unfold effMemTimeout; split <;> simp

@[simp ↓] theorem State.telSnap_kept (s : State) : (State.telSnap s).kept = s.kept := by
  simp [State.telSnap]

@[simp ↓] theorem State.telEnergy_kept (s : State) : (State.telEnergy s).kept = s.kept := by
  simp [State.telEnergy]

@[simp ↓] theorem State.telWrite_kept (s : State) (g : Nat) : (State.telWrite s g).kept = s.kept := by
  simp [State.telWrite]

@[simp ↓] theorem effTelemetry_kept (s : State) : (effTelemetry s).kept = s.kept := by
  simp [effTelemetry]

/-! ### Periods -/

@[simp ↓] theorem State.setPoints_kept (s : State) (d n : Nat) : (State.setPoints s d n).kept = s.kept := by
  simp [State.setPoints]; split <;> simp

@[simp ↓] theorem State.measure_kept (s : State) (d n : Nat) (m : Meas) : (State.measure s d n m).kept = s.kept := by
  simp [State.measure]

@[simp ↓] theorem State.showBook_kept (s : State) (d : Nat) : (State.showBook s d).kept = s.kept := by
  simp [State.showBook]

@[simp ↓] theorem State.distBoundary_kept (s : State) (d n : Nat) (m : Meas) :
    (State.distBoundary s d n m).kept = s.kept := by
  simp [State.distBoundary]

@[simp ↓] theorem State.distClose_kept (s : State) (d : Nat) : (State.distClose s d).kept = s.kept := by
  simp [State.distClose]

@[simp ↓] theorem State.restartSums_kept (s : State) (d : Nat) : (State.restartSums s d).kept = s.kept := by
  simp [State.restartSums]

@[simp ↓] theorem State.dieFirst_kept (s : State) : (State.dieFirst s).kept = s.kept := by
  simp [State.dieFirst]

@[simp ↓] theorem State.epochDrop_kept (s : State) : (State.epochDrop s).kept = s.kept := by
  simp [State.epochDrop]

@[simp ↓] theorem State.dieClose_kept (s : State) : (State.dieClose s).kept = s.kept := by
  simp [State.dieClose]

@[simp ↓] theorem State.dieLatch_kept (s : State) : (State.dieLatch s).kept = s.kept := by
  simp [State.dieLatch]

@[simp ↓] theorem State.dieWork_kept (s : State) (ended : Bool) (errs : List (Nat × StepErr)) (skipOk : Nat) :
    (State.dieWork s ended errs skipOk).kept = s.kept := by
  simp [State.dieWork]

@[simp ↓] theorem State.diePorts_kept (s : State) : (State.diePorts s).kept = s.kept := by
  simp [State.diePorts]

@[simp ↓] theorem State.dieGated_kept (s : State) : (State.dieGated s).kept = s.kept := by
  simp [State.dieGated]

@[simp ↓] theorem State.dieEnd_kept (s : State) : (State.dieEnd s).kept = s.kept := by
  simp [State.dieEnd]

@[simp ↓] theorem State.epochClose_kept (s : State) : (State.epochClose s).kept = s.kept := by
  simp [State.epochClose]

/-! ### Writes -/

@[simp ↓] theorem State.doIf_kept (s : State) (c : Bool) (f : State → State) (hf : ∀ z, (f z).kept = z.kept) :
    (State.doIf s c f).kept = s.kept := by
  simp [State.doIf,hf]

@[simp ↓] theorem effPageLock_kept (s : State) (p : Nat) : (effPageLock s p).kept = s.kept := by
  simp [effPageLock]

@[simp ↓] theorem State.hdrWrite_kept (s : State) (priv : Bool) (addr : Nat) (w : Word) :
    (State.hdrWrite s priv addr w).kept = s.kept := by
  simp [State.hdrWrite]

@[simp ↓] theorem State.exhWrite_kept (s : State) (priv : Bool) (addr : Nat) (w : Word) :
    (State.exhWrite s priv addr w).kept = s.kept := by
  simp [State.exhWrite]

@[simp ↓] theorem State.pinNow_kept (s : State) (high : Bool) : (State.pinNow s high).2.kept = s.kept := by
  unfold State.pinNow; split <;> simp

@[simp ↓] theorem State.fltWrite_kept (s : State) (priv : Bool) (addr : Nat) (w : Word) :
    (State.fltWrite s priv addr w).kept = s.kept := by
  simp [State.fltWrite]

@[simp ↓] theorem State.arcWrite_kept (s : State) (g : Nat) (priv : Bool) (addr : Nat) (w : Word) :
    (State.arcWrite s g priv addr w).kept = s.kept := by
  simp [State.arcWrite]

@[simp ↓] theorem State.capWrite_kept (s : State) (priv : Bool) (addr : Nat) (w : Word) :
    (State.capWrite s priv addr w).kept = s.kept := by
  simp [State.capWrite]

@[simp ↓] theorem State.qdivCheck_kept (s : State) : (State.qdivCheck s).kept = s.kept := by
  simp [State.qdivCheck]

@[simp ↓] theorem State.orrWrite_kept (s : State) (priv : Bool) (addr : Nat) (w : Word) :
    (State.orrWrite s priv addr w).kept = s.kept := by
  simp [State.orrWrite]

@[simp ↓] theorem State.loopWrite_kept (s : State) (priv : Bool) (addr : Nat) (w : Word) :
    (State.loopWrite s priv addr w).kept = s.kept := by
  simp [State.loopWrite]

@[simp ↓] theorem State.budWrite_kept (s : State) (priv : Bool) (addr : Nat) (w : Word) :
    (State.budWrite s priv addr w).kept = s.kept := by
  simp [State.budWrite]

@[simp ↓] theorem State.grpWrite_kept (s : State) (priv : Bool) (addr : Nat) (w : Word) :
    (State.grpWrite s priv addr w).kept = s.kept := by
  simp [State.grpWrite]

@[simp ↓] theorem State.fcsWrite_kept (s : State) (priv : Bool) (addr : Nat) (w : Word) :
    (State.fcsWrite s priv addr w).kept = s.kept := by
  simp [State.fcsWrite]

@[simp ↓] theorem State.gqWrite_kept (s : State) (priv : Bool) (addr : Nat) (w : Word) :
    (State.gqWrite s priv addr w).kept = s.kept := by
  simp [State.gqWrite]

@[simp ↓] theorem State.adcWrite_kept (s : State) (priv : Bool) (addr : Nat) (w : Word) :
    (State.adcWrite s priv addr w).kept = s.kept := by
  simp [State.adcWrite]

@[simp ↓] theorem State.thmWrite_kept (s : State) (priv : Bool) (addr : Nat) (w : Word) :
    (State.thmWrite s priv addr w).kept = s.kept := by
  simp [State.thmWrite]

@[simp ↓] theorem State.ageWrite_kept (s : State) (priv : Bool) (addr : Nat) (w : Word) :
    (State.ageWrite s priv addr w).kept = s.kept := by
  simp [State.ageWrite]

@[simp ↓] theorem State.kaCheck_kept (s : State) : (State.kaCheck s).kept = s.kept := by
  simp [State.kaCheck]

@[simp ↓] theorem State.lnkWrite_kept (s : State) (priv : Bool) (addr : Nat) (w : Word) :
    (State.lnkWrite s priv addr w).kept = s.kept := by
  simp [State.lnkWrite]

@[simp ↓] theorem State.i3cRegWrite_kept (s : State) (priv : Bool) (addr : Nat) (w : Word) :
    (State.i3cRegWrite s priv addr w).kept = s.kept := by
  simp [State.i3cRegWrite]

@[simp ↓] theorem State.ringWrite_kept (s : State) (priv : Bool) (r addr : Nat) (w : Word) :
    (State.ringWrite s priv r addr w).kept = s.kept := by
  simp [State.ringWrite]

@[simp ↓] theorem State.galWrite_kept (s : State) (priv : Bool) (addr : Nat) (w : Word) :
    (State.galWrite s priv addr w).kept = s.kept := by
  simp [State.galWrite]

@[simp ↓] theorem State.dstWrite_kept (s : State) (priv : Bool) (addr : Nat) (w : Word) :
    (State.dstWrite s priv addr w).kept = s.kept := by
  simp [State.dstWrite]

@[simp ↓] theorem State.celWrite_kept (s : State) (priv : Bool) (addr : Nat) (w : Word) :
    (State.celWrite s priv addr w).kept = s.kept := by
  simp [State.celWrite]

@[simp ↓] theorem State.pwrWrite_kept (s : State) (priv : Bool) (addr : Nat) (w : Word) :
    (State.pwrWrite s priv addr w).kept = s.kept := by
  simp [State.pwrWrite]

@[simp ↓] theorem State.pageWrite_kept (s : State) (g : Nat) (priv : Bool) (addr : Nat) (w : Word) :
    (State.pageWrite s g priv addr w).kept = s.kept := by
  simp [State.pageWrite]; split <;> simp

end Sys2Proof.Machine
end

