-- ==== Sys2Proof/Laws/KeptHost.lean ====
section
/-!
SUPPORT. What the operations of start-up, images, attestation, secrets and the host ports keep (`State.kept`): one lemma for each operation.
-/
namespace Sys2Proof.Machine

/-! ### Startup -/

@[simp ↓] theorem effZoneReady_kept (s : State) (z : Nat) : (effZoneReady s z).kept = s.kept := by
  simp [effZoneReady]

@[simp ↓] theorem State.departAgain_kept (s : State) : (State.departAgain s).kept = s.kept := by
  unfold State.departAgain
  rw [State.each_kept]
  intro s p
  split <;> simp

@[simp ↓] theorem State.selfTest_kept (s : State) (bad : List (Nat × Nat × Nat)) (c : Nat) :
    (State.selfTest s bad c).kept = s.kept := by
  have h : ∀ u : State, u.kept = s.kept → (if (State.good (u.updCell c fun x => { x with tested := true }) c) = 0 then
      ((State.setCst (u.updCell c fun x => { x with tested := true }) c cFailed).set R.CEL_STAT_LAST_CAUSE c 4).noteLoss c
      else u.updCell c fun x => { x with tested := true }).kept = s.kept := by
    intro u hu
    simp [hu]
  unfold State.selfTest
  split
  · rfl
  refine h _ ?_
  rw [State.each_kept]
  intro s p
  split <;> simp

@[simp ↓] theorem effSelfTest_kept (s : State) (z : Nat) (bad : List (Nat × Nat × Nat)) :
    (effSelfTest s z bad).kept = s.kept := by
  simp [effSelfTest]

@[simp ↓] theorem effSeqWatch_kept (s : State) : (effSeqWatch s).kept = s.kept := by
  simp [effSeqWatch]

@[simp ↓] theorem State.selectPll_kept (s : State) : (State.selectPll s).kept = s.kept := by
  simp [State.selectPll]

@[simp ↓] theorem effPllLock_kept (s : State) (t : Nat) : (effPllLock s t).kept = s.kept := by
  simp [effPllLock]

@[simp ↓] theorem effPllSelect_kept (s : State) : (effPllSelect s).kept = s.kept := by
  simp [effPllSelect]

@[simp ↓] theorem effNolock_kept (s : State) : (effNolock s).kept = s.kept := by
  simp [effNolock]

@[simp ↓] theorem effLockLoss_kept (s : State) : (effLockLoss s).kept = s.kept := by
  simp [effLockLoss]

@[simp ↓] theorem State.regionStart_kept (s : State) (d : Nat) : (State.regionStart s d).kept = s.kept := by
  simp [State.regionStart]

@[simp ↓] theorem effReturn_kept (s : State) : (effReturn s).kept = s.kept := by
  simp [effReturn]

@[simp ↓] theorem State.nextEntry_kept (s : State) : (State.nextEntry s).kept = s.kept := by
  simp [State.nextEntry]

@[simp ↓] theorem effReturnEntry_kept (s : State) : (effReturnEntry s).kept = s.kept := by
  simp [effReturnEntry]

@[simp ↓] theorem effAbandon_kept (s : State) : (effAbandon s).kept = s.kept := by
  simp [effAbandon]

@[simp ↓] theorem effBootEnd_kept (s : State) : (effBootEnd s).kept = s.kept := by
  simp [effBootEnd]

/-! ### Images -/

@[simp ↓] theorem State.setNe_kept (s : State) (F : Fld) (i v : Nat) : (State.setNe s F i v).kept = s.kept := by
  simp [State.setNe]

@[simp ↓] theorem effSfdp_kept (s : State) (sfdp : List Byte) : (effSfdp s sfdp).kept = s.kept := by
  simp [effSfdp]

@[simp ↓] theorem State.calRegs_kept (s : State) (m : List Host.Cell) : (State.calRegs s m).kept = s.kept := by
  simp [State.calRegs]

@[simp ↓] theorem State.ageLoad_kept (s : State) : (State.ageLoad s).kept = s.kept := by
  simp [State.ageLoad]; split <;> simp

@[simp ↓] theorem effCalLoad_kept (s : State) : (effCalLoad s).kept = s.kept := by
  simp [effCalLoad]

@[simp ↓] theorem State.listWrite_kept (s : State) (e : Nat × Nat) : (State.listWrite s e).kept = s.kept := by
  simp [State.listWrite]

@[simp ↓] theorem State.applyDist_kept (s : State) (d : Nat) (x : DistImg) : (State.applyDist s d x).kept = s.kept := by
  simp [State.applyDist]

@[simp ↓] theorem State.applyImage_kept (s : State) (src : Nat) (i : Image) :
    (State.applyImage s src i).kept = s.kept := by
  simp [State.applyImage]

@[simp ↓] theorem State.applyBase_kept (s : State) : (State.applyBase s).kept = s.kept := by
  simp [State.applyBase]

@[simp ↓] theorem State.weightsCheck_kept (s : State) (digest : List Byte) (w : WeightsImg) :
    (State.weightsCheck s digest w).kept = s.kept := by
  simp [State.weightsCheck]

@[simp ↓] theorem State.heldWeights_kept (s : State) : (State.heldWeights s).kept = s.kept := by
  unfold State.heldWeights; split <;> simp

@[simp ↓] theorem effImageSelect_kept (s : State) (errA errB : Nat) : (effImageSelect s errA errB).kept = s.kept := by
  simp [effImageSelect]; split <;> simp

@[simp ↓] theorem effCalClear_kept (s : State) : (effCalClear s).kept = s.kept := by
  simp [effCalClear]

@[simp ↓] theorem effCalWdat_kept (s : State) (w : Word) : (effCalWdat s w).kept = s.kept := by
  simp [effCalWdat]; split <;> simp

@[simp ↓] theorem effPdat_kept (s : State) (w : Word) : (effPdat s w).kept = s.kept := by
  simp [effPdat]

@[simp ↓] theorem effEmptyBuf_kept (s : State) : (effEmptyBuf s).kept = s.kept := by
  simp [effEmptyBuf]

@[simp ↓] theorem effPcmd_kept (s : State) (k : Nat) : (effPcmd s k).kept = s.kept := by
  simp [effPcmd]

/-! ### RegRead -/

@[simp ↓] theorem State.copyPage_kept (s0 s : State) (sq p : Nat) : (State.copyPage s0 s sq p).kept = s.kept := by
  simp [State.copyPage]

@[simp ↓] theorem effExhibit_kept (s : State) : (effExhibit s).kept = s.kept := by
  unfold effExhibit
  dsimp only
  repeat' split
  all_goals simp

/-! ### Spdm -/

@[simp ↓] theorem effIdReady_kept (s : State) : (effIdReady s).kept = s.kept := by
  simp [effIdReady]

@[simp ↓] theorem effEntFail_kept (s : State) : (effEntFail s).kept = s.kept := by
  simp [effEntFail]

@[simp ↓] theorem State.random_kept (s : State) (n : Nat) : (State.random s n).2.kept = s.kept := by
  simp [State.random]

@[simp ↓] theorem State.sign_kept (s : State) (k : Nat) (t : List Byte) : (s.sign k t).2.kept = s.kept := by
  simp [State.sign]

@[simp ↓] theorem effClaim_kept (s : State) (g : Nat) : (effClaim s g).kept = s.kept := by
  simp [effClaim]

@[simp ↓] theorem effMbData_kept (s : State) (g : Nat) (w : Word) : (effMbData s g w).kept = s.kept := by
  simp [effMbData]

@[simp ↓] theorem State.putReply_kept (s : State) (sealedMsg : Bool) (r : List Byte) :
    (State.putReply s sealedMsg r).kept = s.kept := by
  simp [State.putReply]

@[simp ↓] theorem effSend_kept (s : State) (g : Nat) (secured : Bool) (len : Nat) :
    (effSend s g secured len).kept = s.kept := by
  simp [effSend]

@[simp ↓] theorem State.emptyReply_kept (s : State) : (State.emptyReply s).kept = s.kept := by
  simp [State.emptyReply]

/-! ### Secrets -/

@[simp ↓] theorem effChainClear_kept (s : State) : (effChainClear s).kept = s.kept := by
  simp [effChainClear]

@[simp ↓] theorem effChainData_kept (s : State) (w : Word) : (effChainData s w).kept = s.kept := by
  simp [effChainData]

@[simp ↓] theorem effChainCommit_kept (s : State) : (effChainCommit s).kept = s.kept := by
  simp [effChainCommit]

@[simp ↓] theorem State.cctl_kept (s : State) (priv : Bool) (addr : Nat) (w : Word) :
    (State.cctl s priv addr w).kept = s.kept := by
  simp [State.cctl]

@[simp ↓] theorem State.refuseBegin_kept (s : State) (r : Nat) : (State.refuseBegin s r).kept = s.kept := by
  simp [State.refuseBegin]

@[simp ↓] theorem effTapExit_kept (s : State) : (effTapExit s).kept = s.kept := by
  simp [effTapExit]

@[simp ↓] theorem effTapEntry_kept (s : State) : (effTapEntry s).kept = s.kept := by
  simp [effTapEntry]

@[simp ↓] theorem State.tap_kept (s : State) (ir dr : Nat) : (State.tap s ir dr).kept = s.kept := by
  simp [State.tap]

@[simp ↓] theorem State.boundary_kept (s : State) (ir : Nat) : (State.boundary s ir).kept = s.kept := by
  simp [State.boundary]

@[simp ↓] theorem effExtest_kept (s : State) : (effExtest s).kept = s.kept := by
  simp [effExtest]

@[simp ↓] theorem State.ledgerPut_kept (s : State) (d t v : Nat) : (State.ledgerPut s d t v).kept = s.kept := by
  simp [State.ledgerPut]

@[simp ↓] theorem State.sramSet_kept (s : State) (w : SramPlace) (v : Nat) : (State.sramSet s w v).kept = s.kept := by
  cases w <;> simp [State.sramSet]

@[simp ↓] theorem State.mended_kept (s : State) (w : SramPlace) : (State.mended s w).kept = s.kept := by
  simp [State.mended]

@[simp ↓] theorem State.sramWrite_kept (s : State) (arr addr v : Nat) : (State.sramWrite s arr addr v).kept = s.kept := by
  unfold State.sramWrite; split <;> simp

@[simp ↓] theorem effDbgacc_kept (s : State) (write : Bool) (arr addr : Nat) (data : BitVec 64) :
    (effDbgacc s write arr addr data).kept = s.kept := by
  simp [effDbgacc]

/-! ### Host -/

@[simp ↓] theorem State.sumStart_kept (s : State) (d : Nat) : (State.sumStart s d).kept = s.kept := by
  simp [State.sumStart]

@[simp ↓] theorem State.clkWrite_kept (s : State) (priv : Bool) (addr : Nat) (w : Word) :
    (State.clkWrite s priv addr w).kept = s.kept := by
  simp [State.clkWrite]

@[simp ↓] theorem State.imgWrite_kept (s : State) (priv : Bool) (addr : Nat) (w : Word) :
    (State.imgWrite s priv addr w).kept = s.kept := by
  unfold State.imgWrite; repeat' split
  all_goals simp

@[simp ↓] theorem State.mbRead_kept (s : State) (g : Nat) : (State.mbRead s g).2.kept = s.kept := by
  simp [State.mbRead]

@[simp ↓] theorem State.chainRead_kept (s : State) : (State.chainRead s).2.kept = s.kept := by
  simp [State.chainRead]

@[simp ↓] theorem State.effRead_kept (s : State) (g : Nat) (i3c : Bool) (mask addr : Nat) :
    (State.effRead s g i3c mask addr).2.kept = s.kept := by
  unfold State.effRead; repeat' split
  all_goals simp

@[simp ↓] theorem State.readWith_kept (s : State) (g : Nat) (i3c : Bool) (mask addr : Nat) (code : RspCode) :
    (State.readWith s g i3c mask addr code).2.2.kept = s.kept := by
  unfold State.readWith; split <;> simp

@[simp ↓] theorem State.readOne_kept (s : State) (g : Nat) (i3c : Bool) (addr : Nat) :
    (State.readOne s g i3c addr).2.2.kept = s.kept := by
  simp [State.readOne]

@[simp ↓] theorem State.readNow_kept (s : State) (g mask addr : Nat) (code : RspCode) :
    (State.readNow s g mask addr code).kept = s.kept := by
  simp [State.readNow]

@[simp ↓] theorem State.portRead_kept (s : State) (g addr : Nat) : (State.portRead s g addr).kept = s.kept := by
  simp [State.portRead]

@[simp ↓] theorem State.fenceBegin_kept (s : State) (g addr : Nat) (i3c : Bool) : (State.fenceBegin s g addr i3c).kept = s.kept := by
  simp [State.fenceBegin]

@[simp ↓] theorem State.updI3c_kept (s : State) (f : I3cS → I3cS) : (State.updI3c s f).kept = s.kept := by
  simp [State.updI3c]

@[simp ↓] theorem State.i3cGot_kept (r : RspCode × Word × State) : (State.i3cGot r).kept = r.2.2.kept := by
  simp [State.i3cGot]

@[simp ↓] theorem State.i3cBegin_kept (s : State) : (State.i3cBegin s).kept = s.kept := by
  unfold State.i3cBegin
  cases h : s.i3cGal s.i3c.raddr with
  | none => simp [h]
  | some g => simp [h]

@[simp ↓] theorem State.i3cPump_kept (s : State) (n : Nat) : (State.i3cPump s n).kept = s.kept := by
  induction n generalizing s with
  | zero => simp [State.i3cPump]
  | succ k ih => unfold State.i3cPump; split <;> simp [ih]

@[simp ↓] theorem State.i3cResume_kept (s : State) (g : Nat) (h : Held) (code : RspCode) :
    (State.i3cResume s g h code).kept = s.kept := by
  simp [State.i3cResume]

/-! ### I3c -/

@[simp ↓] theorem State.i3cNack_kept (s : State) : (State.i3cNack s).kept = s.kept := by
  simp [State.i3cNack]

@[simp ↓] theorem State.i3cTake_kept (s : State) (f : State → State) (hf : ∀ z, (f z).kept = z.kept) :
    (State.i3cTake s f).kept = s.kept := by
  simp [State.i3cTake,hf]

@[simp ↓] theorem State.i3cDirect_kept (s : State) (f : State → State) (hf : ∀ z, (f z).kept = z.kept) :
    (State.i3cDirect s f).kept = s.kept := by
  simp [State.i3cDirect,hf]

@[simp ↓] theorem State.i3cReply_kept (s : State) (l : List Byte) : (State.i3cReply s l).kept = s.kept := by
  simp [State.i3cReply]

@[simp ↓] theorem State.takeAddr_kept (s : State) (a : Nat) : (State.takeAddr s a).kept = s.kept := by
  simp [State.takeAddr]

@[simp ↓] theorem effRstdaa_kept (s : State) : (effRstdaa s).kept = s.kept := by
  simp [effRstdaa]

@[simp ↓] theorem effEntdaa_kept (s : State) (a : Nat) : (effEntdaa s a).kept = s.kept := by
  simp [effEntdaa]

@[simp ↓] theorem effSetdasa_kept (s : State) (sa a : Nat) : (effSetdasa s sa a).kept = s.kept := by
  simp [effSetdasa]

@[simp ↓] theorem effSetnewda_kept (s : State) (a : Nat) : (effSetnewda s a).kept = s.kept := by
  simp [effSetnewda]

@[simp ↓] theorem effMatch_kept (s : State) (legacy : Bool) (a : Nat) : (effMatch s legacy a).kept = s.kept := by
  simp [effMatch]

@[simp ↓] theorem effEnec_kept (s : State) (ev : Nat) : (effEnec s ev).kept = s.kept := by
  simp [effEnec]

@[simp ↓] theorem effDisec_kept (s : State) (ev : Nat) : (effDisec s ev).kept = s.kept := by
  simp [effDisec]

@[simp ↓] theorem effGetpid_kept (s : State) : (effGetpid s).kept = s.kept := by
  simp [effGetpid]

@[simp ↓] theorem effGetbcr_kept (s : State) : (effGetbcr s).kept = s.kept := by
  simp [effGetbcr]

@[simp ↓] theorem effGetdcr_kept (s : State) : (effGetdcr s).kept = s.kept := by
  simp [effGetdcr]

@[simp ↓] theorem effGetstatus_kept (s : State) : (effGetstatus s).kept = s.kept := by
  simp [effGetstatus]

@[simp ↓] theorem effSetmwl_kept (s : State) (n : Nat) : (effSetmwl s n).kept = s.kept := by
  simp [effSetmwl]

@[simp ↓] theorem effSetmrl_kept (s : State) (n : Nat) : (effSetmrl s n).kept = s.kept := by
  simp [effSetmrl]

@[simp ↓] theorem effGetmwl_kept (s : State) : (effGetmwl s).kept = s.kept := by
  simp [effGetmwl]

@[simp ↓] theorem effGetmrl_kept (s : State) : (effGetmrl s).kept = s.kept := by
  simp [effGetmrl]

@[simp ↓] theorem effEnthdr_kept (s : State) : (effEnthdr s).kept = s.kept := by
  simp [effEnthdr]

@[simp ↓] theorem effCccOther_kept (s : State) (direct : Bool) : (effCccOther s direct).kept = s.kept := by
  simp [effCccOther]

@[simp ↓] theorem effHotJoin_kept (s : State) : (effHotJoin s).kept = s.kept := by
  simp [effHotJoin]

@[simp ↓] theorem effIbi_kept (s : State) (accepted : Bool) : (effIbi s accepted).kept = s.kept := by
  simp [effIbi]

@[simp ↓] theorem State.i3cXfer_kept (s : State) (legacy : Bool) (f : State → State) (hf : ∀ z, (f z).kept = z.kept) :
    (State.i3cXfer s legacy f).kept = s.kept := by
  simp [State.i3cXfer,hf]

@[simp ↓] theorem effI3cAddr_kept (s : State) (legacy : Bool) (addr : Nat) : (effI3cAddr s legacy addr).kept = s.kept := by
  simp [effI3cAddr]

@[simp ↓] theorem effI3cRead_kept (s : State) (legacy : Bool) (n : Nat) : (effI3cRead s legacy n).kept = s.kept := by
  simp [effI3cRead]

end Sys2Proof.Machine
end

