-- ==== Sys2Proof/Laws/Good.lean ====
section
/-!
SUPPORT. What every operation of the block keeps, the resets and the commands that write the package flash among them: the
integration data and the queue, the canonical form of the tables, and the secrets where they may be (`Good`).
-/
namespace Sys2Proof.Machine

/-! ### The flash commands -/

theorem voidAt_wf (k : Nat) (m : List Host.Cell) (a : Nat) (h : memWf m = true) : memWf (voidAt m a k) = true := by
  induction k generalizing m a with
  | zero => exact h
  | succ k ih => exact ih _ _ (memProg_wf _ _ _ (memProg_wf _ _ _ h))

theorem arcWalk_wf (n : Nat) (m : List Host.Cell) (at_ : Nat) (x : ScanS) (h : memWf m = true) :
    memWf (arcWalk m at_ x n).2 = true := by
  induction n generalizing m x with
  | zero => exact h
  | succ n ih =>
    unfold arcWalk
    dsimp only
    split
    · exact h
    split <;> [exact ih _ _ h; skip]
    split <;> [exact ih _ _ h; exact ih _ _ (voidAt_wf _ _ _ h)]

/-! ### What every command keeps -/

/-- The integration data and the queue stand, the tables are in canonical form and the secrets are where they may be. -/
def Good (c : Integ) (q : List Instr) (s : State) : Prop :=
  s.cfg = c ∧ s.pending = q ∧ tabWf s.regs = true ∧ memWf s.flash = true ∧ s.sec.ok = true

theorem good_congr {c : Integ} {q : List Instr} {s t : State} (h : t.kept = s.kept) : Good c q t ↔ Good c q s := by
  simp only [State.kept, Prod.mk.injEq] at h
  simp only [Good, SecS.ok, h]

/-- A state that differs from another in what `kept` does not name. -/
theorem Good.of_kept {c : Integ} {q : List Instr} {s t : State} (hs : Good c q s) (h : t.kept = s.kept) : Good c q t :=
  (good_congr h).2 hs

/-- The flash of a good state may become any one in canonical form. -/
theorem Good.flash {c : Integ} {q : List Instr} {s t : State} (hs : Good c q s) (hf : memWf t.flash = true)
    (h : { t with flash := s.flash }.kept = s.kept) : Good c q t := by
  obtain ⟨h1, h2, h3, h4, h5⟩ := (good_congr h).2 hs
  exact ⟨h1, h2, h3, hf, h5⟩

/-- A choice between two good states is one. -/
theorem good_ite {c : Integ} {q : List Instr} {p : Prop} [Decidable p] {a b : State} (ha : p → Good c q a) (hb : ¬p → Good c q b) :
    Good c q (if p then a else b) := by
  by_cases hp : p
  · rw [if_pos hp]; exact ha hp
  · rw [if_neg hp]; exact hb hp

theorem dropWeights_good {c q} {s : State} (h : Good c q s) (st cause : Nat) : Good c q (s.dropWeights st cause) :=
  h.of_kept (by simp)

/-- A key that goes keeps the secrets in order where no delivery is open. -/
theorem dropKey_good {c q} {s : State} (h : Good c q s) (hd : s.sec.deliv.opened = false) : Good c q s.dropKey := by
  obtain ⟨h1, h2, h3, h4, h5⟩ := h
  refine ⟨h1, h2, by simpa [State.dropKey, State.set, tabWf_put] using h3, h4, ?_⟩
  simp [SecS.ok, State.dropKey, State.set, hd]

theorem failDelivery_good {c q} {s : State} (h : Good c q s) (r : Nat) : Good c q (s.failDelivery r) := by
  unfold State.failDelivery
  split
  · refine dropWeights_good (dropKey_good (s := _) ?_ rfl) 0 0
    obtain ⟨h1, h2, h3, h4, h5⟩ := h
    refine ⟨h1, h2, by simpa [State.raise, State.set, tabWf_put] using h3, h4, ?_⟩
    simp only [SecS.ok, State.raise, State.set] at h5 ⊢
    simp_all
  · exact h

theorem failDelivery_closed (s : State) (r : Nat) : (s.failDelivery r).sec.deliv.opened = false := by
  unfold State.failDelivery
  split
  · rfl
  · simp_all

theorem endSession_good {c q} {s : State} (h : Good c q s) : Good c q s.endSession := by
  have h1 := dropKey_good (failDelivery_good h 6) (failDelivery_closed s 6)
  have hd := failDelivery_closed s 6
  unfold State.endSession
  generalize s.failDelivery 6 = t at *
  have h2 : Good c q (t.dropKey.set R.SEC_SESS_RSPSID 0 0) := h1.of_kept (by simp)
  have hk : (t.dropKey.set R.SEC_SESS_RSPSID 0 0).sec.key = none := rfl
  have ho : (t.dropKey.set R.SEC_SESS_RSPSID 0 0).sec.deliv.opened = false := hd
  generalize t.dropKey.set R.SEC_SESS_RSPSID 0 0 = u at *
  dsimp only
  split
  · obtain ⟨h1, h2, h3, h4, h5⟩ := h2
    refine ⟨h1, h2, by simpa [State.set, tabWf_put] using h3, h4, ?_⟩
    simp [SecS.ok, State.set, hk, ho]
  · obtain ⟨h1, h2, h3, h4, h5⟩ := h2
    exact ⟨h1, h2, h3, h4, by simp [SecS.ok, hk, ho]⟩

theorem effSleepBegin_good {c q} {s : State} (h : Good c q s) : Good c q (effSleepBegin s) := by
  unfold effSleepBegin
  refine good_ite (fun _ => (endSession_good ?_).of_kept (State.sleepEntries_kept _)) fun _ => h
  exact h.of_kept (by simp)

theorem endSession_key (s : State) : s.endSession.sec.key = none := by
  unfold State.endSession; dsimp only; split <;> rfl

/-! ### Resets, faults and power -/

theorem warmRegs_wf (c : Integ) (m : Tab Word) : tabWf (warmRegs c m) = tabWf m := by
  unfold warmRegs
  have h : ∀ (l : Tab Word) (m : Tab Word), tabWf (l.foldl (fun m r => tabPut m r.1 r.2) m) = tabWf m := by
    intro l
    induction l with
    | nil => intro m; rfl
    | cons r l ih => intro m; rw [List.foldl_cons, ih, tabWf_put]
  rw [h]
  exact tabWf_map (fun (r : Nat × Word) => (r.1, warmWord r.1 r.2)) (fun _ => rfl) m

/-- A change of the flash that keeps its canonical form, made with a free value, keeps a good state. -/
theorem leave_good {c q} {s : State} (h : Good c q s) (w : Nat) (f : Nat → State → State)
    (hk : ∀ v t, { f v t with flash := t.flash }.kept = t.kept) (hf : ∀ v t, memWf t.flash = true → memWf (f v t).flash = true) :
    Good c q (match s.freeBits w with | (v, t) => f v t) := by
  have ht : Good c q (s.freeBits w).2 := h.of_kept (State.freeBits_kept s w)
  generalize s.freeBits w = p at *
  exact ht.flash (hf _ _ ht.2.2.2.1) (hk _ _)

/-- What the device-level state holds is no part of it. -/
theorem good_dev {c q} (s : State) (d : DevS) : Good c q { s with dev := d } ↔ Good c q s := Iff.rfl

theorem commitLeft_wf (m : List Host.Cell) (v i : Nat) (h : memWf m = true) : memWf (commitLeft m v i) = true := by
  unfold commitLeft
  have h1 := memLeave_wf m 0 0x10000 v h
  generalize memLeave m 0 0x10000 v = t at *
  dsimp only
  split
  · exact memPut_wf _ _ _ h1
  · exact h1

theorem commitRec_kept' (t : State) (cal : CalS) :
    { ((t.set R.CAL_CSTAT_BUSY 0 0).calRefuse 4).commitRec with cal := cal, flash := t.flash }.kept = t.kept := by
  have h : ((t.set R.CAL_CSTAT_BUSY 0 0).calRefuse 4).commitRec.kept = t.kept := by simp
  simp only [State.kept, Prod.mk.injEq] at h ⊢
  simp_all

theorem stopFlash_good {c q} {s : State} (h : Good c q s) : Good c q s.stopFlash := by
  unfold State.stopFlash
  have h1 : Good c q (if s.cal.commit then
      let (v, s) := s.freeBits (8 * 0x10000)
      { ((s.set R.CAL_CSTAT_BUSY 0 0).calRefuse 4).commitRec with
        cal := { s.cal with commit := false }, flash := commitLeft s.flash v (s.fuse.getD default).dieId }
    else s) :=
    good_ite (fun _ => leave_good h _
        (fun v t => { ((t.set R.CAL_CSTAT_BUSY 0 0).calRefuse 4).commitRec with
          cal := { t.cal with commit := false }, flash := commitLeft t.flash v (t.fuse.getD default).dieId })
        (fun v t => commitRec_kept' t _) (fun v t ht => by dsimp only; exact commitLeft_wf _ _ _ ht)) fun _ => h
  dsimp only at h1 ⊢
  generalize (if s.cal.commit = true then _ else s) = t at *
  split
  · exact h1
  · rename_i k a hk
    exact leave_good h1 _
      (fun v u => { u.set R.IMG_PSTAT_BUSY 0 0 with
        dev := { u.dev with pgm := none }, flash := memLeave u.flash a (if k = 1 then 0x1000 else 0x100) v })
      (fun v t => by simp [State.kept, State.set, tabWf_put]) (fun v t => memLeave_wf _ _ _ _)

theorem ccReset_good {c q} {s : State} (h : Good c q s) : Good c q s.ccReset := by
  have h' := stopFlash_good (s := s.each s.districts State.undarken) (h.of_kept (by simp))
  unfold State.ccReset
  dsimp only
  generalize (s.each s.districts State.undarken).stopFlash = t at *
  obtain ⟨h1, h2, h3, h4, h5⟩ := h'
  refine ⟨h1, h2, ?_, h4, ?_⟩
  · simp only [State.set, tabWf_put, warmRegs_wf]; exact h3
  · have hk : (default : SecS).key = none := rfl
    have hd : (default : SecS).deliv.opened = false := rfl
    simp [SecS.ok, State.set, hk, hd]

theorem tearRecord_good {c q} {s : State} (h : Good c q s) : Good c q s.tearRecord := by
  unfold State.tearRecord
  split
  · exact h
  · refine good_ite (fun _ => h) fun _ => ?_
    have h1 : Good c q (s.freeBits 1).2 := h.of_kept (by simp)
    generalize s.freeBits 1 = p at *
    rename_i r _ _ _
    have h2 : Good c q (p.2.freeBits (8 * r.len)).2 := h1.of_kept (by simp)
    dsimp only
    generalize p.2.freeBits (8 * r.len) = u at *
    exact good_ite (fun _ => h2) fun _ => h2.flash (memProg_wf _ _ _ h2.2.2.2.1) rfl

theorem ccDown_good {c q} {s : State} (h : Good c q s) : Good c q s.ccDown := by
  have h1 := ccReset_good (tearRecord_good h)
  unfold State.ccDown
  obtain ⟨a, b, d, e, f⟩ := h1
  exact ⟨a, b, by simpa [State.set, tabWf_put] using d, e, f⟩

theorem effEntryCells_good {c q} {s : State} (h : Good c q s) (d : Nat) : Good c q (effEntryCells s d) := by
  unfold effEntryCells
  exact good_ite (fun _ => good_ite (fun _ => h.of_kept (by simp))
    fun _ => good_ite (fun _ => ccDown_good (h.of_kept (by simp))) fun _ => h.of_kept (by simp)) fun _ => h

/-- A fold over a list keeps a good state where each of its steps does. -/
theorem each_good {c q} (l : List Nat) (f : State → Nat → State) (hf : ∀ s x, Good c q s → Good c q (f s x)) {s : State}
    (h : Good c q s) : Good c q (s.each l f) := by
  unfold State.each
  induction l generalizing s with
  | nil => exact h
  | cons a l ih => exact ih (hf s a h)

theorem foldl_good {c q} {α : Type} (l : List α) (f : State → α → State) (hf : ∀ s x, Good c q s → Good c q (f s x)) {s : State}
    (h : Good c q s) : Good c q (l.foldl f s) := by
  induction l generalizing s with
  | nil => exact h
  | cons a l ih => exact ih (hf s a h)

theorem effSleepDown_good {c q} {s : State} (h : Good c q s) : Good c q (effSleepDown s) := by
  unfold effSleepDown
  exact good_ite (fun _ => each_good _ _ (fun s d hs => hs.of_kept (by simp)) (ccDown_good (h.of_kept (by simp)))) fun _ => h

theorem forceOff_good {c q} {s : State} (h : Good c q s) (th : Bool) : Good c q (s.forceOff th) := by
  have h1 : Good c q (((s.tstStop 4).endDoze).byeAll 1).stopFlash := stopFlash_good (h.of_kept (by simp))
  unfold State.forceOff
  dsimp only
  generalize (((s.tstStop 4).endDoze).byeAll 1).stopFlash = t at *
  have h2 : Good c q (((((((t.dropBooks.set R.PWR_STAT_DEV 0 devOff).set R.FLT_STAT_STATE 0 2).set R.ORR_STAT_NODIST 0 0).raise R.FLT_FLT_OFF).set
      R.PWR_WAKE_LNK_EN 0 1).irqAll 1 0x07).capTrig 3) := h1.of_kept (by simp)
  exact (endSession_good h2).of_kept (by simp)

theorem react_good {c q} {s : State} (h : Good c q s) (r : Report) (x : Nat) : Good c q (s.react r x) := by
  unfold State.react
  exact good_ite (fun _ => h) fun _ => good_ite (fun _ => h.of_kept (by simp))
    fun _ => good_ite (fun _ => h.of_kept (by simp)) fun _ => forceOff_good (h.of_kept (by simp)) _

theorem registerReports_good {c q} {s : State} (h : Good c q s) (rs : List Report) : Good c q (s.registerReports rs) := by
  unfold State.registerReports
  dsimp only
  have key : ∀ (l : List Report) (p : List Entry × State), Good c q p.2 →
      Good c q (l.foldl (fun (p : List Entry × State) r => (p.1 ++ [(p.2.enter r).1], (p.2.enter r).2)) p).2 := by
    intro l
    induction l with
    | nil => intro p hp; exact hp
    | cons r l ih => intro p hp; exact ih _ (hp.of_kept (by simp))
  have h1 := key (rs.foldl (fun l r => insertReport r l) []) ([], s) h
  generalize (List.foldl (fun (p : List Entry × State) r => (p.1 ++ [(p.2.enter r).1], (p.2.enter r).2)) ([], s)
    (rs.foldl (fun l r => insertReport r l) [])) = p at *
  refine foldl_good _ _ (fun s x hs => react_good hs _ _) (foldl_good _ _ (fun s x hs => react_good hs _ _) ?_)
  refine h1.of_kept ?_
  simp
  split
  · rfl
  · simp

theorem effFaultReport_good {c q} {s : State} (h : Good c q s) : Good c q (effFaultReport s) := by
  unfold effFaultReport
  exact good_ite (fun _ => registerReports_good (h.of_kept (by simp)) _) fun _ => h.of_kept (by simp)

theorem effWiring_good {c q} {s : State} (h : Good c q s) (src cls : Nat) : Good c q (effWiring s src cls) := by
  unfold effWiring
  exact good_ite (fun _ => h) fun _ => registerReports_good (h.of_kept (by simp)) _

theorem effSafeStop_good {c q} {s : State} (h : Good c q s) : Good c q (effSafeStop s) := by
  unfold effSafeStop
  exact h.of_kept (by simp)

theorem effFaultInject_good {c q} {s : State} (h : Good c q s) : Good c q (effFaultInject s) := by
  unfold effFaultInject
  exact good_ite (fun _ => registerReports_good (h.of_kept (by simp)) _) fun _ => h

theorem effRestartPath_good {c q} {s : State} (h : Good c q s) : Good c q (effRestartPath s) := by
  unfold effRestartPath
  dsimp only
  split
  · split
    · rw [good_congr (State.offCheck_kept _), good_dev]
      exact ccReset_good (h.of_kept (by simp))
    · exact h.of_kept (by simp)
  · exact h

/-! ### The Archive, ageing records and flash commands -/

theorem arcProg_good {c q} {s : State} (h : Good c q s) (b : List Byte) : Good c q (s.arcProg b) := by
  unfold State.arcProg
  exact h.flash (by dsimp only; exact memProg_wf _ _ _ h.2.2.2.1) (by simp [State.kept, State.set, tabWf_put])

theorem attempts_good {c q} (r : Rec) (n : Nat) (bad : List Bool) {s : State} (h : Good c q s) :
    Good c q (State.attempts s r n bad) := by
  induction n generalizing s bad with
  | zero => exact h.of_kept (by simp [State.attempts])
  | succ n ih =>
    unfold State.attempts
    dsimp only
    split
    · refine ih _ ?_
      have h1 : Good c q (((s.set R.ARC_WPOS_OFS 0 (s.get R.ARC_WPOS_OFS + (s.recOf r s.nextAcc).length)).freeBits
          (8 * (s.recOf r s.nextAcc).length)).2) := h.of_kept (by simp)
      exact h1.flash (by dsimp only; exact voidAt_wf _ _ _ (memProg_wf _ _ _ h1.2.2.2.1)) rfl
    · exact Good.of_kept (s := State.arcProg _ _) (arcProg_good h _) (by simp; rfl)

theorem effArcProgram_good {c q} {s : State} (h : Good c q s) (bad : List Bool) : Good c q (effArcProgram s bad) := by
  unfold effArcProgram
  split
  · exact h
  exact good_ite (fun _ => h) fun _ => good_ite (fun _ => h.of_kept (by simp)) fun _ => good_ite (fun _ => good_ite
    (fun _ => Good.of_kept (s := State.arcProg _ _) (arcProg_good h _) (by simp; rfl)) fun _ => attempts_good _ _ _ h) fun _ => h

theorem effArcScan_good {c q} {s : State} (h : Good c q s) : Good c q (effArcScan s) := by
  unfold effArcScan
  split
  · exact h
  · split
    · have hw := arcWalk_wf (arcSize / 16) s.flash s.arcAt {} h.2.2.2.1
      generalize arcWalk s.flash s.arcAt {} (arcSize / 16) = p at *
      have h1 : Good c q { s with flash := p.2, arc := { s.arc with scanned := true, tornDue := false } } := h.flash hw rfl
      dsimp only
      split
      · exact h1.of_kept (by simp)
      · exact h1.of_kept (by simp)
    · split
      · dsimp only
        split
        · exact h.of_kept (by simp)
        · exact h.flash (by dsimp only; exact voidAt_wf _ _ _ h.2.2.2.1) (by simp [State.kept, State.set, State.raise, tabWf_put])
      · exact h

theorem effArcErased_good {c q} {s : State} (h : Good c q s) : Good c q (effArcErased s) := by
  unfold effArcErased
  split
  · have h1 : Good c q { s with flash := memErase s.flash s.arcAt arcSize } := h.flash (by dsimp only; exact memErase_wf _ _ _ h.2.2.2.1) rfl
    have h2 : Good c q (({ s with flash := memErase s.flash s.arcAt arcSize }.set R.ARC_WPOS_OFS 0 0).set R.ARC_STAT_EMPTY 0 1) :=
      h1.of_kept (by simp)
    exact Good.of_kept (s := State.arcProg _ _) (arcProg_good h2 _) (by simp; rfl)
  · exact h

theorem effAgeingWrite_good {c q} {s : State} (h : Good c q s) (good : Bool) : Good c q (effAgeingWrite s good) := by
  unfold effAgeingWrite
  split
  · exact h
  · dsimp only
    have h1 : Good c q { s with flash := memErase s.flash (ageAt (1 - s.age.slot)) 0x1000,
                                age := { s.age with lastWrite := s.ticks / 65536, due := false, retry := !good } } :=
      h.flash (by dsimp only; exact memErase_wf _ _ _ h.2.2.2.1) rfl
    generalize { s with flash := memErase s.flash (ageAt (1 - s.age.slot)) 0x1000,
                        age := { s.age with lastWrite := s.ticks / 65536, due := false, retry := !good } } = t at *
    split
    · have h2 : Good c q (t.inc R.AGE_CNT_WRITES) := h1.of_kept (by simp)
      exact h2.flash (by dsimp only; exact memProg_wf _ _ _ h2.2.2.2.1) rfl
    · have h2 : Good c q (t.freeBits 4096).2 := h1.of_kept (by simp)
      generalize t.freeBits 4096 = p at *
      have h3 : Good c q { p.2 with flash := memProg p.2.flash (ageAt (1 - s.age.slot)) (leBytes 512 p.1) } :=
        h2.flash (by dsimp only; exact memProg_wf _ _ _ h2.2.2.2.1) rfl
      exact h3.of_kept (by simp)

theorem effCalCommit_good {c q} {s : State} (h : Good c q s) (k : Nat) : Good c q (effCalCommit s k) := by
  unfold effCalCommit
  refine good_ite (fun _ => h.of_kept (by simp)) fun _ => good_ite (fun _ => h.of_kept (by simp)) fun _ => ?_
  split
  · exact h.of_kept (by simp)
  · have h1 : Good c q (((s.set R.CAL_CSTAT_BUSY 0 1).inc R.CAL_CSTAT_COMMITS).raise R.CAL_FLT_LOST) := h.of_kept (by simp)
    exact good_ite (fun _ => h.of_kept (by simp)) fun _ => h1.flash (memErase_wf _ _ _ h1.2.2.2.1) rfl

theorem effCalCommitted_good {c q} {s : State} (h : Good c q s) (good : Bool) : Good c q (effCalCommitted s good) := by
  unfold effCalCommitted
  refine good_ite (fun _ => ?_) fun _ => h
  dsimp only
  rw [good_congr (State.commitRec_kept _)]
  cases good
  · have h2 : Good c q (((s.set R.CAL_CSTAT_BUSY 0 0).calRefuse 4).freeBits (8 * 0x10000)).2 := h.of_kept (by simp)
    simp only [Bool.false_eq_true, if_false]
    generalize ((s.set R.CAL_CSTAT_BUSY 0 0).calRefuse 4).freeBits (8 * 0x10000) = p at *
    exact h2.flash (by dsimp only; exact memLeave_wf _ _ _ _ h2.2.2.2.1) (by simp [State.kept, State.set, tabWf_put])
  · simp only [if_true]
    exact h.flash (by dsimp only; exact memWrite_wf _ _ _ h.2.2.2.1) (by simp [State.kept, State.set, tabWf_put])

theorem effPcmdDone_good {c q} {s : State} (h : Good c q s) (good : Bool) : Good c q (effPcmdDone s good) := by
  unfold effPcmdDone
  split
  · exact h
  · rename_i k a hk
    have h1 : Good c q { s.set R.IMG_PSTAT_BUSY 0 0 with dev := { s.dev with pgm := none } } := h.of_kept (by simp)
    dsimp only
    split
    · exact h1.flash (by dsimp only; exact memErase_wf _ _ _ h1.2.2.2.1) (by simp [State.kept, State.set, tabWf_put])
    · have h2 : Good c q { s.set R.IMG_PSTAT_BUSY 0 0 with
          dev := { s.dev with pgm := none }, flash := memProg s.flash a s.pageBuf } :=
        h1.flash (memProg_wf _ _ _ h.2.2.2.1) rfl
      cases good with
      | true =>
        simp only [if_true, Bool.true_and]
        split
        · exact h2.of_kept (by simp; rfl)
        · exact h2.of_kept (by simp; rfl)
      | false =>
        simp only [Bool.false_eq_true, if_false, Bool.false_and]
        have h4 : Good c q (State.freeBits { s.set R.IMG_PSTAT_BUSY 0 0 with dev := { s.dev with pgm := none } }
            (8 * s.pageBuf.length)).2 := h1.of_kept (State.freeBits_kept _ _)
        have h5 := h4.flash (t := { (State.freeBits { s.set R.IMG_PSTAT_BUSY 0 0 with dev := { s.dev with pgm := none } }
            (8 * s.pageBuf.length)).2 with flash := memLeave s.flash a s.pageBuf.length (State.freeBits { s.set R.IMG_PSTAT_BUSY 0 0 with dev := { s.dev with pgm := none } }
            (8 * s.pageBuf.length)).1 }) (memLeave_wf _ _ _ _ h.2.2.2.1) rfl
        exact h5.of_kept (by simp; rfl)

end Sys2Proof.Machine
end

