-- ==== Sys2Proof/Laws/GoodHost.lean ====
section
/-!
SUPPORT. That attestation, secrets, start-up, the periods and the host ports keep a good state (`Good`).
-/
namespace Sys2Proof.Machine

/-! ### Attestation -/

theorem ite_good {c q} {p : Prop} [Decidable p] {a b : State} (ha : Good c q a) (hb : Good c q b) :
    Good c q (if p then a else b) := good_ite (fun _ => ha) fun _ => hb

/-- A choice between two answers that leave good states leaves one. -/
theorem ite_reply_good {c q} {p : Prop} [Decidable p] {a b : Reply} (ha : Good c q a.2) (hb : Good c q b.2) :
    Good c q (if p then a else b).2 := by
  by_cases hp : p
  · rw [if_pos hp]; exact ha
  · rw [if_neg hp]; exact hb

theorem endClaim_good {c q} {s : State} (h : Good c q s) : Good c q s.endClaim := by
  unfold State.endClaim
  exact (endSession_good h).of_kept (by simp)

theorem effRel_good {c q} {s : State} (h : Good c q s) (g : Nat) : Good c q (effRel s g) := by
  unfold effRel
  exact ite_good (endClaim_good h) (ite_good (h.of_kept (by simp)) h)

theorem effFrel_good {c q} {s : State} (h : Good c q s) (g : Nat) : Good c q (effFrel s g) := by
  unfold effFrel
  exact ite_good (endClaim_good h) h

theorem effMbTimeout_good {c q} {s : State} (h : Good c q s) : Good c q (effMbTimeout s) := by
  unfold effMbTimeout
  exact ite_good ((endClaim_good h).of_kept (by simp)) h

theorem mbctl_good {c q} {s : State} (h : Good c q s) (g : Nat) (w : Word) : Good c q (s.mbctl g w) := by
  unfold State.mbctl
  refine ite_good (endClaim_good h) (ite_good (h.of_kept (by simp)) ?_)
  have h1 : Good c q (if w.getLsbD 31 then effClaim s g else s) := h.of_kept (by simp)
  have h2 : Good c q (if w.getLsbD 29 then effSend (if w.getLsbD 31 then effClaim s g else s) g (w.getLsbD 24) (bitsOf w 0 13)
      else (if w.getLsbD 31 then effClaim s g else s)) := h1.of_kept (by simp)
  exact ite_good (effRel_good h2 g) h2

theorem effResponseReady_good {c q} {s : State} (h : Good c q s) : Good c q (effResponseReady s) := by
  unfold effResponseReady
  split
  · exact h
  · have h1 : Good c q (if s.sec.zeroPend then s.endSession else s) := ite_good (endSession_good h) h
    dsimp only at h1 ⊢
    generalize (if s.sec.zeroPend = true then s.endSession else s) = t at *
    exact h1.of_kept (by simp)

theorem error_good {c q} {s : State} (h : Good c q s) (code data : Nat) : Good c q (s.error code data).2 :=
  h.of_kept (by simp [State.error])

theorem negotiated_good {c q} {s : State} (h : Good c q s) (m r : List Byte) (n : Nat) : Good c q (s.negotiated m r n).2 :=
  h.of_kept (by simp [State.negotiated])

theorem noted_good {c q} {s : State} (h : Good c q s) (m r : List Byte) : Good c q (s.noted m r).2 :=
  h.of_kept (by simp [State.noted])

theorem spdmVersion_good {c q} {s : State} (h : Good c q s) (m : List Byte) : Good c q (s.spdmVersion m).2 := by
  have h1 := endSession_good h
  unfold State.spdmVersion
  generalize s.endSession = t at *
  exact h1.of_kept (by simp)

theorem spdmCaps_good {c q} {s : State} (h : Good c q s) (m : List Byte) : Good c q (s.spdmCaps m).2 := by
  unfold State.spdmCaps
  exact ite_reply_good (error_good h _ _) (ite_reply_good (error_good h _ _) (negotiated_good h _ _ _))

theorem spdmAlgs_good {c q} {s : State} (h : Good c q s) (m : List Byte) : Good c q (s.spdmAlgs m).2 := by
  unfold State.spdmAlgs
  refine ite_reply_good (error_good h _ _) ?_
  dsimp only
  split
  · exact error_good h _ _
  · exact ite_reply_good (negotiated_good h _ _ _) (error_good (h.of_kept (by simp)) _ _)

theorem spdmDigests_good {c q} {s : State} (h : Good c q s) (m : List Byte) : Good c q (s.spdmDigests m).2 := by
  unfold State.spdmDigests
  exact ite_reply_good (error_good h _ _) (ite_reply_good (error_good h _ _) (noted_good h _ _))

theorem spdmCert_good {c q} {s : State} (h : Good c q s) (m : List Byte) : Good c q (s.spdmCert m).2 := by
  unfold State.spdmCert
  exact ite_reply_good (error_good h _ _) (ite_reply_good (error_good h _ _) (noted_good h _ _))

theorem spdmChallenge_good {c q} {s : State} (h : Good c q s) (m : List Byte) : Good c q (s.spdmChallenge m).2 := by
  unfold State.spdmChallenge
  refine ite_reply_good (error_good h _ _) (ite_reply_good (error_good h _ _) ?_)
  split
  · exact error_good h _ _
  · exact ite_reply_good (error_good h _ _) (h.of_kept (by simp))

theorem spdmMeas_good {c q} {s : State} (h : Good c q s) (i : Bool) (m : List Byte) : Good c q (s.spdmMeas i m).2 := by
  unfold State.spdmMeas
  dsimp only
  repeat' split
  all_goals first
    | exact error_good h _ _
    | exact h.of_kept (by simp)

/-- A session may open where none stands: no key is held then. -/
theorem Good.newSession {c q} {s : State} (h : Good c q s) (t : State) (x : SessS)
    (hk : { t with sec := { t.sec with sess := none } }.kept = s.kept) (ht : t.sec.sess = some x) : Good c q t := by
  obtain ⟨h1, h2, h3, h4, h5⟩ := (good_congr hk).2 h
  refine ⟨h1, h2, h3, h4, ?_⟩
  simp only [SecS.ok, ht] at h5 ⊢
  simp at h5 ⊢
  have hk := h5.1.1
  simp_all

theorem spdmKeyEx_good {c q} {s : State} (h : Good c q s) (m : List Byte) : Good c q (s.spdmKeyEx m).2 := by
  unfold State.spdmKeyEx
  refine ite_reply_good (error_good h _ _) (ite_reply_good (error_good h _ _) ?_)
  by_cases hs : s.sec.sess.isSome = true
  · rw [if_pos hs]; exact error_good h _ _
  rw [if_neg hs]
  have hn : s.sec.sess = none := by simpa using hs
  split
  · exact error_good h _ _
  · refine ite_reply_good (error_good h _ _) (h.newSession _ _ ?_ rfl)
    simp only [State.kept, State.set, State.sign, State.random, State.freeBits, tabWf_put, hn]

/-- The handshake of a session is finished: the secrets stay in order. -/
theorem spdmFinish_good {c q} {s : State} (h : Good c q s) (i : Bool) (m : List Byte) : Good c q (s.spdmFinish i m).2 := by
  unfold State.spdmFinish
  split
  · exact error_good h _ _
  · refine ite_reply_good (error_good h _ _) <| ite_reply_good (error_good h _ _) <|
      ite_reply_good (error_good (endSession_good h) _ _) ?_
    obtain ⟨h1, h2, h3, h4, h5⟩ := h
    refine ⟨h1, h2, by simpa [State.set, tabWf_put] using h3, h4, ?_⟩
    simp only [SecS.ok] at h5 ⊢
    simp at h5 ⊢
    exact ⟨h5.1.2, h5.2⟩

theorem spdmEnd_good {c q} {s : State} (h : Good c q s) (i : Bool) (m : List Byte) : Good c q (s.spdmEnd i m).2 := by
  unfold State.spdmEnd
  exact ite_reply_good (error_good h _ _) (ite_reply_good (error_good h _ _) (h.of_kept (by simp)))

theorem spdmReply_good {c q} {s : State} (h : Good c q s) (i : Bool) (m : List Byte) : Good c q (s.spdmReply i m).2 := by
  unfold State.spdmReply
  dsimp only
  refine ite_reply_good (error_good h _ _) <| ite_reply_good (error_good h _ _) <|
    ite_reply_good (error_good h _ _) <| ite_reply_good (error_good h _ _) <|
    ite_reply_good ((ite_reply_good (spdmVersion_good h _) (error_good h _ _))) <| ite_reply_good (spdmCaps_good h _) <|
    ite_reply_good (spdmAlgs_good h _) <| ite_reply_good (spdmDigests_good h _) <|
    ite_reply_good (spdmCert_good h _) <| ite_reply_good (spdmChallenge_good h _) <|
    ite_reply_good (spdmMeas_good h _ _) <| ite_reply_good (spdmKeyEx_good h _) <|
    ite_reply_good (spdmFinish_good h _ _) <| ite_reply_good (spdmEnd_good h _ _) <|
    error_good h _ _

/-- A key is accepted only in an established session, and never from a debug request on. -/
theorem keyReply_good {c q} {s : State} (h : Good c q s) (m : List Byte) (x : SessS) (hx : s.sec.sess = some x)
    (he : x.established = true) : Good c q (s.keyReply m).2 := by
  unfold State.keyReply
  dsimp only
  split
  · rename_i hst
    obtain ⟨h1, h2, h3, h4, h5⟩ := h
    refine ⟨h1, h2, by simpa [State.set, tabWf_put] using h3, h4, ?_⟩
    have hd : s.sec.dbgReq = 0 := by
      unfold State.keyStatus at hst
      split at hst
      · omega
      · rename_i hc; simp at hc; exact hc.2
    simp [SecS.ok, State.set, hx, he, hd]
  · have h1 : Good c q (s.set R.SEC_KEY_LASTST 0 (s.keyStatus m)) := h.of_kept (by simp)
    exact (dropKey_good (failDelivery_good h1 6) (failDelivery_closed _ 6)).of_kept (by simp)

theorem sealReply_good {c q} (s : State) (x : SessS) (kind : Nat) (r : Reply) (h : Good c q r.2) :
    Good c q (s.sealReply x kind r) := by
  unfold State.sealReply
  dsimp only
  split
  · exact h.of_kept (by simp)
  · rename_i y hy
    have h1 : ∀ a b b2 l, Good c q (State.putReply { r.2 with sec := { r.2.sec with sess := some { y with seqIn := a, seqOut := b } } }
        b2 l) := by
      intro a b b2 l
      obtain ⟨h1, h2, h3, h4, h5⟩ := h
      refine ⟨h1, h2, h3, h4, ?_⟩
      simp only [SecS.ok, State.putReply, hy] at h5 ⊢
      exact h5
    generalize (if y.established != x.established then y.seqIn else x.seqIn + 1) = a
    generalize (if y.established != x.established then y.seqOut else x.seqOut + 1) = b
    split
    · exact endSession_good (h1 _ _ _ _)
    · exact h1 _ _ _ _

theorem named_sess (s : State) (x : SessS) (h : s.named = some x) : s.sec.sess = some x := by
  unfold State.named at h
  split at h
  · split at h
    · simp_all
    · cases h
  · cases h

theorem decryptError_good {c q} {s : State} (h : Good c q s) : Good c q s.decryptError := by
  unfold State.decryptError
  exact (endSession_good h).of_kept (by simp)

/-- Application data at hand are those of the session that stands. -/
theorem atHand_sess {s : State} {x : SessS} {p : List Byte} (h : s.atHand = .data x p) : s.sec.sess = some x := by
  unfold State.atHand at h
  split at h
  · cases h
  · split at h
    · cases h
    · rename_i y hy
      have := named_sess s y hy
      split at h
      · cases h
      · split at h
        · cases h
        · cases h; exact this
  · cases h

theorem emptyData_good {c q} {s : State} (h : Good c q s) (x : SessS) (hx : s.sec.sess = some x) : Good c q (s.emptyData x) := by
  have h1 : Good c q { s with sec := { s.sec with sess := some { x with seqIn := x.seqIn + 1 } } } := by
    obtain ⟨h1, h2, h3, h4, h5⟩ := h
    refine ⟨h1, h2, h3, h4, ?_⟩
    simp only [SecS.ok, hx] at h5 ⊢
    exact h5
  have h2 := h1.of_kept (State.emptyReply_kept _)
  unfold State.emptyData
  exact ite_good (endSession_good h2) h2

theorem respondTo_good {c q} {s : State} (h : Good c q s) : Good c q s.respondTo := by
  unfold State.respondTo
  split
  · exact h
  · exact (spdmReply_good h _ _).of_kept (State.putReply_kept _ _ _)
  · exact h.of_kept (by simp)
  · exact decryptError_good h
  · rename_i x p hx
    exact ite_good (sealReply_good _ _ _ _ (spdmReply_good h _ _)) (good_ite
      (fun hk => sealReply_good _ _ _ _ (keyReply_good h _ x (atHand_sess hx) hk.2)) fun _ => emptyData_good h x (atHand_sess hx))

theorem effRequest_good {c q} {s : State} (h : Good c q s) (k : Nat) : Good c q (effRequest s k) := by
  unfold effRequest
  exact ite_good (respondTo_good h) h

theorem effUnsupported_good {c q} {s : State} (h : Good c q s) : Good c q (effUnsupported s) := by
  have h1 := respondTo_good h
  unfold effUnsupported
  split
  · exact h
  · exact h
  · exact h1
  · exact ite_good h1 h
  · exact ite_good h1 h

theorem effDecryptError_good {c q} {s : State} (h : Good c q s) : Good c q (effDecryptError s) := by
  unfold effDecryptError
  split
  · exact decryptError_good h
  · exact h

theorem effKeyRecord_good {c q} {s : State} (h : Good c q s) : Good c q (effKeyRecord s) := by
  unfold effKeyRecord
  split
  · exact ite_good (respondTo_good h) h
  · exact h

/-! ### The delivery of weights, and invasive debug -/

theorem effBegin_good {c q} {s : State} (h : Good c q s) (g : Nat) : Good c q (effBegin s g) := by
  unfold effBegin
  refine ite_good (h.of_kept (by simp)) (ite_good h (good_ite (fun _ => h.of_kept (by simp)) fun hk =>
    ite_good (h.of_kept (by simp)) ?_))
  obtain ⟨h1, h2, h3, h4, h5⟩ := h
  refine ⟨h1, h2, by simpa [State.set, tabWf_put] using h3, h4, ?_⟩
  simp only [SecS.ok, State.set] at h5 ⊢
  simp at hk h5 ⊢
  cases hkk : s.sec.key with
  | none => simp [hkk] at hk
  | some k => simp_all

theorem effAbort_good {c q} {s : State} (h : Good c q s) (g : Nat) : Good c q (effAbort s g) := by
  unfold effAbort
  exact ite_good (h.of_kept (by simp)) (failDelivery_good h _)

theorem wctl_good {c q} {s : State} (h : Good c q s) (g : Nat) (w : Word) : Good c q (s.wctl g w) := by
  unfold State.wctl
  have h1 : Good c q (if w.getLsbD 30 then effAbort s g else s) := ite_good (effAbort_good h g) h
  exact ite_good (h.of_kept (by simp)) (ite_good (effBegin_good h1 g) h1)

theorem effWeightsData_good {c q} {s : State} (h : Good c q s) (g : Nat) (w : Word) : Good c q (effWeightsData s g w) := by
  unfold effWeightsData
  exact ite_good (h.of_kept (by simp)) (ite_good h (ite_good (failDelivery_good (h.of_kept (by simp)) _)
    (ite_good (h.of_kept (by simp)) (h.of_kept (by simp)))))

theorem effDeliveryEnd_good {c q} {s : State} (h : Good c q s) : Good c q (effDeliveryEnd s) := by
  have h1 : Good c q (State.dropKey { s.set R.SEC_WSTAT_STATE 0 3 with sec := { s.sec with deliv := {} } }) := by
    refine dropKey_good (s := _) ?_ rfl
    obtain ⟨h1, h2, h3, h4, h5⟩ := h
    refine ⟨h1, h2, by simpa [State.set, tabWf_put] using h3, h4, ?_⟩
    simp only [SecS.ok] at h5 ⊢
    simp_all
  unfold effDeliveryEnd
  refine ite_good h ?_
  dsimp only
  split
  · exact failDelivery_good h _
  refine ite_good (failDelivery_good h _) (ite_good ?_ ?_)
  · exact h1.of_kept (State.weightsCheck_kept _ _ _)
  · exact h1.of_kept (by simp)

theorem debugRequest_good {c q} {s : State} (h : Good c q s) (p : Nat) : Good c q (s.debugRequest p) := by
  unfold State.debugRequest
  have h1 := dropKey_good (failDelivery_good h 6) (failDelivery_closed s 6)
  have hd := failDelivery_closed s 6
  have hk : (s.failDelivery 6).dropKey.sec.key = none := rfl
  have ho : (s.failDelivery 6).dropKey.sec.deliv.opened = false := hd
  generalize (s.failDelivery 6).dropKey = t at *
  have h2 : Good c q { t with sec := { t.sec with dbgReq := t.sec.dbgReq ||| p } } := by
    obtain ⟨a, b, d, e, _⟩ := h1
    exact ⟨a, b, d, e, by simp [SecS.ok, hk, ho]⟩
  dsimp only
  generalize ({ t with sec := { t.sec with dbgReq := t.sec.dbgReq ||| p } } : State) = u at *
  have h3 : Good c q (if u.recordAtHand then u.respondTo else u) := ite_good (respondTo_good h2) h2
  exact (endSession_good h3).of_kept (by simp)

theorem effInvReq_good {c q} {s : State} (h : Good c q s) (g : Nat) : Good c q (effInvReq s g) := by
  unfold effInvReq
  exact ite_good (debugRequest_good h _) h

theorem effInvEnabled_good {c q} {s : State} (h : Good c q s) : Good c q (effInvEnabled s) := by
  unfold effInvEnabled
  split
  · exact h
  · dsimp only
    have h2 : ∀ t, Good c q t → Good c q { t with sec := { t.sec with dbgReq := 0 } } := by
      intro t ht
      obtain ⟨a, b, d, e, f⟩ := ht
      refine ⟨a, b, d, e, ?_⟩
      simp only [SecS.ok] at f ⊢
      simp_all
    exact h2 _ (h.of_kept (by simp))

/-! ### Reset and start-up -/

theorem effColdReset_good {c q} {s : State} (h : Good c q s) : Good c q (effColdReset s) := by
  obtain ⟨h1, h2, h3, h4, h5⟩ := h
  exact ⟨h1, h2, rfl, h4, rfl⟩

theorem effColdRelease_good {c q} {s : State} (h : Good c q s) : Good c q (effColdRelease s) := h

theorem effFuse_good {c q} {s : State} (h : Good c q s) (f : FuseMap) : Good c q (effFuse s f) := by
  have h1 : Good c q { s with fuse := some f } := h
  exact ite_good h (ite_good (h1.of_kept (by simp)) h1)

theorem effRelease_good {c q} {s : State} (h : Good c q s) : Good c q (effRelease s) := by
  unfold effRelease
  refine ite_good ?_ h
  have h1 : Good c q { s.ccReset with
      dev := { s.ccReset.dev with released := true, nextSel := s.ccReset.get R.IMG_CTL_NEXT, bootTick := s.ccReset.ticks },
      flt := { s.ccReset.flt with lines := [], heartbeat := true },
      arc := { s.ccReset.arc with tornDue := s.ccReset.arc.tornDue || (s.ccReset.dev.bootCause == 4) } } := ccReset_good h
  exact h1.of_kept (by simp)

theorem effWarmReset_good {c q} {s : State} (h : Good c q s) : Good c q (effWarmReset s) := by
  unfold effWarmReset
  refine ite_good ?_ h
  have h0 : Good c q (s.ccReset.set R.PWR_STAT_ENTRY 0 0) := (ccReset_good h).of_kept (by simp)
  have h1 := (good_dev (s.ccReset.set R.PWR_STAT_ENTRY 0 0)
    { (s.ccReset.set R.PWR_STAT_ENTRY 0 0).dev with released := false, bootCause := 2 }).2 h0
  exact ite_good h1 (h1.of_kept (by simp))

theorem effOrrStart_good {c q} {s : State} (h : Good c q s) : Good c q (effOrrStart s) := by
  unfold effOrrStart
  refine ite_good ?_ h
  exact ((good_dev s { s.dev with orrRun := true, dper := 0, die := 0, ep := 0, slot := 0, slotStb := 0 }).2 h).of_kept (by simp)

/-! ### The periods -/

theorem effDistrictPeriod_good {c q} {s : State} (h : Good c q s) (ms : List Meas) : Good c q (effDistrictPeriod s ms) := by
  unfold effDistrictPeriod
  refine ite_good h ?_
  have h0 : Good c q (if s.dev.dper = 0 then s else s.each s.districts State.region) := ite_good h (h.of_kept (by simp))
  dsimp only
  generalize (if s.dev.dper = 0 then s else s.each s.districts State.region) = u at *
  have h1 : Good c q { (u.set R.ORR_STAT_DPHASE 0 (s.dev.dper % 10)).set R.ORR_STAT_RUN 0 (if u.dev.gated then 0 else 1) with
      dev := { u.dev with dper := s.dev.dper + 1 } } :=
    (good_dev ((u.set R.ORR_STAT_DPHASE 0 (s.dev.dper % 10)).set R.ORR_STAT_RUN 0 (if u.dev.gated then 0 else 1))
      { u.dev with dper := s.dev.dper + 1 }).2 (h0.of_kept (by simp))
  exact h1.of_kept (by simp)

theorem effDiePeriod_good {c q} {s : State} (h : Good c q s) (e : List (Nat × StepErr)) (k : Nat) : Good c q (effDiePeriod s e k) := by
  unfold effDiePeriod
  refine ite_good h ?_
  have h1 : Good c q { s with dev := { s.dev with die := (s.dev.dper - 1) / 10 + 1 } } := h
  exact ite_good (h1.of_kept (by simp)) (h1.of_kept (by simp))

theorem effBudgetEpoch_good {c q} {s : State} (h : Good c q s) : Good c q (effBudgetEpoch s) := by
  unfold effBudgetEpoch
  refine ite_good h ?_
  have h1 : Good c q { s with dev := { s.dev with ep := (s.dev.die - 1) / 1000 + 1 } } := h
  have h2 : ∀ (k : Nat) (t : State), Good c q t → Good c q { t with dev := { t.dev with epoch := t.dev.epoch + k } } :=
    fun _ _ ht => ht
  exact h2 _ _ (ite_good (h1.of_kept (by simp)) (h1.of_kept (by simp)))

theorem effSlotBoundary_good {c q} {s : State} (h : Good c q s) (a : List (Nat × Nat)) (n : List Nat) :
    Good c q (effSlotBoundary s a n) := by
  unfold effSlotBoundary
  refine ite_good h ?_
  have h1 : Good c q { s with dev := { s.dev with slot := s.nextSlot, slotStb := s.dev.slotStb + 1 } } := h
  exact h1.of_kept (by simp)

theorem effDbgen_good {c q} {s : State} (h : Good c q s) (b : Bool) : Good c q (effDbgen s b) := by
  unfold effDbgen
  have h1 : Good c q (s.tap irDbgen (if b then 1 else 0)) := h.of_kept (by simp)
  exact ite_good (ite_good (debugRequest_good h1 _) h1) h

/-! ### The host ports -/

theorem doIf_good {c q} {s : State} (h : Good c q s) (b : Bool) (f : State → State) (hf : Good c q (f s)) :
    Good c q (s.doIf b f) := by
  unfold State.doIf
  exact ite_good hf h

theorem pwrCtl_good {c q} {s : State} (h : Good c q s) (p : Bool) (a : Nat) (w : Word) : Good c q (s.pwrCtl p a w) := by
  have h1 : Good c q ((s.storeFld p a w R.PWR_CTL_QDIV).qdivCheck) := h.of_kept (by simp)
  unfold State.pwrCtl
  refine ite_good ?_ (ite_good (h1.of_kept (by simp)) (h1.of_kept (by simp)))
  refine effWarmReset_good (ite_good h1 (ite_good (h1.of_kept (by simp)) (h1.of_kept (by simp))))

theorem secWrite_good {c q} {s : State} (h : Good c q s) (g : Nat) (p : Bool) (a : Nat) (w : Word) :
    Good c q (s.secWrite g p a w) := by
  unfold State.secWrite
  split
  · exact mbctl_good h _ _
  · exact h.of_kept (by simp)
  · exact h.of_kept (by simp)
  · exact wctl_good h _ _
  · exact effWeightsData_good h _ _
  · have h1 : Good c q (s.storeReg p a w) := h.of_kept (by simp)
    exact doIf_good h1 _ _ (effInvReq_good h1 _)
  · exact h.of_kept (by simp)
  · exact h.of_kept (by simp)
  · exact h.of_kept (by simp)
  · exact h.of_kept (by simp)

theorem calWrite_good {c q} {s : State} (h : Good c q s) (p : Bool) (a : Nat) (w : Word) : Good c q (s.calWrite p a w) := by
  unfold State.calWrite
  split
  · exact h.of_kept (by simp)
  · exact h.of_kept (by simp)
  · refine doIf_good h _ _ ?_
    have h1 : Good c q (s.doIf (bit w 30) effCalClear) := doIf_good h _ _ (h.of_kept (by simp))
    exact doIf_good h1 _ _ (effCalCommit_good h1 _)
  · exact h.of_kept (by simp)

theorem effWrite_good {c q} {s : State} (h : Good c q s) (g : Nat) (p : Bool) (a : Nat) (w : Word) :
    Good c q (s.effWrite g p a w) := by
  unfold State.effWrite
  refine ite_good (h.of_kept (by simp)) (ite_good (pwrCtl_good h _ _ _) ?_)
  split
  · exact h.of_kept (by simp)
  · exact secWrite_good h _ _ _ _
  · exact calWrite_good h _ _ _
  · exact h.of_kept (by simp)
  · exact h.of_kept (by simp)

theorem writeWith_good {c q} {s : State} (h : Good c q s) (g a : Nat) (k : RspCode) (f : State → State)
    (hf : ∀ t, Good c q t → Good c q (f t)) : Good c q (s.writeWith g a k f) := by
  unfold State.writeWith
  split
  · exact (hf s h).of_kept (by simp)
  · exact h.of_kept (by simp)

theorem writeNow_good {c q} {s : State} (h : Good c q s) (g a : Nat) (w : Word) (f : State → State)
    (hf : ∀ t, Good c q t → Good c q (f t)) : Good c q (s.writeNow g a w f) :=
  writeWith_good h _ _ _ _ hf

theorem writeOne_good {c q} {s : State} (h : Good c q s) (g a : Nat) (w : Word) (k : RspCode) (p : Bool) :
    Good c q (s.writeOne g a w k p) := by
  unfold State.writeOne
  exact ite_good (h.of_kept (by simp)) (writeWith_good h _ _ _ _ fun t ht => effWrite_good ht _ _ _ _)

theorem portWrite_good {c q} {s : State} (h : Good c q s) (g a : Nat) (w : Word) : Good c q (s.portWrite g a w) := by
  unfold State.portWrite
  exact ite_good (h.of_kept (by simp)) (writeOne_good h _ _ _ _ _)

theorem i3cWriteWith_good {c q} {s : State} (h : Good c q s) (g a : Nat) (w : Word) (k : RspCode) (p : Bool) :
    Good c q (s.i3cWriteWith g a w k p) := by
  unfold State.i3cWriteWith
  refine ite_good (h.of_kept (by simp)) ?_
  have h1 : Good c q (s.writeWith g a k fun s => s.effWrite g p a w) :=
    writeWith_good h _ _ _ _ fun t ht => effWrite_good ht _ _ _ _
  exact h1

theorem i3cWriteOne_good {c q} {s : State} (h : Good c q s) (g a : Nat) (w : Word) : Good c q (s.i3cWriteOne g a w) := by
  unfold State.i3cWriteOne
  exact ite_good (h.of_kept (by simp)) (i3cWriteWith_good h _ _ _ _ _)

theorem hostWrite_good {c q} {s : State} (h : Good c q s) (g a : Nat) (w : Word) (f : State → State)
    (hf : ∀ t, Good c q t → Good c q (f t)) : Good c q (s.hostWrite g a w f) := by
  unfold State.hostWrite
  have h1 : Good c q s.newAccess := h
  exact ite_good (h1.of_kept (by simp)) (writeNow_good h1 _ _ _ _ hf)

theorem hostRow_good {c q} {s : State} (h : Good c q s) (g : Nat) (F : Fld) (i v : Nat) (f : State → State)
    (hf : ∀ t, Good c q t → Good c q (f t)) : Good c q (s.hostRow g F i v f) :=
  hostWrite_good h _ _ _ _ hf

theorem resume_good {c q} {s : State} (h : Good c q s) (g : Nat) (x : Held) : Good c q (s.resume g x) :=
  ite_good h (ite_good (i3cWriteWith_good h _ _ _ _ _) (ite_good (h.of_kept (by simp))
    (ite_good (writeOne_good h _ _ _ _ _) (h.of_kept (by simp)))))

theorem replay_good {c q} (l : List Held) (g : Nat) {s : State} (h : Good c q s) : Good c q (s.replay g l) := by
  induction l generalizing s with
  | nil => exact h
  | cons x r ih =>
    exact ih (resume_good h _ _)

theorem fenceEnd_good {c q} {s : State} (h : Good c q s) (g : Nat) (k : RspCode) : Good c q (s.fenceEnd g k) := by
  unfold State.fenceEnd
  exact replay_good _ _ (h.of_kept (by simp))

theorem effFenceComplete_good {c q} {s : State} (h : Good c q s) (g : Nat) : Good c q (effFenceComplete s g) := by
  unfold effFenceComplete
  exact ite_good (fenceEnd_good (h.of_kept (by simp)) _ _) h

theorem effFenceTimeout_good {c q} {s : State} (h : Good c q s) (g : Nat) : Good c q (effFenceTimeout s g) := by
  unfold effFenceTimeout
  exact ite_good (fenceEnd_good (h.of_kept (by simp)) _ _) h

theorem i3cGroup_good {c q} {s : State} (h : Good c q s) (a : Nat) (w : Word) : Good c q (s.i3cGroup a w) := by
  unfold State.i3cGroup
  split
  · exact h.of_kept (by simp)
  · exact i3cWriteOne_good h _ _ _

theorem i3cGroups_good {c q} (n : Nat) (l : List Byte) (hl : l.length ≤ n) (a : Nat) {s : State} (h : Good c q s) :
    Good c q (s.i3cGroups a l) := by
  induction n generalizing l a s with
  | zero =>
    cases l with
    | nil => exact h
    | cons x r => simp at hl
  | succ n ih =>
    unfold State.i3cGroups
    split
    · exact h
    · refine ih _ ?_ _ (i3cGroup_good h _ _)
      simp at hl; omega
    · exact h.of_kept (by simp)

theorem i3cTake_good {c q} {s : State} (h : Good c q s) (f : State → State) (hf : ∀ t, Good c q t → Good c q (f t)) :
    Good c q (s.i3cTake f) := by
  unfold State.i3cTake
  exact ite_good (h.of_kept (by simp)) (hf _ (h.of_kept (by simp)))

theorem i3cXfer_good {c q} {s : State} (h : Good c q s) (l : Bool) (f : State → State) (hf : ∀ t, Good c q t → Good c q (f t)) :
    Good c q (s.i3cXfer l f) := by
  unfold State.i3cXfer
  exact ite_good (h.of_kept (by simp)) (i3cTake_good h _ fun t ht => hf _ (ht.of_kept (by simp)))

theorem effI3cWrite_good {c q} {s : State} (h : Good c q s) (l : Bool) (a : Nat) (d : List Byte) : Good c q (effI3cWrite s l a d) := by
  unfold effI3cWrite
  exact i3cXfer_good h _ _ fun t ht => i3cGroups_good _ _ (Nat.le_refl _) _ ht

end Sys2Proof.Machine
end

