-- ==== Sys2Proof/Laws/State.lean ====
section
/-!
SUPPORT. The register file: what a write of one field does to every field and to the rest of the state. A later proof reads
these and unfolds no record update.
-/
namespace Sys2Proof.Machine

/-! ### A write of a field leaves every other part of the state -/

@[simp] theorem State.set_cfg (s : State) (F : Fld) (i v : Nat) : (s.set F i v).cfg = s.cfg := rfl
@[simp] theorem State.set_fuse (s : State) (F : Fld) (i v : Nat) : (s.set F i v).fuse = s.fuse := rfl
@[simp] theorem State.set_cells (s : State) (F : Fld) (i v : Nat) : (s.set F i v).cells = s.cells := rfl
@[simp] theorem State.set_phases (s : State) (F : Fld) (i v : Nat) : (s.set F i v).phases = s.phases := rfl
@[simp] theorem State.set_law (s : State) (F : Fld) (i v : Nat) : (s.set F i v).law = s.law := rfl
@[simp] theorem State.set_hub (s : State) (F : Fld) (i v : Nat) : (s.set F i v).hub = s.hub := rfl
@[simp] theorem State.set_anv (s : State) (F : Fld) (i v : Nat) : (s.set F i v).anv = s.anv := rfl
@[simp] theorem State.set_book (s : State) (F : Fld) (i v : Nat) : (s.set F i v).book = s.book := rfl
@[simp] theorem State.set_queues (s : State) (F : Fld) (i v : Nat) : (s.set F i v).queues = s.queues := rfl
@[simp] theorem State.set_fcs (s : State) (F : Fld) (i v : Nat) : (s.set F i v).fcs = s.fcs := rfl
@[simp] theorem State.set_fo (s : State) (F : Fld) (i v : Nat) : (s.set F i v).fo = s.fo := rfl
@[simp] theorem State.set_pwr (s : State) (F : Fld) (i v : Nat) : (s.set F i v).pwr = s.pwr := rfl
@[simp] theorem State.set_fab (s : State) (F : Fld) (i v : Nat) : (s.set F i v).fab = s.fab := rfl
@[simp] theorem State.set_ports (s : State) (F : Fld) (i v : Nat) : (s.set F i v).ports = s.ports := rfl
@[simp] theorem State.set_coef (s : State) (F : Fld) (i v : Nat) : (s.set F i v).coef = s.coef := rfl
@[simp] theorem State.set_weights (s : State) (F : Fld) (i v : Nat) : (s.set F i v).weights = s.weights := rfl
@[simp] theorem State.set_adm (s : State) (F : Fld) (i v : Nat) : (s.set F i v).adm = s.adm := rfl
@[simp] theorem State.set_bud (s : State) (F : Fld) (i v : Nat) : (s.set F i v).bud = s.bud := rfl
@[simp] theorem State.set_tst (s : State) (F : Fld) (i v : Nat) : (s.set F i v).tst = s.tst := rfl
@[simp] theorem State.set_adc (s : State) (F : Fld) (i v : Nat) : (s.set F i v).adc = s.adc := rfl
@[simp] theorem State.set_thm (s : State) (F : Fld) (i v : Nat) : (s.set F i v).thm = s.thm := rfl
@[simp] theorem State.set_age (s : State) (F : Fld) (i v : Nat) : (s.set F i v).age = s.age := rfl
@[simp] theorem State.set_cal (s : State) (F : Fld) (i v : Nat) : (s.set F i v).cal = s.cal := rfl
@[simp] theorem State.set_dev (s : State) (F : Fld) (i v : Nat) : (s.set F i v).dev = s.dev := rfl
@[simp] theorem State.set_flt (s : State) (F : Fld) (i v : Nat) : (s.set F i v).flt = s.flt := rfl
@[simp] theorem State.set_arc (s : State) (F : Fld) (i v : Nat) : (s.set F i v).arc = s.arc := rfl
@[simp] theorem State.set_exh (s : State) (F : Fld) (i v : Nat) : (s.set F i v).exh = s.exh := rfl
@[simp] theorem State.set_fence (s : State) (F : Fld) (i v : Nat) : (s.set F i v).fence = s.fence := rfl
@[simp] theorem State.set_rsps (s : State) (F : Fld) (i v : Nat) : (s.set F i v).rsps = s.rsps := rfl
@[simp] theorem State.set_i3c (s : State) (F : Fld) (i v : Nat) : (s.set F i v).i3c = s.i3c := rfl
@[simp] theorem State.set_rings (s : State) (F : Fld) (i v : Nat) : (s.set F i v).rings = s.rings := rfl
@[simp] theorem State.set_tel (s : State) (F : Fld) (i v : Nat) : (s.set F i v).tel = s.tel := rfl
@[simp] theorem State.set_mw (s : State) (F : Fld) (i v : Nat) : (s.set F i v).mw = s.mw := rfl
@[simp] theorem State.set_cap (s : State) (F : Fld) (i v : Nat) : (s.set F i v).cap = s.cap := rfl
@[simp] theorem State.set_sec (s : State) (F : Fld) (i v : Nat) : (s.set F i v).sec = s.sec := rfl
@[simp] theorem State.set_flash (s : State) (F : Fld) (i v : Nat) : (s.set F i v).flash = s.flash := rfl
@[simp] theorem State.set_pageBuf (s : State) (F : Fld) (i v : Nat) : (s.set F i v).pageBuf = s.pageBuf := rfl
@[simp] theorem State.set_ticks (s : State) (F : Fld) (i v : Nat) : (s.set F i v).ticks = s.ticks := rfl
@[simp] theorem State.set_base (s : State) (F : Fld) (i v : Nat) : (s.set F i v).base = s.base := rfl
@[simp] theorem State.set_free (s : State) (F : Fld) (i v : Nat) : (s.set F i v).free = s.free := rfl
@[simp] theorem State.set_pending (s : State) (F : Fld) (i v : Nat) : (s.set F i v).pending = s.pending := rfl

/-! ### Tables -/

@[simp] theorem tabGet_put_self {α : Type} (t : Tab α) (k : Nat) (v : α) : tabGet (tabPut t k v) k = some v := by
  induction t with
  | nil => simp [tabPut, tabGet]
  | cons x r ih =>
    by_cases h : x.1 < k
    · simpa [tabPut, h, tabGet, show x.1 ≠ k by omega] using ih
    · simp [tabPut, h, tabGet]

theorem tabGet_put_ne {α : Type} (t : Tab α) (k j : Nat) (v : α) (h : k ≠ j) : tabGet (tabPut t k v) j = tabGet t j := by
  induction t with
  | nil => simp [tabPut, tabGet, h]
  | cons x r ih =>
    rcases Nat.lt_trichotomy x.1 k with hk | hk | hk
    · simp [tabPut, hk, tabGet, ih]
    · simp [tabPut, hk, tabGet, h]
    · simp [tabPut, show ¬x.1 < k by omega, show x.1 ≠ k by omega, tabGet, h]

/-! ### Bits of a register word -/

theorem bitsOf_withBits_self (x : Word) (lo w v : Nat) (h : lo + w ≤ 32) : bitsOf (withBits x lo w v) lo w = v % 2 ^ w := by
  apply Nat.eq_of_testBit_eq
  intro i
  simp only [bitsOf, withBits, Nat.testBit_mod_two_pow]
  by_cases hi : i < w
  · have h1 : lo + i < 32 := by omega
    have h2 : i < 32 := by omega
    have h3 : lo + i - lo = i := by omega
    rw [← BitVec.getLsbD, BitVec.getLsbD_ushiftRight]
    simp only [BitVec.getLsbD_or, BitVec.getLsbD_and, BitVec.getLsbD_not, BitVec.getLsbD_shiftLeft, BitVec.getLsbD_ofNat,
      Nat.testBit_mod_two_pow, Nat.testBit_two_pow_sub_one, h3]
    simp [hi, h1, h2]
  · simp [hi]

theorem bitsOf_withBits_other (x : Word) (lo w v lo' w' : Nat) (h : lo + w ≤ lo' ∨ lo' + w' ≤ lo) :
    bitsOf (withBits x lo w v) lo' w' = bitsOf x lo' w' := by
  apply Nat.eq_of_testBit_eq
  intro i
  simp only [bitsOf, withBits, Nat.testBit_mod_two_pow]
  by_cases hi : i < w'
  · rw [← BitVec.getLsbD, ← BitVec.getLsbD, BitVec.getLsbD_ushiftRight, BitVec.getLsbD_ushiftRight]
    by_cases hb : lo' + i < 32
    · rcases h with h | h
      · have h1 : ¬lo' + i < lo := by omega
        have h2 : ¬lo' + i - lo < w := by omega
        simp only [BitVec.getLsbD_or, BitVec.getLsbD_and, BitVec.getLsbD_not, BitVec.getLsbD_shiftLeft, BitVec.getLsbD_ofNat,
          Nat.testBit_mod_two_pow, Nat.testBit_two_pow_sub_one]
        simp [hi, hb, h1, h2]
      · have h1 : lo' + i < lo := by omega
        simp [hi, hb, h1]
    · simp [BitVec.getLsbD_of_ge, Nat.le_of_not_lt hb]
  · simp [hi]

/-! ### Fields -/

theorem State.word_set_self (s : State) (F : Fld) (i v r : Nat) :
    (s.set F i v).word (F.key i) r = withBits (s.word (F.key i) F.rst) F.lo F.w v := by
  simp [State.word, State.set]

theorem State.word_set_ne (s : State) (F : Fld) (i v k r : Nat) (h : F.key i ≠ k) : (s.set F i v).word k r = s.word k r := by
  simp [State.word, State.set, tabGet_put_ne _ _ _ _ h]

/-- A field reads what was written to it, cut to its width. -/
theorem State.get_set_self (s : State) (F : Fld) (i v : Nat) (h : F.lo + F.w ≤ 32) : (s.set F i v).get F i = v % 2 ^ F.w := by
  simp [State.get, State.word_set_self, bitsOf_withBits_self _ _ _ _ h]

/-- A field of another register is as before. -/
theorem State.get_set_ne (s : State) (F G : Fld) (i j v : Nat) (h : F.key i ≠ G.key j) : (s.set F i v).get G j = s.get G j := by
  simp [State.get, State.word_set_ne _ _ _ _ _ _ h]

/-- A field beside it in the same register is as before. -/
theorem State.get_set_beside (s : State) (F G : Fld) (i j v : Nat) (hk : F.key i = G.key j) (hr : F.rst = G.rst)
    (hb : F.lo + F.w ≤ G.lo ∨ G.lo + G.w ≤ F.lo) : (s.set F i v).get G j = s.get G j := by
  simp only [State.get]
  rw [← hk, State.word_set_self, bitsOf_withBits_other _ _ _ _ _ _ hb, hr]

/-- A field of other bits is as before, be it in the same register or in another. -/
theorem State.get_set_other (s : State) (F G : Fld) (i j v : Nat) (hr : F.rst = G.rst)
    (hb : F.lo + F.w ≤ G.lo ∨ G.lo + G.w ≤ F.lo) : (s.set F i v).get G j = s.get G j := by
  by_cases hk : F.key i = G.key j
  · exact s.get_set_beside F G i j v hk hr hb
  · exact s.get_set_ne F G i j v hk

/-! ### Frames of the register file -/

theorem State.framed_refl (s : State) (ks : List Nat) : s.framed s ks := fun _ _ _ => rfl

/-- A further write to a register of the frame stays in the frame. -/
theorem State.framed_set (s t : State) (ks : List Nat) (F : Fld) (i v : Nat) (h : s.framed t ks) (hk : F.key i ∈ ks) :
    s.framed (t.set F i v) ks := by
  intro k r hn
  have he : F.key i ≠ k := fun e => hn (by rw [← e]; exact hk)
  rw [State.word_set_ne _ _ _ _ _ _ he]
  exact h k r hn

/-- The frame speaks of the register file alone. -/
theorem State.framed_congr (s t u : State) (ks : List Nat) (h : s.framed t ks) (hr : u.regs = t.regs) : s.framed u ks := by
  intro k r hn
  rw [← h k r hn]
  simp [State.word, hr]

/-! ### A change of a hidden structure leaves the register file -/

@[simp] theorem State.updCell_get (s : State) (k : Nat) (f : CellS → CellS) (F : Fld) (i : Nat) : (s.updCell k f).get F i = s.get F i := rfl
@[simp] theorem State.updLaw_get (s : State) (k : Nat) (f : LawS → LawS) (F : Fld) (i : Nat) : (s.updLaw k f).get F i = s.get F i := rfl
@[simp] theorem State.updHub_get (s : State) (k : Nat) (f : HubS → HubS) (F : Fld) (i : Nat) : (s.updHub k f).get F i = s.get F i := rfl
@[simp] theorem State.updAnv_get (s : State) (k : Nat) (f : AnvS → AnvS) (F : Fld) (i : Nat) : (s.updAnv k f).get F i = s.get F i := rfl
@[simp] theorem State.updBk_get (s : State) (k : Nat) (f : BookS → BookS) (F : Fld) (i : Nat) : (s.updBk k f).get F i = s.get F i := rfl
@[simp] theorem State.updQ_get (s : State) (k : Nat) (f : QueueS → QueueS) (F : Fld) (i : Nat) : (s.updQ k f).get F i = s.get F i := rfl
@[simp] theorem State.updFc_get (s : State) (k : Nat) (f : FcsS → FcsS) (F : Fld) (i : Nat) : (s.updFc k f).get F i = s.get F i := rfl
@[simp] theorem State.updFo_get (s : State) (k : Nat) (f : FoS → FoS) (F : Fld) (i : Nat) : (s.updFo k f).get F i = s.get F i := rfl
@[simp] theorem State.updPw_get (s : State) (k : Nat) (f : PwrS → PwrS) (F : Fld) (i : Nat) : (s.updPw k f).get F i = s.get F i := rfl
@[simp] theorem State.updPort_get (s : State) (k : Nat) (f : PortS → PortS) (F : Fld) (i : Nat) : (s.updPort k f).get F i = s.get F i := rfl
@[simp] theorem State.updBar_get (s : State) (k : Nat) (f : Barrier → Barrier) (F : Fld) (i : Nat) : (s.updBar k f).get F i = s.get F i := rfl
@[simp] theorem State.updSlice_get (s : State) (k : Nat) (f : SliceS → SliceS) (F : Fld) (i : Nat) : (s.updSlice k f).get F i = s.get F i := rfl
@[simp] theorem State.updRing_get (s : State) (k : Nat) (f : RingS → RingS) (F : Fld) (i : Nat) : (s.updRing k f).get F i = s.get F i := rfl
@[simp] theorem State.updI3c_get (s : State) (f : I3cS → I3cS) (F : Fld) (i : Nat) : (s.updI3c f).get F i = s.get F i := rfl
@[simp] theorem State.respond_get (s : State) (g : Nat) (c : RspCode) (v : Nat) (F : Fld) (i : Nat) :
    (s.respond g c v).get F i = s.get F i := rfl
@[simp] theorem State.newAccess_get (s : State) (F : Fld) (i : Nat) : s.newAccess.get F i = s.get F i := rfl

end Sys2Proof.Machine
end

