-- ==== Sys2Proof/WellFormed.lean ====
section
/-!
DEFINITION. When a command names units and addresses that exist: a configuration of `n` districts has 16 cells, 256 queues
and 4 anvil cells in each (R3, R4, R23, R24), and the map ends at 0xF_FFFF (R460).
-/
namespace Sys2Proof

/-- Whether a number names one of `k` units. -/
def unitOk (k x : Nat) : Bool := decide (x < k)

/-- Whether an address lies in the map and on a word (R383). -/
def addrOk (a : Nat) : Bool := decide (a < 0x100000) && a % 4 == 0

/-- Whether a command is well formed in a configuration of `n` districts. -/
def Instr.wf (n : Nat) : Instr → Bool
  | .regWrite _ addr _ | .i3cPrivateWrite _ addr _ | .i3cReadAddress _ addr | .regRead _ addr => addrOk addr
  | .pageLock _ page => unitOk 256 page
  | .coldReset | .coldResetRelease | .controlComplexRelease | .warmReset _ | .sfdpDiscovery _
  | .calibrationLoad | .imageSelect _ _ | .pllLock _ | .pllSelect _ | .nolock | .pllLockLoss | .orreryStart
  | .districtReturn | .returnOrderEntry | .zoneWaitAbandon | .bootEnd | .sequencerVfeedWatch | .restartPath
  | .diePeriod _ _ | .supcapFault | .groupExcursion | .groupExcursionEnd | .budgetEpoch | .attributionPublish
  | .telemetryRecord | .testSignalDurExpire | .slotBoundary _ _ | .gqFlush _ | .gqCntClr _ | .orrInjArm _ _
  | .orrCntClr _ | .testSignalArm _ | .testSignalStart | .testSignalDisarm _ | .fcsCntClr _ | .budCntClr _
  | .coolantLoss | .coollossClear _ _ | .adcRoundStart _ | .roundTimer | .roundWatchdog | .thermalRestart
  | .sliceRotation | .sliceCalibrationDone _ _ _ | .adcInjStart _ | .ageingRead | .ageReadNow _
  | .ageingLatch _ | .ageingRecordWrite _ | .devReqRun _ | .devReqQuiet _ | .devReqDoze _ | .devReqSleep _
  | .dozeEntryComplete | .wake _ | .dozeExitComplete | .sleepEntryBegin | .sleepPowerDown | .sleepWake
  | .fence _ _ | .fenceComplete _ | .fenceTimeout _ | .rstdaa | .getpid | .getbcr | .getdcr | .getstatus
  | .setmwl _ | .setmrl _ | .getmwl | .getmrl | .enthdr | .cccUnsupported _ | .i3cPrivateRead _ _ | .hotJoin
  | .ibiRequest _ | .ringEnable _ _ _ | .memoryWriteIssue | .captureArm _ | .captureDisarm _ | .captureStop
  | .faultReport | .safeStop | .holdRelease _ | .offRelease _ _ | .firstFaultClear _ | .historyDump _
  | .faultInject | .errAliveToggle | .heartbeatLoss | .archiveProgram _ | .archiveScan | .archiveErase _
  | .archiveFetch _ _ | .exhibitTrigger _ | .exhInRise | .exhibitEdge | .exhibitRearm _ | .calClear _
  | .calWdat _ _ | .calCommit _ | .imgPdat _ _ | .imgErase _ | .imgProgram _ | .imgEmptyBuffer _
  | .identityKeyReady | .entropyHealthFail | .claim _ | .rel _ | .frel _ | .mailboxTimeout
  | .mailboxDataWrite _ _ | .spdmResponseReady | .getVersion | .getCapabilities | .negotiateAlgorithms
  | .getDigests | .getCertificate | .challenge | .getMeasurements | .keyExchange | .finish
  | .endSession | .spdmUnsupported | .decryptError | .keyRecord | .chainClear _ | .chainDataWrite _ _
  | .chainCommit _ | .begin _ | .abort _ | .weightsDataWrite _ _ | .weightsDeliveryEnd | .invReq _
  | .invasiveDebugEnabled | .extest | .idcode | .samplePreload | .dbgstat | .dbgen _ | .dbgacc _ _ _ _
  | .bypass | .mailboxDataRead _ | .chainDataRead _ | .testLogicResetExit | .testLogicResetEntry
  | .scrubWord _ _ _ | .trimDisable _ | .calCommitComplete _ | .imgPcmdComplete _ | .archiveEraseComplete => true
  | .fuseRead f => f.fused.all (unitOk 1024)
  | .zoneVfeedReady z | .selfTestComplete z _ => unitOk 4 z
  | .initNotice q | .forecastPost q _ _ | .admissionIssue q | .scanComplete q _ _ | .admissionDecision q _
  | .responseDelivery q _ => unitOk (256 * n) q
  | .districtPeriod m => m.length == n
  | .commandDeadlineMiss d | .persistentArithFault d | .hubFrameLoss d | .forecasterDeadlineMiss d
  | .forecasterDistrictDisable d | .darkeningBegin d | .darkeningIsolate d | .darkeningStop d
  | .darkeningComplete d | .darkRestart _ d | .dllLock d | .syncHoldover d | .syncReturn d | .hubSample d _ _ _ _
  | .thunderheadMaxhold d | .taperEnd d | .vfeedExcursion d | .districtEntryBegin d
  | .districtEntryIsolate d | .districtEntrySwitches d | .districtEntryCells d | .retainEntryComplete d
  | .offEntryComplete d | .switchOnBegin d | .railok d | .switchOnPower d | .switchOnComplete d | .clockStart d
  | .switchOnFail d => unitOk n d
  | .grantExpiry d gid => unitOk n d && unitOk 1024 gid
  | .sunriseSlotting b _ | .barrierTimeout b => unitOk 64 b
  | .switchingCycle c _ _ _ | .drizzleShed c | .cellStartOrder c | .cellHeldStart c | .cellStopOrder c
  | .softstartComplete c | .softstartShort c | .softstartTimeout c | .cellHiccup c | .hiccupEnd c
  | .cleanWindowClose c => unitOk (16 * n) c
  | .phaseRemoval c p => unitOk (16 * n) c && unitOk 4 p
  | .sensorSuspect d k => unitOk n d && unitOk 64 k
  | .sensorReadmit _ d j _ | .sensorRetireWrite _ d j _ => unitOk n d && unitOk 2 j
  | .anvilReleaseEnd a _ _ | .anvilCharged a _ _ | .anvilChargeTimeout a | .anvilLeakRecharge a => unitOk (4 * n) a
  | .shareWrite _ j _ => unitOk 2 j
  | .sliceStartupDone sl | .adcConversion sl _ => unitOk 5 sl
  | .districtTargetRequest _ j _ => unitOk 4 j
  | .i3cAddressMatch _ a | .entdaa a | .setnewda a => unitOk 128 a
  | .linkActivityWake p | .modulePresent p | .moduleAbsent p | .portOpen p | .alignment p | .alignmentLoss p
  | .linkSyncTimeout p | .helloTimeout p | .capsTimeout p | .downRetry p | .frameDiscard p _ | .hello p _
  | .caps p _ | .telem p _ | .alert p _ | .keepalive p | .bye p _ | .retransmitTimeout p | .keepaliveSend p
  | .linkTimeout p | .telemStale p | .portEnClear _ p => unitOk 4 p
  | .ack p k | .nak p k => unitOk 4 p && unitOk 256 k
  | .frameReceive p _ _ => unitOk 4 p
  | .enec ev | .disec ev => unitOk 256 ev
  | .setdasa sa a => unitOk 128 sa && unitOk 128 a
  | .ringTailWrite _ _ _ tail => unitOk 65536 tail
  | .memoryWriteCompletion id _ | .memoryWriteTimeout id => unitOk 64 id
  | .wiringFault src cls => unitOk 65536 src && unitOk 64 cls
  | .offCauseRestartRelease cls => unitOk 64 cls
  | .send _ _ len => unitOk 8192 len

end Sys2Proof
end

