-- ==== Sys2Proof/Tests/Slice0.lean ====
section
/-!
SUPPORT. Tests: one step of commands on small states, the checks of WellFormed, and for every statement with hypotheses a
state and operands that meet them.
-/

namespace Sys2Proof.Machine

/-- A helper of the tests: register fields set one after another. -/
def State.sets (s : State) (l : List (Fld × Nat × Nat)) : State := l.foldl (fun s x => s.set x.1 x.2.1 x.2.2) s
/-- Helpers of the tests: one unit of the state changed. -/
def State.wDev (s : State) (f : DevS → DevS) : State := { s with dev := f s.dev }
def State.wFlt (s : State) (f : FltS → FltS) : State := { s with flt := f s.flt }
def State.wSec (s : State) (f : SecS → SecS) : State := { s with sec := f s.sec }
def State.wArc (s : State) (f : ArcS → ArcS) : State := { s with arc := f s.arc }
def State.wCal (s : State) (f : CalS → CalS) : State := { s with cal := f s.cal }
def State.wBud (s : State) (f : BudS → BudS) : State := { s with bud := f s.bud }
def State.wTst (s : State) (f : TstS → TstS) : State := { s with tst := f s.tst }
def State.wCap (s : State) (f : CapS → CapS) : State := { s with cap := f s.cap }
def State.wI3c (s : State) (f : I3cS → I3cS) : State := { s with i3c := f s.i3c }
def State.wAge (s : State) (f : AgeS → AgeS) : State := { s with age := f s.age }
def State.wThm (s : State) (f : ThmS → ThmS) : State := { s with thm := f s.thm }
def State.wExh (s : State) (f : ExhS → ExhS) : State := { s with exh := f s.exh }
def State.wAdm (s : State) (f : AdmS → AdmS) : State := { s with adm := f s.adm }

/-- A state of the tests: the macro of `State.reset` in RUN, each of its districts ON. -/
def up : State :=
  ((State.reset.wDev fun d => { d with
      cold := false, powered := true, released := true, hubs := 1, tested := 1, sfdp := true, flashUsable := true,
      dens := 0x1000000, calDone := true, imgDone := true, orrRun := true, thermOk := true, returned := true,
      booted := true }).sets
    ([(R.PWR_STAT_DEV, 0, 1), (R.CLK_STAT_PLLEN, 0, 1), (R.CLK_STAT_LOCK, 0, 1), (R.CLK_STAT_SRC, 0, 1),
      (R.ORR_STAT_RUN, 0, 1), (R.IMG_STAT_SRC, 0, 1), (R.LNK_CTL_PORT_EN, 0, 1)] ++
      (List.range 8).map fun d => (R.PWR_DSTAT_STATE, d, 2)))
/-- The fuse map of the tests. -/
def fuseUp : FuseMap := { good := true, dieId := 5, rev := 1, revoked := 0, fused := [], digests := [] }

/-- Helpers of the tests: a record, a session, the mailbox of gallery 0 with a clear request in it, and with a secured one. -/
def recUp : Rec := { kind := 4, payload := [1, 2], opsec := 7, ticks := 9 }
def sessUp : SessS :=
  { reqSid := 1, rspSid := 0x41FF, established := true, seqIn := 0, seqOut := 0, th := [] }
def tabFrom (k : Nat) : List Byte → Tab Byte
  | [] => []
  | b :: r => (k, b) :: tabFrom (k + 1) r
def tabOf (l : List Byte) : Tab Byte := tabFrom 0 l
def mbUp (m : List Byte) : State :=
  (up.wSec fun x => { x with
    idReady := true, busy := some (false, m.length), req := tabOf m, snapChain := List.replicate 80 1 }).set R.SEC_MBSTAT_OWNED 0 1
/-- Helpers of the tests: the secured message that carries application data, and the mailbox with it in the buffer. -/
def secMsg (x : SessS) (p : List Byte) : List Byte :=
  let h := leBytes 2 x.reqSid ++ (leBytes 2 x.rspSid ++ leBytes 2 (p.length + 16))
  h ++ gcmSeal (Config.sessKey x.th 0) (leBytes 12 x.seqIn) h p
def seUp (x : SessS) (conn : Nat) (p : List Byte) : State :=
  ((mbUp (secMsg x p)).wSec fun y => { y with busy := some (true, p.length + 22), sess := some x }).set R.SEC_SESS_CONN 0 conn
def brokenUp : State :=
  (mbUp [0x01, 0, 0xFF, 0x41, 0, 0]).wSec fun x => { x with busy := some (true, 6), sess := some sessUp }
def rqCapsUp : List Byte := [0x12, 0xE1, 0, 0, 0, 0, 0, 0, 0, 0, 0, 0, 42, 0, 0, 0, 42, 0, 0, 0]
def rqAlgsUp : List Byte :=
  [0x12, 0xE3, 3, 0, 44, 0, 1, 2, 0x80, 0, 0, 0, 2, 0, 0, 0] ++ List.replicate 16 0
    ++ [2, 0x20, 0x10, 0, 3, 0x20, 2, 0, 5, 0x20, 1, 0]
def rqChalUp : List Byte := [0x12, 0x83, 0, 0] ++ List.replicate 32 9
def rqKexUp : List Byte := [0x12, 0xE4, 0, 0] ++ List.replicate 134 0
def finMac : List Byte := fit 48 (Config.finishedMac 0 ((sessUp).th ++ [0x12, 0xE5, 0, 0]))
def badMac : List Byte := finMac.map fun b => ~~~b
def rqFinUp (mac : List Byte) : List Byte := [0x12, 0xE5, 0, 0] ++ mac
/-- Helpers of the tests: the header of a weights image and its stream under a key. -/
def wHead : List Byte := [0x54, 0x47, 0x57, 0x54] ++ List.replicate 44 0
def wStr : List Byte := wHead ++ gcmSeal [1] (List.replicate 12 0) wHead []
def wUp : State :=
  up.wSec fun x => { x with
    key := some (1, fit 48 (Config.sha384 wStr), [1]), deliv := { opened := true, full := true, str := wStr } }
def keyRecUp : List Byte := [0x4B, 0x52, 0x45, 0x4C, 1, 0, 0, 0] ++ List.replicate 84 0
/-- Helpers of the tests: forecasts (a rise of 20 CU for 3 slots), a queue with one of them in flight, a zone with room. -/
def entA : Ent := { fc := 20 * 2 ^ 50 + 13 * 2 ^ 42 + 3 * 2 ^ 32, edge := 0, tref := 0, st := .scanned }
def entE : Ent := { entA with fc := 20 * 2 ^ 50 + 13 * 2 ^ 42 + 3 * 2 ^ 32 + 31 * 2 ^ 16 }
def entB : Ent := { entA with fc := 20 * 2 ^ 50 + 3 * 2 ^ 32 + 2 ^ 29 + 2 ^ 15 + 1, st := .barrier }
def grantUp : Grant :=
  { gid := 5, start := 1, dur := 2, d := 3, gal := 0, queue := 512, cls := 0, capAdm := 0, rsvAdm := 0, age := 0 }
def barUp : State :=
  ((((up.set R.GQ_CTL_ADM_EN 0 1).updQ 512 fun x => { x with ents := [entB], inited := true }).updBar 1 fun b => { b with st := .closed }).updBk 2
    fun b => { b with admCap := 900 })
def latUp : BudLat := { caps := [], adm := false, quota := [], cool := 2, skipMax := 0, excT := 3 }
/-- A helper of the tests: an SFDP header and table with a density word, 4 KiB erase by 0x20. -/
def sfdpUp (dens : Nat) : List Byte :=
  [0x53, 0x46, 0x44, 0x50, 6, 1, 0, 0xFF, 0, 6, 1, 2, 16, 0, 0, 0] ++ (leBytes 4 0x20FD ++ leBytes 4 dens)
def inUp (e : Ent) : State :=
  (((up.set R.GQ_CTL_ADM_EN 0 1).updQ 512 fun x => { x with ents := [e], inited := true }).wAdm fun a => { a with inflight := [512] }).updBk 2
    fun b => { b with admCap := 900 }
def State.wide (s : State) : State := ((s.set R.DST_REF_VREF 2 1000).set R.LNK_PSTAT_STATE 0 4).updPort 0 fun x => { x with limit := 4000 }
def mwUp : MemW := { id := 3, ring := 2, gen := 0, ent := 0, addr := 0, data := [1, 2] }
def distUp : DistImg := { (default : LawS).img with sets := [0], kinds := [] }
/-- Helpers of the tests: a control image in slot A that passes R341 on a macro without districts, and a fuse map that names
its signer. -/
def imgHead : List Host.Cell :=
  ([(0, 0x54), (1, 0x55), (2, 0x53), (3, 0x48), (4, 0), (5, 2), (6, 0), (8, 0x60), (9, 2), (10, 0), (11, 0), (16, 0), (17, 0),
    (18, 1), (19, 0), (20, 7), (21, 0), (22, 0), (23, 0), (24, 0), (25, 0), (26, 0), (27, 0), (32, 3), (192, 1), (196, 0), (197, 0), (198, 0), (199, 0), (200, 0),
    (201, 0), (202, 0), (203, 0), (204, 0), (205, 0), (206, 0), (207, 0), (208, 2), (212, 0), (213, 0), (214, 0), (215, 0),
    (216, 0), (217, 0), (218, 0), (219, 0), (220, 0), (221, 0), (222, 0), (223, 0), (224, 5), (228, 0), (229, 0), (230, 0), (231, 0), (232, 0),
    (233, 0), (234, 0), (235, 0), (236, 0), (237, 0), (238, 0), (239, 0)] : List Host.Cell).map fun c => (0x20000 + c.1, c.2)
def keyUp : List Byte := List.replicate 96 0xFF
def sigUp : List Byte := fit 96 (Config.ecdsaSign keyUp (Config.sha384 (memRead imgHead 0x20000 512)))
def imgCells : List Host.Cell := imgHead ++ tabFrom 0x20200 sigUp
def slotUp : State :=
  { up.wDev fun d => { d with imgDone := false, nextSel := 1 } with
    cfg := { Integ.zk08 with n := 0 }, flash := imgCells,
    fuse := some { fuseUp with rev := 0, digests := [Config.sha384 keyUp] } }
/-- Helpers of the tests: a calibration set that R348 finds valid for the die identity 0, its CRC included. -/
def calHead : List Host.Cell := [(0, 84), (1, 67), (2, 65), (3, 76), (5, 1), (8, 0), (9, 0), (10, 0), (11, 0), (12, 0), (13, 0), (14, 0), (15, 0)]
def calTail (v : Nat) : List Host.Cell :=
  [(0xFFFC, BitVec.ofNat 8 v), (0xFFFD, BitVec.ofNat 8 (v / 256)), (0xFFFE, BitVec.ofNat 8 (v / 65536)), (0xFFFF, BitVec.ofNat 8 (v / 16777216))]
def calSet : List Host.Cell := calHead ++ calTail (crc32 (memRead calHead 0 0xFFFC))

theorem calSet_low (v k : Nat) (h : k < 0xFFFC) : memByte (calHead ++ calTail v) k = memByte calHead k := by
  have h1 : k ≠ 0xFFFC := by omega
  have h2 : k ≠ 0xFFFD := by omega
  have h3 : k ≠ 0xFFFE := by omega
  have h4 : k ≠ 0xFFFF := by omega
  simp [memByte, calHead, calTail, tabGet, Ne.symm h1, Ne.symm h2, Ne.symm h3, Ne.symm h4]

theorem crc32Step_lt (n c : Nat) (h : c < 2 ^ 32) : crc32Step c n < 2 ^ 32 := by
  induction n generalizing c with
  | zero => exact h
  | succ n ih =>
    simp only [crc32Step]
    split
    · exact ih _ (Nat.xor_lt_two_pow (by omega) (by decide))
    · exact ih _ (by omega)

theorem crc32_lt (l : List Byte) : crc32 l < 2 ^ 32 := by
  have g : ∀ (l : List Byte) (c : Nat), c < 2 ^ 32 → l.foldl (fun c b => crc32Step (c ^^^ b.toNat) 8) c < 2 ^ 32 := by
    intro l
    induction l with
    | nil => intro c h; exact h
    | cons b l ih => intro c h; exact ih _ (crc32Step_lt 8 _ (Nat.xor_lt_two_pow h (by have := b.isLt; omega)))
  exact Nat.xor_lt_two_pow (g l _ (by decide)) (by decide)

theorem calSet_reads (v : Nat) : memRead (calHead ++ calTail v) 0 0xFFFC = memRead calHead 0 0xFFFC := by
  refine List.map_congr_left fun k hk => ?_
  rw [Nat.zero_add]
  exact calSet_low v k (List.mem_range.mp hk)

theorem calSet_crc (v : Nat) (h : v < 2 ^ 32) : calField (calHead ++ calTail v) 0xFFFC 4 = v := by
  simp [calField, memRead, List.range_succ, memByte, calHead, calTail, tabGet, ofLe]
  omega

theorem calSet_head (v : Nat) : calField (calHead ++ calTail v) 0 4 = 0x4C414354 ∧ calField (calHead ++ calTail v) 5 1 = 1 ∧
    calField (calHead ++ calTail v) 8 8 = 0 := by
  refine ⟨?_, ?_, ?_⟩ <;> simp [calField, memRead, List.range_succ, memByte, calHead, calTail, tabGet, ofLe]

/-! ### Messages and images that hold opaque bytes -/

theorem tabFrom_above (l : List Byte) (a k : Nat) (h : k < a) : tabGet (tabFrom a l) k = none := by
  induction l generalizing a with
  | nil => rfl
  | cons b r ih =>
    have : a ≠ k := by omega
    simp [tabFrom, tabGet, this, ih (a + 1) (by omega)]

theorem tabFrom_get (l : List Byte) (a i : Nat) : tabGet (tabFrom a l) (a + i) = l[i]? := by
  induction l generalizing a i with
  | nil => rfl
  | cons b r ih =>
    cases i with
    | zero => simp [tabFrom, tabGet]
    | succ i =>
      have := ih (a + 1) i
      simp only [tabFrom, tabGet, show a ≠ a + (i + 1) by omega, if_false, List.getElem?_cons_succ]
      rwa [show a + 1 + i = a + (i + 1) by omega] at this

theorem tabOf_read (l : List Byte) (n : Nat) (h : n ≤ l.length) : (List.range n).map (fun k => tabAt (tabOf l) k) = l.take n := by
  apply List.ext_getElem
  · simp [h]
  · intro i h1 h2
    have hi : i < l.length := by simp at h1; omega
    have := tabFrom_get l 0 i
    rw [Nat.zero_add] at this
    simp [tabAt, tabOf, this, hi]

theorem secMsg_length (x : SessS) (p : List Byte) : (secMsg x p).length = p.length + 22 := by
  simp [secMsg, gcmSeal, fit, bytesAt, leBytes]

/-- A secured message under the keys of the session is read back. -/
theorem seUp_atHand (x : SessS) (conn : Nat) (p : List Byte) (h1 : x.reqSid < 65536) (h2 : x.rspSid < 65536)
    (h3 : p.length + 16 < 65536) : (seUp x conn p).atHand = .data x p := by
  have hl := secMsg_length x p
  have hr : ∀ n, n ≤ p.length + 22 → (seUp x conn p).reqMsg n = (secMsg x p).take n := fun n h =>
    tabOf_read (secMsg x p) n (by omega)
  have hn : (seUp x conn p).named = some x := by
    have h1 : (seUp x conn p).sec.sess = some x := rfl
    have h2 : (seUp x conn p).sec.busy = some (true, p.length + 22) := rfl
    simp only [State.named, h1, h2, hr 4 (by omega)]
    simp [secMsg, numAt, bytesAt, leBytes, ofLe]
    omega
  have ho : (seUp x conn p).opened x = some p := by
    have hb : (seUp x conn p).sec.busy = some (true, p.length + 22) := rfl
    have ht : (secMsg x p).take (p.length + 22) = secMsg x p := List.take_of_length_le (by omega)
    have h6 : (secMsg x p).take 6 = leBytes 2 x.reqSid ++ (leBytes 2 x.rspSid ++ leBytes 2 (p.length + 16)) := by
      simp [secMsg, leBytes]
    have hd : (secMsg x p).drop 6 = gcmSeal (Config.sessKey x.th 0) (leBytes 12 x.seqIn)
        (leBytes 2 x.reqSid ++ (leBytes 2 x.rspSid ++ leBytes 2 (p.length + 16))) p := by
      simp [secMsg, leBytes]
    have hz : numAt (secMsg x p) 4 2 = p.length + 22 - 6 := by
      simp [secMsg, numAt, bytesAt, leBytes, ofLe]
      omega
    simp only [State.opened, hb, hr _ (Nat.le_refl _), ht, h6, hd, hz]
    rw [if_pos ⟨by omega, trivial⟩]
    exact gcmOpen_gcmSeal _ _ _ _
  have hi : (seUp x conn p).sec.idReady = true := rfl
  have hb : (seUp x conn p).sec.busy = some (true, p.length + 22) := rfl
  have hd : (seUp x conn p).sec.done = none := rfl
  simp [State.atHand, hb, hd, hn, ho, hi]

theorem finMac_length : finMac.length = 48 := by simp [finMac, fit, bytesAt]

theorem rqFin_length (mac : List Byte) (h : mac.length = 48) : (rqFinUp mac).length = 52 := by simp [rqFinUp, h]

theorem rqFin_mac (mac : List Byte) (h : mac.length = 48) : bytesAt (rqFinUp mac) 4 48 = mac := by
  simp [rqFinUp, bytesAt, ← h]

/-- The MAC with its bits inverted is another one. -/
theorem finMac_ne : badMac ≠ finMac := by
  unfold badMac
  obtain ⟨a, r, h⟩ : ∃ a r, finMac = a :: r := by
    cases h : finMac with
    | nil => have := finMac_length; simp [h] at this
    | cons a r => exact ⟨a, r, rfl⟩
  rw [h]
  intro hc
  have hn : ∀ a : Byte, ~~~a ≠ a := by decide +kernel
  exact hn a (List.cons.inj hc).1

theorem wStr_opens : plainOf [1] wStr = some [] := by
  have h1 : wStr.take 48 = wHead := by simp [wStr, wHead]
  have h2 : wStr.drop 48 = gcmSeal [1] (List.replicate 12 0) wHead [] := by simp [wStr, wHead]
  have h3 : bytesAt wStr 0x18 12 = List.replicate 12 0 := by simp [wStr, wHead, bytesAt]
  simp only [plainOf, h1, h2, h3]
  exact gcmOpen_gcmSeal _ _ _ _

theorem imgCells_low (k : Nat) (h : k < 0x20200) : memByte imgCells k = memByte imgHead k := by
  have g : ∀ m : List Host.Cell, tabGet (m ++ tabFrom 0x20200 sigUp) k = tabGet m k := by
    intro m
    induction m with
    | nil => exact tabFrom_above _ _ _ h
    | cons c r ih => simp only [List.cons_append, tabGet, ih]
  simp [memByte, imgCells, g]

theorem imgCells_read (a n : Nat) (h : a + n ≤ 0x20200) : memRead imgCells a n = memRead imgHead a n :=
  List.map_congr_left fun k hk => imgCells_low _ (by have := List.mem_range.mp hk; omega)

theorem imgCells_sig : memRead imgCells 0x20200 96 = sigUp := by
  have hl : sigUp.length = 96 := by simp [sigUp, fit, bytesAt]
  have g : ∀ (m : List Host.Cell), (m.all fun c => decide (c.1 < 0x20200)) = true → ∀ k, 0x20200 ≤ k →
      tabGet (m ++ tabFrom 0x20200 sigUp) k = tabGet (tabFrom 0x20200 sigUp) k := by
    intro m
    induction m with
    | nil => intros; rfl
    | cons c r ih =>
      intro hm k hk
      simp only [List.all_cons, Bool.and_eq_true, decide_eq_true_eq] at hm
      simp only [List.cons_append, tabGet, show c.1 ≠ k by omega, if_false]
      exact ih hm.2 k hk
  apply List.ext_getElem
  · simp [memRead, hl]
  · intro i h1 h2
    have := tabFrom_get sigUp 0x20200 i
    rw [← g imgHead (by decide) _ (by omega)] at this
    simp [memRead, memByte, imgCells, this, h2]

/-- The image in slot A passes every check of R341. -/
theorem slotUp_passes : slotUp.rejects (slotUp.slotOf 0 0 0) = 0 := by
  have hp : memRead slotUp.flash (slotUp.slotAt 0 + 0x60) 96 = keyUp := by
    have h := imgCells_read 0x20060 96 (by omega)
    exact h.trans (by decide +kernel)
  have hl : (slotUp.slotOf 0 0 0).img.len = 608 := by decide +kernel
  have hk : (slotUp.slotOf 0 0 0).keyOk = true := by
    have hx : (slotUp.slotOf 0 0 0).img.keyIdx = 0 := by decide +kernel
    have : (slotUp.slotOf 0 0 0).keyOk = (fit 48 (Config.sha384 (memRead slotUp.flash (slotUp.slotAt 0 + 0x60) 96))
        == fit 48 ((slotUp.fuse.getD default).digests.getD (slotUp.slotOf 0 0 0).img.keyIdx [])) := rfl
    rw [this, hx, hp]
    exact beq_self_eq_true _
  have hs : (slotUp.slotOf 0 0 0).sigOk = true := by
    have : (slotUp.slotOf 0 0 0).sigOk = (decide (608 ≤ (slotUp.slotOf 0 0 0).img.len)
        && decide ((slotUp.slotOf 0 0 0).img.len ≤ slotUp.slotSize)
        && sigGood (memRead slotUp.flash (slotUp.slotAt 0 + 0x60) 96)
          (Config.sha384 (memRead slotUp.flash (slotUp.slotAt 0) ((slotUp.slotOf 0 0 0).img.len - 96)))
          (memRead slotUp.flash (slotUp.slotAt 0 + (slotUp.slotOf 0 0 0).img.len - 96) 96)) := rfl
    rw [this, hl, hp]
    have e1 : memRead slotUp.flash (slotUp.slotAt 0) (608 - 96) = memRead imgHead 0x20000 512 := imgCells_read 0x20000 512 (by omega)
    have e2 : memRead slotUp.flash (slotUp.slotAt 0 + 608 - 96) 96 = sigUp := imgCells_sig
    rw [e1, e2]
    have e3 : sigGood keyUp (Config.sha384 (memRead imgHead 0x20000 512)) sigUp = true := by simp [sigGood, sigUp]
    rw [e3]
    decide +kernel
  have he : ∀ r : SlotRead, r.keyOk = true → r.sigOk = true → r = { r with keyOk := true, sigOk := true } := by
    intro r h1 h2
    cases r
    simp_all
  rw [he _ hk hs]
  decide +kernel

/-- A helper of the tests: a slot reads alike whatever the secrets hold. -/
theorem slotOf_wSec (s : State) (f : SecS → SecS) (a b k : Nat) : (s.wSec f).slotOf a b k = s.slotOf a b k := rfl

/-- A helper of the tests: a slot is judged alike whatever the secrets hold. -/
theorem rejects_wSec (s : State) (f : SecS → SecS) (a b k : Nat) :
    (s.wSec f).rejects ((s.wSec f).slotOf a b k) = s.rejects (s.slotOf a b k) := rfl

/-- A helper of the tests: the set is valid for the die identity 0. -/
theorem calSet_ok : calState calSet 0 = 1 := by
  have h := crc32_lt (memRead calHead 0 0xFFFC)
  obtain ⟨a, b, c⟩ := calSet_head (crc32 (memRead calHead 0 0xFFFC))
  have d := calSet_crc _ h
  have e := calSet_reads (crc32 (memRead calHead 0 0xFFFC))
  simp only [calState, calSet, a, b, c, d, e]
  simp

end Sys2Proof.Machine
/-- A helper of the tests: the state of a next outcome. -/
def Sys2Proof.Machine.nextOf (o : Host.Outcome Sys2Proof.Machine.State Sys2Proof.Machine.Fault Sys2Proof.Machine.Refusal) :
    Sys2Proof.Machine.State :=
  match o with
  | .next s => s
  | _ => Sys2Proof.Machine.State.reset

open Sys2Proof Sys2Proof.Machine

section

set_option Elab.async false

/-! ### Well-formedness refuses an operand out of range, check by check -/

theorem test_wf_refuses_addresses_and_units :
    ([.regWrite 0 0x100000 0, .regRead 0 0x41, .i3cPrivateWrite true 0x100000 [], .i3cReadAddress true 2, .pageLock 0 256,
      .fuseRead { fuseUp with fused := [1024] }, .zoneVfeedReady 4, .selfTestComplete 4 [], .forecastPost 2048 0 0,
      .initNotice 2048, .districtPeriod [], .hubSample 8 [] [] [] 0, .railok 8, .grantExpiry 8 0, .grantExpiry 0 1024,
      .sunriseSlotting 64 [], .barrierTimeout 64, .cellStopOrder 128, .phaseRemoval 128 0, .phaseRemoval 0 4,
      .sensorSuspect 8 0, .sensorSuspect 0 64, .sensorReadmit 0 8 0 0, .sensorRetireWrite 0 0 2 0, .anvilCharged 32 0 0,
      .shareWrite 0 2 0, .sliceStartupDone 5, .districtTargetRequest 0 4 0] : List Instr).all (fun i => !i.wf 8) = true := by
  decide +kernel

theorem test_wf_refuses_ports_and_numbers :
    ([.entdaa 128, .setnewda 128, .i3cAddressMatch false 128, .portOpen 4, .portEnClear 0 4, .ack 4 0, .nak 0 256,
      .frameReceive 4 [] 0, .frameDiscard 4 0, .enec 256, .disec 256, .setdasa 128 0, .setdasa 0 128,
      .ringTailWrite 0 0 false 65536, .memoryWriteTimeout 64, .memoryWriteCompletion 64 true, .wiringFault 65536 1,
      .wiringFault 1 64, .offCauseRestartRelease 64, .send 0 false 8192] : List Instr).all (fun i => !i.wf 8) = true := by
  decide +kernel

theorem test_wf_admits_the_last_units :
    ([.regWrite 0 0xFFFFC 0, .zoneVfeedReady 3, .cellStopOrder 127, .anvilCharged 31 0 0, .forecastPost 2047 0 0, .railok 7,
      .ack 3 255, .memoryWriteTimeout 63, .grantExpiry 7 1023] : List Instr).all (fun i => i.wf 8) = true := by
  decide +kernel

/-! ### One step each, against the spec -/

/-- R250: BUD_DCAP starts at 192 and 150 codes for each district, 8 districts here. -/
theorem test_reset_dcap : State.reset.get R.BUD_DCAP_ABS = 1536 ∧ State.reset.get R.BUD_DCAP_DCAP = 1200 := by decide +kernel

/-- R8: the DST page of a district that is not configured answers ERROR with data 0. -/
theorem test_read_of_absent_district :
    (nextOf (exec (.regRead 0 0x48040) up)).rsps = [{ gal := 0, code := .error, data := 0 }] := by decide +kernel

/-- R383: gallery 3 without the page is DENIED, and a write has no effect. -/
theorem test_write_denied :
    (nextOf (exec (.regWrite 3 0xB040 0) (up.set R.GAL_ACC0_MASK 3 0))).rsps = [{ gal := 3, code := .denied, data := 0 }]
      ∧ (nextOf (exec (.regWrite 3 0xB040 0) (up.set R.GAL_ACC0_MASK 3 0))).get R.ORR_CTL_FC_EN = up.get R.ORR_CTL_FC_EN := by
  decide +kernel

/-- R463: a page lock is set, and the register keeps its value against a later privileged write. -/
theorem test_page_lock :
    (nextOf (exec (.regWrite 0 0xB040 0xFFFFFFFF) (nextOf (exec (.pageLock 0 0x0B) up)))).rsps
      = [{ gal := 0, code := .denied, data := 0 }] := by decide +kernel

/-- R16, R468: SYS_SCR keeps what is written. -/
theorem test_scratch : (nextOf (exec (.regWrite 0 0x74 0xDEADBEEF) up)).get R.SYS_SCR_SCR = 0xDEADBEEF := by decide +kernel

/-- R390: GETMWL answers 256 and GETMRL 250, most significant byte first; GETBCR answers 0x06. -/
theorem test_ccc_answers :
    (nextOf (exec .getmwl (up.set R.I3C_STAT_DAV 0 1))).i3c.resp = [0x01, 0x00] ∧ (nextOf (exec .getmrl (up.set R.I3C_STAT_DAV 0 1))).i3c.resp.take 2 = [0x00, 0xFA]
      ∧ (nextOf (exec .getbcr (up.set R.I3C_STAT_DAV 0 1))).i3c.resp = [0x06] := by decide +kernel

/-- R443: the VERSION response lists one entry, 0x1200. -/
theorem test_version :
    (nextOf (exec (.getVersion) (mbUp [0x10, 0x84, 0, 0]))).sec.done
      = some (false, [0x10, 0x04, 0, 0, 0, 1, 0x00, 0x12]) := by decide +kernel

/-- R433: EXH_SEQ takes 1 first, and skips 0 when it wraps. -/
theorem test_exhibit_sequence :
    (nextOf (exec .exhibitEdge (up.wExh fun x => { x with trig := 1 }))).get R.EXH_SEQ_SEQ = 1 ∧
    (nextOf (exec .exhibitEdge ((up.wExh fun x => { x with trig := 1 }).set R.EXH_SEQ_SEQ 0 0xFFFFFFFF))).get R.EXH_SEQ_SEQ = 1 := by
  decide +kernel

/-- R440: CLAIM of an unowned mailbox makes the gallery its owner. -/
theorem test_claim :
    (nextOf (exec (.claim 0) up)).get R.SEC_MBSTAT_OWNED = 1 ∧ (nextOf (exec (.claim 0) up)).get R.SEC_MBSTAT_OWNER = 0 := by
  decide +kernel

/-- R358: a frame is found by its parts; R359: numbers run modulo 32. -/
theorem test_keepalive_number_wraps :
    ((nextOf (exec (.keepaliveSend 0) ((up.set R.LNK_PSTAT_STATE 0 4).updPort 0 fun x => { x with aligned := true, txSeq := 31 }))).port 0).txSeq = 0 := by
  decide +kernel

/-- R347: CRC-32 of the nine digits, as published for the reflected polynomial 0xEDB8_8320. -/
theorem test_crc32 : crc32 [0x31, 0x32, 0x33, 0x34, 0x35, 0x36, 0x37, 0x38, 0x39] = 0xCBF43926 := by decide +kernel

/-- R377: a step takes the front command and leaves the rest. -/
theorem test_step_order :
    (nextOf (step { up.set R.I3C_STAT_DAV 0 1 with pending := [.getbcr, .getdcr] })).pending = [.getdcr] ∧
    (nextOf (step { up.set R.I3C_STAT_DAV 0 1 with pending := [.getbcr, .getdcr] })).i3c.resp = [0x06] := by decide +kernel


/-- The row "cold reset held" of R479, and the row of a control complex in reset. -/
theorem test_pins_in_reset : State.reset.pins.errAlive = .low ∧ State.reset.pins.sda = .highZ ∧
    ({ State.reset with dev := { State.reset.dev with cold := false } } : State).pins.sda = .nackOnly := by decide +kernel

/-! ### Each clause of each statement has a state and operands that meet its hypotheses -/

theorem witness_StepRunsTheFrontCommand :
    (∃ (c : Instr) (r : List Instr) (s : State), s.pending = c :: r) ∧
    (∃ (s : State), s.pending = []) :=
  ⟨⟨.getpid, [], { up with pending := [.getpid] }, by decide +kernel⟩,
   ⟨up, by decide +kernel⟩⟩

theorem witness_EveryStepKeepsTheTables :
    ∃ (s : State) (t : State), s.canonical = true ∧ step s = .next t :=
  ⟨up, (nextOf (step up)), by and_intros <;> first | decide +kernel | exact rfl⟩

theorem witness_EveryStepKeepsTheSecrets :
    ∃ (s : State) (t : State), s.canonical = true ∧ s.sec.ok = true ∧ step s = .next t :=
  ⟨up, (nextOf (step up)), by and_intros <;> first | decide +kernel | exact rfl⟩

theorem witness_CommandsLeaveTheQueue :
    ∃ (s : State), s.canonical = true ∧ s.sec.ok = true :=
  ⟨up, by decide +kernel⟩

theorem witness_FuseMapIsReadOnce :
    (∃ (s : State), s.dev.cold = false ∧ s.fuse = none) ∧
    (∃ (s : State) (g : FuseMap), s.fuse = some g) ∧
    (∃ (s : State), s.dev.cold = true) :=
  ⟨⟨up, by decide +kernel⟩,
   ⟨{ up with fuse := some fuseUp }, fuseUp, by decide +kernel⟩,
   ⟨State.reset, by decide +kernel⟩⟩

theorem witness_ZonesStartAndAreTested :
    (∃ (s : State) (z : Nat), z < 4 ∧ s.dev.cold = false ∧ s.zoneUsed z = true) ∧
    (∃ (s : State) (z : Nat), z < 4 ∧ s.dev.hubs.testBit z = true ∧ s.dev.tested.testBit z = false) ∧
    (∃ (s : State) (z : Nat), z < 4 ∧ (s.dev.hubs.testBit z = false ∨ s.dev.tested.testBit z = true)) ∧
    (∃ (s : State) (c : Nat) (bad : List (Nat × Nat × Nat)), s.cst c ≠ cFused ∧ (∀ p < 4, ∃ k, (c, p, k) ∈ bad)) :=
  ⟨⟨up, 0, by decide +kernel⟩,
   ⟨{ (up.wDev fun d => { d with tested := 0 }) with cfg := { Integ.zk08 with ccsup := 8, zone := List.replicate 8 0 ++ [1] } }, 0, by decide +kernel⟩,
   ⟨up.wDev fun d => { d with hubs := 0 }, 0, by decide +kernel⟩,
   ⟨up, 2, [(2, 0, 1), (2, 1, 1), (2, 2, 1), (2, 3, 1)], by and_intros <;> first | decide +kernel | exact fun p _ => ⟨1, by revert p; decide⟩⟩⟩

theorem witness_ControlComplexIsReleased :
    (∃ (s : State), s.dev.powered = true ∧ s.dev.released = false ∧ s.fuseOk = true) ∧
    (∃ (s : State), (s.dev.powered = false ∨ s.dev.released = true ∨ s.fuseOk = false)) ∧
    (∃ (s : State) (g : Gal), s.rowPasses g R.PWR_CTL_WRST 0 1 ∧ s.dev.powered = true) :=
  ⟨⟨{ (up.wDev fun d => { d with released := false }) with fuse := some fuseUp }, by decide +kernel⟩,
   ⟨up, by decide +kernel⟩,
   ⟨up, 0, by decide +kernel⟩⟩

theorem witness_PllLockSelectAndLoss :
    (∃ (s : State), s.get R.CLK_STAT_PLLEN = 1 ∧ s.get R.CLK_STAT_LOCK = 0) ∧
    (∃ (s : State) (g : Gal), s.rowPasses g R.CLK_SRC_SEL 0 1 ∧ s.priv g 1 = false) ∧
    (∃ (s : State) (g : Gal), s.rowPasses g R.CLK_SRC_SEL 0 1 ∧ s.priv g 1 = true ∧ s.get R.CLK_STAT_LOCK = 0) ∧
    (∃ (s : State) (g : Gal), s.rowPasses g R.CLK_SRC_SEL 0 1 ∧ s.priv g 1 = true ∧ s.get R.CLK_STAT_SRC = 0 ∧ s.get R.CLK_STAT_LOCK = 1) ∧
    (∃ (s : State) (g : Gal), s.rowPasses g R.CLK_SRC_SEL 0 1 ∧ s.get R.CLK_STAT_SRC = 1 ∧ s.get R.CLK_STAT_LOCK = 1) ∧
    (∃ (s : State), s.get R.CLK_STAT_PLLEN = 1 ∧ s.get R.CLK_STAT_LOCK = 0 ∧ s.large = false ∧ s.get R.CLK_STAT_SRC = 0) ∧
    (∃ (s : State), s.get R.CLK_STAT_LOCK = 1) :=
  ⟨⟨{ up.set R.CLK_STAT_LOCK 0 0 with cfg := { Integ.zk08 with n := 64 } }, by decide +kernel⟩,
   ⟨(up.set R.PG_CTL_LOCK 1 1).set R.CLK_SRC_SEL 0 1, 0, by decide +kernel⟩,
   ⟨up.set R.CLK_STAT_LOCK 0 0, 0, by decide +kernel⟩,
   ⟨up.set R.CLK_STAT_SRC 0 0, 0, by decide +kernel⟩,
   ⟨up, 0, by decide +kernel⟩,
   ⟨up.sets [(R.CLK_STAT_LOCK, 0, 0), (R.CLK_STAT_SRC, 0, 0)], by decide +kernel⟩,
   ⟨up, by decide +kernel⟩⟩

theorem witness_BootReturnsTheDistricts :
    (∃ (s : State), s.dev.released = true ∧ s.get R.CLK_STAT_SRC = 1 ∧ s.dev.imgDone = true ∧ s.dev.orrRun = false) ∧
    (∃ (s : State), (s.dev.released = false ∨ s.get R.CLK_STAT_SRC = 0 ∨ s.dev.imgDone = false ∨ s.dev.orrRun = true)) ∧
    (∃ (s : State), s.devSt = devBoot ∧ s.dev.imgDone = true ∧ s.dev.orrRun = true ∧ s.dev.thermOk = true ∧ s.dev.returned = false ∧ s.offStanding = [] ∧ s.flt.wireOff = false) ∧
    (∃ (s : State), s.large = false ∧ s.dev.returned = true ∧ s.dev.booted = false ∧ s.devSt = devBoot ∧ s.dev.retIdx < 16 ∧ (s.toReturn (s.seqDist s.dev.retIdx) = false ∨ s.seqBusy (s.seqDist s.dev.retIdx) = true)) ∧
    (∃ (s : State), s.large = false ∧ s.dev.returned = true ∧ s.dev.booted = false ∧ s.devSt = devBoot ∧ s.dev.retIdx < 16 ∧ s.toReturn (s.seqDist s.dev.retIdx) = true ∧ s.seqBusy (s.seqDist s.dev.retIdx) = false ∧ s.pst (s.zoneOf (s.seqDist s.dev.retIdx)) ≠ lkUp) ∧
    (∃ (s : State), s.large = false ∧ s.dev.returned = true ∧ s.dev.booted = false ∧ s.devSt = devBoot ∧ s.dev.retIdx < 16 ∧ s.toReturn (s.seqDist s.dev.retIdx) = true ∧ s.seqBusy (s.seqDist s.dev.retIdx) = false ∧ s.pst (s.zoneOf (s.seqDist s.dev.retIdx)) = lkUp) ∧
    (∃ (s : State), s.dev.retWait = true ∧ s.pst (s.zoneOf (s.seqDist s.dev.retIdx)) ≠ lkUp) ∧
    (∃ (s : State), s.bootOver = true ∧ s.standing 2 = false ∧ s.dev.entry = 0) ∧
    (∃ (s : State), s.bootOver = true ∧ s.standing 2 = true) :=
  ⟨⟨up.wDev fun d => { d with orrRun := false }, by decide +kernel⟩,
   ⟨up, by decide +kernel⟩,
   ⟨(up.wDev fun d => { d with returned := false }).set R.PWR_STAT_DEV 0 0, by decide +kernel⟩,
   ⟨(up.wDev fun d => { d with booted := false }).set R.PWR_STAT_DEV 0 0, by decide +kernel⟩,
   ⟨(up.wDev fun d => { d with booted := false }).sets [(R.PWR_STAT_DEV, 0, 0), (R.PWR_DTGT0_TGT, 0, 2), (R.PWR_DSTAT_STATE, 0, 0)], by decide +kernel⟩,
   ⟨(up.wDev fun d => { d with booted := false }).sets [(R.PWR_STAT_DEV, 0, 0), (R.PWR_DTGT0_TGT, 0, 2), (R.PWR_DSTAT_STATE, 0, 0), (R.LNK_PSTAT_STATE, 0, 4)], by decide +kernel⟩,
   ⟨up.wDev fun d => { d with retWait := true }, by decide +kernel⟩,
   ⟨(up.wDev fun d => { d with booted := false, retIdx := 16 }).set R.PWR_STAT_DEV 0 0, by decide +kernel⟩,
   ⟨(up.wDev fun d => { d with booted := false, retIdx := 16 }).sets [(R.PWR_STAT_DEV, 0, 0), (R.FLT_CAUSE_CAUSE, 0, 0x40)], by decide +kernel⟩⟩

theorem witness_DistrictEntriesFollowTheirSteps :
    (∃ (s : State) (d : Nat), d < s.cfg.n ∧ (s.pw d).reqEntry = true ∧ s.seqBusy d = false ∧ s.dst d = 2 ∧ s.noBooking d = true ∧ (d ≠ s.cfg.ccsup ∨ s.supplyFixed = false)) ∧
    (∃ (s : State) (d : Nat), d < s.cfg.n ∧ (s.pw d).reqEntry = true ∧ s.seqBusy d = false ∧ s.dst d = 1 ∧ s.noBooking d = true ∧ (d ≠ s.cfg.ccsup ∨ s.supplyFixed = false)) ∧
    (∃ (s : State) (d : Nat), d < s.cfg.n ∧ (s.pw d).step = .entBegun) ∧
    (∃ (s : State) (d : Nat), d < s.cfg.n ∧ (s.pw d).step = .entIso) ∧
    (∃ (s : State) (d : Nat), d < s.cfg.n ∧ (s.pw d).step = .entSw ∧ (s.pw d).toRetain = true) ∧
    (∃ (s : State) (d : Nat), d < s.cfg.n ∧ (s.pw d).step = .entSw ∧ (s.pw d).toRetain = false ∧ d ≠ s.cfg.ccsup) ∧
    (∃ (s : State) (d : Nat), d < s.cfg.n ∧ (s.pw d).step = .entCells ∧ (s.pw d).toRetain = true) ∧
    (∃ (s : State) (d : Nat), d < s.cfg.n ∧ (s.pw d).step = .entCells ∧ (s.pw d).toRetain = false ∧ s.get R.DST_FO_STAT_STATE d ≠ 2) :=
  ⟨⟨up.updPw 2 fun x => { x with reqEntry := true }, 2, by decide +kernel⟩,
   ⟨(up.set R.PWR_DSTAT_STATE 2 1).updPw 2 fun x => { x with reqEntry := true }, 2, by decide +kernel⟩,
   ⟨up.updPw 2 fun x => { x with step := .entBegun }, 2, by decide +kernel⟩,
   ⟨up.updPw 2 fun x => { x with step := .entIso }, 2, by decide +kernel⟩,
   ⟨up.updPw 2 fun x => { x with step := .entSw, toRetain := true }, 2, by decide +kernel⟩,
   ⟨up.updPw 2 fun x => { x with step := .entSw }, 2, by decide +kernel⟩,
   ⟨up.updPw 2 fun x => { x with step := .entCells, toRetain := true }, 2, by decide +kernel⟩,
   ⟨up.updPw 2 fun x => { x with step := .entCells }, 2, by decide +kernel⟩⟩

theorem witness_DistrictsSwitchOnStepByStep :
    (∃ (s : State) (d : Nat), d < s.cfg.n ∧ s.switchOns = true ∧ s.atDie = true ∧ (s.waiters (s.zoneOf d)).head? = some d ∨ (d ∈ s.waiters (s.zoneOf d) ∧ s.swon d = 0) ∧ s.swFits d = true) ∧
    (∃ (s : State) (d : Nat), (s.atDie = false ∨ s.swFits d = false)) ∧
    (∃ (s : State) (d : Nat), d < s.cfg.n ∧ (s.pw d).step = .onBegun ∧ s.railOk d = true) ∧
    (∃ (s : State) (d : Nat), d < s.cfg.n ∧ (s.pw d).step = .onRail) ∧
    (∃ (s : State) (d : Nat), d < s.cfg.n ∧ (s.pw d).step = .onPower ∧ s.anvilsSet d = true ∧ s.devSt ≠ devHold ∧ (s.dev.supStayed = false ∨ s.dev.returned = true) ∧ s.get R.DST_FO_STAT_STATE d < 2) ∧
    (∃ (s : State) (d : Nat), d < s.cfg.n ∧ (s.pw d).step = .onIso) ∧
    (∃ (s : State) (d : Nat), d < s.cfg.n ∧ (s.pw d).step = .onBegun) :=
  ⟨⟨{ ((up.wDev fun x => { x with dper := 1, die := 1 }).set R.PWR_DSTAT_STATE 2 0).updPw 2 fun x => { x with reqOn := some 4 } with fab := [(2, { swon := 0 })] }, 2, by decide +kernel⟩,
   ⟨up, 2, by decide +kernel⟩,
   ⟨(up.set R.CEL_STAT_STATE 32 2).updPw 2 fun x => { x with step := .onBegun }, 2, by decide +kernel⟩,
   ⟨up.updPw 2 fun x => { x with step := .onRail }, 2, by decide +kernel⟩,
   ⟨(up.sets [(R.ANV_STAT_STATE, 8, 2), (R.ANV_STAT_STATE, 9, 5), (R.ANV_STAT_STATE, 10, 2), (R.ANV_STAT_STATE, 11, 2)]).updPw 2 fun x => { x with step := .onPower }, 2, by decide +kernel⟩,
   ⟨up.updPw 2 fun x => { x with step := .onIso }, 2, by decide +kernel⟩,
   ⟨up.updPw 2 fun x => { x with step := .onBegun }, 2, by decide +kernel⟩⟩

theorem witness_TargetsAreRequestedOnlyWhereAllowed :
    (∃ (s : State) (g : Gal) (j : Nat) (w : Word), j < 4 ∧ s.passes g ((tgtFld j).addr 0) w) ∧
    (∃ (s : State) (g : Gal) (j : Nat) (d : Nat) (w : Word), j < 4 ∧ s.passes g ((tgtFld j).addr 0) w ∧ d < s.cfg.n ∧ d / 16 = j ∧ (∀ k < 16, 16 * j + k < s.cfg.n → 16 * j + k ≠ d → bitsOf w (2 * k) 2 = s.tgtOf (16 * j + k) ∧ bitsOf w (2 * k) 2 ≠ 3) ∧ bitsOf w (2 * (d % 16)) 2 < 3 ∧ bitsOf w (2 * (d % 16)) 2 ≠ s.tgtOf d ∧ (s.get R.DST_FO_STAT_STATE d ≠ 2 ∨ bitsOf w (2 * (d % 16)) 2 = 2) ∧ s.reqRefused d (bitsOf w (2 * (d % 16)) 2) = false) ∧
    (∃ (s : State) (g : Gal) (j : Nat) (w : Word), j < 4 ∧ s.passes g ((tgtFld j).addr 0) w ∧ (∀ k < 16, 16 * j + k < s.cfg.n → bitsOf w (2 * k) 2 = s.tgtOf (16 * j + k) ∧ bitsOf w (2 * k) 2 ≠ 3)) ∧
    (∃ (s : State) (d : Nat), d < s.cfg.n) ∧
    (∃ (s : State) (d : Nat) (v : Nat), d < s.cfg.n ∧ v < 3 ∧ v ≠ s.tgtOf d ∧ (s.get R.DST_FO_STAT_STATE d ≠ 2 ∨ v = 2) ∧ s.reqRefused d v = true) ∧
    (∃ (s : State) (d : Nat) (v : Nat), d < s.cfg.n ∧ d < 64 ∧ v < 3 ∧ v ≠ s.tgtOf d ∧ (s.get R.DST_FO_STAT_STATE d ≠ 2 ∨ v = 2) ∧ s.reqRefused d v = false) ∧
    (∃ (j : Nat), 4 ≤ j) :=
  ⟨⟨up, 0, 0, 0, by decide +kernel⟩,
   ⟨up, 0, 0, 2, 0xAAAAAA9A, by decide +kernel⟩,
   ⟨up, 0, 0, 0xAAAAAAAA, by decide +kernel⟩,
   ⟨up, 2, by decide +kernel⟩,
   ⟨up, 7, 1, by decide +kernel⟩,
   ⟨up, 2, 1, by decide +kernel⟩,
   ⟨4, by decide +kernel⟩⟩

theorem witness_OwnerRequestsDeviceStates :
    (∃ (s : State) (g : Gal), s.rowPasses g R.PWR_CTL_DEV_REQ 0 0 ∧ s.priv g 2 = true ∧ s.devSt = devQuiet ∧ s.dev.entry = 0) ∧
    (∃ (s : State) (g : Gal), s.rowPasses g R.PWR_CTL_DEV_REQ 0 1 ∧ s.priv g 2 = true ∧ s.devSt = devRun ∧ s.dev.entry = 0) ∧
    (∃ (s : State) (g : Gal), s.rowPasses g R.PWR_CTL_DEV_REQ 0 2 ∧ s.priv g 2 = true ∧ s.devSt = devRun ∧ s.dev.entry = 0) ∧
    (∃ (s : State) (g : Gal), s.rowPasses g R.PWR_CTL_DEV_REQ 0 3 ∧ s.priv g 2 = true ∧ s.devSt = devRun ∧ s.dev.entry = 0) ∧
    (∃ (s : State) (g : Gal), s.priv g 2 = false ∧ s.devSt = devRun ∧ s.dev.entry = 0 ∧ s.rowPasses g R.PWR_CTL_DEV_REQ 0 0) ∧
    (∃ (s : State) (g : Gal), s.priv g 2 = false ∧ s.devSt = devRun ∧ s.dev.entry = 0 ∧ s.rowPasses g R.PWR_CTL_DEV_REQ 0 1) ∧
    (∃ (s : State) (g : Gal), s.priv g 2 = false ∧ s.devSt = devRun ∧ s.dev.entry = 0 ∧ s.rowPasses g R.PWR_CTL_DEV_REQ 0 2) ∧
    (∃ (s : State) (g : Gal), s.priv g 2 = false ∧ s.devSt = devRun ∧ s.dev.entry = 0 ∧ s.rowPasses g R.PWR_CTL_DEV_REQ 0 3) ∧
    (∃ (s : State), s.dev.entry = 1 ∧ s.dev.ledgersClear = true) ∧
    (∃ (s : State) (g : Gal), s.rowPasses g R.PWR_CTL_WAKE 0 1 ∧ s.devSt = devDoze ∧ s.dev.entry = 0 ∧ s.dev.dozeExit = false) ∧
    (∃ (s : State), s.devSt = devDoze ∧ s.dev.dozeExit = true ∧ s.dev.entry = 0 ∧ s.dev.before < 8 ∧ (s.dev.before ≠ devRun ∨ s.get R.PWR_CTL_DEV_REQ = 0)) ∧
    (∃ (s : State), s.devSt = devDoze ∧ s.dev.dozeExit = true ∧ s.dev.entry = 0 ∧ s.dev.before = devRun ∧ s.get R.PWR_CTL_DEV_REQ = 1) :=
  ⟨⟨up.set R.PWR_STAT_DEV 0 2, 0, by decide +kernel⟩,
   ⟨up, 0, by decide +kernel⟩,
   ⟨up, 0, by decide +kernel⟩,
   ⟨up, 0, by decide +kernel⟩,
   ⟨up.set (accFld 0) 1 0xFFFFFFFF, 1, by decide +kernel⟩,
   ⟨(up.set R.PWR_CTL_DEV_REQ 0 1).set (accFld 0) 1 0xFFFFFFFF, 1, by decide +kernel⟩,
   ⟨(up.set R.PWR_CTL_DEV_REQ 0 2).set (accFld 0) 1 0xFFFFFFFF, 1, by decide +kernel⟩,
   ⟨(up.set R.PWR_CTL_DEV_REQ 0 3).set (accFld 0) 1 0xFFFFFFFF, 1, by decide +kernel⟩,
   ⟨up.wDev fun d => { d with entry := 1, ledgersClear := true }, by decide +kernel⟩,
   ⟨up.set R.PWR_STAT_DEV 0 3, 0, by decide +kernel⟩,
   ⟨(up.wDev fun d => { d with dozeExit := true, before := 2 }).set R.PWR_STAT_DEV 0 3, by decide +kernel⟩,
   ⟨(up.wDev fun d => { d with dozeExit := true, before := 1 }).sets [(R.PWR_STAT_DEV, 0, 3), (R.PWR_CTL_DEV_REQ, 0, 1)], by decide +kernel⟩⟩

theorem witness_SleepPowersTheComplexDown :
    (∃ (s : State), s.dev.entry = 2 ∧ s.dev.sleepStep = 0 ∧ s.ledgersEmpty = true) ∧
    (∃ (s : State), s.dev.entry = 2 ∧ s.dev.sleepStep = 2 ∧ s.age.due = false ∧ s.flushed = true) ∧
    (∃ (s : State), s.age.due = true) ∧
    (∃ (s : State), s.dev.wakeDue = true ∧ s.devSt = devBoot) :=
  ⟨⟨up.wDev fun d => { d with entry := 2 }, by decide +kernel⟩,
   ⟨up.wDev fun d => { d with entry := 2, sleepStep := 2 }, by decide +kernel⟩,
   ⟨up.wAge fun a => { a with due := true }, by decide +kernel⟩,
   ⟨(up.wDev fun d => { d with wakeDue := true }).set R.PWR_STAT_DEV 0 0, by decide +kernel⟩⟩

theorem witness_FaultReportsBecomeEntries :
    (∃ (s : State) (r : Report) (e : Entry), s.dev.released = true ∧ s.flt.lines = [r] ∧ 2 ≤ r.cls ∧ r.cls < 0x17 ∧ r.cause < 256 ∧ r.src < 65536 ∧ r.react = none ∧ r.injected = false ∧ s.stands r.cls = false ∧ e = { cls := r.cls, react := s.reactNow r, cause := r.cause, src := r.src, opsec := s.opsec, ticks := s.tick, dev := s.devSt, seq := (match s.flt.hist with | [] => 0 | x :: _ => (x.seq + 1) % 256) }) ∧
    (∃ (s : State) (r : Report) (e : Entry), s.dev.released = true ∧ s.flt.lines = [r] ∧ 2 ≤ r.cls ∧ r.cls < 0x17 ∧ r.cause < 256 ∧ r.src < 65536 ∧ r.react = none ∧ r.injected = false ∧ s.stands r.cls = false ∧ e = { cls := r.cls, react := s.reactNow r, cause := r.cause, src := r.src, opsec := s.opsec, ticks := s.tick, dev := s.devSt, seq := (match s.flt.hist with | [] => 0 | x :: _ => (x.seq + 1) % 256) } ∧ reactOf r.cls = 0 ∧ (r.cls ≠ clsCell ∨ (r.cause / 16 ≠ 1 ∧ r.cause / 16 ≠ 3))) ∧
    (∃ (s : State) (r : Report) (e : Entry), s.dev.released = true ∧ s.flt.lines = [r] ∧ 2 ≤ r.cls ∧ r.cls < 0x17 ∧ r.cause < 256 ∧ r.src < 65536 ∧ r.react = none ∧ r.injected = false ∧ s.stands r.cls = false ∧ e = { cls := r.cls, react := s.reactNow r, cause := r.cause, src := r.src, opsec := s.opsec, ticks := s.tick, dev := s.devSt, seq := (match s.flt.hist with | [] => 0 | x :: _ => (x.seq + 1) % 256) } ∧ 1 ≤ reactOf r.cls) ∧
    (∃ (s : State) (r : Report) (e : Entry), s.dev.released = true ∧ s.flt.lines = [r] ∧ 2 ≤ r.cls ∧ r.cls < 0x17 ∧ r.cause < 256 ∧ r.src < 65536 ∧ r.react = none ∧ r.injected = false ∧ s.stands r.cls = false ∧ e = { cls := r.cls, react := s.reactNow r, cause := r.cause, src := r.src, opsec := s.opsec, ticks := s.tick, dev := s.devSt, seq := (match s.flt.hist with | [] => 0 | x :: _ => (x.seq + 1) % 256) } ∧ (1 ≤ reactOf r.cls ∨ (r.cls = clsCell ∧ (r.cause / 16 = 1 ∨ r.cause / 16 = 3))) ∧ s.arc.dropCnt = 0 ∧ s.get R.ARC_STAT_MODE ≠ 3 ∧ s.arc.bytes + 32 + overflowRoom ≤ stagingSize) ∧
    (∃ (s : State) (r : Report) (e : Entry), s.dev.released = true ∧ s.flt.lines = [r] ∧ 2 ≤ r.cls ∧ r.cls < 0x17 ∧ r.cause < 256 ∧ r.src < 65536 ∧ r.react = none ∧ r.injected = false ∧ s.stands r.cls = false ∧ e = { cls := r.cls, react := s.reactNow r, cause := r.cause, src := r.src, opsec := s.opsec, ticks := s.tick, dev := s.devSt, seq := (match s.flt.hist with | [] => 0 | x :: _ => (x.seq + 1) % 256) } ∧ e.react = 2) ∧
    (∃ (s : State) (r : Report) (e : Entry), s.dev.released = true ∧ s.flt.lines = [r] ∧ 2 ≤ r.cls ∧ r.cls < 0x17 ∧ r.cause < 256 ∧ r.src < 65536 ∧ r.react = none ∧ r.injected = false ∧ s.stands r.cls = false ∧ e = { cls := r.cls, react := s.reactNow r, cause := r.cause, src := r.src, opsec := s.opsec, ticks := s.tick, dev := s.devSt, seq := (match s.flt.hist with | [] => 0 | x :: _ => (x.seq + 1) % 256) } ∧ e.react = 3) ∧
    (∃ (s : State) (r : Report), s.dev.released = true ∧ s.flt.lines = [r] ∧ 2 ≤ r.cls ∧ s.stands r.cls = true) ∧
    (∃ (s : State), s.dev.released = false) ∧
    (∃ (s : State) (src : Nat) (cls : Nat), 2 ≤ cls ∧ cls < 0x17 ∧ src < 65536 ∧ s.lineChecked src = true ∧ (src, cls) ∉ s.flt.masked) ∧
    (∃ (s : State) (src : Nat) (cls : Nat), 2 ≤ cls ∧ cls < 0x17 ∧ src < 65536 ∧ s.lineChecked src = true ∧ (src, cls) ∉ s.flt.masked ∧ reactOf cls ≤ 1) ∧
    (∃ (s : State) (src : Nat) (cls : Nat), 2 ≤ cls ∧ cls < 0x17 ∧ src < 65536 ∧ s.lineChecked src = true ∧ (src, cls) ∉ s.flt.masked ∧ reactOf cls = 2 ∧ (s.devSt ≠ devBoot ∨ s.dev.returned = true)) ∧
    (∃ (s : State) (src : Nat) (cls : Nat), 2 ≤ cls ∧ cls < 0x17 ∧ src < 65536 ∧ s.lineChecked src = true ∧ (src, cls) ∉ s.flt.masked ∧ reactOf cls = 3) ∧
    (∃ (s : State) (src : Nat) (cls : Nat), ((src, cls) ∈ s.flt.masked ∨ s.lineChecked src = false)) :=
  ⟨⟨up.wFlt fun f => { f with lines := [{ cls := clsArith, cause := 0, src := 0x4002 }] }, { cls := clsArith, cause := 0, src := 0x4002 }, { cls := 0xA, react := 0, cause := 0, src := 0x4002, opsec := up.opsec, ticks := up.tick, dev := up.devSt, seq := 0 }, by decide +kernel⟩,
   ⟨up.wFlt fun f => { f with lines := [{ cls := clsArith, cause := 0, src := 0x4002 }] }, { cls := clsArith, cause := 0, src := 0x4002 }, { cls := 0xA, react := 0, cause := 0, src := 0x4002, opsec := up.opsec, ticks := up.tick, dev := up.devSt, seq := 0 }, by decide +kernel⟩,
   ⟨up.wFlt fun f => { f with lines := [{ cls := clsSensor, cause := 0, src := 0x4002 }] }, { cls := clsSensor, cause := 0, src := 0x4002 }, { cls := 0xF, react := 1, cause := 0, src := 0x4002, opsec := up.opsec, ticks := up.tick, dev := up.devSt, seq := 0 }, by decide +kernel⟩,
   ⟨up.wFlt fun f => { f with lines := [{ cls := clsSensor, cause := 0, src := 0x4002 }] }, { cls := clsSensor, cause := 0, src := 0x4002 }, { cls := 0xF, react := 1, cause := 0, src := 0x4002, opsec := up.opsec, ticks := up.tick, dev := up.devSt, seq := 0 }, by decide +kernel⟩,
   ⟨up.wFlt fun f => { f with lines := [{ cls := clsArithp, cause := 0, src := 0x4002 }] }, { cls := clsArithp, cause := 0, src := 0x4002 }, { cls := 0xB, react := 2, cause := 0, src := 0x4002, opsec := up.opsec, ticks := up.tick, dev := up.devSt, seq := 0 }, by decide +kernel⟩,
   ⟨up.wFlt fun f => { f with lines := [{ cls := clsSafestop, cause := 0, src := 0x6000 }] }, { cls := clsSafestop, cause := 0, src := 0x6000 }, { cls := 0x9, react := 3, cause := 0, src := 0x6000, opsec := up.opsec, ticks := up.tick, dev := up.devSt, seq := 0 }, by decide +kernel⟩,
   ⟨(up.set R.FLT_CAUSE_CAUSE 0 2048).wFlt fun f => { f with lines := [{ cls := clsArithp, cause := 0, src := 0x4002 }] }, { cls := clsArithp, cause := 0, src := 0x4002 }, by decide +kernel⟩,
   ⟨up.wDev fun d => { d with released := false }, by decide +kernel⟩,
   ⟨up, 0x4003, clsArith, by decide +kernel⟩,
   ⟨up, 0x4002, 0x0A, by decide +kernel⟩,
   ⟨up, 0x4003, clsArithp, by decide +kernel⟩,
   ⟨up, 0x6000, clsSafestop, by decide +kernel⟩,
   ⟨up.wFlt fun f => { f with masked := [(0x4002, 0x0A)] }, 0x4002, 0x0A, by decide +kernel⟩⟩

theorem witness_SafeOffEndsTheSecrets :
    (∃ (s : State), s.dev.released = true) ∧
    (∃ (s : State), s.dev.released = true ∧ s.stands clsSafestop = false ∧ s.flt.lines = [{ cls := clsSafestop, cause := 0, src := srcOf 8 1 }]) ∧
    (∃ (s : State) (cls : Nat), reactOf cls = 3 ∧ s.stands cls = true ∧ s.thermHeld cls = false ∧ cls ∉ s.flt.relOk) ∧
    (∃ (s : State) (cls : Nat), s.thermHeld cls = true) ∧
    (∃ (s : State), s.devSt = devOff ∧ s.flt.offPhase = .down ∧ s.flt.wireOff = false ∧ s.allOff (fun d => !(s.dev.supStayed && s.isSupply d)) = true ∧ (∀ c ∈ s.offStanding, s.released c = true)) ∧
    (∃ (s : State) (g : Gal), s.rowPasses g R.FLT_CTL_HREL 0 1) ∧
    (∃ (s : State) (g : Gal), s.rowPasses g R.FLT_CTL_OREL 0 1) :=
  ⟨⟨up, by decide +kernel⟩,
   ⟨up.wFlt fun x => { x with lines := [{ cls := clsSafestop, cause := 0, src := srcOf 8 1 }] }, by decide +kernel⟩,
   ⟨up.set R.FLT_CAUSE_CAUSE 0 0x100, clsThermal, by decide +kernel⟩,
   ⟨up.set R.THM_STAT_STATE 0 1, clsThermal, by decide +kernel⟩,
   ⟨((up.wFlt fun f => { f with offPhase := .down }).set R.PWR_STAT_DEV 0 6).sets ((List.range 8).map fun d => (R.PWR_DSTAT_STATE, d, 0)), by decide +kernel⟩,
   ⟨up, 0, by decide +kernel⟩,
   ⟨up, 0, by decide +kernel⟩⟩

theorem witness_FaultLatchHistoryAndAlive :
    (∃ (s : State) (g : Gal), s.rowPasses g R.FLT_CTL_FIRST_CLR 0 1) ∧
    (∃ (s : State) (g : Gal), s.rowPasses g R.FLT_CTL_HDUMP 0 1 ∧ s.dev.released = true ∧ s.arc.dropCnt = 0 ∧ s.get R.ARC_STAT_MODE ≠ 3 ∧ s.arc.bytes + 400 + overflowRoom ≤ stagingSize) ∧
    (∃ (s : State), s.get R.FLT_INJ_ARM = 1 ∧ s.dev.released = true ∧ s.get R.FLT_INJ_CLASS = clsArith) ∧
    (∃ (s : State), s.dev.cold = false ∧ s.dev.released = false ∧ s.devSt = devBoot ∧ s.dev.hubs.testBit (s.zoneOf s.cfg.ccsup) = true) :=
  ⟨⟨up, 0, by decide +kernel⟩,
   ⟨up, 0, by decide +kernel⟩,
   ⟨up.sets [(R.FLT_INJ_ARM, 0, 1), (R.FLT_INJ_CLASS, 0, 0x0A)], by decide +kernel⟩,
   ⟨(up.wDev fun d => { d with released := false }).set R.PWR_STAT_DEV 0 0, by decide +kernel⟩⟩

theorem witness_PeriodsAreCountedWhileTheOrreryRuns :
    (∃ (s : State), s.dev.orrRun = true) ∧
    (∃ (s : State), s.dev.orrRun = true ∧ 0 < s.dev.dper ∧ (s.dev.dper - 1) % 10 = 0 ∧ s.dev.die ≤ (s.dev.dper - 1) / 10) ∧
    (∃ (s : State), s.dev.orrRun = true ∧ (s.dev.dper = 0 ∨ (s.dev.dper - 1) % 10 ≠ 0 ∨ (s.dev.dper - 1) / 10 < s.dev.die)) ∧
    (∃ (s : State), s.dev.orrRun = true ∧ 0 < s.dev.die ∧ (s.dev.die - 1) % 1000 = 0 ∧ s.dev.ep ≤ (s.dev.die - 1) / 1000 ∧ s.dev.dper = 10 * (s.dev.die - 1) + 1) ∧
    (∃ (s : State), s.dev.orrRun = true ∧ (s.dev.die = 0 ∨ (s.dev.die - 1) % 1000 ≠ 0 ∨ (s.dev.die - 1) / 1000 < s.dev.ep ∨ s.dev.dper ≠ 10 * (s.dev.die - 1) + 1)) ∧
    (∃ (s : State), s.dev.orrRun = true ∧ 0 < s.dev.dper) ∧
    (∃ (s : State), s.dev.dper = 0) ∧
    (∃ (s : State), s.dev.orrRun = false) ∧
    (∃ (s : State) (m : List Meas) (d : Nat), s.dev.orrRun = true ∧ d < s.cfg.n ∧ s.devSt = devHold ∧ ((m.getD d default).dropped = false ∨ (s.lw d).sent = false)) ∧
    (∃ (s : State) (m : List Meas) (d : Nat), s.dev.orrRun = true ∧ d < s.cfg.n ∧ s.devSt ≠ devHold ∧ (m.getD d default).err.delta = 0) ∧
    (∃ (s : State), s.dev.orrRun = true ∧ s.dev.gated = false ∧ 0 < s.dev.dper ∧ (s.dev.dper - 1) % 10 = 0 ∧ s.dev.die ≤ (s.dev.dper - 1) / 10) ∧
    (∃ (s : State), s.dev.gated = false ∧ s.atDie = true ∧ (s.dev.die - 1) % 1000 = 0 ∧ s.dev.ep ≤ (s.dev.die - 1) / 1000) :=
  ⟨⟨up, by decide +kernel⟩,
   ⟨up.wDev fun d => { d with dper := 1 }, by decide +kernel⟩,
   ⟨up, by decide +kernel⟩,
   ⟨up.wDev fun d => { d with dper := 1, die := 1 }, by decide +kernel⟩,
   ⟨up, by decide +kernel⟩,
   ⟨up.wDev fun d => { d with dper := 1 }, by decide +kernel⟩,
   ⟨up, by decide +kernel⟩,
   ⟨up.wDev fun d => { d with orrRun := false }, by decide +kernel⟩,
   ⟨up.set R.PWR_STAT_DEV 0 devHold, [], 2, by decide +kernel⟩,
   ⟨up, [], 2, by decide +kernel⟩,
   ⟨up.wDev fun x => { x with dper := 1 }, by decide +kernel⟩,
   ⟨up.wDev fun x => { x with dper := 1, die := 1 }, by decide +kernel⟩⟩

theorem witness_TurnedAwayAccessesActNowhere :
    (∃ (s : State) (g : Gal) (a : Nat) (w : Word) (c : RspCode), (tabAt s.fence g).waiting = false ∧ s.newAccess.check g true a w = c ∧ c ≠ .ok) ∧
    (∃ (s : State) (g : Gal) (a : Nat) (c : RspCode), (tabAt s.fence g).waiting = false ∧ s.newAccess.check g false a 0 = c ∧ c ≠ .ok) :=
  ⟨⟨up, 0, 1, 0, .error, by decide +kernel⟩,
   ⟨up, 0, 1, .error, by decide +kernel⟩⟩

theorem witness_SysWhoNamesItsReader :
    (∃ (s : State) (g : Gal), s.dev.released = true ∧ (tabAt s.fence g).waiting = false ∧ s.access g 0 = true) ∧
    (∃ (s : State) (g : Gal) (o : Nat), o < 0x1000 ∧ o % 4 = 0 ∧ s.dev.released = true ∧ (tabAt s.fence g).waiting = false ∧ s.access g 0 = false) ∧
    (∃ (s : State) (g : Nat), s.dev.released = true ∧ s.i3cAway = false ∧ s.get R.I3C_STAT_DAV = 1 ∧ s.bound = some g ∧ s.access g 0 = true ∧ s.i3c.raddr = 0x4C ∧ 5 ≤ s.i3c.mrl ∧ s.i3c.pre = none ∧ s.i3c.pend = false ∧ (tabAt s.fence g : FenceS).held = []) :=
  ⟨⟨up, 0, by decide +kernel⟩,
   ⟨up.set R.GAL_ACC0_MASK 3 0, 3, 0x40, by decide +kernel⟩,
   ⟨(up.sets [(R.I3C_STAT_DAV, 0, 1), (R.I3C_CTL_BIND_EN, 0, 1), (R.I3C_CTL_GAL, 0, 0)]).wI3c fun x => { x with raddr := 0x4C }, 0, by decide +kernel⟩⟩

theorem witness_ReservedOrreryOffsetsReadZero :
    (∃ (s : State) (g : Gal) (o : Nat), 0x68 ≤ o ∧ o < 0x800 ∧ s.reads g (0xB000 + o)) ∧
    (∃ (s : State) (g : Gal) (o : Nat) (w : Word), 0x68 ≤ o ∧ o < 0x800 ∧ s.passes g (0xB000 + o) w) ∧
    (∃ (s : State) (g : Gal) (o : Nat), 0x40 ≤ o ∧ o < 0x68 ∧ s.reads g (0xB800 + o)) ∧
    (∃ (s : State) (o : Nat), 0x40 ≤ o ∧ o < 0x68 ∧ o % 4 = 0 ∧ s.dev.released = true ∧ s.exh.trig ≠ 0 ∧ s.get R.EXH_STAT_HELD = 0 ∧ s.participates 0xB = true) :=
  ⟨⟨up, 0, 0x68, by decide +kernel⟩,
   ⟨up, 0, 0x7FC, 0, by decide +kernel⟩,
   ⟨up, 0, 0x44, by decide +kernel⟩,
   ⟨(up.wExh fun x => { x with trig := 1 }).set R.EXH_PART0_PART 0 0x800, 0x64, by decide +kernel⟩⟩

theorem witness_WritesStoreWhatAccessTypesAllow :
    ∃ (s : State) (g : Gal) (a : Nat) (w : Word) (r : RegDef), (a / 0x1000 ∈ [0x00, 0x09, 0x15, 0x16, 0x17] ∨ (a / 0x1000 = 0x02 ∧ (a % 0x1000 ∈ [0x44, 0x48] ∨ (0x5C ≤ a % 0x1000 ∧ a % 0x1000 < 0x68) ∨ 0x74 ≤ a % 0x1000)) ∨ (0x40 ≤ a / 0x1000 ∧ a / 0x1000 < 0x80 ∧ a % 0x1000 = 0x48)) ∧ 0x40 ≤ a % 0x1000 ∧ a % 0x1000 < 0x800 ∧ findReg a = some r ∧ s.passes g a w :=
  ⟨up, 0, 0x74, 5, ⟨0x74, [R.SYS_SCR_SCR]⟩, by decide +kernel⟩

theorem witness_PageLockWithholdsThePrivilege :
    (∃ (s : State) (g : Gal) (p : Nat), lockable p = true ∧ s.passes g (0x1000 * p + 0xC) 1) ∧
    (∃ (s : State) (g : Gal) (p : Nat), lockable p = false ∧ s.passes g (0x1000 * p + 0xC) 1) ∧
    (∃ (s : State) (g : Gal) (a : Nat) (w : Word) (r : RegDef) (F : Fld), s.dev.released = true ∧ (tabAt s.fence g).waiting = false ∧ a % 4 = 0 ∧ a < 0x100000 ∧ s.pageOk (a / 0x1000) = true ∧ (queueReg a && !s.bankOk a) = false ∧ lockable (a / 0x1000) = true ∧ s.get R.PG_CTL_LOCK (a / 0x1000) = 1 ∧ findReg a = some r ∧ F ∈ r.flds ∧ F.acc = .rwp ∧ s.reaches F a w = true) :=
  ⟨⟨up, 0, 0x0B, by decide +kernel⟩,
   ⟨up, 0, 3, by decide +kernel⟩,
   ⟨up.set R.PG_CTL_LOCK 11 1, 0, 0xB040, 0xFFFFFFFF, (findReg 0xB040).getD ⟨0, []⟩, R.ORR_CTL_FC_EN, by decide +kernel⟩⟩

theorem witness_FencesHoldBackLaterAccesses :
    (∃ (s : State) (g : Gal) (p : Gal), s.passes g (0x18080 + 0x1000 * p) 0x80000000) ∧
    (∃ (s : State) (g : Gal), (tabAt s.fence g).waiting = true ∧ (tabAt s.fence g).held = []) ∧
    (∃ (s : State) (g : Gal) (x : FenceS), tabAt s.fence g = x ∧ x.waiting = true) ∧
    (∃ (s : State) (g : Gal) (a : Nat) (m : Nat) (w : Word) (p : Bool) (r : RegDef), a / 0x1000 ∈ [0x09, 0x15, 0x16, 0x17] ∧ 0x40 ≤ a % 0x1000 ∧ a % 0x1000 < 0x800 ∧ findReg a = some r ∧ (tabAt s.fence g).waiting = true ∧ (tabAt s.fence g).i3c = false ∧ (tabAt s.fence g).held = [⟨false, true, a, w, .ok, p, m⟩] ∧ s.rowsOneTwo a .ok = .ok) ∧
    (∃ (s : State) (g : Gal), (tabAt s.fence g).waiting = true ∧ (tabAt s.fence g).i3c = false ∧ (tabAt s.fence g).held = []) ∧
    (∃ (s : State) (g : Gal), (tabAt s.fence g).waiting = false) :=
  ⟨⟨up, 0, 3, by decide +kernel⟩,
   ⟨{ up with fence := [(1, { waiting := true, addr := 0x40 })] }, 1, by decide +kernel⟩,
   ⟨{ up with fence := [(1, { waiting := true, addr := 0x40 })] }, 1, { waiting := true, addr := 0x40 }, by decide +kernel⟩,
   ⟨{ up with fence := [(1, { waiting := true, addr := 0x40, held := [⟨false, true, 0x9040, 1, .ok, true, 0⟩] })] }, 1, 0x9040, 0, 1, true, (findReg 0x9040).getD ⟨0, []⟩, by decide +kernel⟩,
   ⟨{ up with fence := [(1, { waiting := true, addr := 0x40 })] }, 1, by decide +kernel⟩,
   ⟨up, 0, by decide +kernel⟩⟩

theorem witness_DataPortsAdvanceTheirOffsets :
    (∃ (s : State) (g : Gal), s.reads g 0x304C) ∧
    (∃ (s : State) (g : Gal), s.reads g 0x3070) ∧
    (∃ (s : State) (g : Gal) (w : Word), s.passes g 0x3070 w ∧ s.get R.SEC_CADR_OFS + 4 ≤ chainSize) :=
  ⟨⟨up, 0, by decide +kernel⟩,
   ⟨up, 0, by decide +kernel⟩,
   ⟨up, 0, 0, by decide +kernel⟩⟩

theorem witness_TransactionsReachTheI3cTarget :
    (∃ (s : State), s.i3cAway = false ∧ s.get R.I3C_STAT_DAV = 1) ∧
    (∃ (s : State) (a : _) (c : _), s.i3cAway = false ∧ s.get R.I3C_STAT_DAV = 0 ∧ a < 128 ∧ c ∈ [Instr.entdaa a, .setdasa s.cfg.saddr a]) ∧
    (∃ (s : State), s.i3cAway = false) ∧
    (∃ (s : State) (c : _), s.i3cAway = true ∧ c ∈ [Instr.getpid, .getbcr, .getdcr, .getstatus, .getmwl, .getmrl, .enthdr, .rstdaa, .enec 9, .disec 9, .cccUnsupported true, .entdaa 8, .setdasa s.cfg.saddr 8, .setnewda 8, .setmwl 8, .setmrl 8]) :=
  ⟨⟨up.set R.I3C_STAT_DAV 0 1, by decide +kernel⟩,
   ⟨up, 9, (.setdasa 0x52 9), by decide +kernel⟩,
   ⟨up, by decide +kernel⟩,
   ⟨up.set R.PWR_STAT_DEV 0 4, .rstdaa, by decide +kernel⟩⟩

theorem witness_I3cTransfersActForTheBoundGallery :
    (∃ (s : State), s.i3cAway = false ∧ s.get R.I3C_STAT_DAV = 1 ∧ s.dev.released = true ∧ s.bound = none ∧ 5 ≤ s.i3c.mrl ∧ s.i3c.pre = none ∧ s.i3c.pend = false) ∧
    (∃ (s : State) (u : State) (g : Nat) (a : Nat) (c : RspCode), s.i3cAway = false ∧ s.get R.I3C_STAT_DAV = 1 ∧ s.dev.released = true ∧ s.bound = some g ∧ (tabAt s.fence g : FenceS).held = [] ∧ a < 2 ^ 20 ∧ a ≠ 0x304C ∧ a ≠ 0x3070 ∧ u = (({ s with i3c := { s.i3c with nack := false, resp := [], todo := 0, hdr := false, raddr := a, hdrNo := s.i3c.hdrNo + 1, pre := none, pend := false } } : State).incWrap R.I3C_STAT_XFERS).set R.I3C_STAT_LEGACY 0 0 ∧ u.check g false a 0 = c) ∧
    (∃ (s : State), s.i3cAway = false ∧ s.get R.I3C_STAT_DAV = 1 ∧ s.dev.released = true ∧ s.bound = none) ∧
    (∃ (s : State) (u : State) (v : State) (g : Gal) (a : Nat) (b0 : Byte) (b1 : Byte) (b2 : Byte) (b3 : Byte), s.i3cAway = false ∧ s.get R.I3C_STAT_DAV = 1 ∧ s.dev.released = true ∧ s.bound = some g.val ∧ 256 ≤ s.i3c.mwl ∧ a < 2 ^ 20 ∧ s.rsps = [] ∧ (tabAt s.fence g).waiting = false ∧ fences a (BitVec.ofNat 32 (ofLe [b0, b1, b2, b3])) = false ∧ u = (({ s with i3c := { s.i3c with nack := false, resp := [], todo := 0, hdr := false } } : State).incWrap R.I3C_STAT_XFERS).set R.I3C_STAT_LEGACY 0 0 ∧ exec (.regWrite g a (BitVec.ofNat 32 (ofLe [b0, b1, b2, b3]))) u = .next v) ∧
    (∃ (s : State) (leg : Bool) (g : Gal) (a : Nat) (w : Word) (b0 : Byte) (b1 : Byte) (b2 : Byte) (b3 : Byte) (r : RegDef), s.i3cAway = false ∧ (leg = true ∨ s.get R.I3C_STAT_DAV = 1) ∧ s.dev.released = true ∧ s.bound = some g.val ∧ 7 ≤ s.i3c.mwl ∧ a < 2 ^ 20 ∧ a / 0x1000 ∈ [0x00, 0x09, 0x15, 0x16, 0x17] ∧ 0x40 ≤ a % 0x1000 ∧ a % 0x1000 < 0x800 ∧ findReg a = some r ∧ w = BitVec.ofNat 32 (ofLe [b0, b1, b2, b3]) ∧ s.passes g a w) ∧
    (∃ (s : State), (s.i3cAway = true ∨ s.get R.I3C_STAT_DAV = 0)) ∧
    (∃ (s : State), s.dev.cold = false ∧ s.devSt = devSleep ∧ s.dev.entry = 0 ∧ s.get R.I3C_STAT_DAV = 1) ∧
    (∃ (s : State), s.dev.released = true ∧ s.i3cAway = false ∧ s.get R.I3C_STAT_DAV = 0 ∧ s.get R.I3C_CTL_HJ_EN = 1 ∧ s.get R.I3C_STAT_ENHJ = 1) ∧
    (∃ (s : State) (g : Nat), s.i3c.ibi = true ∧ s.get R.I3C_STAT_DAV = 1 ∧ s.bound = some g) :=
  ⟨⟨up.set R.I3C_STAT_DAV 0 1, by decide +kernel⟩,
   ⟨up.sets [(R.I3C_STAT_DAV, 0, 1), (R.I3C_CTL_BIND_EN, 0, 1)], (({ (up.sets [(R.I3C_STAT_DAV, 0, 1), (R.I3C_CTL_BIND_EN, 0, 1)]) with i3c := { up.i3c with raddr := 0x74, hdrNo := 1 } } : State).incWrap R.I3C_STAT_XFERS).set R.I3C_STAT_LEGACY 0 0, 0, 0x74, .ok, by decide +kernel⟩,
   ⟨up.set R.I3C_STAT_DAV 0 1, by decide +kernel⟩,
   ⟨up.sets [(R.I3C_STAT_DAV, 0, 1), (R.I3C_CTL_BIND_EN, 0, 1)], ((up.sets [(R.I3C_STAT_DAV, 0, 1), (R.I3C_CTL_BIND_EN, 0, 1)]).incWrap R.I3C_STAT_XFERS).set R.I3C_STAT_LEGACY 0 0, nextOf (exec (.regWrite 0 0x74 0x04030201) (((up.sets [(R.I3C_STAT_DAV, 0, 1), (R.I3C_CTL_BIND_EN, 0, 1)]).incWrap R.I3C_STAT_XFERS).set R.I3C_STAT_LEGACY 0 0)), 0, 0x74, 1, 2, 3, 4, by and_intros <;> first | decide +kernel | exact rfl⟩,
   ⟨(up.sets [(R.I3C_STAT_DAV, 0, 1), (R.I3C_CTL_BIND_EN, 0, 1)]).wI3c fun x => { x with mwl := 8 }, default, 0, 0x74, 0x04030201, 1, 2, 3, 4, ⟨0x74, [R.SYS_SCR_SCR]⟩, by decide +kernel⟩,
   ⟨up, by decide +kernel⟩,
   ⟨up.sets [(R.PWR_STAT_DEV, 0, 4), (R.I3C_STAT_DAV, 0, 1)], by decide +kernel⟩,
   ⟨up.sets [(R.I3C_CTL_HJ_EN, 0, 1), (R.I3C_STAT_ENHJ, 0, 1)], by decide +kernel⟩,
   ⟨(up.sets [(R.I3C_STAT_DAV, 0, 1), (R.I3C_CTL_BIND_EN, 0, 1)]).wI3c fun x => { x with ibi := true }, 0, by decide +kernel⟩⟩

theorem witness_FlashIsDiscoveredAndRead :
    (∃ (s : State) (b : List Byte), s.flashReads = true ∧ s.dev.sfdp = false ∧ (sfdpOf b).signature = true ∧ (sfdpOf b).erase4k.isSome = true ∧ 0x800000 ≤ (sfdpOf b).density) ∧
    (∃ (s : State) (b : List Byte), s.flashReads = true ∧ s.dev.sfdp = false ∧ ((sfdpOf b).signature = false ∨ (sfdpOf b).erase4k = none ∨ (sfdpOf b).density < 0x800000)) ∧
    (∃ (s : State), (s.flashReads = false ∨ s.dev.sfdp = true)) ∧
    (∃ (s : State), (s.flashReads = false ∨ s.dev.sfdp = false ∨ s.dev.calDone = true)) ∧
    (∃ (s : State), s.flashReads = true ∧ s.dev.sfdp = true ∧ s.dev.calDone = false ∧ s.dev.flashUsable = false) ∧
    (∃ (s : State), s.flashReads = true ∧ s.dev.sfdp = true ∧ s.dev.calDone = false ∧ s.dev.flashUsable = true ∧ calState s.flash (s.fuse.getD default).dieId ≠ 1) ∧
    (∃ (s : State), s.flashReads = true ∧ s.dev.sfdp = true ∧ s.dev.calDone = false ∧ s.dev.flashUsable = true ∧ calState s.flash (s.fuse.getD default).dieId = 1) :=
  ⟨⟨up.wDev fun d => { d with sfdp := false }, sfdpUp 0x3FFFFFF, by decide +kernel⟩,
   ⟨up.wDev fun d => { d with sfdp := false }, sfdpUp 0x3FFFFF, by decide +kernel⟩,
   ⟨up, by decide +kernel⟩,
   ⟨up, by decide +kernel⟩,
   ⟨up.wDev fun d => { d with calDone := false, flashUsable := false }, by decide +kernel⟩,
   ⟨up.wDev fun d => { d with calDone := false }, by decide +kernel⟩,
   ⟨{ (up.wDev fun d => { d with calDone := false }) with flash := calSet }, by decide +kernel, by decide +kernel, by decide +kernel, by decide +kernel, calSet_ok⟩⟩

theorem witness_ControlImageIsSelected :
    (∃ (s : State) (errA : Nat) (errB : Nat), s.flashReads = true ∧ s.dev.calDone = true ∧ s.dev.imgDone = false ∧ s.sec.wHeld = none ∧ (∀ k ∈ s.slotsTried errA errB, s.rejects (s.slotOf errA errB k) ≠ 0)) ∧
    (∃ (s : State) (errA : Nat) (errB : Nat) (k : Nat) (l : List Nat) (r : List Nat), s.flashReads = true ∧ s.dev.calDone = true ∧ s.dev.imgDone = false ∧ s.sec.wHeld = none ∧ s.slotsTried errA errB = l ++ k :: r ∧ (∀ j ∈ l, s.rejects (s.slotOf errA errB j) ≠ 0) ∧ s.rejects (s.slotOf errA errB k) = 0 ∧ (s.slotOf errA errB k).img.wlist = []) ∧
    (∃ (s : State) (errA : Nat) (errB : Nat) (k : Nat) (l : List Nat) (r : List Nat), s.flashReads = true ∧ s.dev.calDone = true ∧ s.dev.imgDone = false ∧ s.sec.wHeld = none ∧ s.slotsTried errA errB = l ++ k :: r ∧ (∀ j ∈ l, s.rejects (s.slotOf errA errB j) ≠ 0) ∧ s.rejects (s.slotOf errA errB k) = 0) ∧
    (∃ (a : Nat) (r : RegDef) (F : _), a / 0x1000 ∈ [0x00, 0x09, 0x15, 0x16, 0x17] ∧ 0x40 ≤ a % 0x1000 ∧ a % 0x1000 < 0x800 ∧ a % 4 = 0 ∧ findReg a = some r ∧ F ∈ r.flds ∧ (F.acc = .rw ∨ F.acc = .rws ∨ (F.acc = .rwp ∧ F.reach = .setting)) ∧ F.rng = none) ∧
    (∃ (a : Nat) (w : Nat) (r : RegDef) (F : _) (lo : Int) (hi : Int) (v : Int), a / 0x1000 ∈ [0x00, 0x09, 0x15, 0x16, 0x17] ∧ 0x40 ≤ a % 0x1000 ∧ a % 0x1000 < 0x800 ∧ a % 4 = 0 ∧ findReg a = some r ∧ F ∈ r.flds ∧ (F.acc = .rw ∨ F.acc = .rws ∨ (F.acc = .rwp ∧ F.reach = .setting)) ∧ F.sgn = false ∧ F.rng = some (lo, hi) ∧ v = (bitsOf (BitVec.ofNat 32 w) F.lo F.w : Int) ∧ (v < lo ∨ hi < v)) ∧
    (∃ (a : Nat) (w : Nat) (r : RegDef) (F : _) (lo : Int) (hi : Int) (v : Int), a / 0x1000 ∈ [0x00, 0x09, 0x15, 0x16, 0x17] ∧ 0x40 ≤ a % 0x1000 ∧ a % 0x1000 < 0x800 ∧ a % 4 = 0 ∧ findReg a = some r ∧ F ∈ r.flds ∧ (F.acc = .rw ∨ F.acc = .rws ∨ (F.acc = .rwp ∧ F.reach = .setting)) ∧ F.sgn = false ∧ F.rng = some (lo, hi) ∧ v = (bitsOf (BitVec.ofNat 32 w) F.lo F.w : Int)) ∧
    (∃ (s : State) (errA : Nat) (errB : Nat) (dg : List Byte) (w : WeightsImg), s.flashReads = true ∧ s.dev.calDone = true ∧ s.dev.imgDone = false ∧ s.sec.wHeld = some (dg, w) ∧ (∀ k ∈ s.slotsTried errA errB, s.rejects (s.slotOf errA errB k) ≠ 0)) ∧
    (∃ (s : State) (errA : Nat) (errB : Nat) (dg : List Byte) (w : WeightsImg) (k : Nat) (l : List Nat) (r : List Nat) (i : Image), s.flashReads = true ∧ s.dev.calDone = true ∧ s.dev.imgDone = false ∧ s.sec.wHeld = some (dg, w) ∧ s.slotsTried errA errB = l ++ k :: r ∧ (∀ j ∈ l, s.rejects (s.slotOf errA errB j) ≠ 0) ∧ s.rejects (s.slotOf errA errB k) = 0 ∧ i = (s.slotOf errA errB k).img ∧ i.wlist = [] ∧ (w.pair = 0 ∨ w.pair ≠ i.pair % 2 ^ 32 ∨ i.fcdecl = false)) ∧
    (∃ (s : State) (errA : Nat) (errB : Nat) (dg : List Byte) (w : WeightsImg) (k : Nat) (l : List Nat) (r : List Nat) (i : Image), s.flashReads = true ∧ s.dev.calDone = true ∧ s.dev.imgDone = false ∧ s.sec.wHeld = some (dg, w) ∧ s.slotsTried errA errB = l ++ k :: r ∧ (∀ j ∈ l, s.rejects (s.slotOf errA errB j) ≠ 0) ∧ s.rejects (s.slotOf errA errB k) = 0 ∧ i = (s.slotOf errA errB k).img ∧ i.wlist = [] ∧ w.pair ≠ 0 ∧ w.pair = i.pair % 2 ^ 32 ∧ i.fcdecl = true ∧ w.fmtMaj = 1 ∧ w.ndist = s.cfg.n ∧ w.fin = i.fin ∧ w.fh = i.fh ∧ w.fo = i.fo ∧ i.fin < 512 ∧ i.fh < 128 ∧ i.fo < 32 ∧ w.len = weightsLen s.cfg.n i.fin i.fh i.fo ∧ w.sets.length = s.cfg.n ∧ (w.sets.all fun x => weightsFit x i.fin i.fh i.fo) = true) ∧
    (∃ (s : State), s.flashReads = true ∧ s.dev.calDone = true ∧ s.dev.imgDone = false) ∧
    (∃ (s : State), (s.flashReads = false ∨ s.dev.calDone = false ∨ s.dev.imgDone = true)) :=
  ⟨⟨up.wDev fun d => { d with imgDone := false, nextSel := 1 }, 2, 0, by decide +kernel⟩,
   ⟨slotUp, 0, 0, 0, [], [], by and_intros <;> first | decide +kernel | exact slotUp_passes⟩,
   ⟨slotUp, 0, 0, 0, [], [], by and_intros <;> first | decide +kernel | exact slotUp_passes⟩,
   ⟨0x74, ⟨0x74, [R.SYS_SCR_SCR]⟩, R.SYS_SCR_SCR, by decide +kernel⟩,
   ⟨0x17040, 0, (findReg 0x17040).getD ⟨0, []⟩, R.ANV_CFG_FLOOR, 20, 100, 0, by decide +kernel⟩,
   ⟨0x17040, 0, (findReg 0x17040).getD ⟨0, []⟩, R.ANV_CFG_FLOOR, 20, 100, 0, by decide +kernel⟩,
   ⟨(up.wDev fun d => { d with imgDone := false, nextSel := 1 }).wSec fun x => { x with wHeld := some ([], default) }, 2, 0, [], default, by decide +kernel⟩,
   ⟨slotUp.wSec fun x => { x with wHeld := some ([], default) }, 0, 0, [], default, 0, [], [], (slotUp.slotOf 0 0 0).img, by decide +kernel, by decide +kernel, by decide +kernel, by decide +kernel, by decide +kernel, by decide +kernel, (rejects_wSec _ _ _ _ _).trans slotUp_passes, congrArg SlotRead.img (slotOf_wSec _ _ _ _ _).symm, by decide +kernel, by decide +kernel⟩,
   ⟨slotUp.wSec fun x => { x with wHeld := some ([], { (default : WeightsImg) with fmtMaj := 1, pair := 7, len := 64 }) }, 0, 0, [], { (default : WeightsImg) with fmtMaj := 1, pair := 7, len := 64 }, 0, [], [], (slotUp.slotOf 0 0 0).img, by decide +kernel, by decide +kernel, by decide +kernel, by decide +kernel, by decide +kernel, by decide +kernel, (rejects_wSec _ _ _ _ _).trans slotUp_passes, congrArg SlotRead.img (slotOf_wSec _ _ _ _ _).symm, by decide +kernel, by decide +kernel, by decide +kernel, by decide +kernel, by decide +kernel, by decide +kernel, by decide +kernel, by decide +kernel, by decide +kernel, by decide +kernel, by decide +kernel, by decide +kernel, by decide +kernel, by decide +kernel, by decide +kernel⟩,
   ⟨up.wDev fun d => { d with imgDone := false, flashUsable := false }, by decide +kernel⟩,
   ⟨up, by decide +kernel⟩⟩

theorem witness_CalibrationIsCommittedFromStaging :
    (∃ (s : State) (g : Gal), s.passes g R.CAL_CMD_CLEAR.base 0x40000000 ∧ s.cal.commit = false) ∧
    (∃ (s : State) (g : Gal) (w : Word) (m : List Host.Cell), s.passes g R.CAL_WDAT_DATA.base w ∧ s.cal.stag = some m ∧ s.cal.commit = false) ∧
    (∃ (s : State) (g : Gal), s.passes g R.CAL_CMD_COMMIT.base 0x8000005A ∧ s.devSt ≠ devRun ∧ s.devSt ≠ devQuiet) ∧
    (∃ (s : State) (g : Gal) (m : List Host.Cell), s.passes g R.CAL_CMD_COMMIT.base 0x8000005A ∧ (s.devSt = devRun ∨ s.devSt = devQuiet) ∧ s.dev.pgm = none ∧ s.cal.commit = false ∧ s.dev.flashUsable = true ∧ s.cal.stag = some m ∧ calState m (s.fuse.getD default).dieId ≠ 1) ∧
    (∃ (s : State) (g : Gal) (m : List Host.Cell), s.passes g R.CAL_CMD_COMMIT.base 0x8000005A ∧ (s.devSt = devRun ∨ s.devSt = devQuiet) ∧ s.dev.pgm = none ∧ s.cal.commit = false ∧ s.dev.flashUsable = true ∧ s.cal.stag = some m ∧ calState m (s.fuse.getD default).dieId = 1) ∧
    (∃ (s : State) (m : List Host.Cell), s.cal.commit = true ∧ s.cal.stag = some m ∧ s.canonical = true) ∧
    (∃ (s : State), s.cal.commit = true) ∧
    (∃ (s : State) (g : Gal), s.rowPasses g R.PWR_CTL_WRST 0 1 ∧ s.dev.powered = true ∧ s.cal.commit = true ∧ s.dev.pgm = none) :=
  ⟨⟨up, 0, by decide +kernel⟩,
   ⟨up.wCal fun c => { c with stag := some [] }, 0, 0, [], by decide +kernel⟩,
   ⟨up.set R.PWR_STAT_DEV 0 3, 0, by decide +kernel⟩,
   ⟨up.wCal fun c => { c with stag := some [] }, 0, [], by decide +kernel⟩,
   ⟨up.wCal fun c => { c with stag := some calSet }, 0, calSet, by decide +kernel, by decide +kernel, by decide +kernel, by decide +kernel, by decide +kernel, rfl, calSet_ok⟩,
   ⟨up.wCal fun c => { c with stag := some [(1, 3)], commit := true }, [(1, 3)], by decide +kernel⟩,
   ⟨up.wCal fun c => { c with commit := true }, by decide +kernel⟩,
   ⟨up.wCal fun c => { c with commit := true }, 0, by decide +kernel⟩⟩

theorem witness_SlotsAreProgrammedPageByPage :
    (∃ (s : State) (g : Gal) (w : Word), s.passes g R.IMG_PDAT_DATA.base w ∧ s.pageBuf.length + 4 ≤ 256) ∧
    (∃ (s : State) (g : Gal), s.passes g R.IMG_PCMD_CMD.base 0xC0000000) ∧
    (∃ (s : State) (g : Gal) (k : Nat) (c : Instr), (k = 1 ∧ c = .imgErase g) ∨ (k = 2 ∧ c = .imgProgram g) ∧ s.passes g R.IMG_PCMD_CMD.base (BitVec.ofNat 32 (k * 2 ^ 30)) ∧ s.get R.IMG_STAT_SRC = s.get R.IMG_PADR_SLOT + 1) ∧
    (∃ (s : State) (g : Gal) (k : Nat) (c : Instr), (k = 1 ∧ c = .imgErase g) ∨ (k = 2 ∧ c = .imgProgram g) ∧ s.passes g R.IMG_PCMD_CMD.base (BitVec.ofNat 32 (k * 2 ^ 30)) ∧ s.get R.IMG_STAT_SRC ≠ s.get R.IMG_PADR_SLOT + 1 ∧ (s.dev.flashUsable = false ∨ s.cal.commit = true)) ∧
    (∃ (s : State) (g : Gal) (k : Nat) (c : Instr), (k = 1 ∧ c = .imgErase g) ∨ (k = 2 ∧ c = .imgProgram g) ∧ s.passes g R.IMG_PCMD_CMD.base (BitVec.ofNat 32 (k * 2 ^ 30)) ∧ s.get R.IMG_STAT_SRC ≠ s.get R.IMG_PADR_SLOT + 1 ∧ (s.devSt = devRun ∨ s.devSt = devQuiet) ∧ s.dev.flashUsable = true ∧ s.cal.commit = false ∧ s.dev.pgm = none ∧ (s.get R.IMG_PADR_OFS % (if k = 1 then 0x1000 else 0x100) ≠ 0 ∨ s.slotSize ≤ s.get R.IMG_PADR_OFS)) ∧
    (∃ (s : State) (g : Gal) (k : Nat) (c : Instr), (k = 1 ∧ c = .imgErase g) ∨ (k = 2 ∧ c = .imgProgram g) ∧ s.passes g R.IMG_PCMD_CMD.base (BitVec.ofNat 32 (k * 2 ^ 30)) ∧ s.get R.IMG_STAT_SRC ≠ s.get R.IMG_PADR_SLOT + 1 ∧ (s.devSt = devRun ∨ s.devSt = devQuiet) ∧ s.dev.flashUsable = true ∧ s.cal.commit = false ∧ s.dev.pgm = none ∧ s.get R.IMG_PADR_OFS % (if k = 1 then 0x1000 else 0x100) = 0 ∧ s.get R.IMG_PADR_OFS < s.slotSize) ∧
    (∃ (s : State) (a : Nat), s.dev.pgm = some (1, a)) ∧
    (∃ (s : State) (a : Nat), s.dev.pgm = some (2, a) ∧ s.canonical = true) :=
  ⟨⟨up, 0, 0, by decide +kernel⟩,
   ⟨up, 0, by decide +kernel⟩,
   ⟨up, 0, 1, .imgErase 0, by decide +kernel⟩,
   ⟨(up.wDev fun d => { d with flashUsable := false }).set R.IMG_PADR_SLOT 0 1, 0, 2, .imgProgram 0, by decide +kernel⟩,
   ⟨(up.set R.IMG_PADR_SLOT 0 1).set R.IMG_PADR_OFS 0 0x100, 0, 1, .imgErase 0, by decide +kernel⟩,
   ⟨(up.set R.IMG_PADR_SLOT 0 1).set R.IMG_PADR_OFS 0 0x100, 0, 2, .imgProgram 0, by decide +kernel⟩,
   ⟨up.wDev fun d => { d with pgm := some (1, 0x20000) }, 0x20000, by decide +kernel⟩,
   ⟨up.wDev fun d => { d with pgm := some (2, 0x20000) }, 0x20000, by decide +kernel⟩⟩

theorem witness_ArchiveRecordsInOrder :
    (∃ (s : State) (r : Rec) (l : List Rec), s.arc.staged = r :: l ∧ s.arc.tornDue = false ∧ s.get R.ARC_STAT_MODE = 1 ∧ s.get R.ARC_WPOS_OFS + r.len ≤ arcSize - 16 ∧ s.arc.dropCnt = 0 ∧ s.canonical = true) ∧
    (∃ (s : State) (r : Rec) (l : List Rec), s.arc.staged = r :: l ∧ s.arc.tornDue = false ∧ s.get R.ARC_STAT_MODE = 1 ∧ arcSize - 16 < s.get R.ARC_WPOS_OFS + r.len ∧ s.canonical = true) ∧
    (∃ (s : State) (r : Rec) (l : List Rec), s.arc.staged = r :: l ∧ s.arc.tornDue = false ∧ s.get R.ARC_STAT_MODE = 2 ∧ s.arc.dropCnt = 0) ∧
    (∃ (s : State), s.dev.flashUsable = true ∧ s.dev.imgDone = true ∧ s.get R.ARC_STAT_MODE = 0 ∧ ((memRead s.flash s.arcAt 16).all fun b => b == 0xFF#8) = true) ∧
    (∃ (s : State) (g : Gal), s.passes g R.ARC_CMD_ERASE.base 0x8000005A ∧ (s.devSt = devRun ∨ s.devSt = devQuiet) ∧ (s.get R.ARC_STAT_MODE = 1 ∨ s.get R.ARC_STAT_MODE = 2)) ∧
    (∃ (s : State) (g : Gal), s.passes g R.ARC_CMD_ERASE.base 0x8000005A ∧ (s.devSt ≠ devRun ∧ s.devSt ≠ devQuiet) ∨ (s.get R.ARC_STAT_MODE ≠ 1 ∧ s.get R.ARC_STAT_MODE ≠ 2)) ∧
    (∃ (s : State), s.get R.ARC_STAT_MODE = 4 ∧ s.canonical = true) ∧
    (∃ (s : State) (g : Gal) (w : Word), s.passes g R.ARC_RADR_SRC.base w ∧ bitsOf w 31 1 = 0) :=
  ⟨⟨(up.wArc fun a => { a with staged := [recUp] }).set R.ARC_STAT_MODE 0 1, recUp, [], by decide +kernel⟩,
   ⟨(up.wArc fun a => { a with staged := [recUp] }).sets [(R.ARC_STAT_MODE, 0, 1), (R.ARC_WPOS_OFS, 0, 0x3FFFF0)], recUp, [], by decide +kernel⟩,
   ⟨(up.wArc fun a => { a with staged := [recUp] }).set R.ARC_STAT_MODE 0 2, recUp, [], by decide +kernel⟩,
   ⟨up.set R.ARC_STAT_MODE 0 0, by decide +kernel⟩,
   ⟨up.set R.ARC_STAT_MODE 0 1, 0, by decide +kernel⟩,
   ⟨up, 0, by decide +kernel⟩,
   ⟨up.set R.ARC_STAT_MODE 0 4, by decide +kernel⟩,
   ⟨up, 0, 0, by decide +kernel⟩⟩

theorem witness_ExhibitsCopyOnOneEdge :
    (∃ (s : State) (g : Gal), s.rowPasses g R.EXH_CTL_TRIG 0 1) ∧
    (∃ (s : State), s.get R.EXH_CTL_PIN_EN = 1 ∧ s.dev.released = true) ∧
    (∃ (s : State), s.get R.EXH_CTL_PIN_EN = 0) ∧
    (∃ (s : State), s.exh.trig = 0) ∧
    (∃ (s : State), s.exh.trig ≠ 0 ∧ s.dev.released = true ∧ s.get R.EXH_STAT_HELD = 1) ∧
    (∃ (s : State), s.exh.trig ≠ 0 ∧ s.exh.trig < 16 ∧ s.dev.released = true ∧ s.get R.EXH_STAT_HELD = 0) ∧
    (∃ (s : State) (g : Gal), s.rowPasses g R.EXH_CTL_REARM 0 1) :=
  ⟨⟨up, 0, by decide +kernel⟩,
   ⟨up.set R.EXH_CTL_PIN_EN 0 1, by decide +kernel⟩,
   ⟨up.set R.EXH_CTL_PIN_EN 0 0, by decide +kernel⟩,
   ⟨up, by decide +kernel⟩,
   ⟨(up.wExh fun x => { x with trig := 1 }).set R.EXH_STAT_HELD 0 1, by decide +kernel⟩,
   ⟨up.wExh fun x => { x with trig := 3 }, by decide +kernel⟩,
   ⟨up, 0, by decide +kernel⟩⟩

theorem witness_SecretsEndWithTheirEvents :
    (∃ (s : State), s.sec.idReady = true ∧ s.spdmMsg.length = 4 ∧ byteAt s.spdmMsg 1 = rqVersion) ∧
    (∃ (s : State), s.atHand = .broken) ∧
    (∃ (s : State) (g : Gal), s.passes g R.SEC_MBCTL_REL.base 0x40000000 ∧ s.ownsMb g = true) ∧
    (∃ (s : State), s.passes 0 R.SEC_MBCTL_FREL.base 0x10000000 ∧ s.get R.SEC_MBSTAT_OWNED = 1) ∧
    (∃ (s : State), s.get R.SEC_MBSTAT_OWNED = 1 ∧ s.get R.SEC_MBSTAT_BUSY = 0) ∧
    (∃ (s : State), (s.get R.SEC_MBSTAT_OWNED = 0 ∨ s.get R.SEC_MBSTAT_BUSY = 1)) ∧
    (∃ (s : State) (g : Gal), s.rowPasses g R.SEC_DBG_INV_REQ 0 1 ∧ (g = 0 ∨ g = s.get R.SEC_DBG_OPGAL)) ∧
    (∃ (s : State), s.tapOn = true) ∧
    (∃ (s : State) (g : Gal), s.rowPasses g R.PWR_CTL_WRST 0 1 ∧ s.dev.powered = true) ∧
    (∃ (s : State), s.dev.entry = 2 ∧ s.dev.sleepStep = 2 ∧ s.age.due = false ∧ s.flushed = true) ∧
    (∃ (s : State), s.dev.entry = 2 ∧ s.dev.sleepStep = 0 ∧ s.ledgersEmpty = true) ∧
    (∃ (s : State) (r : Report), s.dev.released = true ∧ s.flt.lines = [r] ∧ s.reactNow r = 3 ∧ s.repeats r = false) ∧
    (∃ (s : State) (src : Nat) (cls : Nat), 2 ≤ cls ∧ cls < 0x17 ∧ src < 65536 ∧ reactOf cls = 3 ∧ s.lineChecked src = true ∧ (src, cls) ∉ s.flt.masked) ∧
    (∃ (s : State), s.get R.FLT_INJ_ARM = 1 ∧ s.dev.released = true ∧ reactOf (s.get R.FLT_INJ_CLASS) = 3 ∧ s.stands (s.get R.FLT_INJ_CLASS) = false) ∧
    (∃ (s : State) (k : Bool) (r : List Byte), s.sec.done = some (k, r) ∧ s.sec.zeroPend = true) :=
  ⟨⟨mbUp [0x10, 0x84, 0, 0], by decide +kernel⟩,
   ⟨brokenUp, by decide +kernel⟩,
   ⟨mbUp [], 0, by decide +kernel⟩,
   ⟨mbUp [], by decide +kernel⟩,
   ⟨mbUp [], by decide +kernel⟩,
   ⟨up, by decide +kernel⟩,
   ⟨up, 0, by decide +kernel⟩,
   ⟨up.wDev fun d => { d with tapOut := true }, by decide +kernel⟩,
   ⟨up, 0, by decide +kernel⟩,
   ⟨up.wDev fun d => { d with entry := 2, sleepStep := 2 }, by decide +kernel⟩,
   ⟨up.wDev fun d => { d with entry := 2, sleepStep := 0 }, by decide +kernel⟩,
   ⟨up.wFlt fun f => { f with lines := [{ cls := clsSafestop, cause := 0, src := 0x6000 }] }, { cls := clsSafestop, cause := 0, src := 0x6000 }, by decide +kernel⟩,
   ⟨up, 0x6000, clsSafestop, by decide +kernel⟩,
   ⟨up.sets [(R.FLT_INJ_ARM, 0, 1), (R.FLT_INJ_CLASS, 0, clsSafestop)], by decide +kernel⟩,
   ⟨up.wSec fun x => { x with done := some (false, []), zeroPend := true }, false, [], by decide +kernel⟩⟩

theorem witness_OneGalleryHoldsTheMailbox :
    (∃ (s : State) (g : Gal), s.passes g R.SEC_MBCTL_CLAIM.base 0x80000000 ∧ s.get R.SEC_MBSTAT_OWNED = 0) ∧
    (∃ (s : State) (g : Gal) (c : Instr) (w : Word), (c = .claim g ∧ w = 0x80000000) ∨ (c = .rel g ∧ w = 0x40000000) ∧ s.passes g R.SEC_MBCTL_CLAIM.base w ∧ s.get R.SEC_MBSTAT_OWNED = 1 ∧ s.get R.SEC_MBSTAT_OWNER ≠ g) ∧
    (∃ (s : State) (g : Gal) (w : Word), s.passes g R.SEC_MBDAT_DATA.base w ∧ s.ownsMb g = true ∧ s.get R.SEC_MBADR_OFS + 4 ≤ 4096) ∧
    (∃ (s : State) (g : Gal) (sec : Bool) (n : Nat), 0 < n ∧ n ≤ 4096 ∧ s.passes g R.SEC_MBCTL_SEND.base (BitVec.ofNat 32 (0x20000000 + (if sec then 0x01000000 else 0) + n)) ∧ s.ownsMb g = true ∧ s.get R.SEC_MBSTAT_BUSY = 0) ∧
    (∃ (s : State) (g : Gal) (sec : Bool) (n : Nat), n < 0x2000 ∧ s.passes g R.SEC_MBCTL_SEND.base (BitVec.ofNat 32 (0x20000000 + (if sec then 0x01000000 else 0) + n)) ∧ s.ownsMb g = true ∧ s.get R.SEC_MBSTAT_BUSY = 1) ∧
    (∃ (s : State) (k : Bool) (r : List Byte), s.sec.done = some (k, r) ∧ s.sec.zeroPend = false) ∧
    (∃ (s : State) (g : Gal), g ≠ 0 ∧ s.dev.released = true ∧ (tabAt s.fence g).waiting = false) ∧
    (∃ (s : State), s.dev.released = true) :=
  ⟨⟨up, 0, by decide +kernel⟩,
   ⟨(mbUp []).set R.GAL_ACC0_MASK 1 0xFFFFFFFF, 1, .rel 1, 0x40000000, by decide +kernel⟩,
   ⟨mbUp [], 0, 0, by decide +kernel⟩,
   ⟨(mbUp []), 0, true, 4, by decide +kernel⟩,
   ⟨(mbUp []).set R.SEC_MBSTAT_BUSY 0 1, 0, false, 4097, by decide +kernel⟩,
   ⟨up.wSec fun x => { x with done := some (true, [1]) }, true, [1], by decide +kernel⟩,
   ⟨up, 3, by decide +kernel⟩,
   ⟨up, by decide +kernel⟩⟩

theorem witness_SpdmRequestsAreAnsweredInTheirPlace :
    (∃ (s : State) (c : Instr) (code : Nat) (m : List Byte), (c, code) ∈ [(Instr.getVersion, rqVersion), (.getCapabilities, rqCaps), (.negotiateAlgorithms, rqAlgs), (.getDigests, rqDigests), (.getCertificate, rqCert), (.challenge, rqChallenge), (.getMeasurements, rqMeas), (.keyExchange, rqKeyEx), (.finish, rqFinish), (.endSession, rqEnd)] ∧ 2 ≤ m.length ∧ byteAt m 1 = code ∧ s.atHand = .clear m) ∧
    (∃ (s : State) (c : Instr) (code : Nat) (m : List Byte) (x : _), (c, code) ∈ [(Instr.getVersion, rqVersion), (.getCapabilities, rqCaps), (.negotiateAlgorithms, rqAlgs), (.getDigests, rqDigests), (.getCertificate, rqCert), (.challenge, rqChallenge), (.getMeasurements, rqMeas), (.keyExchange, rqKeyEx), (.finish, rqFinish), (.endSession, rqEnd)] ∧ 2 ≤ m.length ∧ byteAt m 1 = code ∧ s.atHand = .data x (0x01#8 :: m)) ∧
    (∃ (s : State) (c : Instr) (code : Nat), (c, code) ∈ [(Instr.getVersion, rqVersion), (.getCapabilities, rqCaps), (.negotiateAlgorithms, rqAlgs), (.getDigests, rqDigests), (.getCertificate, rqCert), (.challenge, rqChallenge), (.getMeasurements, rqMeas), (.keyExchange, rqKeyEx), (.finish, rqFinish), (.endSession, rqEnd)] ∧ byteAt s.spdmMsg 1 ≠ code) ∧
    (∃ (s : State), s.atHand = .lost) ∧
    (∃ (s : State) (m : List Byte), s.sec.idReady = true ∧ s.atHand = .clear m ∧ 2 ≤ m.length ∧ byteAt m 1 = rqVersion ∧ m.length = 4) ∧
    (∃ (s : State) (m : List Byte), s.sec.idReady = true ∧ s.atHand = .clear m ∧ 2 ≤ m.length ∧ byteAt m 0 = 0x12 ∧ byteAt m 1 = rqCaps ∧ s.get R.SEC_SESS_CONN = 1 ∧ m.length = 20 ∧ 42 ≤ numAt m 12 4 ∧ numAt m 12 4 ≤ numAt m 16 4) ∧
    (∃ (s : State) (m : List Byte), s.sec.idReady = true ∧ s.atHand = .clear m ∧ 2 ≤ m.length ∧ byteAt m 0 = 0x12 ∧ byteAt m 1 = rqCaps ∧ s.get R.SEC_SESS_CONN ≠ 1) ∧
    (∃ (s : State) (m : List Byte) (l : _), s.sec.idReady = true ∧ s.atHand = .clear m ∧ 2 ≤ m.length ∧ byteAt m 0 = 0x12 ∧ byteAt m 1 = rqAlgs ∧ s.get R.SEC_SESS_CONN = 2 ∧ 32 ≤ m.length ∧ numAt m 4 2 = m.length ∧ algStructs m (byteAt m 2) (32 + 4 * (byteAt m 28 + byteAt m 29)) = some l ∧ (byteAt m 6).testBit 0 = true ∧ byteAt m 7 &&& 2 ≠ 0 ∧ (numAt m 8 4).testBit 7 = true ∧ (numAt m 12 4).testBit 1 = true ∧ offers l 2 = true ∧ offers l 3 = true ∧ offers l 5 = true) ∧
    (∃ (s : State) (m : List Byte), s.sec.idReady = true ∧ s.atHand = .clear m ∧ 2 ≤ m.length ∧ byteAt m 0 = 0x12 ∧ byteAt m 1 = rqDigests ∧ s.negDone = true ∧ m.length = 4 ∧ s.sec.snapChain ≠ []) ∧
    (∃ (s : State) (m : List Byte), s.sec.idReady = true ∧ s.atHand = .clear m ∧ 2 ≤ m.length ∧ byteAt m 0 = 0x12 ∧ byteAt m 1 = rqCert ∧ s.negDone = true ∧ m.length = 8 ∧ byteAt m 2 % 16 = 0 ∧ numAt m 4 2 < s.sec.snapChain.length) ∧
    (∃ (s : State) (m : List Byte), s.sec.idReady = true ∧ s.atHand = .clear m ∧ 2 ≤ m.length ∧ byteAt m 0 = 0x12 ∧ byteAt m 1 = rqChallenge ∧ s.negDone = true ∧ s.sec.snapChain ≠ [] ∧ m.length = 36 ∧ byteAt m 2 = 0 ∧ byteAt m 3 = 0 ∧ s.sec.entFail = false) ∧
    (∃ (s : State) (m : List Byte), s.sec.idReady = true ∧ s.atHand = .clear m ∧ 2 ≤ m.length ∧ byteAt m 0 = 0x12 ∧ byteAt m 1 = rqMeas ∧ s.negDone = true ∧ m.length = 4 ∧ byteAt m 2 = 0 ∧ byteAt m 3 = 0 ∧ s.sec.entFail = false) ∧
    (∃ (s : State) (m : List Byte), s.sec.idReady = true ∧ s.atHand = .clear m ∧ 2 ≤ m.length ∧ byteAt m 0 = 0x12 ∧ byteAt m 1 = rqChallenge ∧ s.negDone = false) ∧
    (∃ (s : State) (m : List Byte), s.sec.idReady = true ∧ s.atHand = .clear m ∧ 2 ≤ m.length ∧ byteAt m 0 = 0x12 ∧ byteAt m 1 = rqKeyEx ∧ s.sec.snapChain = []) ∧
    (∃ (s : State) (m : List Byte), s.sec.idReady = true ∧ s.atHand = .clear m ∧ 2 ≤ m.length ∧ byteAt m 0 = 0x12 ∧ byteAt m 1 ∉ [rqVersion, rqCaps, rqAlgs, rqDigests, rqCert, rqChallenge, rqMeas, rqKeyEx, rqFinish, rqEnd]) :=
  ⟨⟨mbUp [0x10, 0x84, 0, 0], .getVersion, rqVersion, [0x10, 0x84, 0, 0], by decide +kernel⟩,
   ⟨seUp sessUp 5 [1, 0x12, 0xEC, 0, 0], .endSession, rqEnd, [0x12, 0xEC, 0, 0], sessUp, by and_intros <;> first | decide +kernel | exact seUp_atHand _ _ _ (by decide) (by decide) (by decide +kernel)⟩,
   ⟨mbUp [0x10, 0x84, 0, 0], .getDigests, rqDigests, by decide +kernel⟩,
   ⟨(mbUp []).wSec fun x => { x with busy := some (true, 22) }, by decide +kernel⟩,
   ⟨mbUp [0x10, 0x84, 0, 0], [0x10, 0x84, 0, 0], by decide +kernel⟩,
   ⟨(mbUp rqCapsUp).set R.SEC_SESS_CONN 0 1, rqCapsUp, by decide +kernel⟩,
   ⟨mbUp [0x12, 0xE1], [0x12, 0xE1], by decide +kernel⟩,
   ⟨(mbUp rqAlgsUp).set R.SEC_SESS_CONN 0 2, rqAlgsUp, [(2, 0x10), (3, 2), (5, 1)], by decide +kernel⟩,
   ⟨(mbUp [0x12, 0x81, 0, 0]).set R.SEC_SESS_CONN 0 3, [0x12, 0x81, 0, 0], by decide +kernel⟩,
   ⟨(mbUp [0x12, 0x82, 0, 0, 1, 0, 16, 0]).set R.SEC_SESS_CONN 0 3, [0x12, 0x82, 0, 0, 1, 0, 16, 0], by decide +kernel⟩,
   ⟨(mbUp rqChalUp).set R.SEC_SESS_CONN 0 3, rqChalUp, by decide +kernel⟩,
   ⟨(mbUp [0x12, 0xE0, 0, 0]).set R.SEC_SESS_CONN 0 3, [0x12, 0xE0, 0, 0], by decide +kernel⟩,
   ⟨mbUp [0x12, 0x83], [0x12, 0x83], by decide +kernel⟩,
   ⟨(mbUp [0x12, 0xE4]).wSec fun x => { x with snapChain := [] }, [0x12, 0xE4], by decide +kernel⟩,
   ⟨mbUp [0x12, 0x55], [0x12, 0x55], by decide +kernel⟩⟩

theorem witness_OneSessionIsOpenedAndEnded :
    (∃ (s : State) (m : List Byte), s.sec.idReady = true ∧ s.atHand = .clear m ∧ byteAt m 0 = 0x12 ∧ byteAt m 1 = rqKeyEx ∧ s.negDone = true ∧ s.sec.snapChain ≠ [] ∧ 138 ≤ m.length ∧ m.length = 138 + numAt m 136 2 ∧ byteAt m 3 = 0 ∧ s.sec.sess = none ∧ byteAt m 2 = 0 ∧ s.sec.entFail = false) ∧
    (∃ (s : State) (m : List Byte), s.sec.idReady = true ∧ s.atHand = .clear m ∧ byteAt m 0 = 0x12 ∧ byteAt m 1 = rqKeyEx ∧ s.negDone = true ∧ s.sec.snapChain ≠ [] ∧ 138 ≤ m.length ∧ m.length = 138 + numAt m 136 2 ∧ byteAt m 3 = 0 ∧ s.sec.sess ≠ none) ∧
    (∃ (s : State) (m : List Byte) (x : SessS), s.atHand = .data x (0x01#8 :: m) ∧ s.negDone = true ∧ s.sec.snapChain ≠ [] ∧ 138 ≤ m.length ∧ m.length = 138 + numAt m 136 2 ∧ byteAt m 0 = 0x12 ∧ byteAt m 1 = rqKeyEx) ∧
    (∃ (s : State) (p : List Byte) (x : SessS), s.atHand = .data x p ∧ byteAt p 0 ≠ 1 ∧ byteAt p 0 ≠ 2 ∧ x.seqIn + 1 < 65535) ∧
    (∃ (s : State) (m : List Byte) (x : SessS), s.atHand = .data x (0x01#8 :: m) ∧ x.established = false ∧ byteAt m 0 = 0x12 ∧ byteAt m 1 = rqFinish ∧ m.length = 52 ∧ byteAt m 2 = 0 ∧ bytesAt m 4 48 = fit 48 (Config.finishedMac 0 (x.th ++ m.take 4))) ∧
    (∃ (s : State) (m : List Byte) (x : SessS), s.atHand = .data x (0x01#8 :: m) ∧ x.established = false ∧ byteAt m 0 = 0x12 ∧ byteAt m 1 = rqFinish ∧ m.length = 52 ∧ byteAt m 2 = 0 ∧ bytesAt m 4 48 ≠ fit 48 (Config.finishedMac 0 (x.th ++ m.take 4))) ∧
    (∃ (s : State) (m : List Byte) (x : SessS), s.atHand = .data x (0x01#8 :: m) ∧ x.established = true ∧ s.get R.SEC_SESS_CONN = 5 ∧ byteAt m 0 = 0x12 ∧ byteAt m 1 = rqEnd ∧ m.length = 4 ∧ x.seqIn + 1 < 65535 ∧ x.seqOut + 1 < 65535) ∧
    (∃ (s : State) (m : List Byte) (x : SessS), s.atHand = .data x (0x01#8 :: m) ∧ x.established = true ∧ byteAt m 1 = rqMeas ∧ 2 ≤ m.length ∧ (65535 ≤ x.seqIn + 1 ∨ 65535 ≤ x.seqOut + 1)) ∧
    (∃ (s : State), s.atHand = .broken) ∧
    (∃ (s : State), s.atHand ≠ .broken) :=
  ⟨⟨(mbUp rqKexUp).set R.SEC_SESS_CONN 0 3, rqKexUp, by decide +kernel⟩,
   ⟨((mbUp rqKexUp).set R.SEC_SESS_CONN 0 3).wSec fun x => { x with sess := some sessUp }, rqKexUp, by decide +kernel⟩,
   ⟨seUp sessUp 5 (1 :: rqKexUp), rqKexUp, sessUp, by and_intros <;> first | decide +kernel | exact seUp_atHand _ _ _ (by decide) (by decide) (by decide +kernel)⟩,
   ⟨seUp sessUp 5 [3], [3], sessUp, by and_intros <;> first | decide +kernel | exact seUp_atHand _ _ _ (by decide) (by decide) (by decide +kernel)⟩,
   ⟨seUp { sessUp with established := false } 5 (1 :: rqFinUp finMac), rqFinUp finMac, { sessUp with established := false }, by and_intros <;> first | decide +kernel | exact seUp_atHand _ _ _ (by decide) (by decide) (by simp [rqFinUp, finMac_length]) | exact rqFin_length _ (by simp [finMac_length]) | exact (rqFin_mac _ finMac_length).trans rfl⟩,
   ⟨seUp { sessUp with established := false } 5 (1 :: rqFinUp badMac), rqFinUp badMac, { sessUp with established := false }, by and_intros <;> first | decide +kernel | exact seUp_atHand _ _ _ (by decide) (by decide) (by simp [rqFinUp, badMac, finMac_length]) | exact rqFin_length _ (by simp [badMac, finMac_length]) | exact fun h => finMac_ne ((rqFin_mac badMac (by simp [badMac, finMac_length])).symm.trans h)⟩,
   ⟨seUp sessUp 5 [1, 0x12, 0xEC, 0, 0], [0x12, 0xEC, 0, 0], sessUp, by and_intros <;> first | decide +kernel | exact seUp_atHand _ _ _ (by decide) (by decide) (by decide +kernel)⟩,
   ⟨seUp { sessUp with seqOut := 65534 } 5 [1, 0x12, 0xE0, 0, 0], [0x12, 0xE0, 0, 0], { sessUp with seqOut := 65534 }, by and_intros <;> first | decide +kernel | exact seUp_atHand _ _ _ (by decide) (by decide) (by decide +kernel)⟩,
   ⟨brokenUp, by decide +kernel⟩,
   ⟨up, by decide +kernel⟩⟩

theorem witness_KeysAndChainsAreTakenOrRefused :
    (∃ (s : State) (m : List Byte) (x : SessS), s.atHand = .data x (0x02#8 :: m) ∧ x.established = true ∧ s.keyStatus m = 0 ∧ x.seqIn + 1 < 65535 ∧ x.seqOut + 1 < 65535) ∧
    (∃ (s : State) (m : List Byte) (x : SessS), s.atHand = .data x (0x02#8 :: m) ∧ x.established = true ∧ s.keyStatus m ≠ 0) ∧
    (∃ (s : State), s.sec.dbgReq ≠ 0) ∧
    (∃ (s : State) (g : Gal), s.rowPasses g R.SEC_CCTL_CLEAR 0 1) ∧
    (∃ (s : State) (g : Gal) (c : List Byte), s.rowPasses g R.SEC_CCTL_COMMIT 0 1 ∧ c = ((List.range (s.get R.SEC_CCTL_LEN)).map fun k => tabAt s.sec.chain k) ∧ ofLe (bytesAt c 0 2) ≠ s.get R.SEC_CCTL_LEN) ∧
    (∃ (s : State) (g : Gal) (c : List Byte) (ok : Prop), s.rowPasses g R.SEC_CCTL_COMMIT 0 1 ∧ c = ((List.range (s.get R.SEC_CCTL_LEN)).map fun k => tabAt s.sec.chain k) ∧ ofLe (bytesAt c 0 2) = s.get R.SEC_CCTL_LEN ∧ ok = (s.sec.idReady = true ∧ fit 96 (Config.leafKey c) = fit 96 (Config.idPub (s.fuse.getD default).dieId))) :=
  ⟨⟨seUp sessUp 5 (2 :: keyRecUp), keyRecUp, sessUp, by and_intros <;> first | decide +kernel | exact seUp_atHand _ _ _ (by decide) (by decide) (by decide +kernel)⟩,
   ⟨seUp sessUp 5 [2], [], sessUp, by and_intros <;> first | decide +kernel | exact seUp_atHand _ _ _ (by decide) (by decide) (by decide +kernel)⟩,
   ⟨up.wSec fun x => { x with dbgReq := 1 }, by decide +kernel⟩,
   ⟨up, 0, by decide +kernel⟩,
   ⟨up.set R.SEC_CCTL_LEN 0 4, 0, [0, 0, 0, 0], by decide +kernel⟩,
   ⟨(up.set R.SEC_CCTL_LEN 0 4).wSec fun x => { x with chain := [(0, 4)] }, 0, [4, 0, 0, 0], _, by and_intros <;> first | decide +kernel | exact rfl⟩⟩

theorem witness_WeightsAreDeliveredUnderAKey :
    (∃ (s : State) (g : Gal), s.rowPasses g R.SEC_WCTL_BEGIN 0 1 ∧ s.ownsMb g = true ∧ s.sec.deliv.opened = false ∧ s.sec.key = none) ∧
    (∃ (s : State) (g : Gal), s.rowPasses g R.SEC_WCTL_BEGIN 0 1 ∧ s.ownsMb g = true ∧ s.sec.deliv.opened = false ∧ s.sec.key ≠ none ∧ s.get R.FCS_STAT_STATE = fcRun) ∧
    (∃ (s : State) (g : Gal), s.rowPasses g R.SEC_WCTL_BEGIN 0 1 ∧ s.ownsMb g = true ∧ s.sec.deliv.opened = false ∧ s.sec.key ≠ none ∧ s.get R.FCS_STAT_STATE ≠ fcRun ∧ (s.get R.FCS_STAT_STATE ≠ fcReady ∨ s.get R.ORR_CTL_FC_EN = 0)) ∧
    (∃ (s : State) (g : Gal) (w : Word) (str : List Byte), s.passes g R.SEC_WDAT_DATA.base w ∧ s.ownsMb g = true ∧ s.sec.deliv.opened = true ∧ s.sec.deliv.full = false ∧ str = s.sec.deliv.str ++ leBytes 4 w.toNat ∧ (str.length ≠ 48 ∨ s.hdrGood str = true) ∧ str.length < 2 ^ 21) ∧
    (∃ (s : State) (g : Gal) (w : Word) (str : List Byte), s.passes g R.SEC_WDAT_DATA.base w ∧ s.ownsMb g = true ∧ s.sec.deliv.opened = true ∧ s.sec.deliv.full = false ∧ str = s.sec.deliv.str ++ leBytes 4 w.toNat ∧ str.length = 48 ∧ s.hdrGood str = false) ∧
    (∃ (s : State) (g : Gal), s.rowPasses g R.SEC_WCTL_ABORT 0 1 ∧ s.ownsMb g = true ∧ s.sec.deliv.opened = true) ∧
    (∃ (s : State) (p : Nat) (want : List Byte) (key : List Byte), s.sec.deliv.opened = true ∧ s.sec.deliv.full = true ∧ s.sec.key = some (p, want, key) ∧ (plainOf key s.sec.deliv.str = none ∨ fit 48 (Config.sha384 s.sec.deliv.str) ≠ want)) ∧
    (∃ (s : State) (p : Nat) (want : List Byte) (key : List Byte) (body : _), s.sec.deliv.opened = true ∧ s.sec.deliv.full = true ∧ s.sec.key = some (p, want, key) ∧ plainOf key s.sec.deliv.str = some body ∧ fit 48 (Config.sha384 s.sec.deliv.str) = want ∧ s.dev.imgDone = false) ∧
    (∃ (s : State) (p : Nat) (want : List Byte) (key : List Byte) (body : _), s.sec.deliv.opened = true ∧ s.sec.deliv.full = true ∧ s.sec.key = some (p, want, key) ∧ plainOf key s.sec.deliv.str = some body ∧ fit 48 (Config.sha384 s.sec.deliv.str) = want ∧ s.dev.imgDone = true) :=
  ⟨⟨mbUp [], 0, by decide +kernel⟩,
   ⟨((mbUp []).wSec fun x => { x with key := some (1, [1], []) }).set R.FCS_STAT_STATE 0 2, 0, by decide +kernel⟩,
   ⟨(mbUp []).wSec fun x => { x with key := some (1, [1], []) }, 0, by decide +kernel⟩,
   ⟨(mbUp []).wSec fun x => { x with deliv := { opened := true } }, 0, 0x54574754, [0x54, 0x47, 0x57, 0x54], by decide +kernel⟩,
   ⟨(mbUp []).wSec fun x => { x with deliv := { opened := true, str := List.replicate 44 0 } }, 0, 0, List.replicate 48 0, by decide +kernel⟩,
   ⟨(mbUp []).wSec fun x => { x with deliv := { opened := true } }, 0, by decide +kernel⟩,
   ⟨up.wSec fun x => { x with key := some (1, [1], []), deliv := { opened := true, full := true } }, 1, [1], [], by decide +kernel⟩,
   ⟨(wUp).wDev fun d => { d with imgDone := false }, 1, fit 48 (Config.sha384 wStr), [1], [], by and_intros <;> first | decide +kernel | exact rfl | exact wStr_opens⟩,
   ⟨wUp, 1, fit 48 (Config.sha384 wStr), [1], [], by and_intros <;> first | decide +kernel | exact rfl | exact wStr_opens⟩⟩

theorem witness_DebugCostsTheWeights :
    (∃ (s : State) (g : Gal), s.rowPasses g R.SEC_DBG_INV_REQ 0 1 ∧ (g = 0 ∨ g = s.get R.SEC_DBG_OPGAL)) ∧
    (∃ (s : State) (g : Gal), s.rowPasses g R.SEC_DBG_INV_REQ 0 1 ∧ g ≠ 0 ∧ g ≠ s.get R.SEC_DBG_OPGAL) ∧
    (∃ (s : State), s.sec.dbgReq ≠ 0) ∧
    (∃ (s : State), s.tapLive = true) ∧
    (∃ (s : State) (b : Bool) (arr : Nat) (addr : Nat) (v : BitVec 64) (c : _), (s.dev.powered = false ∨ s.dev.cold = true) ∧ c ∈ [Instr.testLogicResetExit, .testLogicResetEntry, .idcode, .bypass, .dbgstat, .samplePreload, .extest, .dbgen b, .dbgacc b arr addr v]) ∧
    (∃ (s : State), s.tapOn = true) ∧
    (∃ (s : State), s.tapOn = true ∧ (∀ d < s.cfg.n, s.dst d = 0)) ∧
    (∃ (s : State), s.tapOn = true ∧ (∃ d < s.cfg.n, s.dst d ≠ 0)) ∧
    (∃ (s : State), s.tapOn = true ∧ s.get R.SEC_DBG_INV = 1) ∧
    (∃ (s : State), s.tapOn = true ∧ s.get R.SEC_DBG_INV = 0) :=
  ⟨⟨up, 0, by decide +kernel⟩,
   ⟨up.set R.GAL_ACC0_MASK 3 0xFFFFFFFF, 3, by decide +kernel⟩,
   ⟨up.wSec fun x => { x with dbgReq := 2 }, by decide +kernel⟩,
   ⟨up, by decide +kernel⟩,
   ⟨up.wDev fun d => { d with cold := true }, 1, 3, 16, 1, .idcode, by decide +kernel⟩,
   ⟨up.wDev fun d => { d with tapOut := true }, by decide +kernel⟩,
   ⟨(up.wDev fun d => { d with tapOut := true }).sets ((List.range 8).map fun d => (R.PWR_DSTAT_STATE, d, 0)), by decide +kernel⟩,
   ⟨up.wDev fun d => { d with tapOut := true }, by decide +kernel⟩,
   ⟨(up.wDev fun d => { d with tapOut := true }).set R.SEC_DBG_INV 0 1, by decide +kernel⟩,
   ⟨up.wDev fun d => { d with tapOut := true }, by decide +kernel⟩⟩

theorem witness_PortsFollowTheirStates :
    (∃ (s : State) (p : Nat), p < 4 ∧ s.zoneUsed p = false) ∧
    (∃ (s : State) (p : Nat), p < 4 ∧ s.zoneUsed p = true) ∧
    (∃ (s : State) (p : Nat), p < 4 ∧ s.zoneUsed p = true ∧ s.pst p = lkReset ∧ (s.port p).present = true ∧ (s.port p).unsaid = true ∧ s.dev.released = true ∧ (∃ d ∈ s.inZone p, s.dst d ≠ 0) ∧ (srcOf 5 p, clsModloss) ∉ s.flt.masked) ∧
    (∃ (s : State) (p : Nat), p < 4 ∧ s.zoneUsed p = true ∧ s.pst p = lkReset ∧ (s.port p).unsaid = false) ∧
    (∃ (s : State) (p : Nat), p < 4 ∧ s.zoneUsed p = true ∧ s.pst p ≠ lkReset) ∧
    (∃ (s : State) (p : Nat), p < 4 ∧ s.pst p = lkReset ∧ (s.port p).present = true ∧ s.zoneUsed p = true ∧ s.get R.CLK_STAT_SRC = 1 ∧ s.dev.released = true ∧ (s.get R.LNK_CTL_PORT_EN).testBit p = true) ∧
    (∃ (s : State) (p : Nat), p < 4 ∧ (s.get R.LNK_CTL_PORT_EN).testBit p = false) ∧
    (∃ (s : State) (p : Nat), p < 4 ∧ s.pst p = lkSync) ∧
    (∃ (s : State) (p : Nat), p < 4 ∧ s.pst p = lkReset) ∧
    (∃ (s : State) (p : Nat), p < 4 ∧ s.pst p ≠ lkReset ∧ s.pst p ≠ lkSync) ∧
    (∃ (s : State) (p : Nat), p < 4 ∧ s.pst p = lkDown) ∧
    (∃ (s : State) (p : Nat), p < 4 ∧ s.pst p = lkDown ∧ (s.port p).present = true ∧ (s.port p).aligned = false) ∧
    (∃ (s : State) (p : Nat), p < 4 ∧ s.pst p = lkDown ∧ (s.port p).present = true ∧ (s.port p).aligned = true) ∧
    (∃ (s : State) (p : Nat), p < 4 ∧ (s.port p).aligned = true) ∧
    (∃ (s : State) (p : Nat) (st : Nat) (reason : Nat) (c : Instr), p < 4 ∧ (c, st, reason) ∈ [(Instr.linkSyncTimeout p, lkSync, dnSync), (.helloTimeout p, lkHello, dnHello), (.capsTimeout p, lkCaps, dnCaps), (.alignmentLoss p, lkSync, dnAlign), (.alignmentLoss p, lkHello, dnAlign), (.alignmentLoss p, lkCaps, dnAlign), (.linkTimeout p, lkHello, dnLink), (.linkTimeout p, lkCaps, dnLink)] ∧ s.pst p = st ∧ (st ≠ lkSync ∨ (s.port p).aligned = false)) ∧
    (∃ (s : State) (p : Nat) (reason : Nat) (c : Instr), p < 4 ∧ (c, reason) ∈ [(Instr.alignmentLoss p, dnAlign), (.linkTimeout p, dnLink)] ∧ s.pst p = lkUp ∧ (∃ d ∈ s.inZone p, s.dst d ≠ 0) ∧ (srcOf 5 p, clsModloss) ∉ s.flt.masked) ∧
    (∃ (s : State) (g : Gal) (p : Nat), p < 4 ∧ (s.get R.LNK_CTL_PORT_EN).testBit p = true ∧ s.rowPasses g R.LNK_CTL_PORT_EN 0 (s.get R.LNK_CTL_PORT_EN - 2 ^ p) ∧ s.pst p ≠ lkReset) ∧
    (∃ (p : Nat) (c : _), 4 ≤ p ∧ c ∈ [Instr.modulePresent p, .moduleAbsent p, .portOpen p, .alignment p, .alignmentLoss p, .linkSyncTimeout p, .helloTimeout p, .capsTimeout p, .downRetry p, .linkTimeout p]) :=
  ⟨⟨up, 1, by decide +kernel⟩,
   ⟨up, 0, by decide +kernel⟩,
   ⟨(up.set R.LNK_PSTAT_STATE 0 0).updPort 0 fun x => { x with present := true, unsaid := true }, 0, by decide +kernel⟩,
   ⟨up, 0, by decide +kernel⟩,
   ⟨up.set R.LNK_PSTAT_STATE 0 5, 0, by decide +kernel⟩,
   ⟨up.updPort 0 fun x => { x with present := true }, 0, by decide +kernel⟩,
   ⟨up.set R.LNK_CTL_PORT_EN 0 0, 0, by decide +kernel⟩,
   ⟨up.set R.LNK_PSTAT_STATE 0 1, 0, by decide +kernel⟩,
   ⟨up, 0, by decide +kernel⟩,
   ⟨up.set R.LNK_PSTAT_STATE 0 5, 0, by decide +kernel⟩,
   ⟨up.set R.LNK_PSTAT_STATE 0 5, 0, by decide +kernel⟩,
   ⟨(up.updPort 0 fun x => { x with present := true }).set R.LNK_PSTAT_STATE 0 5, 0, by decide +kernel⟩,
   ⟨(up.set R.LNK_PSTAT_STATE 0 5).updPort 0 fun x => { x with present := true, aligned := true }, 0, by decide +kernel⟩,
   ⟨up.updPort 0 fun x => { x with aligned := true }, 0, by decide +kernel⟩,
   ⟨up.set R.LNK_PSTAT_STATE 0 3, 0, 3, 7, .linkTimeout 0, by decide +kernel⟩,
   ⟨up.set R.LNK_PSTAT_STATE 0 4, 0, 7, .linkTimeout 0, by decide +kernel⟩,
   ⟨up.set R.LNK_PSTAT_STATE 0 2, 0, 0, by decide +kernel⟩,
   ⟨4, .portOpen 4, by decide +kernel⟩⟩

theorem witness_FramesAreAcknowledgedInOrder :
    (∃ (s : State) (p : Nat) (ns : _), p < 4 ∧ s.receives p = true ∧ ((s.port p).nakOut = false ∨ 2000 ≤ ns)) ∧
    (∃ (s : State) (p : Nat) (ns : _), p < 4 ∧ s.receives p = true ∧ (s.port p).nakOut = true ∧ ns < 2000) ∧
    (∃ (s : State) (p : Nat) (b : List Byte), p < 4 ∧ s.receives p = true ∧ parseFrame b = none) ∧
    (∃ (s : State) (p : Nat) (b : List Byte) (pay : List Byte) (ty : Nat) (sq : Nat), p < 4 ∧ s.receives p = true ∧ parseFrame b = some (ty, sq, pay) ∧ ty = 0x08) ∧
    (∃ (s : State) (p : Nat) (b : List Byte) (pay : List Byte) (ty : Nat) (sq : Nat) (c : _), p < 4 ∧ s.receives p = true ∧ parseFrame b = some (ty, sq, pay) ∧ sq = (s.port p).rxSeq ∧ (ty, c) ∈ [(0x09, Instr.caps p pay), (0x0B, .telem p pay), (0x0C, .alert p pay), (0x0F, .bye p pay)]) ∧
    (∃ (s : State) (p : Nat) (b : List Byte) (pay : List Byte) (ty : Nat) (sq : Nat), p < 4 ∧ s.receives p = true ∧ parseFrame b = some (ty, sq, pay) ∧ sq = (s.port p).rxSeq ∧ ty = 0x0E) ∧
    (∃ (s : State) (p : Nat) (b : List Byte) (pay : List Byte) (ty : Nat) (sq : Nat), p < 4 ∧ s.receives p = true ∧ parseFrame b = some (ty, sq, pay) ∧ sq = (s.port p).rxSeq ∧ ty ∉ [0x01, 0x02, 0x08, 0x09, 0x0B, 0x0C, 0x0E, 0x0F]) ∧
    (∃ (s : State) (p : Nat) (b : List Byte) (pay : List Byte) (ty : Nat) (sq : Nat), p < 4 ∧ s.receives p = true ∧ parseFrame b = some (ty, sq, pay) ∧ sq = (s.port p).rxSeq ∧ ty = 0x0B ∧ s.pst p ≠ lkHello ∧ 16 ≤ pay.length) ∧
    (∃ (s : State) (p : Nat), p < 4 ∧ s.receives p = true) ∧
    (∃ (s : State) (p : Nat) (b : List Byte) (pay : List Byte) (ty : Nat) (sq : Nat), p < 4 ∧ s.receives p = true ∧ parseFrame b = some (ty, sq, pay) ∧ ty ∉ [0x01, 0x02, 0x08] ∧ (s.port p).rxSeq < 32 ∧ sq ≠ (s.port p).rxSeq ∧ ((s.port p).rxSeq + 32 - sq) % 32 ≤ 16) ∧
    (∃ (s : State) (p : Nat) (b : List Byte) (pay : List Byte) (ns : Nat) (ty : Nat) (sq : Nat), p < 4 ∧ s.receives p = true ∧ parseFrame b = some (ty, sq, pay) ∧ ty ∉ [0x01, 0x02, 0x08] ∧ (s.port p).rxSeq < 32 ∧ sq ≠ (s.port p).rxSeq ∧ 16 < ((s.port p).rxSeq + 32 - sq) % 32 ∧ ((s.port p).nakOut = false ∨ 2000 ≤ ns)) ∧
    (∃ (s : State) (p : Nat) (f : TxFrame) (r : List TxFrame), p < 4 ∧ s.receives p = true ∧ (s.port p).tx = f :: r ∧ (s.port p).waiting = []) ∧
    (∃ (s : State) (p : Nat) (f : TxFrame) (c : _), p < 4 ∧ s.receives p = true ∧ (s.port p).tx = [f] ∧ f.tries < 8 ∧ c ∈ [Instr.retransmitTimeout p, .nak p f.seq]) ∧
    (∃ (s : State) (p : Nat) (f : TxFrame) (c : _), p < 4 ∧ s.receives p = true ∧ (s.port p).tx = [f] ∧ 8 ≤ f.tries ∧ c ∈ [Instr.retransmitTimeout p, .nak p f.seq]) ∧
    (∃ (s : State) (p : Nat), p < 4 ∧ s.receives p = true ∧ (s.port p).waiting = [] ∧ (s.port p).tx.length < 16) ∧
    (∃ (s : State) (p : Nat) (n : Nat) (ns : Nat) (pay : List Byte) (c : _), p < 4 ∧ s.receives p = false ∧ c ∈ [Instr.frameDiscard p ns, .ack p n, .nak p n, .caps p pay, .telem p pay, .alert p pay, .keepalive p, .bye p pay, .keepaliveSend p]) ∧
    (∃ (s : State) (p : Nat) (b : List Byte), p < 4 ∧ s.receives p = false ∧ (∀ x, parseFrame b ≠ some (0x08, x))) ∧
    (∃ (s : State) (p : Nat), p < 4 ∧ s.receives p = false ∧ ((s.pst p ≠ lkSync ∧ s.pst p ≠ lkDown) ∨ (s.port p).aligned = false)) ∧
    (∃ (s : State) (p : Nat) (pay : List Byte), p < 4 ∧ s.receives p = false ∧ (s.pst p = lkSync ∨ s.pst p = lkDown) ∧ (s.port p).aligned = true ∧ 8 ≤ pay.length ∧ pay.length ≤ 32) :=
  ⟨⟨(up.set R.LNK_PSTAT_STATE 0 4).updPort 0 fun x => { x with aligned := true }, 0, 10, by decide +kernel⟩,
   ⟨((up.set R.LNK_PSTAT_STATE 0 4).updPort 0 fun x => { x with nakOut := true }).updPort 0 fun x => { x with aligned := true }, 0, 10, by decide +kernel⟩,
   ⟨(up.set R.LNK_PSTAT_STATE 0 4).updPort 0 fun x => { x with aligned := true }, 0, [], by decide +kernel⟩,
   ⟨(up.set R.LNK_PSTAT_STATE 0 4).updPort 0 fun x => { x with aligned := true }, 0, frameBytes 8 0 true false (List.replicate 8 0), List.replicate 8 0, 8, 0, by decide +kernel⟩,
   ⟨(up.set R.LNK_PSTAT_STATE 0 4).updPort 0 fun x => { x with aligned := true }, 0, frameBytes 0xB 0 true false (List.replicate 16 0), List.replicate 16 0, 0xB, 0, Instr.telem 0 (List.replicate 16 0), by decide +kernel⟩,
   ⟨(up.set R.LNK_PSTAT_STATE 0 4).updPort 0 fun x => { x with aligned := true }, 0, frameBytes 0xE 0 true false [], [], 0xE, 0, by decide +kernel⟩,
   ⟨(up.set R.LNK_PSTAT_STATE 0 4).updPort 0 fun x => { x with aligned := true }, 0, frameBytes 5 0 true false [], [], 5, 0, by decide +kernel⟩,
   ⟨(up.set R.LNK_PSTAT_STATE 0 4).updPort 0 fun x => { x with aligned := true }, 0, frameBytes 0xB 0 true false (List.replicate 16 0), List.replicate 16 0, 0xB, 0, by decide +kernel⟩,
   ⟨(up.set R.LNK_PSTAT_STATE 0 4).updPort 0 fun x => { x with aligned := true }, 0, by decide +kernel⟩,
   ⟨((up.set R.LNK_PSTAT_STATE 0 4).updPort 0 fun x => { x with rxSeq := 7 }).updPort 0 fun x => { x with aligned := true }, 0, frameBytes 5 31 true false [], [], 5, 31, by decide +kernel⟩,
   ⟨(up.set R.LNK_PSTAT_STATE 0 4).updPort 0 fun x => { x with aligned := true }, 0, frameBytes 5 3 true false [], [], 10, 5, 3, by decide +kernel⟩,
   ⟨((up.set R.LNK_PSTAT_STATE 0 4).updPort 0 fun x => { x with tx := [{ ty := 4, seq := 5, pay := [] }] }).updPort 0 fun x => { x with aligned := true }, 0, { ty := 4, seq := 5, pay := [] }, [], by decide +kernel⟩,
   ⟨((up.set R.LNK_PSTAT_STATE 0 4).updPort 0 fun x => { x with tx := [{ ty := 4, seq := 5, pay := [], tries := 7 }] }).updPort 0 fun x => { x with aligned := true }, 0, { ty := 4, seq := 5, pay := [], tries := 7 }, .nak 0 5, by decide +kernel⟩,
   ⟨((up.set R.LNK_PSTAT_STATE 0 4).updPort 0 fun x => { x with tx := [{ ty := 4, seq := 5, pay := [], tries := 8 }] }).updPort 0 fun x => { x with aligned := true }, 0, { ty := 4, seq := 5, pay := [], tries := 8 }, .retransmitTimeout 0, by decide +kernel⟩,
   ⟨(up.set R.LNK_PSTAT_STATE 0 4).updPort 0 fun x => { x with aligned := true }, 0, by decide +kernel⟩,
   ⟨up, 0, 4, 10, [], .keepalive 0, by decide +kernel⟩,
   ⟨up, 0, [], by and_intros <;> first | decide +kernel | exact fun x h => absurd ((show parseFrame [] = none by decide +kernel).symm.trans h) (by simp)⟩,
   ⟨up, 0, by decide +kernel⟩,
   ⟨(up.set R.LNK_PSTAT_STATE 0 5).updPort 0 fun x => { x with aligned := true }, 0, List.replicate 8 0, by decide +kernel⟩⟩

theorem witness_MessagesOfTheModuleTakeEffect :
    (∃ (s : State) (p : Nat) (pay : List Byte), p < 4 ∧ pay.length ≤ 32 ∧ (s.port p).aligned = true ∧ s.pst p = lkHello ∧ 8 ≤ pay.length ∧ (pay.getD 0 0).toNat = 1) ∧
    (∃ (s : State) (p : Nat) (pay : List Byte), p < 4 ∧ pay.length ≤ 32 ∧ (s.port p).aligned = true ∧ s.pst p = lkHello ∧ 8 ≤ pay.length ∧ (pay.getD 0 0).toNat ≠ 1) ∧
    (∃ (s : State) (p : Nat) (pay : List Byte), p < 4 ∧ pay.length ≤ 32 ∧ (s.port p).aligned = true ∧ s.pst p = lkCaps ∧ 12 ≤ pay.length ∧ max (payU16 pay 2) 0x1A90 ≤ min (payU16 pay 4) 0x1DB0) ∧
    (∃ (s : State) (p : Nat) (pay : List Byte), p < 4 ∧ pay.length ≤ 32 ∧ (s.port p).aligned = true ∧ s.pst p = lkCaps ∧ 12 ≤ pay.length ∧ min (payU16 pay 4) 0x1DB0 < max (payU16 pay 2) 0x1A90) ∧
    (∃ (s : State) (p : Nat) (pay : List Byte), p < 4 ∧ pay.length ≤ 32 ∧ (s.port p).aligned = true ∧ s.pst p = lkUp ∧ 16 ≤ pay.length) ∧
    (∃ (s : State) (p : Nat) (pay : List Byte), p < 4 ∧ pay.length ≤ 32 ∧ (s.port p).aligned = true ∧ s.pst p = lkUp ∧ 4 ≤ pay.length ∧ (pay.getD 0 0).toNat.testBit 0 = false ∧ (pay.getD 0 0).toNat.testBit 4 = false ∧ (pay.getD 1 0).toNat < 2 ∧ s.get R.ADC_CTL_ALERT_EN = 0) ∧
    (∃ (s : State) (p : Nat) (pay : List Byte), p < 4 ∧ pay.length ≤ 32 ∧ (s.port p).aligned = true ∧ (s.pst p = lkUp ∨ s.pst p = lkCaps) ∧ 2 ≤ pay.length) ∧
    (∃ (s : State) (p : Nat) (pay : List Byte), p < 4 ∧ pay.length ≤ 32 ∧ (s.port p).aligned = true ∧ s.pst p = lkHello ∧ 12 ≤ pay.length) ∧
    (∃ (s : State) (p : Nat), p < 4 ∧ s.zoneUsed p = true) ∧
    (∃ (s : State) (g : Gal), s.rowPasses g R.LNK_CTL_TRIM_EN 0 0 ∧ s.get R.LNK_CTL_TRIM_EN = 1) ∧
    (∃ (s : State) (p : Nat), p < 4 ∧ s.zoneUsed p = true ∧ s.get R.PWR_WAKE_LNK_EN = 1 ∧ s.devSt = devSleep ∧ s.dev.entry = 0) :=
  ⟨⟨(up.set R.LNK_PSTAT_STATE 0 2).updPort 0 fun x => { x with aligned := true }, 0, [1, 0, 0, 0, 0, 0, 0, 0], by decide +kernel⟩,
   ⟨(up.set R.LNK_PSTAT_STATE 0 2).updPort 0 fun x => { x with aligned := true }, 0, [2, 0, 0, 0, 0, 0, 0, 0], by decide +kernel⟩,
   ⟨(up.set R.LNK_PSTAT_STATE 0 3).updPort 0 fun x => { x with aligned := true }, 0, [0, 0, 0x90, 0x1A, 0xB0, 0x1D, 0, 0, 0, 0, 0, 0], by decide +kernel⟩,
   ⟨(up.set R.LNK_PSTAT_STATE 0 3).updPort 0 fun x => { x with aligned := true }, 0, List.replicate 12 0, by decide +kernel⟩,
   ⟨(up.set R.LNK_PSTAT_STATE 0 4).updPort 0 fun x => { x with aligned := true }, 0, List.replicate 16 0, by decide +kernel⟩,
   ⟨((up.set R.LNK_PSTAT_STATE 0 4).set R.ADC_CTL_ALERT_EN 0 0).updPort 0 fun x => { x with aligned := true }, 0, [2, 1, 0, 0], by decide +kernel⟩,
   ⟨(up.set R.LNK_PSTAT_STATE 0 3).updPort 0 fun x => { x with aligned := true }, 0, [0, 0], by decide +kernel⟩,
   ⟨(up.set R.LNK_PSTAT_STATE 0 2).updPort 0 fun x => { x with aligned := true }, 0, List.replicate 12 0, by decide +kernel⟩,
   ⟨(up.set R.LNK_PSTAT_STATE 0 4).updPort 0 fun x => { x with aligned := true }, 0, by decide +kernel⟩,
   ⟨up.set R.LNK_CTL_TRIM_EN 0 1, 0, by decide +kernel⟩,
   ⟨up.sets [(R.PWR_STAT_DEV, 0, 4), (R.PWR_WAKE_LNK_EN, 0, 1)], 0, by decide +kernel⟩⟩

theorem witness_SwitchingCyclesFollowTheDemand :
    (∃ (s : State) (c : Nat), c < 16 * s.cfg.n ∧ (s.cst c = cRun ∨ s.cst c = cSoft)) ∧
    (∃ (s : State) (c : Nat), c < 16 * s.cfg.n ∧ s.cst c = cRun ∧ s.get R.CEL_STAT_LOCAL c = 0 ∧ s.thSt (c / 16) ≠ 2 ∧ (tabAt s.hub (c / 16) : HubS).taper = 0) ∧
    (∃ (s : State) (c : Nat), c < 16 * s.cfg.n ∧ s.get R.CEL_STAT_LOCAL c = 1 ∧ (s.cst c = cSoft ∨ (s.cst c = cRun ∧ s.thSt (c / 16) ≠ 2 ∧ (tabAt s.hub (c / 16) : HubS).taper = 0)) ∧ (s.cell c).loadInteg = false) ∧
    (∃ (dem : Int) (n : Nat) (o : PhaseObs), dem < 40 * (n : Int) * o.start) ∧
    (∃ (dem : Int) (n : Nat) (o : PhaseObs), 40 * (n : Int) * o.start ≤ dem) ∧
    (∃ (s : State) (c : Nat), c < 16 * s.cfg.n ∧ s.cst c = cRun ∧ s.thSt (c / 16) = 2) ∧
    (∃ (s : State) (c : Nat), c < 16 * s.cfg.n ∧ s.cst c ≠ cRun ∧ s.cst c ≠ cSoft) ∧
    (∃ (s : State) (c : Nat), 16 * s.cfg.n ≤ c) :=
  ⟨⟨up.set R.CEL_STAT_STATE 32 2, 32, by decide +kernel⟩,
   ⟨up.set R.CEL_STAT_STATE 32 2, 32, by decide +kernel⟩,
   ⟨up.sets [(R.CEL_STAT_STATE, 32, 1), (R.CEL_STAT_LOCAL, 32, 1)], 32, by decide +kernel⟩,
   ⟨39, 1, { (default : PhaseObs) with start := 1 }, by decide +kernel⟩,
   ⟨0, 1, default, by decide +kernel⟩,
   ⟨(up.set R.CEL_STAT_STATE 32 2).set R.DST_TH_STAT_STATE 2 2, 32, by decide +kernel⟩,
   ⟨up, 32, by decide +kernel⟩,
   ⟨up, 128, by decide +kernel⟩⟩

theorem witness_CellsStartAndStopOnOrders :
    (∃ (s : State) (c : Nat) (v : _), c < 16 * s.cfg.n ∧ (s.cell c).startSent = some v ∧ s.cst c = cOff ∧ s.startable c = true ∧ s.mayStart c = true) ∧
    (∃ (s : State) (c : Nat) (v : _), c < 16 * s.cfg.n ∧ (s.cell c).startSent = some v ∧ s.cst c = cOff ∧ s.startable c = true ∧ s.mayStart c = false) ∧
    (∃ (s : State) (c : Nat) (v : _), c < 16 * s.cfg.n ∧ (s.cell c).startSent = some v ∧ s.cst c = cOff ∧ s.startable c = false) ∧
    (∃ (s : State) (c : Nat), c < 16 * s.cfg.n ∧ (s.cell c).startSent = none) ∧
    (∃ (s : State) (c : Nat), c < 16 * s.cfg.n ∧ s.cst c = cOff ∧ (s.cell c).held = true ∧ s.mayStart c = true ∧ s.startable c = true) ∧
    (∃ (s : State) (c : Nat), c < 16 * s.cfg.n ∧ s.cst c = cSoft ∧ (s.cell c).ssDone = true ∧ (s.cell c).shortCnt ≤ 200) ∧
    (∃ (s : State) (c : Nat), c < 16 * s.cfg.n ∧ (s.cell c).stopSent = true ∧ (s.cst c = cRun ∨ s.cst c = cSoft ∨ s.cst c = cHiccup)) ∧
    (∃ (s : State) (c : Nat), c < 16 * s.cfg.n ∧ s.cst c = cRun ∧ (s.cell c).winOpen = true ∧ (s.cell c).window = 0) :=
  ⟨⟨((up.set R.CEL_SYNC_LOCK 2 1).updCell 32 fun x => { x with startSent := some 900, tested := true }), 32, 900, by decide +kernel⟩,
   ⟨(up.updCell 32 fun x => { x with startSent := some 900, tested := true }), 32, 900, by decide +kernel⟩,
   ⟨(up.set R.CEL_CTL_CELL_DIS 32 1).updCell 32 fun x => { x with startSent := some 900 }, 32, 900, by decide +kernel⟩,
   ⟨up, 32, by decide +kernel⟩,
   ⟨((up.set R.CEL_SYNC_LOCK 2 1).updCell 32 fun x => { x with held := true, tested := true }), 32, by decide +kernel⟩,
   ⟨((up.set R.CEL_STAT_STATE 32 1).updCell 32 fun x => { x with ssDone := true, shortCnt := 200 }), 32, by decide +kernel⟩,
   ⟨((up.set R.CEL_STAT_STATE 32 3).updCell 32 fun x => { x with stopSent := true }), 32, by decide +kernel⟩,
   ⟨((up.set R.CEL_STAT_STATE 32 2).updCell 32 fun x => { x with winOpen := true }), 32, by decide +kernel⟩⟩

theorem witness_HiccupsOpenTheSwitches :
    (∃ (s : State) (c : Nat) (x : Instr) (k : Nat), c < 16 * s.cfg.n ∧ (srcOf 1 c, clsCell) ∉ s.flt.masked ∧ (x = .cellHiccup c ∧ k = 1 ∧ s.cst c = cRun ∧ (s.cell c).hicN ≤ (s.cell c).limCnt) ∨ (x = .softstartShort c ∧ k = 2 ∧ s.cst c = cSoft ∧ 200 < (s.cell c).shortCnt) ∨ (x = .softstartTimeout c ∧ k = 3 ∧ s.cst c = cSoft ∧ (s.cell c).ssLeft = 0 ∧ (s.cell c).ssDone = false) ∧ s.get R.CEL_STAT_HIC_CNT c < 8) ∧
    (∃ (s : State) (c : Nat) (x : Instr) (k : Nat), c < 16 * s.cfg.n ∧ (srcOf 1 c, clsCell) ∉ s.flt.masked ∧ (x = .cellHiccup c ∧ k = 1 ∧ s.cst c = cRun ∧ (s.cell c).hicN ≤ (s.cell c).limCnt) ∨ (x = .softstartShort c ∧ k = 2 ∧ s.cst c = cSoft ∧ 200 < (s.cell c).shortCnt) ∨ (x = .softstartTimeout c ∧ k = 3 ∧ s.cst c = cSoft ∧ (s.cell c).ssLeft = 0 ∧ (s.cell c).ssDone = false) ∧ s.get R.CEL_STAT_HIC_CNT c = 8) ∧
    (∃ (s : State) (c : Nat), c < 16 * s.cfg.n ∧ (srcOf 1 c, clsCell) ∉ s.flt.masked ∧ s.cst c = cHiccup ∧ (s.cell c).offCnt ≠ 0) ∧
    (∃ (s : State) (c : Nat), c < 16 * s.cfg.n ∧ (srcOf 1 c, clsCell) ∉ s.flt.masked ∧ s.cst c = cHiccup ∧ (s.cell c).offCnt = 0 ∧ (s.cell c).ordered = true ∧ s.get R.CEL_SYNC_LOCK (c / 16) = 1) :=
  ⟨⟨((up.set R.CEL_STAT_STATE 32 1).updCell 32 fun x => { x with shortCnt := 201 }), 32, .softstartShort 32, 2, by decide +kernel⟩,
   ⟨(up.sets [(R.CEL_STAT_STATE, 32, 2), (R.CEL_STAT_HIC_CNT, 32, 8)]).updCell 32 fun x => { x with limCnt := 16 }, 32, .cellHiccup 32, 1, by decide +kernel⟩,
   ⟨((up.set R.CEL_STAT_STATE 32 3).updCell 32 fun x => { x with offCnt := 1 }), 32, by decide +kernel⟩,
   ⟨((up.sets [(R.CEL_STAT_STATE, 32, 3), (R.CEL_SYNC_LOCK, 2, 1)]).updCell 32 fun x => { x with ordered := true }), 32, by decide +kernel⟩⟩

theorem witness_PhasesAreShedAndRemoved :
    (∃ (s : State) (c : Nat), c < 16 * s.cfg.n ∧ s.cst c = cRun ∧ (s.cell c).drzEn = true ∧ s.drzOk c = true ∧ (s.cell c).shed = 16 ∧ 1 < popN 4 (s.cell c).act) ∧
    (∃ (s : State) (c : Nat), c < 16 * s.cfg.n ∧ (s.cst c ≠ cRun ∨ (s.cell c).drzEn = false ∨ s.drzOk c = false ∨ (s.cell c).shed ≠ 16 ∨ popN 4 (s.cell c).act ≤ 1)) ∧
    (∃ (s : State) (c : Nat) (p : Nat), c < 16 * s.cfg.n ∧ p < 4 ∧ (s.cst c = cRun ∨ s.cst c = cSoft) ∧ (tabAt s.phases (4 * c + p) : PhaseS).done ≠ 0 ∧ (tabAt s.phases (4 * c + p) : PhaseS).done < 4 ∧ (s.good c).testBit p = true ∧ (srcOf 1 c, clsCell) ∉ s.flt.masked ∧ (∃ q < 4, q ≠ p ∧ (s.good c).testBit q = true)) ∧
    (∃ (s : State) (c : Nat) (p : Nat), c < 16 * s.cfg.n ∧ p < 4 ∧ (s.cst c = cRun ∨ s.cst c = cSoft) ∧ (tabAt s.phases (4 * c + p) : PhaseS).done ≠ 0 ∧ (tabAt s.phases (4 * c + p) : PhaseS).done < 4 ∧ (s.good c).testBit p = true ∧ (srcOf 1 c, clsCell) ∉ s.flt.masked ∧ (∀ q < 4, q ≠ p → (s.good c).testBit q = false)) ∧
    (∃ (s : State) (c : Nat) (p : Nat), c < 16 * s.cfg.n ∧ (tabAt s.phases (4 * c + p) : PhaseS).done = 0) :=
  ⟨⟨((up.set R.CEL_STAT_STATE 32 2).updCell 32 fun x => { x with shed := 16, act := 3 }), 32, by decide +kernel⟩,
   ⟨up, 32, by decide +kernel⟩,
   ⟨{ up.set R.CEL_STAT_STATE 32 2 with phases := [(129, { done := 1 })] }, 32, 1, by decide +kernel⟩,
   ⟨{ (up.set R.CEL_STAT_STATE 32 2).set R.CEL_STAT_PH_FAIL 32 13 with phases := [(129, { done := 3 })] }, 32, 1, by decide +kernel⟩,
   ⟨up, 32, 1, by decide +kernel⟩⟩

theorem witness_CellsKeepTheirPhaseToSync :
    (∃ (s : State) (d : Nat), d < s.cfg.n) ∧
    (∃ (s : State) (d : Nat), d < s.cfg.n ∧ s.get R.CEL_SYNC_LOCK d = 1 ∧ (srcOf 9 (0x100 + d), clsSync) ∉ s.flt.masked) ∧
    (∃ (s : State) (d : Nat), d < s.cfg.n ∧ s.get R.CEL_SYNC_LOCK d = 0) ∧
    (∃ (s : State) (d : Nat), d < s.cfg.n ∧ s.get R.CEL_SYNC_HOLDOVER d = 1) :=
  ⟨⟨up, 2, by decide +kernel⟩,
   ⟨up.set R.CEL_SYNC_LOCK 2 1, 2, by decide +kernel⟩,
   ⟨up, 2, by decide +kernel⟩,
   ⟨up.set R.CEL_SYNC_HOLDOVER 2 1, 2, by decide +kernel⟩⟩

theorem witness_SensorsAreSampledMarkedAndRetired :
    (∃ (s : State) (d : Nat), d < s.cfg.n) ∧
    (∃ (s : State) (d : Nat) (k : Nat), d < s.cfg.n ∧ k < 64 ∧ (s.hubOf d).suspectDue k = true ∧ s.retired d k = false ∧ s.suspect d k = false ∧ (srcOf 2 d, clsSensor) ∉ s.flt.masked) ∧
    (∃ (s : State) (d : Nat) (k : Nat), d < s.cfg.n ∧ (s.hubOf d).suspectDue k = false) ∧
    (∃ (s : State) (g : Gal) (d : Nat) (j : Nat) (w : Word), d < s.cfg.n ∧ j < 2 ∧ s.passes g ((suspFld j).addr d) w) ∧
    (∃ (s : State) (g : Gal) (d : Nat) (j : Nat) (w : Word), d < s.cfg.n ∧ j < 2 ∧ s.passes g ((retFld j).addr d) w) ∧
    (∃ (j : Nat), 2 ≤ j) ∧
    (∃ (s : State) (d : Nat), s.cfg.n ≤ d) :=
  ⟨⟨up, 2, by decide +kernel⟩,
   ⟨up.updHub 2 fun h => { h with cntFail := [(1, 16)] }, 2, 1, by decide +kernel⟩,
   ⟨up, 2, 1, by decide +kernel⟩,
   ⟨up, 0, 2, 0, 0, by decide +kernel⟩,
   ⟨up, 0, 2, 0, 0, by decide +kernel⟩,
   ⟨2, by decide +kernel⟩,
   ⟨up, 8, by decide +kernel⟩⟩

theorem witness_ThunderheadFiresAndReturns :
    (∃ (s : State) (d : Nat) (codes : List Nat), d < s.cfg.n ∧ (s.thSt d = thArmed ∨ s.thSt d = thTaper) ∧ s.armOk d = true ∧ s.hubMin d codes < s.get R.DST_TH_STAT_TRIP d) ∧
    (∃ (s : State) (d : Nat), d < s.cfg.n ∧ s.thSt d = thDisarmed ∧ s.armOk d = true) ∧
    (∃ (s : State) (d : Nat), d < s.cfg.n ∧ s.thSt d ≠ thDisarmed ∧ s.armOk d = false) ∧
    (∃ (s : State) (d : Nat), d < s.cfg.n ∧ s.thSt d = thFired ∧ 2 * s.get R.DST_TH_TIME_MAXHOLD d ≤ (s.hubOf d).fireCnt ∧ (s.hubOf d).storm + 1 < s.get R.DST_TH_TIME_STORM d) ∧
    (∃ (s : State) (d : Nat), d < s.cfg.n ∧ s.thSt d = thFired ∧ 2 * s.get R.DST_TH_TIME_MAXHOLD d ≤ (s.hubOf d).fireCnt ∧ s.get R.DST_TH_TIME_STORM d ≤ (s.hubOf d).storm + 1 ∧ (srcOf 2 d, clsStorm) ∉ s.flt.masked) ∧
    (∃ (s : State) (d : Nat), d < s.cfg.n ∧ s.thSt d ≠ thFired) ∧
    (∃ (s : State) (d : Nat), d < s.cfg.n ∧ s.thSt d = thTaper ∧ (s.hubOf d).taper = 0) :=
  ⟨⟨(up.sets [(R.DST_TH_STAT_STATE, 2, 1), (R.DST_TH_STAT_TRIP, 2, 500)]), 2, [], by decide +kernel⟩,
   ⟨up, 2, by decide +kernel⟩,
   ⟨(up.sets [(R.DST_TH_STAT_STATE, 2, 1), (R.PWR_DSTAT_STATE, 2, 0)]), 2, by decide +kernel⟩,
   ⟨(up.sets [(R.DST_TH_STAT_STATE, 2, 2), (R.DST_TH_TIME_MAXHOLD, 2, 4), (R.DST_TH_TIME_STORM, 2, 4)]).updHub 2 fun h => { h with fireCnt := 8, storm := 2 }, 2, by decide +kernel⟩,
   ⟨(up.sets [(R.DST_TH_STAT_STATE, 2, 2), (R.DST_TH_TIME_MAXHOLD, 2, 4), (R.DST_TH_TIME_STORM, 2, 4)]).updHub 2 fun h => { h with fireCnt := 8, storm := 3 }, 2, by decide +kernel⟩,
   ⟨up, 2, by decide +kernel⟩,
   ⟨up.set R.DST_TH_STAT_STATE 2 3, 2, by decide +kernel⟩⟩

theorem witness_AnvilCellsChargeReleaseAndFail :
    (∃ (s : State) (a : Nat) (vst : _) (vfeed : _), a < 4 * s.cfg.n ∧ (s.ast a = aCharging ∨ s.ast a = aRecharge) ∧ vfeed ≤ vst + 80) ∧
    (∃ (s : State) (a : Nat) (vst : _) (vfeed : _), a < 4 * s.cfg.n ∧ ((s.ast a ≠ aCharging ∧ s.ast a ≠ aRecharge) ∨ vst + 80 < vfeed)) ∧
    (∃ (s : State) (a : Nat) (ns : _) (vst : _), a < 4 * s.cfg.n ∧ s.ast a = aRelease ∧ (tabAt s.anv a : AnvS).relNs ≤ ns ∧ ns ≤ (tabAt s.anv a : AnvS).relNs + 5 ∧ (40 ≤ ns ∨ vst ≤ s.anvFloor a ∨ s.thSt (a / 4) ≠ thFired)) ∧
    (∃ (s : State) (a : Nat) (ns : _) (vst : _), a < 4 * s.cfg.n ∧ (s.ast a ≠ aRelease ∨ (ns < 40 ∧ s.anvFloor a < vst ∧ s.thSt (a / 4) = thFired))) ∧
    (∃ (s : State) (a : Nat), a < 4 * s.cfg.n ∧ s.ast a = aReady ∧ (tabAt s.anv a : AnvS).leak = 200) ∧
    (∃ (s : State) (a : Nat), a < 4 * s.cfg.n ∧ (s.ast a = aCharging ∨ s.ast a = aRecharge) ∧ 2 * s.get R.ANV_CFG_CHG_TMO ≤ (tabAt s.anv a : AnvS).chg ∧ (srcOf 3 a, clsAnvil) ∉ s.flt.masked) ∧
    (∃ (s : State) (a : Nat), a < 4 * s.cfg.n ∧ ((s.ast a ≠ aCharging ∧ s.ast a ≠ aRecharge) ∨ (tabAt s.anv a : AnvS).chg < 2 * s.get R.ANV_CFG_CHG_TMO)) ∧
    (∃ (s : State) (d : Nat) (k : Nat) (codes : List Nat), d < s.cfg.n ∧ k < 4 ∧ s.ast (4 * d + k) = aRelease ∧ s.thSt d = thFired ∧ s.armOk d = true ∧ s.hubMin d codes < s.get R.DST_TH_STAT_TRIP d) ∧
    (∃ (s : State) (d : Nat) (k : Nat) (codes : List Nat) (vst : List Nat), d < s.cfg.n ∧ k < 4 ∧ s.ast (4 * d + k) = aReady ∧ (s.get R.DST_TH_TIME_ANV_EN d).testBit k = true ∧ (tabAt s.anv (4 * d + k) : AnvS).win.foldl max 0 < vst.getD k 0 + 800 ∧ (s.thSt d = thArmed ∨ s.thSt d = thTaper) ∧ s.armOk d = true ∧ s.hubMin d codes < s.get R.DST_TH_STAT_TRIP d) ∧
    (∃ (s : State) (d : Nat), d < s.cfg.n ∧ s.dev.hubs.testBit (s.zoneOf d) = true ∧ s.dev.released = true ∧ (srcOf 12 d, clsVfeed) ∉ s.flt.masked) ∧
    (∃ (s : State) (d : Nat), d < s.cfg.n ∧ s.dev.hubs.testBit (s.zoneOf d) = true ∧ s.dev.released = false) :=
  ⟨⟨up.set R.ANV_STAT_STATE 2 1, 2, 6400, 6400, by decide +kernel⟩,
   ⟨up, 2, 0, 6400, by decide +kernel⟩,
   ⟨up.set R.ANV_STAT_STATE 2 3, 2, 0, 0, by decide +kernel⟩,
   ⟨up, 2, 0, 0, by decide +kernel⟩,
   ⟨{ up.set R.ANV_STAT_STATE 2 2 with anv := [(2, { leak := 200 })] }, 2, by decide +kernel⟩,
   ⟨(up.set R.ANV_STAT_STATE 2 1).set R.ANV_CFG_CHG_TMO 2 0, 2, by decide +kernel⟩,
   ⟨up, 2, by decide +kernel⟩,
   ⟨(up.sets [(R.ANV_STAT_STATE, 9, 3), (R.DST_TH_STAT_STATE, 2, 2), (R.DST_TH_STAT_TRIP, 2, 500)]), 2, 1, [], by decide +kernel⟩,
   ⟨up.sets [(R.ANV_STAT_STATE, 9, 2), (R.DST_TH_STAT_STATE, 2, 1), (R.DST_TH_STAT_TRIP, 2, 500), (R.DST_TH_TIME_ANV_EN, 2, 2)], 2, 1, [], [6400, 6400], by decide +kernel⟩,
   ⟨up, 2, by decide +kernel⟩,
   ⟨up.wDev fun d => { d with released := false }, 2, by decide +kernel⟩⟩

theorem witness_ForecastsAreRegisteredScannedAndSlotted :
    (∃ (s : State) (q : Nat), q < 256 * s.cfg.n ∧ s.storeRuns = true ∧ (s.q q).ents.length + (s.q q).infl = 8) ∧
    (∃ (s : State) (q : Nat), q < 256 * s.cfg.n ∧ s.storeRuns = true ∧ (s.q q).ents.length + (s.q q).infl ≠ 8 ∧ (s.get R.PWR_WAKE_FCW_EN = 0 ∨ (s.dev.entry = 0 ∧ s.devSt = devRun))) ∧
    (∃ (s : State) (q : Nat), q < 256 * s.cfg.n ∧ s.nextIssue ≠ some q) ∧
    (∃ (s : State) (q : Nat) (p : Nat), q < 256 * s.cfg.n ∧ s.nextTurn = some (p, q) ∧ s.adm.inflight.length < 12 ∧ s.devSt ≠ devDoze) ∧
    (∃ (s : State) (q : Nat) (delta : Int) (e : Ent), q < 256 * s.cfg.n ∧ (s.q q).ents.find? (fun x => x.st == .issued) = some e ∧ e.inj = false ∧ delta % 7 = 0) ∧
    (∃ (s : State) (q : Nat) (at_ : Nat) (delta : Int) (e : Ent), q < 256 * s.cfg.n ∧ (s.q q).ents.find? (fun x => x.st == .issued) = some e ∧ (e.inj = true ∨ (delta % 7 ≠ 0 ∧ at_ < 512))) ∧
    (∃ (s : State) (b : Nat) (d : Nat) (q : Nat) (e : Ent) (ups : List ScanUp) (t0 : Nat) (off : Nat → Nat), b < 64 ∧ (s.bar b).st = .closed ∧ s.devSt ≠ devDoze ∧ d < s.cfg.n ∧ q / 256 = d ∧ s.zoneOf d < 4 ∧ (s.q q).ents = [e] ∧ s.participants b d = [(q, e)] ∧ (∀ k < s.cfg.n, k ≠ d → s.participants b k = []) ∧ (s.bk d).grants.length < 1024 ∧ s.get R.ORR_INJ_ARM = 0 ∧ (∀ u ∈ ups, u.delta = 0) ∧ t0 = max (slotAt ((s.bar b).closeEdge + 200)) (slotAt (s.adm.back + 60)) ∧ (∀ r, off r = t0 + min 63 (((fcDelta e.fc).toNat + r - 1) / r - 1)) ∧ s.admits d = false) ∧
    (∃ (s : State) (b : Nat) (d : Nat) (q : Nat) (e : Ent) (ups : List ScanUp) (t0 : Nat) (off : Nat → Nat), b < 64 ∧ (s.bar b).st = .closed ∧ s.devSt ≠ devDoze ∧ d < s.cfg.n ∧ q / 256 = d ∧ s.zoneOf d < 4 ∧ (s.q q).ents = [e] ∧ s.participants b d = [(q, e)] ∧ (∀ k < s.cfg.n, k ≠ d → s.participants b k = []) ∧ (s.bk d).grants.length < 1024 ∧ s.get R.ORR_INJ_ARM = 0 ∧ (∀ u ∈ ups, u.delta = 0) ∧ t0 = max (slotAt ((s.bar b).closeEdge + 200)) (slotAt (s.adm.back + 60)) ∧ (∀ r, off r = t0 + min 63 (((fcDelta e.fc).toNat + r - 1) / r - 1)) ∧ s.admits d = true ∧ s.trial d [((q, e), off (s.get R.GQ_SUN_RAMP))] = true ∧ (fcDelta e.fc).toNat ≤ s.zoneLeft b (s.zoneOf d)) ∧
    (∃ (s : State) (b : Nat) (d : Nat) (q : Nat) (e : Ent) (ups : List ScanUp) (t0 : Nat) (off : Nat → Nat), b < 64 ∧ (s.bar b).st = .closed ∧ s.devSt ≠ devDoze ∧ d < s.cfg.n ∧ q / 256 = d ∧ s.zoneOf d < 4 ∧ (s.q q).ents = [e] ∧ s.participants b d = [(q, e)] ∧ (∀ k < s.cfg.n, k ≠ d → s.participants b k = []) ∧ (s.bk d).grants.length < 1024 ∧ s.get R.ORR_INJ_ARM = 0 ∧ (∀ u ∈ ups, u.delta = 0) ∧ t0 = max (slotAt ((s.bar b).closeEdge + 200)) (slotAt (s.adm.back + 60)) ∧ (∀ r, off r = t0 + min 63 (((fcDelta e.fc).toNat + r - 1) / r - 1)) ∧ s.admits d = true ∧ (∀ r ∈ ([s.get R.GQ_SUN_RAMP, max 1 (s.get R.GQ_SUN_RAMP / 2), max 1 (s.get R.GQ_SUN_RAMP / 4)] : List Nat), s.trial d [((q, e), off r)] = true) ∧ s.zoneLeft b (s.zoneOf d) < (fcDelta e.fc).toNat) ∧
    (∃ (s : State) (b : Nat), b < 64 ∧ s.dev.slot < (s.bar b).firstSlot + s.get R.GQ_SUN_TMO) ∧
    (∃ (s : State) (b : Nat) (d : Nat) (q : Nat) (e : Ent), b < 64 ∧ (s.bar b).st = .opened ∧ (s.bar b).firstSlot + s.get R.GQ_SUN_TMO ≤ s.dev.slot ∧ d < s.cfg.n ∧ q / 256 = d ∧ (s.q q).ents = [e] ∧ s.participants b d = [(q, e)] ∧ (∀ k < s.cfg.n, k ≠ d → s.participants b k = [])) :=
  ⟨⟨up.updQ 512 fun x => { x with ents := List.replicate 7 default, out := [(0, some 5)] }, 512, by decide +kernel⟩,
   ⟨up, 512, by decide +kernel⟩,
   ⟨up, 512, by decide +kernel⟩,
   ⟨(up.wAdm fun a => { a with order := [(9, 512)] }).updQ 512 fun x => { x with ents := [{ fc := 0, edge := 0, tref := 0, st := .waiting }] }, 512, 9, by decide +kernel⟩,
   ⟨up.updQ 512 fun x => { x with ents := [{ fc := 0, edge := 0, tref := 0, st := .issued }] }, 512, 0, { fc := 0, edge := 0, tref := 0, st := .issued }, by decide +kernel⟩,
   ⟨up.updQ 512 fun x => { x with ents := [{ fc := 0, edge := 0, tref := 0, st := .issued }] }, 512, 0, 8, { fc := 0, edge := 0, tref := 0, st := .issued }, by decide +kernel⟩,
   ⟨(((up.set R.GQ_CTL_ADM_EN 0 0).updQ 512 fun x => { x with ents := [entB] }).updBar 1 fun b => { b with st := .closed }).updBk 2 fun b => { b with admCap := 900 }, 1, 2, 512, entB, [], slotAt 200, fun r => slotAt 200 + min 63 ((20 + r - 1) / r - 1), by and_intros <;> first | decide +kernel | exact fun _ => rfl⟩,
   ⟨(barUp).wide, 1, 2, 512, entB, [], slotAt 200, fun r => slotAt 200 + min 63 ((20 + r - 1) / r - 1), by and_intros <;> first | decide +kernel | exact fun _ => rfl⟩,
   ⟨barUp, 1, 2, 512, entB, [], slotAt 200, fun r => slotAt 200 + min 63 ((20 + r - 1) / r - 1), by and_intros <;> first | decide +kernel | exact fun _ => rfl⟩,
   ⟨up.set R.GQ_SUN_TMO 0 5, 1, by decide +kernel⟩,
   ⟨(((up.set R.GQ_SUN_TMO 0 5).wDev fun d => { d with slot := 5 }).updQ 512 fun x => { x with ents := [entB] }).updBar 1 fun b => { b with st := .opened }, 1, 2, 512, entB, by decide +kernel⟩⟩

theorem witness_ForecastsAreDecidedAndAnswered :
    (∃ (s : State) (q : Nat) (e : Ent) (r : List Nat) (why : _), q < 256 * s.cfg.n ∧ s.adm.inflight = q :: r ∧ s.devSt ≠ devDoze ∧ (s.q q).ents = [e] ∧ isHead e = true ∧ (e.pre = some whyFormat ∧ why = whyFormat) ∨ (e.pre ≠ some whyFormat ∧ (s.admits (q / 256) = false ∨ (s.q q).inited = false ∨ e.pre = some whyState) ∧ why = whyState) ∨ (e.pre = some whyBarrier ∧ s.admits (q / 256) = true ∧ (s.q q).inited = true ∧ why = whyBarrier) ∨ (e.pre = none ∧ s.admits (q / 256) = true ∧ (s.q q).inited = true ∧ 1024 ≤ (s.bk (q / 256)).grants.length ∧ why = whyTable) ∨ (e.pre = none ∧ s.admits (q / 256) = true ∧ (s.q q).inited = true ∧ (s.bk (q / 256)).grants.length < 1024 ∧ e.st = .failed ∧ why = whyCheck)) ∧
    (∃ (s : State) (q : Nat) (e : Ent) (r : List Nat), q < 256 * s.cfg.n ∧ s.adm.inflight = q :: r ∧ s.devSt ≠ devDoze ∧ (s.q q).ents = [e] ∧ isHead e = true ∧ e.pre = none ∧ s.admits (q / 256) = true ∧ (s.q q).inited = true ∧ (s.bk (q / 256)).grants.length < 1024 ∧ e.st = .scanned ∧ fcDelta e.fc < 0) ∧
    (∃ (s : State) (q : Nat) (edge : Nat) (e : Ent) (r : List Nat), q < 256 * s.cfg.n ∧ s.adm.inflight = q :: r ∧ s.devSt ≠ devDoze ∧ (s.q q).ents = [e] ∧ isHead e = true ∧ e.pre = none ∧ s.admits (q / 256) = true ∧ (s.q q).inited = true ∧ (s.bk (q / 256)).grants.length < 1024 ∧ e.st = .scanned ∧ 0 < fcDelta e.fc ∧ s.fitsIn (s.prefixes (q / 256) (s.get R.GQ_QCTL_GAL q) (fcDelta e.fc).toNat e.ups) (q / 256) (s.get R.GQ_QCTL_GAL q) (fcDelta e.fc).toNat (slotAt (edge + 60)) (e.tref + fcLead e.fc) (fcDur e.fc) = true) ∧
    (∃ (s : State) (q : Nat) (edge : Nat) (e : Ent) (r : List Nat) (fit : Nat → Bool) (lo : Nat) (hi : Nat) (k : _), q < 256 * s.cfg.n ∧ s.adm.inflight = q :: r ∧ s.devSt ≠ devDoze ∧ (s.q q).ents = [e] ∧ isHead e = true ∧ e.pre = none ∧ s.admits (q / 256) = true ∧ (s.q q).inited = true ∧ (s.bk (q / 256)).grants.length < 1024 ∧ e.st = .scanned ∧ 0 < fcDelta e.fc ∧ (∀ k, fit k = s.fitsIn (s.prefixes (q / 256) (s.get R.GQ_QCTL_GAL q) (fcDelta e.fc).toNat e.ups) (q / 256) (s.get R.GQ_QCTL_GAL q) (fcDelta e.fc).toNat (slotAt (edge + 60)) k (fcDur e.fc)) ∧ lo = max (e.tref + fcLead e.fc - fcEarly e.fc) (slotAt (edge + 60)) ∧ hi = min (s.dev.slot + 255) (e.tref + 255) ∧ fit (e.tref + fcLead e.fc) = false ∧ lo ≤ k ∧ k ≤ hi ∧ fit k = true ∧ (∀ j < k, lo ≤ j → fit j = false)) ∧
    (∃ (s : State) (q : Nat) (edge : Nat) (e : Ent) (r : List Nat) (fit : Nat → Bool) (lo : Nat) (hi : Nat), q < 256 * s.cfg.n ∧ s.adm.inflight = q :: r ∧ s.devSt ≠ devDoze ∧ (s.q q).ents = [e] ∧ isHead e = true ∧ e.pre = none ∧ s.admits (q / 256) = true ∧ (s.q q).inited = true ∧ (s.bk (q / 256)).grants.length < 1024 ∧ e.st = .scanned ∧ 0 < fcDelta e.fc ∧ (∀ k, fit k = s.fitsIn (s.prefixes (q / 256) (s.get R.GQ_QCTL_GAL q) (fcDelta e.fc).toNat e.ups) (q / 256) (s.get R.GQ_QCTL_GAL q) (fcDelta e.fc).toNat (slotAt (edge + 60)) k (fcDur e.fc)) ∧ lo = max (e.tref + fcLead e.fc - fcEarly e.fc) (slotAt (edge + 60)) ∧ hi = min (s.dev.slot + 255) (e.tref + 255) ∧ fit (e.tref + fcLead e.fc) = false ∧ (∀ k ≤ hi, lo ≤ k → fit k = false)) ∧
    (∃ (s : State) (q : Nat) (w : BitVec 32) (r : List (BitVec 32 × Option Nat)), q < 256 * s.cfg.n ∧ (s.q q).out = (w, none) :: r) ∧
    (∃ (s : State) (q : Nat) (w : BitVec 32) (r : List (BitVec 32 × Option Nat)) (e : _), q < 256 * s.cfg.n ∧ (s.q q).out = (w, some e) :: r) ∧
    (∃ (s : State) (q : Nat), q < 256 * s.cfg.n ∧ s.storeRuns = true ∧ (s.q q).initDue = true ∨ (s.dev.booted = true ∧ (s.q q).inited = false) ∧ (s.q q).ents = [] ∧ (s.q q).infl = 0) ∧
    (∃ (s : State) (g : Gal) (q : Nat), s.get R.GQ_QSEL_QUEUE = q ∧ s.rowPasses g R.GQ_QCTL_FLUSH q 1 ∧ (s.q q).ents.length ≤ 8 ∧ (∀ e ∈ (s.q q).ents, e.st = .waiting ∧ e.decided = none)) ∧
    (∃ (s : State) (g : Gal), s.rowPasses g R.GQ_CTL_CNT_CLR 0 1) ∧
    (∃ (s : State) (d : Nat) (gid : Nat) (g : Grant), d < s.cfg.n ∧ (s.bk d).grants.find? (fun x => x.gid == gid) = some g ∧ (g.consumed = true ∨ slotEdge (s.dev.slot + 1) < g.expiry ∨ 20 * s.dev.dper ≤ g.expiry)) ∧
    (∃ (s : State) (d : Nat) (gid : Nat) (g : Grant), d < s.cfg.n ∧ (s.bk d).grants.find? (fun x => x.gid == gid) = some g ∧ g.consumed = false ∧ g.expiry = slotEdge (g.start + g.dur) + 400 ∧ g.expiry ≤ slotEdge (s.dev.slot + 1) ∧ g.expiry < 20 * s.dev.dper) :=
  ⟨⟨inUp { entA with st := .failed }, 512, { entA with st := .failed }, [], 7, by decide +kernel⟩,
   ⟨inUp { entA with fc := 0x3FFF * 2 ^ 50 }, 512, { entA with fc := 0x3FFF * 2 ^ 50 }, [], by decide +kernel⟩,
   ⟨(inUp entA).wide, 512, 0, entA, [], by decide +kernel⟩,
   ⟨(inUp entE).wide, 512, 300, entE, [], fun k => (inUp entE).wide.fitsIn ((inUp entE).wide.prefixes 2 0 20 entE.ups) 2 0 20 (slotAt 360) k 3, max (13 - 31) (slotAt 360), 255, slotAt 360, by and_intros <;> first | decide +kernel | exact fun _ => rfl⟩,
   ⟨inUp entA, 512, 300, entA, [], fun k => (inUp entA).fitsIn ((inUp entA).prefixes 2 0 20 entA.ups) 2 0 20 (slotAt 360) k 3, max 13 (slotAt 360), 255, by and_intros <;> first | decide +kernel | exact fun _ => rfl⟩,
   ⟨up.updQ 512 fun x => { x with out := [(7, none)] }, 512, 7, [], by decide +kernel⟩,
   ⟨up.updQ 512 fun x => { x with out := [(7, some 9)] }, 512, 7, [], 9, by decide +kernel⟩,
   ⟨up.updQ 512 fun x => { x with initDue := true }, 512, by decide +kernel⟩,
   ⟨(up.set R.GQ_QSEL_QUEUE 0 512).updQ 512 fun x => { x with ents := [{ entA with st := .waiting }] }, 0, 512, by decide +kernel⟩,
   ⟨up, 0, by decide +kernel⟩,
   ⟨up.updBk 2 fun b => { b with grants := [{ grantUp with consumed := true }] }, 2, 5, { grantUp with consumed := true }, by decide +kernel⟩,
   ⟨(up.updBk 2 fun b => { b with grants := [grantUp] }).wDev fun d => { d with slot := 900, dper := 900 }, 2, 5, grantUp, by decide +kernel⟩⟩

theorem witness_OrreryErrorsAndTestSignals :
    (∃ (s : State) (d : Nat), d < s.cfg.n ∧ d < 64 ∧ (s.lw d).late = false) ∧
    (∃ (s : State) (d : Nat), d < s.cfg.n ∧ d < 64 ∧ (s.lw d).late = true ∧ (srcOf 4 d, clsArith) ∉ s.flt.masked) ∧
    (∃ (s : State) (d : Nat), d < s.cfg.n ∧ d < 64 ∧ (s.lw d).persDue = false) ∧
    (∃ (s : State) (d : Nat), d < s.cfg.n ∧ d < 64 ∧ (s.lw d).persDue = true ∧ (srcOf 4 d, clsArithp) ∉ s.flt.masked) ∧
    (∃ (s : State) (d : Nat), d < s.cfg.n) ∧
    (∃ (s : State) (d : Nat), d < s.cfg.n ∧ (s.get R.ORR_CTL_SCRUB_EN = 0 ∨ s.onPll = false ∨ s.dev.gated = true)) ∧
    (∃ (s : State) (d : Nat), d < s.cfg.n ∧ s.get R.ORR_CTL_SCRUB_EN = 1 ∧ s.onPll = true ∧ s.dev.gated = false) ∧
    (∃ (s : State) (d : Nat) (src : Nat), s.get R.ORR_CTL_SCRUB_EN = 1 ∧ s.onPll = true ∧ s.dev.gated = false ∧ src = srcOf 4 (if d < s.cfg.n then d else 0xFFF) ∧ (src, clsMemdbe) ∉ s.flt.masked) ∧
    (∃ (s : State) (g : Gal) (w : Word), s.passes g R.ORR_INJ_ARM.base w ∧ s.priv g 0xB = false) ∧
    (∃ (s : State) (g : Gal) (w : Word), s.passes g R.ORR_INJ_ARM.base w ∧ s.priv g 0xB = true) ∧
    (∃ (s : State) (g : Gal), s.rowPasses g R.ORR_CTL_CNT_CLR 0 1) ∧
    (∃ (s : State) (g : Gal), s.rowPasses g R.LOOP_TST_CTL_ARM 0 1 ∧ (s.get R.LOOP_TST_STAT_ACTIVE = 1 ∨ s.tst.armed = true)) ∧
    (∃ (u : Upset) (st : Nat) (n : Nat), (∀ i < n, upHits u st false i = false)) ∧
    (∃ (ts : List Term) (u : Upset) (st : Nat) (n : Nat) (i : _), i < n ∧ upHits u st false i = true ∧ u.delta % 7 ≠ 0 ∧ (∃ x ∈ ts, ∃ l, x.accs = some l ∧ i < l.length)) ∧
    (∃ (u : Upset) (st : Nat) (l : List Acc), (∀ i < l.length, upHits u st true i = false)) ∧
    (∃ (u : Upset) (st : Nat) (l : List Acc) (i : _), i < l.length ∧ upHits u st true i = true ∧ u.delta % 7 ≠ 0) ∧
    (∃ (s : State) (g : Gal), s.rowPasses g R.LOOP_TST_CTL_ARM 0 1 ∧ s.get R.LOOP_TST_STAT_ACTIVE = 0 ∧ s.tst.armed = false ∧ s.armRefused = true) ∧
    (∃ (s : State) (g : Gal) (lim : Int), s.rowPasses g R.LOOP_TST_CTL_ARM 0 1 ∧ s.get R.LOOP_TST_STAT_ACTIVE = 0 ∧ s.tst.armed = false ∧ s.armRefused = false ∧ lim = (if s.get R.LOOP_TST_CTL_TGT = 1 then 0x578 else 0x140)) ∧
    (∃ (s : State), s.tst.armed = true ∧ s.tst.stop = 0 ∧ s.get R.LOOP_TST_STAT_ACTIVE = 0) ∧
    (∃ (s : State) (g : Gal), s.rowPasses g R.LOOP_TST_CTL_ARM 0 0 ∧ s.priv g 0xC = false) ∧
    (∃ (s : State) (g : Gal), s.rowPasses g R.LOOP_TST_CTL_ARM 0 0 ∧ s.priv g 0xC = true ∧ s.get R.LOOP_TST_STAT_ACTIVE = 1 ∧ s.tst.stop = 0) ∧
    (∃ (s : State) (g : Gal), s.rowPasses g R.LOOP_TST_CTL_ARM 0 0 ∧ s.priv g 0xC = true ∧ s.get R.LOOP_TST_STAT_ACTIVE = 0 ∧ s.tst.armed = true) ∧
    (∃ (s : State), s.get R.LOOP_TST_STAT_ACTIVE = 1 ∧ s.get R.LOOP_TST_AMP_DUR = 0) ∧
    (∃ (s : State), s.get R.LOOP_TST_STAT_ACTIVE = 1 ∧ s.get R.LOOP_TST_AMP_DUR ≠ 0 ∧ s.get R.LOOP_TST_AMP_DUR ≤ s.tst.dur ∧ (s.tst.stop = 0 ∨ s.tst.stop = 1)) :=
  ⟨⟨up, 2, by decide +kernel⟩,
   ⟨up.updLaw 2 fun l => { l with late := true }, 2, by decide +kernel⟩,
   ⟨up, 2, by decide +kernel⟩,
   ⟨up.updLaw 2 fun l => { l with persDue := true }, 2, by decide +kernel⟩,
   ⟨up, 2, by decide +kernel⟩,
   ⟨up.set R.ORR_CTL_SCRUB_EN 0 0, 2, by decide +kernel⟩,
   ⟨up.set R.ORR_CTL_SCRUB_EN 0 1, 2, by decide +kernel⟩,
   ⟨up.set R.ORR_CTL_SCRUB_EN 0 1, 2, 0x4002, by decide +kernel⟩,
   ⟨up.set (accFld 0) 1 0xFFFFFFFF, 1, 0, by decide +kernel⟩,
   ⟨up, 0, 0, by decide +kernel⟩,
   ⟨up.set R.ORR_CTL_SCRUB_EN 0 1, 0, by decide +kernel⟩,
   ⟨up.wTst fun t => { t with armed := true }, 0, by decide +kernel⟩,
   ⟨{ stage := 4, elem := 1, delta := 1 }, 4, 1, by decide +kernel⟩,
   ⟨[.vec 7 ⟨0, [3]⟩], { stage := 4, delta := 1 }, 4, 1, 0, by decide +kernel⟩,
   ⟨{ stage := 4, elem := 1, late := true, delta := 1 }, 4, [(3, 0)], by decide +kernel⟩,
   ⟨{ stage := 4, late := true, delta := 1 }, 4, [(3, 0)], 0, by decide +kernel⟩,
   ⟨up, 0, by decide +kernel⟩,
   ⟨(up.sets [(R.LOOP_TST_CTL_MODE, 0, 2)]).updLaw 0 fun l => { l with img := { l.img with m := 1, s := 1 } }, 0, 0x140, by decide +kernel⟩,
   ⟨up.wTst fun t => { t with armed := true }, by decide +kernel⟩,
   ⟨up.set (accFld 0) 1 0xFFFFFFFF, 1, by decide +kernel⟩,
   ⟨up.set R.LOOP_TST_STAT_ACTIVE 0 1, 0, by decide +kernel⟩,
   ⟨up.wTst fun t => { t with armed := true }, 0, by decide +kernel⟩,
   ⟨(up.set R.LOOP_TST_STAT_ACTIVE 0 1).set R.LOOP_TST_AMP_DUR 0 0, by decide +kernel⟩,
   ⟨((up.set R.LOOP_TST_STAT_ACTIVE 0 1).set R.LOOP_TST_AMP_DUR 0 1).wTst fun t => { t with dur := 1 }, by decide +kernel⟩⟩

theorem witness_ForecastersStopAndDistrictsDarken :
    (∃ (s : State) (d : Nat), d < s.cfg.n ∧ s.get R.FCS_STAT_STATE = 2 ∧ s.get R.FCS_DSTAT_OFF d = 0 ∧ 1 ≤ s.dev.dper % 10 ∧ s.dev.dper % 10 ≤ 5) ∧
    (∃ (s : State) (d : Nat), d < s.cfg.n ∧ (s.get R.FCS_STAT_STATE ≠ 2 ∨ s.get R.FCS_DSTAT_OFF d = 1 ∨ s.dev.dper % 10 = 0 ∨ 5 < s.dev.dper % 10)) ∧
    (∃ (s : State) (d : Nat), d < s.cfg.n ∧ 2 ≤ (s.fc d).uncor ∧ s.get R.FCS_DSTAT_OFF d = 0) ∧
    (∃ (s : State), s.dev.pubDue = false) ∧
    (∃ (s : State), s.dev.pubDue = true) ∧
    (∃ (s : State) (g : Gal), s.rowPasses g R.FCS_CTL_CNT_CLR 0 1) ∧
    (∃ (s : State) (d : Nat), d < s.cfg.n ∧ d < 64 ∧ s.qualified d = false) ∧
    (∃ (s : State) (d : Nat), d < s.cfg.n ∧ d < 64 ∧ s.qualified d = true ∧ s.isSupply d = false ∧ s.devSt ≠ devOff ∧ s.inGroup d = [d] ∧ s.darkens d = true ∧ (srcOf 2 d, clsDark) ∉ s.flt.masked) ∧
    (∃ (s : State) (d : Nat), d < s.cfg.n ∧ d < 64 ∧ s.get R.DST_FO_STAT_STATE d = 2 ∧ (s.foS d).darkStep = 1) ∧
    (∃ (s : State) (d : Nat), d < s.cfg.n ∧ d < 64 ∧ s.get R.DST_FO_STAT_STATE d = 2 ∧ (s.foS d).darkStep = 2) ∧
    (∃ (s : State) (d : Nat), d < s.cfg.n ∧ d < 64 ∧ s.get R.DST_FO_STAT_STATE d = 2 ∧ (s.foS d).darkStep = 3 ∧ s.dev.sleepStep = 0) ∧
    (∃ (s : State) (d : Nat) (g : Gal), d < s.cfg.n ∧ d < 64 ∧ s.rowPasses g R.DST_FO_CTL_RESTART d 1 ∧ s.get R.DST_FO_STAT_STATE d ≠ 3) ∧
    (∃ (s : State) (d : Nat) (g : Gal), d < s.cfg.n ∧ d < 64 ∧ s.rowPasses g R.DST_FO_CTL_RESTART d 1 ∧ s.get R.DST_FO_STAT_STATE d = 3) ∧
    (∃ (s : State), s.qualified s.cfg.ccsup = false) ∧
    (∃ (s : State), s.qualified s.cfg.ccsup = true ∧ (srcOf 2 s.cfg.ccsup, clsSupcap) ∉ s.flt.masked) :=
  ⟨⟨(up.set R.FCS_STAT_STATE 0 2).wDev fun d => { d with dper := 1 }, 2, by decide +kernel⟩,
   ⟨up, 2, by decide +kernel⟩,
   ⟨up.updFc 2 fun x => { x with uncor := 2 }, 2, by decide +kernel⟩,
   ⟨up, by decide +kernel⟩,
   ⟨up.wDev fun d => { d with pubDue := true }, by decide +kernel⟩,
   ⟨up, 0, by decide +kernel⟩,
   ⟨up, 2, by decide +kernel⟩,
   ⟨(up.set R.DST_FO_STAT_QUAL 2 1).updFo 2 fun x => { x with qual := 255 }, 2, by decide +kernel⟩,
   ⟨(up.set R.DST_FO_STAT_STATE 2 2).updFo 2 fun x => { x with darkStep := 1 }, 2, by decide +kernel⟩,
   ⟨(up.set R.DST_FO_STAT_STATE 2 2).updFo 2 fun x => { x with darkStep := 2 }, 2, by decide +kernel⟩,
   ⟨(up.set R.DST_FO_STAT_STATE 2 2).updFo 2 fun x => { x with darkStep := 3 }, 2, by decide +kernel⟩,
   ⟨up, 2, 0, by decide +kernel⟩,
   ⟨up.set R.DST_FO_STAT_STATE 2 3, 2, 0, by decide +kernel⟩,
   ⟨up, by decide +kernel⟩,
   ⟨(up.set R.DST_FO_STAT_QUAL 7 1).updFo 7 fun x => { x with qual := 255 }, by decide +kernel⟩⟩

theorem witness_GroupsSharesAndCoolant :
    (∃ (s : State), s.bud.gmode = true ∧ s.get R.GRP_STAT_EXC = 0 ∧ s.bud.excOn < s.budLat.excT) ∧
    (∃ (s : State), s.bud.gmode = true ∧ s.get R.GRP_STAT_EXC = 0 ∧ s.budLat.excT ≤ s.bud.excOn) ∧
    (∃ (s : State), s.get R.GRP_STAT_EXC = 1 ∧ s.bud.excOff < s.budLat.excT) ∧
    (∃ (s : State), s.get R.GRP_STAT_EXC = 1 ∧ s.budLat.excT ≤ s.bud.excOff) ∧
    (∃ (s : State) (g : Gal), s.rowPasses g R.BUD_CTL_CNT_CLR 0 1) ∧
    (∃ (s : State) (g : Gal) (w : Word) (sum : Nat), s.passes g R.BUD_SHR0_SH1.base w ∧ sum = bitsOf w 0 8 + bitsOf w 8 8 + bitsOf w 16 8 + bitsOf w 24 8 + s.get R.BUD_SHR1_SH5 + s.get R.BUD_SHR1_SH6 + s.get R.BUD_SHR1_SH7 ∧ s.priv g 0xD = false) ∧
    (∃ (s : State) (g : Gal) (w : Word) (sum : Nat), s.passes g R.BUD_SHR0_SH1.base w ∧ sum = bitsOf w 0 8 + bitsOf w 8 8 + bitsOf w 16 8 + bitsOf w 24 8 + s.get R.BUD_SHR1_SH5 + s.get R.BUD_SHR1_SH6 + s.get R.BUD_SHR1_SH7 ∧ s.priv g 0xD = true ∧ 256 < sum) ∧
    (∃ (s : State) (g : Gal) (w : Word) (sum : Nat), s.passes g R.BUD_SHR0_SH1.base w ∧ sum = bitsOf w 0 8 + bitsOf w 8 8 + bitsOf w 16 8 + bitsOf w 24 8 + s.get R.BUD_SHR1_SH5 + s.get R.BUD_SHR1_SH6 + s.get R.BUD_SHR1_SH7 ∧ s.priv g 0xD = true ∧ sum ≤ 256 ∧ [bitsOf w 0 8, bitsOf w 8 8, bitsOf w 16 8, bitsOf w 24 8] ≠ [s.get R.BUD_SHR0_SH1, s.get R.BUD_SHR0_SH2, s.get R.BUD_SHR0_SH3, s.get R.BUD_SHR0_SH4]) ∧
    (∃ (j : Nat), 2 ≤ j) ∧
    (∃ (s : State), s.coolPinSel = true ∧ s.dev.released = true ∧ (srcOf 8 0, clsCoolant) ∉ s.flt.masked) ∧
    (∃ (s : State), s.coolPinSel = false) ∧
    (∃ (s : State) (g : Gal), s.rowPasses g R.GRP_STAT_COOLLOSS 0 1 ∧ s.devSt ≠ devOff ∧ s.coolPinSel = true) ∧
    (∃ (s : State) (g : Gal), s.rowPasses g R.GRP_STAT_COOLLOSS 0 1 ∧ s.devSt ≠ devOff ∧ (s.coolAlertSel = false ∨ s.alertGood = true)) :=
  ⟨⟨up.wBud fun b => { b with gmode := true, excOn := 2, lat := some latUp }, by decide +kernel⟩,
   ⟨up.wBud fun b => { b with gmode := true, excOn := 3, lat := some latUp }, by decide +kernel⟩,
   ⟨(up.set R.GRP_STAT_EXC 0 1).wBud fun b => { b with excOff := 2, lat := some latUp }, by decide +kernel⟩,
   ⟨(up.set R.GRP_STAT_EXC 0 1).wBud fun b => { b with excOff := 3, lat := some latUp }, by decide +kernel⟩,
   ⟨up, 0, by decide +kernel⟩,
   ⟨up.set R.PG_CTL_LOCK 0xD 1, 0, 0, 0, by decide +kernel⟩,
   ⟨up, 0, 0xFF000002, 257, by decide +kernel⟩,
   ⟨up, 0, 0xFF000001, 256, by decide +kernel⟩,
   ⟨2, by decide +kernel⟩,
   ⟨up, by decide +kernel⟩,
   ⟨up.wBud fun b => { b with lat := some { latUp with cool := 2 } }, by decide +kernel⟩,
   ⟨up, 0, by decide +kernel⟩,
   ⟨up.wBud fun b => { b with lat := some { latUp with cool := 1 } }, 0, by decide +kernel⟩⟩

theorem witness_ConversionsCalibrationAndAgeing :
    (∃ (s : State) (g : Gal), s.rowPasses g R.ADC_CTL_START 0 1 ∧ s.onPll = false) ∧
    (∃ (s : State) (g : Gal), s.rowPasses g R.ADC_CTL_START 0 1 ∧ s.onPll = true ∧ s.get R.ADC_STAT_BUSY = 1) ∧
    (∃ (s : State) (g : Gal), s.rowPasses g R.ADC_CTL_START 0 1 ∧ s.onPll = true ∧ s.get R.ADC_STAT_BUSY = 0) ∧
    (∃ (s : State), s.onPll = true ∧ s.get R.ADC_CTL_RT_EN = 0) ∧
    (∃ (s : State), s.onPll = true ∧ s.get R.ADC_CTL_RT_EN = 1 ∧ s.get R.ADC_STAT_BUSY = 0) ∧
    (∃ (s : State), s.onPll = true ∧ s.get R.ADC_STAT_BUSY = 1) ∧
    (∃ (s : State), s.onPll = true ∧ s.get R.ADC_STAT_BUSY = 0) ∧
    (∃ (s : State) (k : Nat), k < 5 ∧ s.onPll = true ∧ (s.slice k).on = true ∧ (s.slice k).ready = false) ∧
    (∃ (s : State) (k : Nat), (5 ≤ k ∨ s.onPll = false)) ∧
    (∃ (s : State) (k : Nat) (ch : Nat) (j : Nat), k < 5 ∧ s.onPll = true ∧ (s.slice k).ready = true ∧ (s.slice k).cur = some (false, ch) ∧ s.adc.therm = false ∧ s.get R.ADC_STAT_INJ_BUSY = 0 ∧ j < 5 ∧ j ≠ k ∧ (s.slice j).hasReg (fun _ => true) = true) ∧
    (∃ (s : State) (k : Nat), k < 5 ∧ (s.slice k).cur = none) ∧
    (∃ (s : State), s.onPll = true ∧ s.get R.ADC_STAT_BAD = 0 ∧ s.get R.ADC_STAT_BUSY = 1) ∧
    (∃ (s : State), s.onPll = true ∧ s.get R.ADC_STAT_BAD = 0 ∧ s.get R.ADC_STAT_BUSY = 0 ∧ s.get R.ADC_STAT_INJ_BUSY = 0 ∧ s.get R.ADC_STAT_OUT < 5) ∧
    (∃ (s : State), s.onPll = false) ∧
    (∃ (s : State) (ground : Int) (half : Int) (full : Int) (o : Nat), s.onPll = true ∧ o = s.get R.ADC_STAT_OUT ∧ o < 5 ∧ 0 < full - half ∧ ground.natAbs ≤ 128 ∧ 32113 ≤ rdiv (1792 * 16 * 32768) (full - half).toNat ∧ rdiv (1792 * 16 * 32768) (full - half).toNat ≤ 33423) ∧
    (∃ (s : State) (ground : Int) (half : Int) (full : Int) (o : Nat), s.onPll = true ∧ o = s.get R.ADC_STAT_OUT ∧ o < 5 ∧ 0 < full - half ∧ 128 < ground.natAbs ∧ (s.get R.ADC_STAT_BAD).testBit o = false ∧ (srcOf 7 o, clsAdccal) ∉ s.flt.masked) ∧
    (∃ (s : State) (g : Gal), s.rowPasses g R.ADC_CTL_INJ_START 0 1 ∧ s.onPll = true ∧ s.get R.ADC_INJCFG_LEN ≠ 0 ∧ s.get R.ADC_STAT_INJ_BUSY = 1 ∧ s.get R.ADC_STAT_INJ_PEND = 0) ∧
    (∃ (s : State) (g : Gal), s.rowPasses g R.ADC_CTL_INJ_START 0 1 ∧ s.onPll = true ∧ s.get R.ADC_INJCFG_LEN ≠ 0 ∧ s.get R.ADC_STAT_INJ_BUSY = 1 ∧ s.get R.ADC_STAT_INJ_PEND = 1) ∧
    (∃ (s : State) (g : Gal), s.rowPasses g R.ADC_CTL_INJ_START 0 1 ∧ s.onPll = true ∧ s.get R.ADC_INJCFG_LEN ≠ 0 ∧ s.get R.ADC_STAT_INJ_BUSY = 0 ∧ s.get R.ADC_STAT_BUSY = 0) ∧
    (∃ (s : State), s.get R.THM_STAT_STATE ≠ 1) ∧
    (∃ (s : State), s.get R.THM_STAT_STATE = 1 ∧ s.get R.THM_STAT_COOLMS = 100) ∧
    (∃ (s : State), s.get R.AGE_CTL_EN = 1 ∧ s.onPll = true ∧ s.age.reading = false ∧ s.ticks / 65536 < s.age.lastRead + 10) ∧
    (∃ (s : State), s.get R.AGE_CTL_EN = 1 ∧ s.onPll = true ∧ s.age.reading = false ∧ s.sleeping = false ∧ s.age.lastRead + 10 ≤ s.ticks / 65536) ∧
    (∃ (s : State) (g : Gal), s.rowPasses g R.AGE_CTL_READ_NOW 0 1) ∧
    (∃ (s : State), (s.age.reading = false ∨ s.onPll = false)) ∧
    (∃ (s : State), s.age.reading = true ∧ s.onPll = true) ∧
    (∃ (s : State) (a : Nat), s.canonical = true ∧ a = ageAt (1 - s.age.slot) ∧ s.ageWriteDue = false) ∧
    (∃ (s : State) (a : Nat), s.canonical = true ∧ a = ageAt (1 - s.age.slot) ∧ s.ageWriteDue = true) :=
  ⟨⟨up.set R.CLK_STAT_SRC 0 0, 0, by decide +kernel⟩,
   ⟨up.set R.ADC_STAT_BUSY 0 1, 0, by decide +kernel⟩,
   ⟨up, 0, by decide +kernel⟩,
   ⟨up.set R.ADC_CTL_RT_EN 0 0, by decide +kernel⟩,
   ⟨up.set R.ADC_CTL_RT_EN 0 1, by decide +kernel⟩,
   ⟨up.set R.ADC_STAT_BUSY 0 1, by decide +kernel⟩,
   ⟨up, by decide +kernel⟩,
   ⟨up.updSlice 1 fun x => { x with on := true }, 1, by decide +kernel⟩,
   ⟨up, 5, by decide +kernel⟩,
   ⟨(up.updSlice 1 fun x => { x with ready := true, cur := some (false, 3) }).updSlice 2 fun x => { x with reg := [4] }, 1, 3, 2, by decide +kernel⟩,
   ⟨up, 1, by decide +kernel⟩,
   ⟨up.set R.ADC_STAT_BUSY 0 1, by decide +kernel⟩,
   ⟨up, by decide +kernel⟩,
   ⟨up.set R.CLK_STAT_SRC 0 0, by decide +kernel⟩,
   ⟨up.set R.ADC_STAT_OUT 0 0, 0, 30048, 58720, 0, by decide +kernel⟩,
   ⟨up.set R.ADC_STAT_OUT 0 0, 129, 30048, 58720, 0, by decide +kernel⟩,
   ⟨up.sets [(R.ADC_INJCFG_LEN, 0, 3), (R.ADC_STAT_INJ_BUSY, 0, 1)], 0, by decide +kernel⟩,
   ⟨up.sets [(R.ADC_INJCFG_LEN, 0, 3), (R.ADC_STAT_INJ_BUSY, 0, 1), (R.ADC_STAT_INJ_PEND, 0, 1)], 0, by decide +kernel⟩,
   ⟨up.sets [(R.ADC_INJCFG_LEN, 0, 3)], 0, by decide +kernel⟩,
   ⟨up, by decide +kernel⟩,
   ⟨up.sets [(R.THM_STAT_STATE, 0, 1), (R.THM_STAT_COOLMS, 0, 100)], by decide +kernel⟩,
   ⟨up.set R.AGE_CTL_EN 0 1, by decide +kernel⟩,
   ⟨{ up.set R.AGE_CTL_EN 0 1 with ticks := 655360 }, by decide +kernel⟩,
   ⟨up, 0, by decide +kernel⟩,
   ⟨up, by decide +kernel⟩,
   ⟨up.wAge fun a => { a with reading := true }, by decide +kernel⟩,
   ⟨up, ageAt (1 - up.age.slot), by decide +kernel⟩,
   ⟨{ up.wAge fun a => { a with changed := true } with ticks := 65536 * 3600 }, ageAt (1 - up.age.slot), by decide +kernel⟩⟩

theorem witness_RingsAndCapturesReachMemory :
    (∃ (s : State) (g : Gal) (r : Gal) (cap : Bool) (k : Nat), k = ringIx r cap ∧ s.rowPasses g (ringEn k) r 1 ∧ s.ringOn k = true) ∧
    (∃ (s : State) (g : Gal) (r : Gal) (cap : Bool) (k : Nat), k = ringIx r cap ∧ s.rowPasses g (ringEn k) r 1 ∧ s.ringOn k = false ∧ (cap = true → s.cap.gal ≠ r)) ∧
    (∃ (s : State) (g : Gal) (r : Gal) (cap : Bool) (k : Nat) (tail : Nat) (n : Nat), k = ringIx r cap ∧ n = s.ringLen k ∧ tail < 65536 ∧ s.rowPasses g (ringTail k) r tail ∧ (cap = true → s.cap.gal ≠ r) ∧ tail < n ∧ (tail + n - s.get (ringTail k) r % n) % n ≤ (s.get (ringHead k) r + n - s.get (ringTail k) r % n) % n) ∧
    (∃ (s : State) (g : Gal) (r : Gal) (cap : Bool) (k : Nat) (tail : Nat) (n : Nat), k = ringIx r cap ∧ n = s.ringLen k ∧ tail < 65536 ∧ s.rowPasses g (ringTail k) r tail ∧ (cap = true → s.cap.gal ≠ r) ∧ n ≤ tail) ∧
    (∃ (s : State) (r : Nat) (id : Nat) (i : Nat) (b : List Byte) (m : Nat) (o : Nat), ringOrder.find? (fun r => (nextWrite (s.ring r).queue).isSome) = some r ∧ (List.range 64).find? (fun k => !(s.mw.any fun w => w.id == k)) = some id ∧ nextWrite (s.ring r).queue = some i ∧ (s.ring r).queue[i]? = some (b, m, o) ∧ s.onPll = true) ∧
    (∃ (s : State), (s.onPll = false ∨ (∀ r, r < 16 → nextWrite (s.ring r).queue = none))) ∧
    (∃ (s : State) (id : Nat), (∀ w ∈ s.mw, w.id ≠ id)) ∧
    (∃ (s : State) (id : Nat) (g : Nat) (w : MemW), g < 8 ∧ s.mw.find? (fun x => x.id == id) = some w ∧ w.dead = false ∧ w.ring = 2 * g) ∧
    (∃ (s : State) (id : Nat) (g : Nat) (w : MemW) (b : List Byte) (m : Nat), g < 8 ∧ s.mw.find? (fun x => x.id == id) = some w ∧ w.dead = false ∧ w.ring = 2 * g ∧ s.ringOn (2 * g) = true ∧ (s.ring (2 * g)).gen = w.gen ∧ (s.ring (2 * g)).log2 ≤ 16 ∧ (s.ring (2 * g)).queue = [(b, m, 1)] ∧ b.length ≤ 32 * m ∧ w.ent = s.get R.GAL_TPTR_HEAD g % s.ringLen (2 * g)) ∧
    (∃ (s : State) (id : Nat) (g : Nat) (w : MemW), g < 8 ∧ s.mw.find? (fun x => x.id == id && !x.dead) = some w ∧ w.ring = 2 * g) ∧
    (∃ (s : State) (id : Nat), s.mw.find? (fun x => x.id == id && !x.dead) = none) ∧
    (∃ (s : State), s.dev.telDue = false) ∧
    (∃ (s : State) (g : Nat), g < 8 ∧ s.dev.telDue = true ∧ s.tel.gals = 2 ^ g ∧ s.ringOn (2 * g) = true ∧ s.ringRoom (2 * g) ≠ 0) ∧
    (∃ (s : State) (g : Nat), g < 8 ∧ s.dev.telDue = true ∧ s.tel.gals = 2 ^ g ∧ s.ringOn (2 * g) = true ∧ s.ringRoom (2 * g) = 0) ∧
    (∃ (s : State) (g : Gal), s.rowPasses g R.CAP_CTL_ARM 0 1 ∧ s.get R.CAP_STAT_STATE ∉ [0, 4]) ∧
    (∃ (s : State) (g : Gal), s.rowPasses g R.CAP_CTL_ARM 0 1 ∧ s.get R.CAP_STAT_STATE ∈ [0, 4] ∧ s.ringOn (ringIx (s.get R.CAP_CTL_GAL) true) = false) ∧
    (∃ (s : State) (g : Gal), s.rowPasses g R.CAP_CTL_ARM 0 1 ∧ s.get R.CAP_STAT_STATE ∈ [0, 4] ∧ s.ringOn (ringIx (s.get R.CAP_CTL_GAL) true) = true ∧ s.cal.stag = none ∧ s.get R.CAP_CTL_TRIG ≤ 5) ∧
    (∃ (s : State) (g : Gal), s.rowPasses g R.CAP_CTL_ARM 0 0 ∧ s.priv g 0xA = false) ∧
    (∃ (s : State) (g : Gal), s.rowPasses g R.CAP_CTL_ARM 0 0 ∧ s.priv g 0xA = true ∧ s.get R.CAP_STAT_STATE ∉ [1, 2]) ∧
    (∃ (s : State) (g : Gal), s.rowPasses g R.CAP_CTL_ARM 0 0 ∧ s.priv g 0xA = true ∧ s.get R.CAP_STAT_STATE ∈ [1, 2]) ∧
    (∃ (s : State), s.get R.CAP_STAT_STATE = 2 ∧ (s.cap.post = 0 ∨ s.cap.left ≠ 0 ∨ s.cap.trigDue = true)) ∧
    (∃ (s : State), s.get R.CAP_STAT_STATE = 2 ∧ s.cap.post ≠ 0 ∧ s.cap.left = 0 ∧ s.cap.trigDue = false) :=
  ⟨⟨up.set R.GAL_TBASE0_EN 0 1, 0, 0, false, 0, by decide +kernel⟩,
   ⟨up.wCap fun c => { c with gal := 1 }, 0, 0, true, 1, by decide +kernel⟩,
   ⟨(up.updRing 0 fun x => { x with log2 := 4 }).sets [(R.GAL_TPTR_HEAD, 0, 5), (R.GAL_TPTR_TAIL, 0, 1)], 0, 0, false, 0, 4, 16, by decide +kernel⟩,
   ⟨up, 0, 0, false, 0, 16, 16, by decide +kernel⟩,
   ⟨up.updRing 2 fun x => { x with queue := [([1, 2], 0, 0)] }, 2, 0, 0, [1, 2], 0, 0, by decide +kernel⟩,
   ⟨up, by decide +kernel⟩,
   ⟨up, 3, by decide +kernel⟩,
   ⟨{ up.set R.GAL_TBASE0_EN 1 1 with mw := [mwUp] }, 3, 1, mwUp, by decide +kernel⟩,
   ⟨({ up.set R.GAL_TBASE0_EN 1 1 with mw := [mwUp] }).updRing 2 fun x => { x with queue := [([1, 2], 1, 1)] }, 3, 1, mwUp, [1, 2], 1, by decide +kernel⟩,
   ⟨{ up.set R.GAL_TBASE0_EN 1 1 with mw := [mwUp] }, 3, 1, mwUp, by decide +kernel⟩,
   ⟨up, 3, by decide +kernel⟩,
   ⟨up, by decide +kernel⟩,
   ⟨{ (up.set R.GAL_TBASE0_EN 1 1).wDev fun d => { d with telDue := true } with tel := { gals := 2 } }, 1, by decide +kernel⟩,
   ⟨({ (up.set R.GAL_TBASE0_EN 1 1).wDev fun d => { d with telDue := true } with tel := { gals := 2 } }).set R.GAL_TPTR_HEAD 1 15, 1, by decide +kernel⟩,
   ⟨up.set R.CAP_STAT_STATE 0 3, 0, by decide +kernel⟩,
   ⟨up, 0, by decide +kernel⟩,
   ⟨up.set (ringEn 1) 0 1, 0, by decide +kernel⟩,
   ⟨up.set (accFld 0) 1 0xFFFFFFFF, 1, by decide +kernel⟩,
   ⟨up, 0, by decide +kernel⟩,
   ⟨up.set R.CAP_STAT_STATE 0 2, 0, by decide +kernel⟩,
   ⟨up.set R.CAP_STAT_STATE 0 2, by decide +kernel⟩,
   ⟨(up.set R.CAP_STAT_STATE 0 2).wCap fun c => { c with post := 4 }, by decide +kernel⟩⟩

end
end

namespace Sys2Proof.Machine

/-! ### What a step may not change -/

/-- Of what `State.kept` names: the integration data, the queue, whether the register file is in canonical form, and the
package flash. -/
def tablesOf (k : (Integ × Option FuseMap × Bool × List Host.Cell) ×
    (Option (Nat × List Byte × List Byte) × Option SessS × Bool × Nat) ×
      (Nat × Nat × Nat × Nat × Nat × Bool) × Nat × List Instr) : Integ × List Instr × Bool × List Host.Cell :=
  (k.1.1, k.2.2.2.2, k.1.2.2.1, k.1.2.2.2)

@[simp ↓] theorem State.tables_ite (c : Prop) [Decidable c] (a b : State) :
    tablesOf (if c then a else b).kept = if c then tablesOf a.kept else tablesOf b.kept := by split <;> rfl

/-- A state that differs from `u` in nothing that `kept` names has its tables. -/
theorem tables_of_kept {s t u : State} (h : tablesOf u.kept = tablesOf s.kept) (hk : t.kept = u.kept) :
    tablesOf t.kept = tablesOf s.kept := by rw [hk, h]

section
set_option autoImplicit true
set_option relaxedAutoImplicit true

/-- A change of any other part of the state, the secrets, the device state and the time among them. -/
@[simp ↓] theorem State.tables_with (s : State) :
    tablesOf (State.mk s.cfg fuse' s.regs cells' phases' law' hub' anv' book' queues' fcs' fo' pwr' fab' ports' coef'
    weights' adm' bud' tst' adc' thm' age' cal' dev' flt' arc' exh' fence' rsps' i3c' rings' tel' mw' cap' sec'
    s.flash pageBuf' ticks' base' free' s.pending).kept = tablesOf s.kept := rfl
end

/-! ### The secrets: no key, session or delivery touches a table -/

@[simp ↓] theorem State.dropKey_tables (s : State) : tablesOf s.dropKey.kept = tablesOf s.kept := by
  unfold State.dropKey; simp

@[simp ↓] theorem State.failDelivery_tables (s : State) (r : Nat) :
    tablesOf (s.failDelivery r).kept = tablesOf s.kept := by
  unfold State.failDelivery; simp

@[simp ↓] theorem State.endSession_tables (s : State) : tablesOf s.endSession.kept = tablesOf s.kept := by
  unfold State.endSession; simp

@[simp ↓] theorem State.endClaim_tables (s : State) : tablesOf s.endClaim.kept = tablesOf s.kept := by
  unfold State.endClaim; simp

@[simp ↓] theorem effRel_tables (s : State) (g : Nat) : tablesOf (effRel s g).kept = tablesOf s.kept := by
  unfold effRel; simp

@[simp ↓] theorem effFrel_tables (s : State) (g : Nat) : tablesOf (effFrel s g).kept = tablesOf s.kept := by
  unfold effFrel; simp

@[simp ↓] theorem effMbTimeout_tables (s : State) : tablesOf (effMbTimeout s).kept = tablesOf s.kept := by
  unfold effMbTimeout; simp

@[simp ↓] theorem State.mbctl_tables (s : State) (g : Nat) (w : Word) :
    tablesOf (s.mbctl g w).kept = tablesOf s.kept := by
  unfold State.mbctl; simp

@[simp ↓] theorem effResponseReady_tables (s : State) : tablesOf (effResponseReady s).kept = tablesOf s.kept := by
  unfold effResponseReady
  split
  · rfl
  · have h : tablesOf (if s.sec.zeroPend then s.endSession else s).kept = tablesOf s.kept := by simp
    dsimp only at h ⊢
    generalize (if s.sec.zeroPend = true then s.endSession else s) = u at *
    exact tables_of_kept h (by simp)

/-! ### The answers to SPDM requests -/

@[simp ↓] theorem reply_ite_tables (c : Prop) [Decidable c] (a b : Reply) :
    tablesOf (if c then a else b).2.kept = if c then tablesOf a.2.kept else tablesOf b.2.kept := by split <;> rfl

@[simp ↓] theorem reply_pair_tables (r : List Byte) (t : State) :
    tablesOf ((r, t) : Reply).2.kept = tablesOf t.kept := rfl

@[simp ↓] theorem State.error_tables (s : State) (code data : Nat) :
    tablesOf (s.error code data).2.kept = tablesOf s.kept := by
  unfold State.error; simp

@[simp ↓] theorem State.negotiated_tables (s : State) (m r : List Byte) (n : Nat) :
    tablesOf (s.negotiated m r n).2.kept = tablesOf s.kept := by
  unfold State.negotiated; simp

@[simp ↓] theorem State.noted_tables (s : State) (m r : List Byte) :
    tablesOf (s.noted m r).2.kept = tablesOf s.kept := by
  unfold State.noted; simp

@[simp ↓] theorem State.spdmVersion_tables (s : State) (m : List Byte) :
    tablesOf (s.spdmVersion m).2.kept = tablesOf s.kept := by
  unfold State.spdmVersion; simp

@[simp ↓] theorem State.spdmCaps_tables (s : State) (m : List Byte) :
    tablesOf (s.spdmCaps m).2.kept = tablesOf s.kept := by
  unfold State.spdmCaps; simp

@[simp ↓] theorem State.spdmAlgs_tables (s : State) (m : List Byte) :
    tablesOf (s.spdmAlgs m).2.kept = tablesOf s.kept := by
  unfold State.spdmAlgs
  dsimp only
  rw [reply_ite_tables]
  split
  · simp
  · split <;> simp

@[simp ↓] theorem State.spdmDigests_tables (s : State) (m : List Byte) :
    tablesOf (s.spdmDigests m).2.kept = tablesOf s.kept := by
  unfold State.spdmDigests; simp

@[simp ↓] theorem State.spdmCert_tables (s : State) (m : List Byte) :
    tablesOf (s.spdmCert m).2.kept = tablesOf s.kept := by
  unfold State.spdmCert; simp

@[simp ↓] theorem State.spdmChallenge_tables (s : State) (m : List Byte) :
    tablesOf (s.spdmChallenge m).2.kept = tablesOf s.kept := by
  unfold State.spdmChallenge
  simp only [reply_ite_tables, State.error_tables]
  split <;> [rfl; skip]
  split <;> [rfl; skip]
  split <;> simp

@[simp ↓] theorem State.spdmMeas_tables (s : State) (i : Bool) (m : List Byte) :
    tablesOf (s.spdmMeas i m).2.kept = tablesOf s.kept := by
  unfold State.spdmMeas; simp

@[simp ↓] theorem State.spdmKeyEx_tables (s : State) (m : List Byte) :
    tablesOf (s.spdmKeyEx m).2.kept = tablesOf s.kept := by
  unfold State.spdmKeyEx
  simp only [reply_ite_tables, State.error_tables]
  split <;> [rfl; skip]
  split <;> [rfl; skip]
  split <;> [rfl; skip]
  split
  · exact State.error_tables _ _ _
  · rw [reply_ite_tables]
    split
    · exact State.error_tables _ _ _
    · simp

@[simp ↓] theorem State.spdmFinish_tables (s : State) (i : Bool) (m : List Byte) :
    tablesOf (s.spdmFinish i m).2.kept = tablesOf s.kept := by
  unfold State.spdmFinish; split <;> simp

@[simp ↓] theorem State.spdmEnd_tables (s : State) (i : Bool) (m : List Byte) :
    tablesOf (s.spdmEnd i m).2.kept = tablesOf s.kept := by
  unfold State.spdmEnd; simp

@[simp ↓] theorem State.spdmReply_tables (s : State) (i : Bool) (m : List Byte) :
    tablesOf (s.spdmReply i m).2.kept = tablesOf s.kept := by
  unfold State.spdmReply; simp

@[simp ↓] theorem State.keyReply_tables (s : State) (m : List Byte) :
    tablesOf (s.keyReply m).2.kept = tablesOf s.kept := by
  unfold State.keyReply; dsimp only; simp

@[simp ↓] theorem State.sealReply_tables (s : State) (x : SessS) (kind : Nat) (r : Reply) :
    tablesOf (s.sealReply x kind r).kept = tablesOf r.2.kept := by
  unfold State.sealReply; dsimp only; split <;> simp

@[simp ↓] theorem State.decryptError_tables (s : State) : tablesOf s.decryptError.kept = tablesOf s.kept := by
  unfold State.decryptError; simp

@[simp ↓] theorem State.emptyData_tables (s : State) (x : SessS) :
    tablesOf (s.emptyData x).kept = tablesOf s.kept := by
  unfold State.emptyData; simp

@[simp ↓] theorem State.respondTo_tables (s : State) : tablesOf s.respondTo.kept = tablesOf s.kept := by
  unfold State.respondTo; split <;> simp

@[simp ↓] theorem effRequest_tables (s : State) (k : Nat) : tablesOf (effRequest s k).kept = tablesOf s.kept := by
  unfold effRequest; simp

@[simp ↓] theorem effUnsupported_tables (s : State) : tablesOf (effUnsupported s).kept = tablesOf s.kept := by
  unfold effUnsupported; split <;> simp

@[simp ↓] theorem effDecryptError_tables (s : State) : tablesOf (effDecryptError s).kept = tablesOf s.kept := by
  unfold effDecryptError; split <;> simp

@[simp ↓] theorem effKeyRecord_tables (s : State) : tablesOf (effKeyRecord s).kept = tablesOf s.kept := by
  unfold effKeyRecord; split <;> simp

/-! ### The delivery of weights, and invasive debug -/

@[simp ↓] theorem effBegin_tables (s : State) (g : Nat) : tablesOf (effBegin s g).kept = tablesOf s.kept := by
  unfold effBegin; simp

@[simp ↓] theorem effAbort_tables (s : State) (g : Nat) : tablesOf (effAbort s g).kept = tablesOf s.kept := by
  unfold effAbort; simp

@[simp ↓] theorem State.wctl_tables (s : State) (g : Nat) (w : Word) : tablesOf (s.wctl g w).kept = tablesOf s.kept := by
  unfold State.wctl; simp

@[simp ↓] theorem effWeightsData_tables (s : State) (g : Nat) (w : Word) :
    tablesOf (effWeightsData s g w).kept = tablesOf s.kept := by
  unfold effWeightsData; simp

@[simp ↓] theorem effDeliveryEnd_tables (s : State) : tablesOf (effDeliveryEnd s).kept = tablesOf s.kept := by
  have h : tablesOf (State.dropKey { s.set R.SEC_WSTAT_STATE 0 3 with sec := { s.sec with deliv := {} } }).kept =
      tablesOf s.kept := by
    rw [State.dropKey_tables, State.tables_with (s.set R.SEC_WSTAT_STATE 0 3), State.set_kept]
  unfold effDeliveryEnd
  split
  · rfl
  dsimp only
  split
  · simp
  split
  · simp
  split
  · exact tables_of_kept h (State.weightsCheck_kept _ _ _)
  · exact (State.tables_with (State.set _ _ _ _)).trans (tables_of_kept h (State.set_kept _ _ _ _))

@[simp ↓] theorem State.debugRequest_tables (s : State) (p : Nat) :
    tablesOf (s.debugRequest p).kept = tablesOf s.kept := by
  unfold State.debugRequest; simp

@[simp ↓] theorem effInvReq_tables (s : State) (g : Nat) : tablesOf (effInvReq s g).kept = tablesOf s.kept := by
  unfold effInvReq; simp

@[simp ↓] theorem effInvEnabled_tables (s : State) : tablesOf (effInvEnabled s).kept = tablesOf s.kept := by
  unfold effInvEnabled; simp

@[simp ↓] theorem effDbgen_tables (s : State) (b : Bool) : tablesOf (effDbgen s b).kept = tablesOf s.kept := by
  unfold effDbgen; simp

@[simp ↓] theorem effSleepBegin_tables (s : State) : tablesOf (effSleepBegin s).kept = tablesOf s.kept := by
  unfold effSleepBegin; simp

@[simp ↓] theorem effSafeStop_tables (s : State) : tablesOf (effSafeStop s).kept = tablesOf s.kept := by
  unfold effSafeStop; simp

/-! ### Start-up and the periods -/

@[simp ↓] theorem effColdRelease_tables (s : State) : tablesOf (effColdRelease s).kept = tablesOf s.kept := rfl

@[simp ↓] theorem effFuse_tables (s : State) (f : FuseMap) : tablesOf (effFuse s f).kept = tablesOf s.kept := by
  unfold effFuse; simp

@[simp ↓] theorem effOrrStart_tables (s : State) : tablesOf (effOrrStart s).kept = tablesOf s.kept := by
  unfold effOrrStart; simp

@[simp ↓] theorem effDistrictPeriod_tables (s : State) (ms : List Meas) :
    tablesOf (effDistrictPeriod s ms).kept = tablesOf s.kept := by
  unfold effDistrictPeriod
  split
  · rfl
  have h : tablesOf (if s.dev.dper = 0 then s else s.each s.districts State.region).kept = tablesOf s.kept := by simp
  dsimp only
  generalize (if s.dev.dper = 0 then s else s.each s.districts State.region) = u at *
  have h1 : tablesOf { (u.set R.ORR_STAT_DPHASE 0 (s.dev.dper % 10)).set R.ORR_STAT_RUN 0 (if u.dev.gated then 0 else 1) with
      dev := { u.dev with dper := s.dev.dper + 1 } }.kept = tablesOf s.kept := by
    rw [State.tables_with ((u.set R.ORR_STAT_DPHASE 0 (s.dev.dper % 10)).set R.ORR_STAT_RUN 0 _), State.set_kept,
      State.set_kept, h]
  exact tables_of_kept h1 (by simp)

@[simp ↓] theorem effDiePeriod_tables (s : State) (e : List (Nat × StepErr)) (k : Nat) :
    tablesOf (effDiePeriod s e k).kept = tablesOf s.kept := by
  have h : tablesOf { s with dev := { s.dev with die := (s.dev.dper - 1) / 10 + 1 } }.kept = tablesOf s.kept := rfl
  unfold effDiePeriod
  dsimp only
  split
  · rfl
  split <;> exact tables_of_kept h (by simp)

@[simp ↓] theorem effBudgetEpoch_tables (s : State) : tablesOf (effBudgetEpoch s).kept = tablesOf s.kept := by
  have h : tablesOf { s with dev := { s.dev with ep := (s.dev.die - 1) / 1000 + 1 } }.kept = tablesOf s.kept := rfl
  unfold effBudgetEpoch
  dsimp only
  split
  · rfl
  refine (State.tables_with (if s.dev.gated then _ else _)).trans ?_
  split <;> exact tables_of_kept h (by simp)

@[simp ↓] theorem effSlotBoundary_tables (s : State) (a : List (Nat × Nat)) (n : List Nat) :
    tablesOf (effSlotBoundary s a n).kept = tablesOf s.kept := by
  have h : tablesOf { s with dev := { s.dev with slot := s.nextSlot, slotStb := s.dev.slotStb + 1 } }.kept = tablesOf s.kept := rfl
  unfold effSlotBoundary
  split
  · rfl
  · exact tables_of_kept h (by simp)

end Sys2Proof.Machine

namespace Sys2Proof.Machine

/-! ### What every step keeps, whatever the secrets -/

/-- The integration data and the queue stand, and the register file and the package flash are in canonical form. -/
def Sound (c : Integ) (q : List Instr) (s : State) : Prop :=
  s.cfg = c ∧ s.pending = q ∧ tabWf s.regs = true ∧ memWf s.flash = true

theorem Sound.memWf {c q} {s : State} (h : Sound c q s) : memWf s.flash = true := h.2.2.2

/-- A state with the tables of a sound one is sound. -/
theorem Sound.of_tables {c q} {s t : State} (h : Sound c q s) (ht : tablesOf t.kept = tablesOf s.kept) : Sound c q t := by
  simp only [tablesOf, State.kept, Prod.mk.injEq] at ht
  obtain ⟨hcfg, hpending, hregs, hflash⟩ := ht
  simpa only [Sound, hcfg, hpending, hregs, hflash] using h

/-- The flash of a sound state may become any one in canonical form. -/
theorem Sound.flash {c q} {s t : State} (h : Sound c q s) (hf : Machine.memWf t.flash = true)
    (ht : { t with flash := s.flash }.kept = s.kept) : Sound c q t := by
  obtain ⟨hcfg, hpending, hregs, _⟩ := h.of_tables (congrArg tablesOf ht)
  exact ⟨hcfg, hpending, hregs, hf⟩

theorem Sound.ite {c q} {p : Prop} [Decidable p] {a b : State} (ha : Sound c q a) (hb : Sound c q b) :
    Sound c q (if p then a else b) := by split <;> assumption

/-- A free value that is drawn keeps a sound state. -/
theorem Sound.freeBits {c q} {s : State} (h : Sound c q s) (w : Nat) : Sound c q (s.freeBits w).2 :=
  h.of_tables (congrArg tablesOf (State.freeBits_kept s w))

/-- A change of the flash that keeps its canonical form, made with a free value, keeps a sound state. -/
theorem Sound.leave {c q} {s : State} (h : Sound c q s) (w : Nat) (f : Nat → State → State)
    (hk : ∀ v t, { f v t with flash := t.flash }.kept = t.kept)
    (hf : ∀ v t, Machine.memWf t.flash = true → Machine.memWf (f v t).flash = true) :
    Sound c q (f (s.freeBits w).1 (s.freeBits w).2) :=
  (h.freeBits w).flash (hf _ _ (h.freeBits w).memWf) (hk _ _)

theorem Sound.withDev {c q} {s : State} (h : Sound c q s) (d : DevS) : Sound c q { s with dev := d } := h

theorem Sound.each {c q} (l : List Nat) (f : State → Nat → State) (hf : ∀ s x, Sound c q s → Sound c q (f s x)) {s : State}
    (h : Sound c q s) : Sound c q (s.each l f) := by
  unfold State.each
  induction l generalizing s with
  | nil => exact h
  | cons a l ih => exact ih (hf s a h)

theorem Sound.foldl {c q} {α : Type} (l : List α) (f : State → α → State) (hf : ∀ s x, Sound c q s → Sound c q (f s x))
    {s : State} (h : Sound c q s) : Sound c q (l.foldl f s) := by
  induction l generalizing s with
  | nil => exact h
  | cons a l ih => exact ih (hf s a h)

/-! ### Resets, faults and power -/

theorem stopFlash_sound {c q} {s : State} (h : Sound c q s) : Sound c q s.stopFlash := by
  unfold State.stopFlash
  have h1 : Sound c q (if s.cal.commit then
      let (v, s) := s.freeBits (8 * 0x10000)
      { ((s.set R.CAL_CSTAT_BUSY 0 0).calRefuse 4).commitRec with
        cal := { s.cal with commit := false }, flash := commitLeft s.flash v (s.fuse.getD default).dieId }
    else s) :=
    .ite (h.leave _ (fun v t => { ((t.set R.CAL_CSTAT_BUSY 0 0).calRefuse 4).commitRec with
          cal := { t.cal with commit := false }, flash := commitLeft t.flash v (t.fuse.getD default).dieId })
        (fun _ _ => commitRec_kept' _ _) fun _ _ ht => by dsimp only; exact commitLeft_wf _ _ _ ht) h
  dsimp only at h1 ⊢
  generalize (if s.cal.commit = true then _ else s) = t at *
  split
  · exact h1
  · rename_i k a _
    exact h1.leave _ (fun v u => { u.set R.IMG_PSTAT_BUSY 0 0 with
          dev := { u.dev with pgm := none }, flash := memLeave u.flash a (if k = 1 then 0x1000 else 0x100) v })
      (fun _ _ => by simp [State.kept, State.set, tabWf_put]) fun _ _ => memLeave_wf _ _ _ _

theorem ccReset_sound {c q} {s : State} (h : Sound c q s) : Sound c q s.ccReset := by
  obtain ⟨hcfg, hpending, hregs, hflash⟩ :=
    stopFlash_sound (s := s.each s.districts State.undarken) (h.of_tables (by simp))
  unfold State.ccReset
  refine ⟨hcfg, hpending, ?_, hflash⟩
  simpa only [State.set, tabWf_put, warmRegs_wf] using hregs

theorem tearRecord_sound {c q} {s : State} (h : Sound c q s) : Sound c q s.tearRecord := by
  unfold State.tearRecord
  split
  · exact h
  · rename_i r _ _
    have hp := (h.freeBits 1).freeBits (8 * r.len)
    dsimp only
    generalize (s.freeBits 1).2.freeBits (8 * r.len) = u at *
    exact .ite h (.ite hp (hp.flash (memProg_wf _ _ _ hp.memWf) rfl))

theorem ccDown_sound {c q} {s : State} (h : Sound c q s) : Sound c q s.ccDown := by
  have h1 := ccReset_sound (tearRecord_sound h)
  unfold State.ccDown
  exact h1.of_tables (by simp)

theorem effEntryCells_sound {c q} {s : State} (h : Sound c q s) (d : Nat) : Sound c q (effEntryCells s d) := by
  unfold effEntryCells
  exact .ite (.ite (h.of_tables (by simp)) (.ite (ccDown_sound (h.of_tables (by simp))) (h.of_tables (by simp)))) h

theorem effSleepDown_sound {c q} {s : State} (h : Sound c q s) : Sound c q (effSleepDown s) := by
  unfold effSleepDown
  exact .ite (.each _ _ (fun s d hs => hs.of_tables (by simp)) (ccDown_sound (h.of_tables (by simp)))) h

theorem forceOff_sound {c q} {s : State} (h : Sound c q s) (th : Bool) : Sound c q (s.forceOff th) := by
  have h1 : Sound c q (((s.tstStop 4).endDoze).byeAll 1).stopFlash := stopFlash_sound (h.of_tables (by simp))
  unfold State.forceOff
  exact h1.of_tables (by simp)

theorem react_sound {c q} {s : State} (h : Sound c q s) (r : Report) (x : Nat) : Sound c q (s.react r x) := by
  unfold State.react
  exact .ite h (.ite (h.of_tables (by simp)) (.ite (h.of_tables (by simp)) (forceOff_sound (h.of_tables (by simp)) _)))

/-- The entries of the reports of one edge are made in turn: no table but that of the registers changes. -/
theorem entries_sound {c q} (l : List Report) (p : List Entry × State) (h : Sound c q p.2) :
    Sound c q (l.foldl (fun (p : List Entry × State) r => (p.1 ++ [(p.2.enter r).1], (p.2.enter r).2)) p).2 := by
  induction l generalizing p with
  | nil => exact h
  | cons r l ih => exact ih _ (h.of_tables (by simp))

theorem registerReports_sound {c q} {s : State} (h : Sound c q s) (rs : List Report) : Sound c q (s.registerReports rs) := by
  have h1 := entries_sound (rs.foldl (fun l r => insertReport r l) []) ([], s) h
  unfold State.registerReports
  dsimp only
  generalize (List.foldl (fun (p : List Entry × State) r => (p.1 ++ [(p.2.enter r).1], (p.2.enter r).2)) ([], s)
    (rs.foldl (fun l r => insertReport r l) [])) = p at *
  refine .foldl _ _ (fun s x hs => react_sound hs _ _) (.foldl _ _ (fun s x hs => react_sound hs _ _) (h1.of_tables ?_))
  simp only [State.kept_ite, State.injTrigger_kept, ite_self]
  split <;> simp

theorem effFaultReport_sound {c q} {s : State} (h : Sound c q s) : Sound c q (effFaultReport s) := by
  unfold effFaultReport
  exact .ite (registerReports_sound (h.of_tables (by simp)) _) (h.of_tables (by simp))

theorem effWiring_sound {c q} {s : State} (h : Sound c q s) (src cls : Nat) : Sound c q (effWiring s src cls) := by
  unfold effWiring
  exact .ite h (registerReports_sound (h.of_tables (by simp)) _)

theorem effFaultInject_sound {c q} {s : State} (h : Sound c q s) : Sound c q (effFaultInject s) := by
  unfold effFaultInject
  exact .ite (registerReports_sound (h.of_tables (by simp)) _) h

theorem effRestartPath_sound {c q} {s : State} (h : Sound c q s) : Sound c q (effRestartPath s) := by
  unfold effRestartPath
  dsimp only
  split
  · split
    · refine Sound.of_tables ?_ (congrArg tablesOf (State.offCheck_kept _))
      refine (ccReset_sound ?_).withDev _
      exact h.of_tables (by simp)
    · exact h.of_tables (by simp)
  · exact h

end Sys2Proof.Machine

namespace Sys2Proof.Machine

/-! ### The Archive, ageing records and flash commands -/

theorem Sound.withFlash {c q} {s : State} (h : Sound c q s) {m : List Host.Cell} (hm : Machine.memWf m = true) :
    Sound c q { s with flash := m } := h.flash hm rfl

theorem arcProg_sound {c q} {s : State} (h : Sound c q s) (b : List Byte) : Sound c q (s.arcProg b) := by
  unfold State.arcProg
  exact h.flash (by dsimp only; exact memProg_wf _ _ _ h.memWf) (by simp [State.kept, State.set, tabWf_put])

theorem attempts_sound {c q} (r : Rec) (n : Nat) (bad : List Bool) {s : State} (h : Sound c q s) :
    Sound c q (State.attempts s r n bad) := by
  induction n generalizing s bad with
  | zero => exact h.of_tables (by unfold State.attempts; simp)
  | succ n ih =>
    unfold State.attempts
    dsimp only
    split
    · refine ih _ (Sound.withFlash (Sound.freeBits (h.of_tables (by simp)) _) ?_)
      exact voidAt_wf _ _ _ (memProg_wf _ _ _ h.memWf)
    · exact Sound.of_tables (s := State.arcProg _ _) (arcProg_sound h _) (by simp; rfl)

theorem effArcProgram_sound {c q} {s : State} (h : Sound c q s) (bad : List Bool) : Sound c q (effArcProgram s bad) := by
  unfold effArcProgram
  split
  · exact h
  refine .ite h (.ite (h.of_tables (by simp)) (.ite (.ite ?_ (attempts_sound _ _ _ h)) h))
  exact Sound.of_tables (s := State.arcProg _ _) (arcProg_sound h _) (by simp; rfl)

theorem effArcScan_sound {c q} {s : State} (h : Sound c q s) : Sound c q (effArcScan s) := by
  unfold effArcScan
  split
  · exact h
  split
  · have hw := arcWalk_wf (arcSize / 16) s.flash s.arcAt {} h.memWf
    generalize arcWalk s.flash s.arcAt {} (arcSize / 16) = p at *
    dsimp only
    split <;> exact (h.withFlash hw).of_tables (by simp; rfl)
  · split
    · dsimp only
      split
      · exact h.of_tables (by simp)
      · exact h.flash (by dsimp only; exact voidAt_wf _ _ _ h.memWf) (by simp [State.kept, State.set, State.raise, tabWf_put])
    · exact h

theorem effArcErased_sound {c q} {s : State} (h : Sound c q s) : Sound c q (effArcErased s) := by
  unfold effArcErased
  split
  · have h1 : Sound c q (({ s with flash := memErase s.flash s.arcAt arcSize }.set R.ARC_WPOS_OFS 0 0).set R.ARC_STAT_EMPTY 0 1) :=
      (h.withFlash (memErase_wf _ s.arcAt arcSize h.memWf)).of_tables (by simp)
    exact Sound.of_tables (s := State.arcProg _ _) (arcProg_sound h1 _) (by simp; rfl)
  · exact h

theorem effAgeingWrite_sound {c q} {s : State} (h : Sound c q s) (good : Bool) : Sound c q (effAgeingWrite s good) := by
  unfold effAgeingWrite
  split
  · exact h
  have h1 : Sound c q { s with flash := memErase s.flash (ageAt (1 - s.age.slot)) 0x1000,
                               age := { s.age with lastWrite := s.ticks / 65536, due := false, retry := !good } } :=
    h.withFlash (memErase_wf _ _ _ h.memWf)
  dsimp only
  generalize { s with flash := memErase s.flash (ageAt (1 - s.age.slot)) 0x1000,
                      age := { s.age with lastWrite := s.ticks / 65536, due := false, retry := !good } } = t at *
  split
  · have h2 : Sound c q (t.inc R.AGE_CNT_WRITES) := h1.of_tables (by simp)
    exact h2.withFlash (memProg_wf _ _ _ h2.memWf)
  · have h2 := h1.freeBits 4096
    generalize t.freeBits 4096 = p at *
    exact Sound.of_tables (h2.withFlash (m := memProg p.2.flash (ageAt (1 - s.age.slot)) (leBytes 512 p.1))
      (memProg_wf _ _ _ h2.memWf)) (by simp)

theorem effCalCommit_sound {c q} {s : State} (h : Sound c q s) (k : Nat) : Sound c q (effCalCommit s k) := by
  unfold effCalCommit
  refine .ite (h.of_tables (by simp)) (.ite (h.of_tables (by simp)) ?_)
  split
  · exact h.of_tables (by simp)
  · have h1 : Sound c q (((s.set R.CAL_CSTAT_BUSY 0 1).inc R.CAL_CSTAT_COMMITS).raise R.CAL_FLT_LOST) := h.of_tables (by simp)
    exact .ite (h.of_tables (by simp)) (h1.flash (memErase_wf _ _ _ h1.memWf) rfl)

theorem effCalCommitted_sound {c q} {s : State} (h : Sound c q s) (good : Bool) : Sound c q (effCalCommitted s good) := by
  unfold effCalCommitted
  refine .ite ?_ h
  dsimp only
  refine Sound.of_tables ?_ (congrArg tablesOf (State.commitRec_kept _))
  cases good
  · have h2 : Sound c q (((s.set R.CAL_CSTAT_BUSY 0 0).calRefuse 4).freeBits (8 * 0x10000)).2 := h.of_tables (by simp)
    simp only [Bool.false_eq_true, if_false]
    generalize ((s.set R.CAL_CSTAT_BUSY 0 0).calRefuse 4).freeBits (8 * 0x10000) = p at *
    exact h2.flash (by dsimp only; exact memLeave_wf _ _ _ _ h2.memWf) (by simp [State.kept, State.set, tabWf_put])
  · simp only [if_true]
    exact h.flash (by dsimp only; exact memWrite_wf _ _ _ h.memWf) (by simp [State.kept, State.set, tabWf_put])

theorem effPcmdDone_sound {c q} {s : State} (h : Sound c q s) (good : Bool) : Sound c q (effPcmdDone s good) := by
  unfold effPcmdDone
  split
  · exact h
  rename_i k a _
  have h1 : Sound c q { s.set R.IMG_PSTAT_BUSY 0 0 with dev := { s.dev with pgm := none } } := h.of_tables (by simp)
  have hp := h1.freeBits (8 * s.pageBuf.length)
  dsimp only
  split
  · exact h1.flash (by dsimp only; exact memErase_wf _ _ _ h1.memWf) (by simp [State.kept, State.set, tabWf_put])
  cases good
  · exact Sound.of_tables (hp.withFlash (memLeave_wf s.flash a s.pageBuf.length _ h.memWf)) (by simp; rfl)
  · exact Sound.of_tables (h1.withFlash (memProg_wf s.pageBuf s.flash a h.memWf)) (by simp)

end Sys2Proof.Machine

namespace Sys2Proof.Machine

/-! ### Resets and releases -/

theorem effColdReset_sound {c q} {s : State} (h : Sound c q s) : Sound c q (effColdReset s) := by
  obtain ⟨hcfg, hpending, _, hflash⟩ := h
  exact ⟨hcfg, hpending, rfl, hflash⟩

theorem effRelease_sound {c q} {s : State} (h : Sound c q s) : Sound c q (effRelease s) := by
  unfold effRelease
  exact .ite ((ccReset_sound h).of_tables (by simp)) h

theorem effWarmReset_sound {c q} {s : State} (h : Sound c q s) : Sound c q (effWarmReset s) := by
  have h1 : Sound c q { s.ccReset.set R.PWR_STAT_ENTRY 0 0 with
      dev := { (s.ccReset.set R.PWR_STAT_ENTRY 0 0).dev with released := false, bootCause := 2 } } :=
    Sound.withDev ((ccReset_sound h).of_tables (by simp)) _
  unfold effWarmReset
  exact .ite (.ite h1 (h1.of_tables (by simp))) h

/-! ### The host ports -/

theorem Sound.doIf {c q} {s : State} (h : Sound c q s) (b : Bool) (f : State → State) (hf : Sound c q (f s)) :
    Sound c q (s.doIf b f) := by
  unfold State.doIf
  exact .ite hf h

theorem pwrCtl_sound {c q} {s : State} (h : Sound c q s) (p : Bool) (a : Nat) (w : Word) : Sound c q (s.pwrCtl p a w) := by
  have h1 : Sound c q ((s.storeFld p a w R.PWR_CTL_QDIV).qdivCheck) := h.of_tables (by simp)
  unfold State.pwrCtl
  exact .ite (effWarmReset_sound (.ite h1 (.ite (h1.of_tables (by simp)) (h1.of_tables (by simp))))) (h1.of_tables (by simp))

@[simp ↓] theorem State.doIf_tables (s : State) (b : Bool) (f : State → State)
    (hf : ∀ z, tablesOf (f z).kept = tablesOf z.kept) : tablesOf (s.doIf b f).kept = tablesOf s.kept := by
  unfold State.doIf; simp [hf]

@[simp ↓] theorem State.secWrite_tables (s : State) (g : Nat) (p : Bool) (a : Nat) (w : Word) :
    tablesOf (s.secWrite g p a w).kept = tablesOf s.kept := by
  unfold State.secWrite; split <;> simp

theorem calWrite_sound {c q} {s : State} (h : Sound c q s) (p : Bool) (a : Nat) (w : Word) : Sound c q (s.calWrite p a w) := by
  unfold State.calWrite
  split
  · exact h.of_tables (by simp)
  · exact h.of_tables (by simp)
  · have h1 : Sound c q (s.doIf (bit w 30) effCalClear) := h.of_tables (by simp)
    exact h.doIf _ _ (h1.doIf _ _ (effCalCommit_sound h1 _))
  · exact h.of_tables (by simp)

theorem effWrite_sound {c q} {s : State} (h : Sound c q s) (g : Nat) (p : Bool) (a : Nat) (w : Word) :
    Sound c q (s.effWrite g p a w) := by
  unfold State.effWrite
  refine .ite (h.of_tables (by simp)) (.ite (pwrCtl_sound h _ _ _) ?_)
  split
  case h_3 => exact calWrite_sound h _ _ _
  all_goals exact h.of_tables (by simp)

theorem writeWith_sound {c q} {s : State} (h : Sound c q s) (g a : Nat) (k : RspCode) (f : State → State)
    (hf : ∀ t, Sound c q t → Sound c q (f t)) : Sound c q (s.writeWith g a k f) := by
  unfold State.writeWith
  split
  · exact (hf s h).of_tables (by simp)
  · exact h.of_tables (by simp)

theorem writeOne_sound {c q} {s : State} (h : Sound c q s) (g a : Nat) (w : Word) (k : RspCode) (p : Bool) :
    Sound c q (s.writeOne g a w k p) := by
  unfold State.writeOne
  exact .ite (h.of_tables (by simp)) (writeWith_sound h _ _ _ _ fun t ht => effWrite_sound ht _ _ _ _)

theorem portWrite_sound {c q} {s : State} (h : Sound c q s) (g a : Nat) (w : Word) : Sound c q (s.portWrite g a w) := by
  unfold State.portWrite
  exact .ite (h.of_tables (by simp)) (writeOne_sound h _ _ _ _ _)

theorem i3cWriteWith_sound {c q} {s : State} (h : Sound c q s) (g a : Nat) (w : Word) (k : RspCode) (p : Bool) :
    Sound c q (s.i3cWriteWith g a w k p) := by
  have h1 : Sound c q (s.writeWith g a k fun s => s.effWrite g p a w) :=
    writeWith_sound h _ _ _ _ fun t ht => effWrite_sound ht _ _ _ _
  unfold State.i3cWriteWith
  exact .ite (h.of_tables (by simp)) h1

theorem i3cWriteOne_sound {c q} {s : State} (h : Sound c q s) (g a : Nat) (w : Word) : Sound c q (s.i3cWriteOne g a w) := by
  unfold State.i3cWriteOne
  exact .ite (h.of_tables (by simp)) (i3cWriteWith_sound h _ _ _ _ _)

theorem hostWrite_sound {c q} {s : State} (h : Sound c q s) (g a : Nat) (w : Word) (f : State → State)
    (hf : ∀ t, Sound c q t → Sound c q (f t)) : Sound c q (s.hostWrite g a w f) := by
  have h1 : Sound c q s.newAccess := h
  unfold State.hostWrite
  exact .ite (h1.of_tables (by simp)) (writeWith_sound h1 _ _ _ _ hf)

theorem hostRow_sound {c q} {s : State} (h : Sound c q s) (g : Nat) (F : Fld) (i v : Nat) (f : State → State)
    (hf : ∀ t, Sound c q t → Sound c q (f t)) : Sound c q (s.hostRow g F i v f) :=
  hostWrite_sound h _ _ _ _ hf

theorem resume_sound {c q} {s : State} (h : Sound c q s) (g : Nat) (x : Held) : Sound c q (s.resume g x) := by
  unfold State.resume
  exact .ite h (.ite (i3cWriteWith_sound h _ _ _ _ _) (.ite (h.of_tables (by simp))
    (.ite (writeOne_sound h _ _ _ _ _) (h.of_tables (by simp)))))

theorem replay_sound {c q} (l : List Held) (g : Nat) {s : State} (h : Sound c q s) : Sound c q (s.replay g l) := by
  induction l generalizing s with
  | nil => exact h
  | cons x r ih => exact ih (resume_sound h _ _)

theorem fenceEnd_sound {c q} {s : State} (h : Sound c q s) (g : Nat) (k : RspCode) : Sound c q (s.fenceEnd g k) := by
  unfold State.fenceEnd
  exact replay_sound _ _ (h.of_tables (by simp))

theorem effFenceComplete_sound {c q} {s : State} (h : Sound c q s) (g : Nat) : Sound c q (effFenceComplete s g) := by
  unfold effFenceComplete
  exact .ite (fenceEnd_sound (h.of_tables (by simp)) _ _) h

theorem effFenceTimeout_sound {c q} {s : State} (h : Sound c q s) (g : Nat) : Sound c q (effFenceTimeout s g) := by
  unfold effFenceTimeout
  exact .ite (fenceEnd_sound (h.of_tables (by simp)) _ _) h

theorem i3cGroup_sound {c q} {s : State} (h : Sound c q s) (a : Nat) (w : Word) : Sound c q (s.i3cGroup a w) := by
  unfold State.i3cGroup
  split
  · exact h.of_tables (by simp)
  · exact i3cWriteOne_sound h _ _ _

theorem i3cGroups_sound {c q} {s : State} (h : Sound c q s) (a : Nat) (l : List Byte) : Sound c q (s.i3cGroups a l) := by
  fun_induction State.i3cGroups s a l with
  | case1 => exact h
  | case2 s addr x y z w r ih => exact ih (i3cGroup_sound h _ _)
  | case3 => exact h.of_tables (by simp)

theorem effI3cWrite_sound {c q} {s : State} (h : Sound c q s) (l : Bool) (a : Nat) (d : List Byte) :
    Sound c q (effI3cWrite s l a d) := by
  unfold effI3cWrite State.i3cXfer State.i3cTake
  exact .ite (h.of_tables (by simp)) (.ite (h.of_tables (by simp)) (i3cGroups_sound (h.of_tables (by simp)) _ _))

end Sys2Proof.Machine

namespace Sys2Proof.Machine

/-! ### Every command -/

/-- Every command completes and leaves a sound state. The commands named here reset the block, write the package flash or
reach the secrets through a host port; every other one leaves the tables themselves as they were. -/
theorem exec_sound {c : Integ} {q : List Instr} (i : Instr) {s : State} (h : Sound c q s) :
    ∃ t, exec i s = .next t ∧ Sound c q t := by
  cases i
  case regWrite | pageLock | fence => exact ⟨_, rfl, portWrite_sound (s := s.newAccess) h _ _ _⟩
  case coldReset => exact ⟨_, rfl, effColdReset_sound h⟩
  case controlComplexRelease => exact ⟨_, rfl, effRelease_sound h⟩
  case warmReset => exact ⟨_, rfl, hostRow_sound h _ _ _ _ _ fun _ => effWarmReset_sound⟩
  case restartPath => exact ⟨_, rfl, effRestartPath_sound h⟩
  case districtEntryCells d => exact ⟨_, rfl, .ite (effEntryCells_sound h d) h⟩
  case sleepPowerDown => exact ⟨_, rfl, effSleepDown_sound h⟩
  case faultReport => exact ⟨_, rfl, effFaultReport_sound h⟩
  case wiringFault => exact ⟨_, rfl, .ite (effWiring_sound h _ _) h⟩
  case faultInject => exact ⟨_, rfl, effFaultInject_sound h⟩
  case archiveProgram bad => exact ⟨_, rfl, effArcProgram_sound h bad⟩
  case archiveScan => exact ⟨_, rfl, effArcScan_sound h⟩
  case archiveEraseComplete => exact ⟨_, rfl, effArcErased_sound h⟩
  case ageingRecordWrite good => exact ⟨_, rfl, effAgeingWrite_sound h good⟩
  case calCommit => exact ⟨_, rfl, hostWrite_sound h _ _ _ _ fun _ ht => effCalCommit_sound ht _⟩
  case calCommitComplete good => exact ⟨_, rfl, effCalCommitted_sound h good⟩
  case imgPcmdComplete good => exact ⟨_, rfl, effPcmdDone_sound h good⟩
  case fenceComplete => exact ⟨_, rfl, effFenceComplete_sound h _⟩
  case fenceTimeout => exact ⟨_, rfl, effFenceTimeout_sound h _⟩
  case i3cPrivateWrite => exact ⟨_, rfl, effI3cWrite_sound h _ _ _⟩
  case rel | frel | begin | abort | weightsDataWrite | invReq =>
    exact ⟨_, rfl, hostWrite_sound h _ _ _ _ fun _ ht => ht.of_tables (by simp)⟩
  all_goals exact ⟨_, rfl, h.of_tables (by simp)⟩

/-- A canonical state is sound for its own integration data and queue. -/
theorem sound_of_canonical {s : State} (h : s.canonical = true) : Sound s.cfg s.pending s := by
  simpa [State.canonical, Sound] using h

theorem Sound.canonical {c q} {s : State} (h : Sound c q s) : s.canonical = true := by
  obtain ⟨_, _, hregs, hflash⟩ := h
  simp [State.canonical, hregs, hflash]

/-- A step is one tick or the command at the front of the queue: a sound state either way. -/
theorem step_sound {s t : State} (h : s.canonical = true) (ht : step s = .next t) : ∃ q, Sound s.cfg q t := by
  have hs := sound_of_canonical h
  unfold step at ht
  split at ht
  · cases ht
    refine ⟨_, hs.of_tables ?_⟩
    unfold State.tickOn; simp
  · rename_i c r _
    obtain ⟨u, hu, hsound⟩ := exec_sound (s := { s with pending := r }) (q := r) c ⟨rfl, rfl, hs.2.2⟩
    cases hu.symm.trans ht
    exact ⟨r, hsound⟩

/-- Settles O3: every command, and the idle tick, leaves the integration data and the canonical form of both tables. -/
theorem everyStepKeepsTheTables : Obligations.EveryStepKeepsTheTables := by
  intro s t hs ht
  obtain ⟨q, h⟩ := step_sound hs ht
  exact ⟨h.canonical, h.1⟩

/-- Settles O5: every command answers a next state, and leaves the queue and the integration data, wherever the secrets are. -/
theorem commandsLeaveTheQueue : Obligations.CommandsLeaveTheQueue := by
  refine ⟨fun c s => ?_, fun c s hs _ => ?_⟩
  · cases c <;> exact ⟨_, rfl⟩
  · obtain ⟨t, ht, hcfg, hpending, _⟩ := exec_sound c (sound_of_canonical hs)
    exact ⟨t, ht, hpending, hcfg⟩

end Sys2Proof.Machine

namespace Sys2Proof.Machine

/-! ### Folds over the units of a list -/

/-- What each step of a fold leaves, the fold leaves. -/
theorem State.each_const {β : Type} (φ : State → β) (s : State) (l : List Nat) (f : State → Nat → State)
    (h : ∀ s x, φ (f s x) = φ s) : φ (s.each l f) = φ s := by
  unfold State.each
  induction l generalizing s with
  | nil => rfl
  | cons a l ih => rw [List.foldl_cons, ih, h]

/-- What the step of one unit brings about, under a condition that every step keeps, stands after the fold where no other step
undoes it. -/
theorem State.each_reaches (P Q : State → Prop) (f : State → Nat → State) (x : Nat) (hP : ∀ s y, P s → P (f s y))
    (hx : ∀ s, P s → Q (f s x)) (hQ : ∀ s y, Q s → Q (f s y)) (s : State) (l : List Nat) (hl : x ∈ l) (hs : P s) :
    Q (s.each l f) := by
  have keep (l : List Nat) : ∀ s, Q s → Q (s.each l f) := by
    induction l with
    | nil => exact fun _ h => h
    | cons a l ih => exact fun s h => ih _ (hQ s a h)
  induction l generalizing s with
  | nil => cases hl
  | cons a l ih =>
    rcases List.mem_cons.mp hl with rfl | hl
    · exact keep l _ (hx s hs)
    · exact ih _ hl (hP s a hs)

/-! ### The switch-on of the supply group leaves the device state and the self-tests -/

/-- The device state, and whether a cell has been tested. -/
def State.tests (s : State) (c : Nat) : DevS × Bool := (s.dev, (s.cell c).tested)

@[simp] theorem State.set_tests (s : State) (F : Fld) (i v c : Nat) : (s.set F i v).tests c = s.tests c := rfl

@[simp] theorem State.updPw_tests (s : State) (d : Nat) (f : PwrS → PwrS) (c : Nat) : (s.updPw d f).tests c = s.tests c := rfl

@[simp] theorem State.updLaw_tests (s : State) (d : Nat) (f : LawS → LawS) (c : Nat) : (s.updLaw d f).tests c = s.tests c := rfl

@[simp] theorem State.updAnv_tests (s : State) (a : Nat) (f : AnvS → AnvS) (c : Nat) : (s.updAnv a f).tests c = s.tests c := rfl

@[simp] theorem State.tests_ite (p : Prop) [Decidable p] (s t : State) (c : Nat) :
    (if p then s else t).tests c = if p then s.tests c else t.tests c := by split <;> rfl

theorem State.cell_updCell (s : State) (k : Nat) (f : CellS → CellS) (c : Nat) :
    (s.updCell k f).cell c = if k = c then f (s.cell c) else s.cell c := by
  unfold State.cell State.updCell tabAt tabUpd
  split
  · next h => subst h; simp [tabAt]
  · next h => simp [tabGet_put_ne _ _ _ _ h]

theorem State.updCell_tests (s : State) (k : Nat) (f : CellS → CellS) (hf : ∀ x, (f x).tested = x.tested) (c : Nat) :
    (s.updCell k f).tests c = s.tests c := by
  simp only [State.tests, State.cell_updCell]
  split <;> simp [hf, State.updCell]

@[simp] theorem State.sendStart_tests (s : State) (k v c : Nat) : (s.sendStart k v).tests c = s.tests c := by
  unfold State.sendStart
  apply State.updCell_tests
  exact fun _ => rfl

@[simp] theorem State.rampCell_tests (s : State) (k v c : Nat) : (s.rampCell k v).tests c = s.tests c := by
  unfold State.rampCell
  rw [State.set_tests, State.set_tests]
  apply State.updCell_tests
  exact fun _ => rfl

@[simp] theorem State.setAnv_tests (s : State) (a st c : Nat) : (s.setAnv a st).tests c = s.tests c := by
  unfold State.setAnv State.raiseBit State.clearBit; simp

@[simp] theorem State.anvilsCharge_tests (s : State) (d c : Nat) : (s.anvilsCharge d).tests c = s.tests c :=
  State.each_const (·.tests c) _ _ _ fun s a => by simp

@[simp] theorem State.endWait_tests (s : State) (d c : Nat) : (s.endWait d).tests c = s.tests c := by
  unfold State.endWait; simp

@[simp] theorem State.switchOn_tests (s : State) (d vs c : Nat) : (s.switchOn d vs).tests c = s.tests c := by
  unfold State.switchOn State.pwrStep
  simp [State.each_const (State.tests · c)]

@[simp] theorem State.supplyOn_tests (s : State) (c : Nat) : s.supplyOn.tests c = s.tests c :=
  State.each_const (·.tests c) _ _ _ fun s d => by simp

/-- The supply group's switch-on ends its being due, and nothing else of the device state. -/
theorem State.supplyDue_dev (s : State) : ∃ b, s.supplyDue.dev = { s.dev with supDue := b } := by
  unfold State.supplyDue
  dsimp only
  split
  · exact ⟨false, congrArg Prod.fst (State.supplyOn_tests _ 0)⟩
  · exact ⟨s.dev.supDue, rfl⟩

theorem State.supplyDue_tested (s : State) (c : Nat) : (s.supplyDue.cell c).tested = (s.cell c).tested := by
  unfold State.supplyDue
  dsimp only
  split
  · exact congrArg Prod.snd (State.supplyOn_tests _ c)
  · rfl

theorem State.supplyDue_of_not_due (s : State) (h : s.dev.supDue = false) : s.supplyDue = s := by
  simp [State.supplyDue, h]

/-! ### The self-test of a cell -/

theorem celStat_key_inj (i j : Nat) : R.CEL_STAT_STATE.key i = R.CEL_STAT_STATE.key j ↔ i = j := by
  simp only [Fld.key, R.CEL_STAT_STATE]; omega

/-- The phase register of no cell is the status register of one. -/
theorem celPh_key_ne (F : Fld) (hi : F.inst = .cell) (hb : F.base = 0x80084) (lo i j : Nat) :
    ({ R.CEL_PH_CAUSE0 with lo := lo } : Fld).key i ≠ F.key j := by
  simp only [Fld.key, R.CEL_PH_CAUSE0, hi, hb]; omega

theorem State.cst_setCst (s : State) (k st c : Nat) : (s.setCst k st).cst c = if k = c then st % 8 else s.cst c := by
  unfold State.setCst State.cst
  simp (disch := decide) only [State.get_set_other]
  split
  · next h => subst h; exact State.get_set_self _ _ _ _ (by decide)
  · next h => exact State.get_set_ne _ _ _ _ _ _ ((celStat_key_inj k c).not.mpr h)

/-- A phase found bad is marked as failed, and its cause is shown. -/
def State.markPhase (s : State) (c p cause : Nat) : State :=
  (s.raiseBit R.CEL_STAT_PH_FAIL c p).set { R.CEL_PH_CAUSE0 with lo := 2 * p } c cause

theorem State.cst_markPhase (s : State) (k p v c : Nat) : (s.markPhase k p v).cst c = s.cst c := by
  unfold State.cst State.markPhase State.raiseBit
  rw [State.get_set_ne _ _ _ _ _ _ (celPh_key_ne R.CEL_STAT_STATE rfl rfl _ k c)]
  simp (disch := decide) only [State.get_set_other]

theorem State.phFail_markPhase (s : State) (c p v : Nat) :
    (s.markPhase c p v).get R.CEL_STAT_PH_FAIL c = (s.get R.CEL_STAT_PH_FAIL c ||| 2 ^ p) % 16 := by
  unfold State.markPhase State.raiseBit
  rw [State.get_set_ne _ _ _ _ _ _ (celPh_key_ne R.CEL_STAT_PH_FAIL rfl rfl _ c c)]
  exact State.get_set_self _ _ _ _ (by decide)

/-- Marking phases of one cell leaves the state code of every cell. -/
theorem State.cst_marks (s : State) (k : Nat) (cause : Nat → Option Nat) (l : List Nat) (c : Nat) :
    (s.each l fun s p => (cause p).elim s (s.markPhase k p)).cst c = s.cst c :=
  State.each_const (·.cst c) _ _ _ fun s p => by
    cases cause p
    · rfl
    · exact State.cst_markPhase _ _ _ _ _

/-- The cause that a self-test gives for a phase of a cell, where it finds the phase bad. -/
def badCause (bad : List (Nat × Nat × Nat)) (c p : Nat) : Option Nat :=
  (bad.find? fun b => b.1 == c && b.2.1 == p).map fun b => selfCause b.2.2

/-- The state in which the phases of a cell that a self-test finds bad are marked, and the cell is tested. -/
def State.marked (s : State) (bad : List (Nat × Nat × Nat)) (c : Nat) : State :=
  (s.each [0, 1, 2, 3] fun s p => (badCause bad c p).elim s (s.markPhase c p)).updCell c fun x => { x with tested := true }

theorem State.selfTest_eq (s : State) (bad : List (Nat × Nat × Nat)) (c : Nat) (h : s.cst c ≠ cFused) :
    s.selfTest bad c = if (s.marked bad c).good c = 0 then
      (((s.marked bad c).setCst c cFailed).set R.CEL_STAT_LAST_CAUSE c 4).noteLoss c else s.marked bad c := by
  have hm : (fun (s : State) p => match bad.find? fun b => b.1 == c && b.2.1 == p with
      | some b => (s.raiseBit R.CEL_STAT_PH_FAIL c p).set { R.CEL_PH_CAUSE0 with lo := 2 * p } c (selfCause b.2.2)
      | none => s) = fun s p => (badCause bad c p).elim s (s.markPhase c p) := by
    funext s p
    unfold badCause
    split <;> simp [*, State.markPhase]
  unfold State.selfTest
  simp only [beq_iff_eq, h, if_false]
  unfold State.marked
  rewrite [← hm]
  rfl

theorem State.selfTest_fused (s : State) (bad : List (Nat × Nat × Nat)) (c : Nat) (h : s.cst c = cFused) :
    s.selfTest bad c = s := by
  simp [State.selfTest, h]

theorem State.marked_cst (s : State) (bad : List (Nat × Nat × Nat)) (k c : Nat) : (s.marked bad k).cst c = s.cst c := by
  unfold State.marked State.cst
  rw [State.updCell_get]
  exact s.cst_marks k (badCause bad k) _ c

/-- Marking the phases of a cell leaves the device state, and tests that cell alone. -/
theorem State.marked_tests (s : State) (bad : List (Nat × Nat × Nat)) (k c : Nat) :
    (s.marked bad k).tests c = (s.dev, if k = c then true else (s.cell c).tested) := by
  have h : (s.each [0, 1, 2, 3] fun s p => (badCause bad k p).elim s (s.markPhase k p)).tests c = s.tests c :=
    State.each_const (·.tests c) _ _ _ fun s p => by cases badCause bad k p <;> rfl
  obtain ⟨hdev, htested⟩ := Prod.mk.inj h
  unfold State.marked State.tests
  rw [State.cell_updCell]
  split <;> simp [hdev, htested, State.updCell]

/-- A self-test of a cell leaves the device state, and tests that cell where it is not fused, and no other. -/
theorem State.selfTest_tests (s : State) (bad : List (Nat × Nat × Nat)) (k c : Nat) :
    (s.selfTest bad k).tests c = (s.dev, if k = c ∧ s.cst k ≠ cFused then true else (s.cell c).tested) := by
  by_cases hk : s.cst k = cFused
  · simp [State.selfTest_fused _ _ _ hk, hk, State.tests]
  · rw [State.selfTest_eq _ _ _ hk, State.tests_ite]
    have hm := State.marked_tests s bad k c
    have hn : ((((s.marked bad k).setCst k cFailed).set R.CEL_STAT_LAST_CAUSE k 4).noteLoss k).tests c =
        (s.marked bad k).tests c := rfl
    simp [hn, hm, hk]

/-- A self-test fuses no cell. -/
theorem State.selfTest_not_fused (s : State) (bad : List (Nat × Nat × Nat)) (k c : Nat) (h : s.cst c ≠ cFused) :
    (s.selfTest bad k).cst c ≠ cFused := by
  by_cases hk : s.cst k = cFused
  · rwa [State.selfTest_fused _ _ _ hk]
  · rw [State.selfTest_eq _ _ _ hk]
    split
    · have hc : ((((s.marked bad k).setCst k cFailed).set R.CEL_STAT_LAST_CAUSE k 4).noteLoss k).cst c =
          ((s.marked bad k).setCst k cFailed).cst c := by
        exact State.get_set_other _ R.CEL_STAT_LAST_CAUSE R.CEL_STAT_STATE k c 4 rfl (by decide)
      rw [hc, State.cst_setCst, State.marked_cst]
      split
      · decide
      · exact h
    · rwa [State.marked_cst]

/-- A cell all of whose phases are found bad has none left. -/
theorem State.marked_all_bad (s : State) (bad : List (Nat × Nat × Nat)) (c : Nat) (h : ∀ p < 4, (badCause bad c p).isSome) :
    (s.marked bad c).good c = 0 := by
  obtain ⟨k0, h0⟩ := Option.isSome_iff_exists.mp (h 0 (by decide))
  obtain ⟨k1, h1⟩ := Option.isSome_iff_exists.mp (h 1 (by decide))
  obtain ⟨k2, h2⟩ := Option.isSome_iff_exists.mp (h 2 (by decide))
  obtain ⟨k3, h3⟩ := Option.isSome_iff_exists.mp (h 3 (by decide))
  have hall : ∀ x < 16, ((((x ||| 1) % 16 ||| 2) % 16 ||| 4) % 16 ||| 8) % 16 = 15 := by decide
  have hx : s.get R.CEL_STAT_PH_FAIL c < 16 := Nat.mod_lt _ (by decide)
  unfold State.good State.marked
  simp only [State.each, List.foldl, h0, h1, h2, h3, Option.elim, State.updCell_get, State.phFail_markPhase]
  rw [show (2 : Nat) ^ 0 = 1 from rfl, show (2 : Nat) ^ 1 = 2 from rfl, show (2 : Nat) ^ 2 = 4 from rfl,
    show (2 : Nat) ^ 3 = 8 from rfl, hall _ hx]

theorem State.selfTest_all_bad (s : State) (bad : List (Nat × Nat × Nat)) (c : Nat) (hc : s.cst c ≠ cFused)
    (h : ∀ p < 4, ∃ k, (c, p, k) ∈ bad) :
    (s.selfTest bad c).cst c = cFailed ∧ (s.selfTest bad c).get R.CEL_STAT_LAST_CAUSE c = 4 := by
  have hbad : ∀ p < 4, (badCause bad c p).isSome := by
    intro p hp
    obtain ⟨k, hk⟩ := h p hp
    simp only [badCause, Option.isSome_map, List.find?_isSome]
    exact ⟨_, hk, by simp⟩
  rw [State.selfTest_eq _ _ _ hc, if_pos (State.marked_all_bad s bad c hbad)]
  constructor
  · refine (State.get_set_other _ R.CEL_STAT_LAST_CAUSE R.CEL_STAT_STATE c c 4 rfl (by decide)).trans ?_
    exact (State.cst_setCst _ _ _ _).trans (if_pos rfl)
  · exact State.get_set_self _ R.CEL_STAT_LAST_CAUSE c 4 (by decide)

/-! ### The start of the hubs, and the self-test of a zone -/

theorem testBit_sub_two_pow (n i : Nat) (h : n.testBit i = true) : (n - 2 ^ i).testBit i = false := by
  rw [Nat.testBit_eq_decide_div_mod_eq] at h ⊢
  have hd : (n - 2 ^ i) / 2 ^ i = n / 2 ^ i - 1 := by simpa using Nat.sub_mul_div n (2 ^ i) 1
  simp only [decide_eq_true_eq, decide_eq_false_iff_not] at h ⊢
  omega

/-- The hubs of a zone have started, and wait for its VFEED no more. -/
def State.startHubs (s : State) (z : Nat) : State :=
  { s with dev := { s.dev with
      hubs := s.dev.hubs ||| 2 ^ z
      feedWait := if s.dev.feedWait.testBit z then s.dev.feedWait - 2 ^ z else s.dev.feedWait } }

theorem effZoneReady_eq (s : State) (z : Nat) (hcold : s.dev.cold = false) (hused : s.zoneUsed z = true) :
    effZoneReady s z = (s.startHubs z).supplyDue := by
  unfold effZoneReady
  rw [if_neg (by simp [hcold, hused])]
  rfl

/-- The self-test of every cell of the districts of a zone. -/
def State.testZone (s : State) (z : Nat) (bad : List (Nat × Nat × Nat)) : State :=
  s.each (s.inZone z) fun s d => s.each (cellsOf d) fun s c => s.selfTest bad c

theorem State.testZone_dev (s : State) (z : Nat) (bad : List (Nat × Nat × Nat)) : (s.testZone z bad).dev = s.dev :=
  State.each_const State.dev _ _ _ fun _ _ => State.each_const State.dev _ _ _ fun s c =>
    congrArg Prod.fst (s.selfTest_tests bad c 0)

theorem State.selfTest_keeps_tested (s : State) (bad : List (Nat × Nat × Nat)) (k c : Nat) (h : (s.cell c).tested = true) :
    ((s.selfTest bad k).cell c).tested = true := by
  have ht := congrArg Prod.snd (s.selfTest_tests bad k c)
  simp only [State.tests, h] at ht
  simpa using ht

theorem State.testZone_tested (s : State) (z : Nat) (bad : List (Nat × Nat × Nat)) (d c : Nat) (hd : d ∈ s.inZone z)
    (hc : c ∈ cellsOf d) (h : s.cst c ≠ cFused) : ((s.testZone z bad).cell c).tested = true := by
  have keepP (s : State) (d : Nat) (h : s.cst c ≠ cFused) : (s.each (cellsOf d) fun s c => s.selfTest bad c).cst c ≠ cFused := by
    unfold State.each
    induction cellsOf d generalizing s with
    | nil => exact h
    | cons k l ih => exact ih _ (s.selfTest_not_fused bad k c h)
  have keepQ (s : State) (d : Nat) (h : (s.cell c).tested = true) :
      ((s.each (cellsOf d) fun s c => s.selfTest bad c).cell c).tested = true := by
    unfold State.each
    induction cellsOf d generalizing s with
    | nil => exact h
    | cons k l ih => exact ih _ (s.selfTest_keeps_tested bad k c h)
  refine State.each_reaches (·.cst c ≠ cFused) (fun s => (s.cell c).tested = true) _ d keepP ?_ keepQ s _ hd h
  intro s hs
  refine State.each_reaches (·.cst c ≠ cFused) (fun s => (s.cell c).tested = true) _ c
    (fun s k => s.selfTest_not_fused bad k c) (fun s hs => ?_) (fun s k => s.selfTest_keeps_tested bad k c) s _ hc hs
  have ht := congrArg Prod.snd (s.selfTest_tests bad c c)
  simpa [State.tests, hs] using ht

/-- Settles O8, by what the fold over the cells of a zone reaches. -/
theorem zonesStartAndAreTested : Obligations.ZonesStartAndAreTested := by
  refine ⟨fun s z hz hcold hused => ?_, fun s z bad hz hhubs htested => ?_, fun s z bad hz h => ?_,
    fun s c bad hc h => s.selfTest_all_bad bad c hc h⟩
  · refine ⟨_, congrArg Host.Outcome.next (if_pos hz), ?_⟩
    have hk := effZoneReady_kept s z
    rw [effZoneReady_eq s z hcold hused] at hk ⊢
    obtain ⟨b, hb⟩ := (s.startHubs z).supplyDue_dev
    refine ⟨?_, ?_, hk, fun hd => by rw [(s.startHubs z).supplyDue_of_not_due hd]; rfl⟩
    · rw [hb]
      simp [State.startHubs, Nat.testBit_two_pow_self]
    · rw [hb]
      dsimp only [State.startHubs]
      split
      · next h => exact testBit_sub_two_pow _ _ h
      · next h => simpa using h
  · refine ⟨_, congrArg Host.Outcome.next (if_pos hz), ?_⟩
    have hk := effSelfTest_kept s z bad
    have he : effSelfTest s z bad =
        ({ s with dev := { s.dev with tested := s.dev.tested ||| 2 ^ z } }.testZone z bad).supplyDue := by
      simp [effSelfTest, hhubs, htested, State.testZone]
    rw [he] at hk ⊢
    obtain ⟨b, hb⟩ := State.supplyDue_dev ({ s with dev := { s.dev with tested := s.dev.tested ||| 2 ^ z } }.testZone z bad)
    refine ⟨?_, hk, fun d hd c hc h => ?_⟩
    · rw [hb, State.testZone_dev]
      simp [Nat.testBit_two_pow_self]
    · rw [State.supplyDue_tested]
      exact State.testZone_tested _ z bad d c hd hc h
  · have hs : effSelfTest s z bad = s := by
      unfold effSelfTest
      rcases h with h | h <;> simp [h]
    exact congrArg Host.Outcome.next ((if_pos hz).trans hs)

end Sys2Proof.Machine

namespace Sys2Proof.Machine

/-! ### Codes within a range -/

theorem clampTo_eq {lo hi : Int} (h : lo ≤ hi) (x : Int) : clampTo lo hi x = max lo (min x hi) := by
  unfold clampTo; split <;> [skip; split] <;> omega

/-- A code of `w` bits holds each of its numbers, signed or not. -/
theorem signedOf_codeOf {w : Nat} {x : Int} (hw : 0 < w) (h1 : -(2 : Int) ^ (w - 1) ≤ x) (h2 : x < (2 : Int) ^ (w - 1)) :
    signedOf w (codeOf w x) = x := by
  obtain ⟨n, rfl⟩ : ∃ n, w = n + 1 := ⟨w - 1, by omega⟩
  simp only [Nat.add_sub_cancel] at h1 h2
  have hp : (2 : Int) ^ (n + 1) = 2 * 2 ^ n := by rw [pow_succ]; omega
  have hc : ((2 ^ n : Nat) : Int) = (2 : Int) ^ n := by push_cast; rfl
  unfold signedOf codeOf
  rw [Nat.add_sub_cancel, hp]
  rcases lt_or_ge x 0 with hx | hx
  · have he : x % (2 * 2 ^ n) = x + 2 * 2 ^ n := by
      rw [← Int.add_mul_emod_self_left x (2 * 2 ^ n) 1, mul_one, Int.emod_eq_of_lt (by omega) (by omega)]
    rw [he, if_neg (by omega)]
    omega
  · rw [Int.emod_eq_of_lt hx (by omega), if_pos (by omega)]
    omega

theorem codeOf_lt (w : Nat) (x : Int) : codeOf w x < 2 ^ w := by
  have hc : ((2 ^ w : Nat) : Int) = (2 : Int) ^ w := by push_cast; rfl
  have hp : (0 : Int) < 2 ^ w := by positivity
  have h1 := Int.emod_lt_of_pos x hp
  have h2 := Int.emod_nonneg x hp.ne'
  unfold codeOf
  omega

theorem codeOf_of_nonneg {w : Nat} {x : Int} (h1 : 0 ≤ x) (h2 : x < (2 : Int) ^ w) : (codeOf w x : Int) = x := by
  unfold codeOf
  rw [Int.emod_eq_of_lt h1 h2]
  omega

/-! ### Registers whose fields can be written one by one -/

/-- A field lies in a word, its range is not empty, and its code holds every number of the range. -/
def Fld.fits (F : Fld) : Bool :=
  decide (0 < F.w ∧ F.lo + F.w ≤ 32) && F.rng.all fun r =>
    decide (r.1 ≤ r.2) &&
      if F.sgn then decide (-(2 : Int) ^ (F.w - 1) ≤ r.1 ∧ r.2 < (2 : Int) ^ (F.w - 1))
      else decide (0 ≤ r.1 ∧ r.2 < (2 : Int) ^ F.w)

/-- Two fields lie in one register, at other bits. -/
abbrev Fld.beside (F G : Fld) : Prop :=
  F.inst = G.inst ∧ F.base = G.base ∧ F.rst = G.rst ∧ (F.lo + F.w ≤ G.lo ∨ G.lo + G.w ≤ F.lo)

/-- A register's fields fit, lie beside one another at its offset, and are not of a cell. -/
def RegDef.regular (r : RegDef) : Bool :=
  (r.flds.all fun F => F.fits && decide (F.inst ≠ .cell ∧ F.base % 0x1000 = r.off)) && decide (r.flds.Pairwise Fld.beside)

theorem Fld.beside_symm {F G : Fld} (h : F.beside G) : G.beside F := by
  obtain ⟨hi, hb, hr, ho⟩ := h
  exact ⟨hi.symm, hb.symm, hr.symm, ho.symm⟩

theorem Fld.key_beside {F G : Fld} (h : F.beside G) (i : Nat) : F.key i = G.key i := by
  obtain ⟨hi, hb, -, -⟩ := h
  simp only [Fld.key, hi, hb]

theorem Fld.key_mod {F : Fld} (hc : F.inst ≠ .cell) (i : Nat) : F.key i % 0x1000 = F.base % 0x1000 := by
  unfold Fld.key
  cases hF : F.inst with
  | cell => exact absurd hF hc
  | one => rfl
  | page => exact Nat.add_mul_mod_self_left _ _ _
  | bank => dsimp only; omega

/-- No field of a register at another offset shares the word of a page's events. -/
theorem Fld.key_ne_flt {F : Fld} (hc : F.inst ≠ .cell) (hb : F.base % 0x1000 ≠ 0x14) (i p : Nat) :
    F.key i ≠ R.PG_FLT_FLT.key p := by
  intro h
  have hF := Fld.key_mod hc i
  rw [h, Fld.key_mod (by decide)] at hF
  exact hb hF.symm

/-- The selections of indexed registers stand where neither an indexed register nor an event word of a page lies. -/
theorem State.bankSel_set (s : State) (F : Fld) (i v b : Nat) (h : F.inst = .bank ∨ F = R.PG_FLT_FLT) :
    (s.set F i v).bankSel b = s.bankSel b := by
  have hk : 0x100000 ≤ F.key i ∨ F.key i % 0x1000 = 0x14 := by
    rcases h with h | rfl
    · simp only [Fld.key, h]; omega
    · exact Or.inr (Fld.key_mod (by decide) i)
  have hg (G : Fld) (hG : G.inst = .one ∧ G.base < 0x100000 ∧ G.base % 0x1000 ≠ 0x14) : (s.set F i v).get G = s.get G := by
    obtain ⟨h1, h2, h3⟩ := hG
    refine State.get_set_ne _ _ _ _ _ _ fun e => ?_
    rw [e] at hk
    simp only [Fld.key, h1] at hk
    omega
  unfold State.bankSel
  dsimp only
  repeat rw [hg _ (by decide)]

/-- What a write to a field of a register, or an event of a page, leaves of the unit that an address reaches. -/
theorem State.instOf_set (s : State) (F G : Fld) (i v a : Nat) (h : F.inst = G.inst ∨ F = R.PG_FLT_FLT) :
    (s.set F i v).instOf G a = s.instOf G a := by
  unfold State.instOf
  cases hG : G.inst with
  | bank => exact State.bankSel_set _ _ _ _ _ (h.imp_left fun e => e.trans hG)
  | _ => rfl

/-! ### The store of one field -/

/-- A store leaves the state as it was, or writes the field alone, or has its code saturated too. -/
theorem State.storeFld_cases (s : State) (priv : Bool) (a : Nat) (w : Word) (F : Fld) :
    s.storeFld priv a w F = s ∨ (∃ c, s.storeFld priv a w F = s.set F (s.instOf F a) c) ∨
      ∃ c, s.storeFld priv a w F = (s.set F (s.instOf F a) c).cfgsat (a / 0x1000) := by
  have put : ∀ x : Nat × Bool, (∃ c, (if x.2 then (s.set F (s.instOf F a) x.1).cfgsat (a / 0x1000)
      else s.set F (s.instOf F a) x.1) = s.set F (s.instOf F a) c) ∨
      ∃ c, (if x.2 then (s.set F (s.instOf F a) x.1).cfgsat (a / 0x1000) else s.set F (s.instOf F a) x.1) =
        (s.set F (s.instOf F a) c).cfgsat (a / 0x1000)
    | (c, false) => Or.inl ⟨c, rfl⟩
    | (c, true) => Or.inr ⟨c, rfl⟩
  unfold State.storeFld
  cases F.acc with
  | ro | wo => exact Or.inl rfl
  | w1c => exact Or.inr (Or.inl ⟨_, rfl⟩)
  | rw | rws => exact Or.inr (put _)
  | rwp =>
    cases priv && F.reach == .setting with
    | false => exact Or.inl rfl
    | true => exact Or.inr (put _)

/-- What the write of the field and an event of the page both leave, its store leaves. -/
theorem State.storeFld_const {β : Type} (φ : State → β) (s : State) (priv : Bool) (a : Nat) (w : Word) (F : Fld)
    (hF : ∀ s c, φ (s.set F (s.instOf F a) c) = φ s) (hp : ∀ s c, φ (s.set R.PG_FLT_FLT (a / 0x1000) c) = φ s) :
    φ (s.storeFld priv a w F) = φ s := by
  rcases s.storeFld_cases priv a w F with h | ⟨c, h⟩ | ⟨c, h⟩
  · rw [h]
  · rw [h, hF]
  · rw [h]; exact (hp _ _).trans (hF _ _)

theorem State.storeFld_instOf (s : State) (priv : Bool) (a : Nat) (w : Word) (F G : Fld) (h : F.inst = G.inst) :
    (s.storeFld priv a w F).instOf G a = s.instOf G a :=
  State.storeFld_const (·.instOf G a) s priv a w F (fun s c => s.instOf_set F G _ c a (Or.inl h))
    (fun s c => s.instOf_set R.PG_FLT_FLT G _ c a (Or.inr rfl))

/-- The store of a field leaves the fields beside it. -/
theorem State.storeFld_get_beside (s : State) (priv : Bool) (a : Nat) (w : Word) (F G : Fld) (i : Nat) (h : F.beside G)
    (hG : G.inst ≠ .cell) (hb : G.base % 0x1000 ≠ 0x14) : (s.storeFld priv a w F).get G i = s.get G i := by
  obtain ⟨-, -, hr, ho⟩ := h
  exact State.storeFld_const (·.get G i) s priv a w F (fun s c => s.get_set_other F G _ i c hr ho)
    (fun s c => s.get_set_ne R.PG_FLT_FLT G _ i c (Fld.key_ne_flt hG hb i _).symm)

/-- A store changes the register file alone. -/
theorem State.storeFld_regs (s : State) (priv : Bool) (a : Nat) (w : Word) (F : Fld) :
    s.storeFld priv a w F = { s with regs := (s.storeFld priv a w F).regs } := by
  rcases s.storeFld_cases priv a w F with h | ⟨c, h⟩ | ⟨c, h⟩ <;> rw [h] <;> rfl

theorem State.storeFld_framed (u s : State) (priv : Bool) (a : Nat) (w : Word) (F : Fld) (ks : List Nat) (h : u.framed s ks)
    (hF : F.key (s.instOf F a) ∈ ks) (hp : R.PG_FLT_FLT.key (a / 0x1000) ∈ ks) : u.framed (s.storeFld priv a w F) ks := by
  rcases s.storeFld_cases priv a w F with e | ⟨c, e⟩ | ⟨c, e⟩ <;> rw [e]
  · exact h
  · exact State.framed_set _ _ _ _ _ _ h hF
  · exact State.framed_set _ _ _ _ _ _ (State.framed_set _ _ _ _ _ _ h hF) hp

theorem cfgsatBit_lt (p : Nat) : cfgsatBit p < 32 := by
  unfold cfgsatBit; split <;> [skip; split] <;> decide

/-- The event of a saturated code of a page. -/
abbrev State.satShown (s : State) (p : Nat) : Prop := (s.get R.PG_FLT_FLT p).testBit (cfgsatBit p) = true

theorem State.cfgsat_satShown (s : State) (p : Nat) : (s.cfgsat p).satShown p := by
  unfold State.satShown State.cfgsat State.raiseBit
  rw [State.get_set_self _ _ _ _ (by decide), Nat.testBit_mod_two_pow]
  simp [cfgsatBit_lt, R.PG_FLT_FLT]

/-- A store undoes no event of a saturated code. -/
theorem State.storeFld_satShown (s : State) (priv : Bool) (a : Nat) (w : Word) (F : Fld) (hc : F.inst ≠ .cell)
    (hb : F.base % 0x1000 ≠ 0x14) (h : s.satShown (a / 0x1000)) : (s.storeFld priv a w F).satShown (a / 0x1000) := by
  rcases s.storeFld_cases priv a w F with e | ⟨c, e⟩ | ⟨c, e⟩ <;> rw [e]
  · exact h
  · unfold State.satShown
    rwa [State.get_set_ne _ _ _ _ _ _ (Fld.key_ne_flt hc hb _ _)]
  · exact State.cfgsat_satShown _ _

/-! ### What the access types store -/

/-- What the store of a field by its access type comes to (R16 to R18, R88), of a state before and after it. -/
def Fld.Stored (F : Fld) (s t : State) (priv : Bool) (a : Nat) (w : Word) : Prop :=
  (F.acc = .ro ∨ F.acc = .wo → t.get F (s.instOf F a) = s.get F (s.instOf F a)) ∧
  ((F.acc = .rw ∨ F.acc = .rws) ∧ F.rng = none → t.get F (s.instOf F a) = bitsOf w F.lo F.w) ∧
  (F.acc = .w1c → t.get F (s.instOf F a) = s.get F (s.instOf F a) &&& (2 ^ F.w - 1 - bitsOf w F.lo F.w)) ∧
  (F.acc = .rwp ∧ F.reach = .setting ∧ F.rng = none ∧ priv = true → t.get F (s.instOf F a) = bitsOf w F.lo F.w) ∧
  (∀ lo hi v : Int, (F.acc = .rw ∨ F.acc = .rws ∨ F.acc = .rwp ∧ F.reach = .setting ∧ priv = true) →
    F.rng = some (lo, hi) → v = (if F.sgn then signedOf F.w (bitsOf w F.lo F.w) else (bitsOf w F.lo F.w : Int)) →
    (if F.sgn then t.getI F (s.instOf F a) else (t.get F (s.instOf F a) : Int)) = max lo (min v hi) ∧
    (v < lo ∨ hi < v → t.satShown (a / 0x1000)))

theorem bitsOf_lt (x : Word) (lo w : Nat) : bitsOf x lo w < 2 ^ w := Nat.mod_lt _ (by positivity)

/-- The fields that take the nearest code within their range from the data of a write. -/
abbrev Fld.takes (F : Fld) (priv : Bool) : Prop :=
  F.acc = .rw ∨ F.acc = .rws ∨ F.acc = .rwp ∧ F.reach = .setting ∧ priv = true

theorem State.storeFld_takes (s : State) (priv : Bool) (a : Nat) (w : Word) (F : Fld) (h : F.takes priv) :
    s.storeFld priv a w F = if (F.inRange (bitsOf w F.lo F.w)).2 = true
      then (s.set F (s.instOf F a) (F.inRange (bitsOf w F.lo F.w)).1).cfgsat (a / 0x1000)
      else s.set F (s.instOf F a) (F.inRange (bitsOf w F.lo F.w)).1 := by
  unfold State.storeFld
  rcases h with h | h | ⟨h, hr, hp⟩
  · simp only [h]
  · simp only [h]
  · simp only [h, hr, hp, BEq.rfl, Bool.and_self, if_true]

/-- A field that takes the data holds the code within its range, and the event of saturation shows where that is another. -/
theorem State.storeFld_takes_get (s : State) (priv : Bool) (a : Nat) (w : Word) (F : Fld) (h : F.takes priv) (hf : F.fits = true)
    (hc : F.inst ≠ .cell) (hb : F.base % 0x1000 ≠ 0x14) :
    (s.storeFld priv a w F).get F (s.instOf F a) = (F.inRange (bitsOf w F.lo F.w)).1 % 2 ^ F.w ∧
      ((F.inRange (bitsOf w F.lo F.w)).2 = true → (s.storeFld priv a w F).satShown (a / 0x1000)) := by
  obtain ⟨⟨-, hw⟩, -⟩ : (0 < F.w ∧ F.lo + F.w ≤ 32) ∧ _ := by simpa [Fld.fits] using hf
  rw [State.storeFld_takes _ _ _ _ _ h]
  split
  · refine ⟨?_, fun _ => State.cfgsat_satShown _ _⟩
    refine (State.get_set_ne _ R.PG_FLT_FLT F _ _ _ (Fld.key_ne_flt hc hb _ _).symm).trans ?_
    exact State.get_set_self _ _ _ _ hw
  · next hn => exact ⟨State.get_set_self _ _ _ _ hw, fun hs => absurd hs hn⟩

/-- The code within a range, read as the range reads it, is the nearest number of the range. -/
theorem Fld.inRange_nearest {F : Fld} (hf : F.fits = true) {lo hi v : Int} {x : Nat} (hr : F.rng = some (lo, hi))
    (hv : v = if F.sgn then signedOf F.w x else (x : Int)) :
    (if F.sgn then signedOf F.w ((F.inRange x).1 % 2 ^ F.w) else (((F.inRange x).1 % 2 ^ F.w : Nat) : Int)) = max lo (min v hi) ∧
      (v < lo ∨ hi < v → (F.inRange x).2 = true) := by
  simp only [Fld.fits, hr, Option.all_some, Bool.and_eq_true, decide_eq_true_eq] at hf
  obtain ⟨⟨hw, -⟩, hle, hrange⟩ := hf
  simp only [Fld.inRange, hr, ← hv, clampTo_eq hle, Nat.mod_eq_of_lt (codeOf_lt _ _), decide_eq_true_eq]
  refine ⟨?_, by omega⟩
  split
  · next hs =>
    rw [if_pos hs, decide_eq_true_eq] at hrange
    obtain ⟨hlo, hhi⟩ := hrange
    exact signedOf_codeOf hw (by omega) (by omega)
  · next hs =>
    rw [if_neg hs, decide_eq_true_eq] at hrange
    obtain ⟨hlo, hhi⟩ := hrange
    exact codeOf_of_nonneg (by omega) (by omega)

/-- The store of a field stores it by its access type. -/
theorem State.storeFld_stored (s : State) (priv : Bool) (a : Nat) (w : Word) (F : Fld) (hf : F.fits = true)
    (hc : F.inst ≠ .cell) (hb : F.base % 0x1000 ≠ 0x14) : F.Stored s (s.storeFld priv a w F) priv a w := by
  have hw : F.lo + F.w ≤ 32 := by simp [Fld.fits] at hf; omega
  have plain (h : F.takes priv) (hr : F.rng = none) :
      (s.storeFld priv a w F).get F (s.instOf F a) = bitsOf w F.lo F.w := by
    rw [(s.storeFld_takes_get priv a w F h hf hc hb).1, Fld.inRange, hr]
    exact Nat.mod_eq_of_lt (bitsOf_lt _ _ _)
  refine ⟨fun h => ?_, fun ⟨h, hr⟩ => plain (h.imp_right Or.inl) hr, fun h => ?_,
    fun ⟨h, hs, hr, hp⟩ => plain (Or.inr (Or.inr ⟨h, hs, hp⟩)) hr, fun lo hi v h hr hv => ?_⟩
  · unfold State.storeFld
    rcases h with h | h <;> rw [h]
  · unfold State.storeFld
    rw [h]
    refine (State.get_set_self _ _ _ _ hw).trans (Nat.mod_eq_of_lt ?_)
    exact lt_of_le_of_lt Nat.and_le_left (bitsOf_lt _ _ _)
  · obtain ⟨hget, hsat⟩ := s.storeFld_takes_get priv a w F h hf hc hb
    obtain ⟨hnear, hout⟩ := Fld.inRange_nearest hf hr hv
    refine ⟨?_, fun ho => hsat (hout ho)⟩
    rw [State.getI, hget]
    exact hnear

/-- What is stored of a field depends on the field and the event word after the write alone. -/
theorem Fld.Stored.congr {F : Fld} {s t u : State} {priv : Bool} {a : Nat} {w : Word} (h : F.Stored s t priv a w)
    (hg : u.get F (s.instOf F a) = t.get F (s.instOf F a)) (hs : t.satShown (a / 0x1000) → u.satShown (a / 0x1000)) :
    F.Stored s u priv a w := by
  obtain ⟨h1, h2, h3, h4, h5⟩ := h
  have hI : u.getI F (s.instOf F a) = t.getI F (s.instOf F a) := congrArg (signedOf F.w) hg
  unfold Fld.Stored
  rw [hI, hg]
  refine ⟨h1, h2, h3, h4, fun lo hi v ht hr hv => ?_⟩
  obtain ⟨hv1, hv2⟩ := h5 lo hi v ht hr hv
  exact ⟨hv1, fun ho => hs (hv2 ho)⟩

/-! ### The store of a register -/

/-- The store of fields in turn. -/
def State.storeFlds (s : State) (priv : Bool) (a : Nat) (w : Word) (l : List Fld) : State :=
  l.foldl (fun s F => s.storeFld priv a w F) s

/-- The fields of a list fit, and lie beside one another in a register that is not the event word of a page. -/
abbrev PlainFlds (l : List Fld) : Prop :=
  (∀ F ∈ l, F.fits = true ∧ F.inst ≠ .cell ∧ F.base % 0x1000 ≠ 0x14) ∧ l.Pairwise Fld.beside

theorem PlainFlds.tail {F : Fld} {l : List Fld} (h : PlainFlds (F :: l)) : PlainFlds l :=
  ⟨fun G hG => h.1 G (List.mem_cons_of_mem _ hG), (List.pairwise_cons.mp h.2).2⟩

theorem State.storeFlds_get (s : State) (priv : Bool) (a : Nat) (w : Word) (l : List Fld) (G : Fld) (i : Nat)
    (hl : ∀ F ∈ l, F.beside G) (hG : G.inst ≠ .cell) (hb : G.base % 0x1000 ≠ 0x14) :
    (s.storeFlds priv a w l).get G i = s.get G i := by
  unfold State.storeFlds
  induction l generalizing s with
  | nil => rfl
  | cons F l ih =>
    rw [List.foldl_cons, ih _ fun F hF => hl F (List.mem_cons_of_mem _ hF)]
    exact s.storeFld_get_beside priv a w F G i (hl F List.mem_cons_self) hG hb

theorem State.storeFlds_satShown (s : State) (priv : Bool) (a : Nat) (w : Word) (l : List Fld) (hl : PlainFlds l)
    (h : s.satShown (a / 0x1000)) : (s.storeFlds priv a w l).satShown (a / 0x1000) := by
  unfold State.storeFlds
  induction l generalizing s with
  | nil => exact h
  | cons F l ih =>
    obtain ⟨-, hc, hb⟩ := hl.1 F List.mem_cons_self
    exact ih _ hl.tail (s.storeFld_satShown priv a w F hc hb h)

/-- Every field of the list is stored by its access type. -/
theorem State.storeFlds_stored (s : State) (priv : Bool) (a : Nat) (w : Word) (l : List Fld) (hl : PlainFlds l) :
    ∀ F ∈ l, F.Stored s (s.storeFlds priv a w l) priv a w := by
  induction l generalizing s with
  | nil => exact fun F hF => absurd hF List.not_mem_nil
  | cons G l ih =>
    intro F hF
    have hG := (List.pairwise_cons.mp hl.2).1
    obtain ⟨hf, hc, hb⟩ := hl.1 F hF
    rcases List.mem_cons.mp hF with rfl | hF
    · refine (s.storeFld_stored priv a w F hf hc hb).congr ?_ (State.storeFlds_satShown _ priv a w l hl.tail)
      exact State.storeFlds_get _ priv a w l F _ (fun K hK => Fld.beside_symm (hG K hK)) hc hb
    · have hn := ih (s.storeFld priv a w G) hl.tail F hF
      have hi := s.storeFld_instOf priv a w G F (hG F hF).1
      have hg := s.storeFld_get_beside priv a w G F (s.instOf F a) (hG F hF) hc hb
      unfold Fld.Stored at hn ⊢
      rw [hi, hg] at hn
      exact hn

/-- The words stored are those of the fields and the page's event word. -/
theorem State.storeFlds_framed (s : State) (priv : Bool) (a : Nat) (w : Word) (l : List Fld) (hl : PlainFlds l) :
    s.framed (s.storeFlds priv a w l) ((l.map fun F => F.key (s.instOf F a)) ++ [R.PG_FLT_FLT.key (a / 0x1000)]) := by
  have go (ks : List Nat) (hp : R.PG_FLT_FLT.key (a / 0x1000) ∈ ks) (u : State) (l : List Fld) (hl : PlainFlds l) :
      ∀ s : State, u.framed s ks → (∀ F ∈ l, F.key (s.instOf F a) ∈ ks) → u.framed (s.storeFlds priv a w l) ks := by
    induction l with
    | nil => exact fun _ h _ => h
    | cons F l ih =>
      intro s h hk
      refine ih hl.tail _ (State.storeFld_framed u s priv a w F ks h (hk F List.mem_cons_self) hp) fun G hG => ?_
      rw [s.storeFld_instOf priv a w F G ((List.pairwise_cons.mp hl.2).1 G hG).1]
      exact hk G (List.mem_cons_of_mem _ hG)
  refine go _ (by simp) s l hl s (State.framed_refl _ _) fun F hF => ?_
  exact List.mem_append_left _ (List.mem_map.mpr ⟨F, hF, rfl⟩)

theorem State.storeFlds_regs (s : State) (priv : Bool) (a : Nat) (w : Word) (l : List Fld) :
    ∃ x, s.storeFlds priv a w l = { s with regs := x } := by
  unfold State.storeFlds
  induction l generalizing s with
  | nil => exact ⟨s.regs, rfl⟩
  | cons F l ih =>
    obtain ⟨x, hx⟩ := ih (s.storeFld priv a w F)
    exact ⟨x, hx.trans (congrArg (fun t : State => { t with regs := x }) (s.storeFld_regs priv a w F))⟩

theorem State.storeReg_eq (s : State) (priv : Bool) (a : Nat) (w : Word) (r : RegDef) (h : findReg a = some r) :
    s.storeReg priv a w = s.storeFlds priv a w r.flds := by
  unfold State.storeReg; rw [h]; rfl

/-! ### The pages that carry no command -/

/-- The registers of the pages whose writes only store. -/
def plainRegs : List RegDef :=
  R.sysRegs ++ R.pwrRegs ++ R.telRegs ++ R.i3cRegs ++ R.hptRegs ++ R.anvRegs ++ R.dstRegs

theorem plainRegs_regular : plainRegs.all RegDef.regular = true := by decide

/-- The addresses of the registers whose writes only store. -/
abbrev PlainAddr (a : Nat) : Prop :=
  a / 0x1000 ∈ [0x00, 0x09, 0x15, 0x16, 0x17] ∨
    (a / 0x1000 = 0x02 ∧ (a % 0x1000 ∈ [0x44, 0x48] ∨ (0x5C ≤ a % 0x1000 ∧ a % 0x1000 < 0x68) ∨ 0x74 ≤ a % 0x1000)) ∨
    (0x40 ≤ a / 0x1000 ∧ a / 0x1000 < 0x80 ∧ a % 0x1000 = 0x48)

theorem PlainAddr.page {a : Nat} (h : PlainAddr a) : a / 0x1000 ∈ [0x00, 0x02, 0x09, 0x15, 0x16, 0x17] ∨
    0x40 ≤ a / 0x1000 ∧ a / 0x1000 < 0x80 := by
  rcases h with h | ⟨h, -⟩ | ⟨h1, h2, -⟩
  · exact Or.inl (by simp only [List.mem_cons, List.not_mem_nil, or_false] at h ⊢; omega)
  · exact Or.inl (by simp [h])
  · exact Or.inr ⟨h1, h2⟩

theorem pageRegs_plain {p : Nat} (h : p ∈ [0x00, 0x02, 0x09, 0x15, 0x16, 0x17] ∨ 0x40 ≤ p ∧ p < 0x80) :
    pageRegs p ⊆ plainRegs := by
  rcases h with h | ⟨h1, h2⟩
  · simp only [List.mem_cons, List.not_mem_nil, or_false] at h
    rcases h with rfl | rfl | rfl | rfl | rfl | rfl <;> intro r hr <;>
      simp only [plainRegs, List.mem_append] <;> simp only [pageRegs] at hr <;> simp [hr]
  · have hp : pageRegs p = R.dstRegs := by
      unfold pageRegs
      split
      iterate 24 · omega
      · rw [show isGalPage p = false by simp [isGalPage]; omega]
        simp [h1, h2]
    rw [hp]
    exact List.subset_append_right _ _

theorem plainFlds_of_findReg {a : Nat} {r : RegDef} (h : PlainAddr a) (ho : 0x40 ≤ a % 0x1000) (hr : findReg a = some r) :
    PlainFlds r.flds := by
  have hp := h.page
  have hlist : listOff (a / 0x1000) (a % 0x1000) = a % 0x1000 := by
    unfold listOff
    rw [if_neg]
    simp only [List.mem_cons, List.not_mem_nil, or_false] at hp
    omega
  unfold findReg at hr
  dsimp only at hr
  rw [if_neg (by omega), hlist] at hr
  have hoff : r.off = a % 0x1000 := by simpa using List.find?_some hr
  have hreg := List.all_eq_true.mp plainRegs_regular r (pageRegs_plain hp (List.mem_of_find?_eq_some hr))
  simp only [RegDef.regular, Bool.and_eq_true, List.all_eq_true, decide_eq_true_eq] at hreg
  obtain ⟨hflds, hpair⟩ := hreg
  refine ⟨fun F hF => ?_, hpair⟩
  obtain ⟨hfit, hcell, hbase⟩ := hflds F hF
  exact ⟨hfit, hcell, by omega⟩

theorem PlainAddr.pageWrite {a : Nat} (h : PlainAddr a) (h1 : 0x40 ≤ a % 0x1000) (s : State) (g : Nat) (priv : Bool) (w : Word) :
    s.pageWrite g priv a w = if a / 0x1000 = 0x15 then s.i3cRegWrite priv a w else s.storeReg priv a w := by
  have hoff : ¬a % 0x1000 < 0x40 := by omega
  rcases h with h | ⟨hp, ho⟩ | ⟨hlo, hhi, ho⟩
  · simp only [List.mem_cons, List.not_mem_nil, or_false] at h
    unfold State.pageWrite
    rcases h with h | h | h | h | h <;> simp [hoff, h, isGalPage]
  · have hn : ¬(0x4C ≤ a % 0x1000 ∧ a % 0x1000 < 0x5C) ∧ ¬(0x68 ≤ a % 0x1000 ∧ a % 0x1000 < 0x74) := by
      simp only [List.mem_cons, List.not_mem_nil, or_false] at ho; omega
    simp [State.pageWrite, State.pwrWrite, hp, hoff, hn, isGalPage]
  · have hg : isGalPage (a / 0x1000) = false := by simp [isGalPage]; omega
    simp [State.pageWrite, State.dstWrite, hg, ho, hlo, hhi, show a / 0x1000 ≠ 0x15 by omega]

/-- On these pages a write only stores; on the I3C page a Hot-Join that is not enabled ends besides. -/
theorem PlainAddr.effWrite {a : Nat} (h : PlainAddr a) (h1 : 0x40 ≤ a % 0x1000) (s : State) (g : Nat) (priv : Bool) (w : Word) :
    s.effWrite g priv a w = if a / 0x1000 = 0x15 then s.i3cRegWrite priv a w else s.storeReg priv a w := by
  have hp := h.page
  simp only [List.mem_cons, List.not_mem_nil, or_false] at hp
  have h40 : a ≠ 0x2040 := by
    rintro rfl
    revert h; decide
  rw [← h.pageWrite h1 s g priv w]
  unfold State.effWrite
  dsimp only
  rw [if_neg h40]
  split
  · rfl
  · split <;> [omega; omega; omega; omega; rfl]

/-- The end of a Hot-Join that is not enabled. -/
def State.hjChecked (s : State) (p : Nat) : I3cS :=
  if p = 0x15 ∧ s.get R.I3C_CTL_HJ_EN = 0 then { s.i3c with hj := false } else s.i3c

theorem State.i3cRegWrite_eq (s : State) (priv : Bool) (a : Nat) (w : Word) :
    s.i3cRegWrite priv a w = { s.storeReg priv a w with i3c := (s.storeReg priv a w).hjChecked 0x15 } := by
  unfold State.i3cRegWrite State.hjChecked State.flag
  by_cases hj : (s.storeReg priv a w).get R.I3C_CTL_HJ_EN = 0 <;> simp [hj]

/-- On these pages a write that passes stores each field of its register, and is answered OK. -/
theorem PlainAddr.exec_regWrite {a : Nat} (h : PlainAddr a) (h1 : 0x40 ≤ a % 0x1000) (s : State) (g : Gal) (w : Word) (r : RegDef)
    (hr : findReg a = some r) (hpass : s.passes g a w) :
    exec (.regWrite g a w) s = .next { (s.newAccess.storeFlds (s.priv g (a / 0x1000)) a w r.flds).okRsp g with
      i3c := (s.newAccess.storeFlds (s.priv g (a / 0x1000)) a w r.flds).hjChecked (a / 0x1000) } := by
  obtain ⟨hfence, hcheck⟩ := hpass
  have hp := h.page
  simp only [List.mem_cons, List.not_mem_nil, or_false] at hp
  have hnf : fences a w = false := by
    unfold fences
    rw [show isGalPage (a / 0x1000) = false by simp [isGalPage]; omega, Bool.false_and, Bool.false_and]
  have hone : s.newAccess.portWrite g a w =
      (s.newAccess.effWrite g (s.priv g (a / 0x1000)) a w).respond g .ok 0 := by
    unfold State.portWrite State.writeOne
    rw [show (tabAt s.newAccess.fence g).waiting = false from hfence, hcheck, hnf]
    rfl
  obtain ⟨x, hx⟩ := s.newAccess.storeFlds_regs (s.priv g (a / 0x1000)) a w r.flds
  refine congrArg Host.Outcome.next (hone.trans ?_)
  rw [h.effWrite h1, State.i3cRegWrite_eq, State.storeReg_eq _ _ _ _ _ hr, hx]
  split
  · next h15 => rw [h15]; rfl
  · next h15 => simp [State.hjChecked, h15]; rfl

/-- Settles O24, by the store of the fields of a register one beside the other. -/
theorem writesStoreWhatAccessTypesAllow : Obligations.WritesStoreWhatAccessTypesAllow := by
  intro s g a w r hp h1 _ hr hpass
  have hflds := plainFlds_of_findReg hp h1 hr
  obtain ⟨x, hx⟩ := s.newAccess.storeFlds_regs (s.priv g (a / 0x1000)) a w r.flds
  refine ⟨_, PlainAddr.exec_regWrite hp h1 s g w r hr hpass,
    s.newAccess.storeFlds_stored (s.priv g (a / 0x1000)) a w r.flds hflds, ?_,
    State.framed_congr _ _ _ _ (s.newAccess.storeFlds_framed (s.priv g (a / 0x1000)) a w r.flds hflds) rfl⟩
  rw [hx]
  rfl

end Sys2Proof.Machine

namespace Sys2Proof.Machine

/-! ### Fields of the LNK page, and ports -/

/-- A field of another offset of its page is as before. -/
theorem State.get_set_offset (s : State) (F G : Fld) (i j v : Nat) (hF : F.inst ≠ .cell) (hG : G.inst ≠ .cell)
    (h : F.base % 0x1000 ≠ G.base % 0x1000) : (s.set F i v).get G j = s.get G j := by
  refine State.get_set_ne _ _ _ _ _ _ fun e => h ?_
  rw [← Fld.key_mod hF i, e, Fld.key_mod hG]

theorem testBit_or_two_pow_mod {w b : Nat} (h : b < w) (x : Nat) : ((x ||| 2 ^ b) % 2 ^ w).testBit b = true := by
  simp [Nat.testBit_mod_two_pow, h]

theorem satU_lt (w n : Nat) : satU w n < 2 ^ w := by
  have : 0 < 2 ^ w := by positivity
  unfold satU
  split <;> omega

/-- A bit raised in a field shows. -/
theorem State.testBit_raiseBit (s : State) (F : Fld) (i b : Nat) (hw : F.lo + F.w ≤ 32) (hb : b < F.w) :
    ((s.raiseBit F i b).get F i).testBit b = true := by
  unfold State.raiseBit
  rw [State.get_set_self _ _ _ _ hw]
  exact testBit_or_two_pow_mod hb _

@[simp] theorem State.port_updPort (s : State) (p : Nat) (f : PortS → PortS) : (s.updPort p f).port p = f (s.port p) := by
  simp [State.port, State.updPort, tabUpd, tabAt]

@[simp] theorem State.port_set (s : State) (F : Fld) (i v p : Nat) : (s.set F i v).port p = s.port p := rfl

/-- `t` differs from `s` in the register file and the ports alone. -/
def State.linkOnly (s t : State) : Prop := ∃ r q, t = { s with regs := r, ports := q }

theorem State.linkOnly_refl (s : State) : s.linkOnly s := ⟨s.regs, s.ports, rfl⟩

theorem State.linkOnly.eq {s t : State} (h : s.linkOnly t) : t = { s with regs := t.regs, ports := t.ports } := by
  obtain ⟨r, q, rfl⟩ := h
  rfl

theorem State.linkOnly.set {s t : State} (h : s.linkOnly t) (F : Fld) (i v : Nat) : s.linkOnly (t.set F i v) := by
  obtain ⟨r, q, rfl⟩ := h
  exact ⟨_, q, rfl⟩

theorem State.linkOnly.updPort {s t : State} (h : s.linkOnly t) (p : Nat) (f : PortS → PortS) : s.linkOnly (t.updPort p f) := by
  obtain ⟨r, q, rfl⟩ := h
  exact ⟨r, _, rfl⟩

/-- Every port but an UP one has the feed limit 0. -/
theorem State.zoneLimit_of_not_up (s : State) (p : Nat) (h : s.pst p ≠ lkUp) : s.zoneLimit p = 0 := by
  have h' : s.get R.LNK_PSTAT_STATE p ≠ 4 := h
  simp [State.zoneLimit, h']

theorem State.zoneUp_iff (s : State) (p : Nat) : s.zoneUp p = true ↔ ∃ d ∈ s.inZone p, s.dst d ≠ 0 := by
  simp [State.zoneUp]

/-! ### A departure -/

theorem State.report_lines (s : State) (cls cause src : Nat) (h : (src, cls) ∉ s.flt.masked) :
    (s.report cls cause src).flt.lines = s.flt.lines ++ [{ cls := cls, cause := cause, src := src }] := by
  rw [State.report, if_neg h]

@[simp] theorem State.report_regs (s : State) (cls cause src : Nat) : (s.report cls cause src).regs = s.regs := by
  unfold State.report; split <;> rfl

@[simp] theorem State.report_ports (s : State) (cls cause src : Nat) : (s.report cls cause src).ports = s.ports := by
  unfold State.report; split <;> rfl

/-- The only word that a departure writes is that of the page's events. -/
theorem State.depart_regs (s : State) (p cause : Nat) : (s.depart p cause).regs = (s.raiseBit R.LNK_FLT_DEPART 0 p).regs := by
  unfold State.depart
  dsimp only
  split
  · exact State.report_regs _ _ _ _
  · rfl

theorem State.depart_get (s : State) (p cause : Nat) (F : Fld) (i : Nat) :
    (s.depart p cause).get F i = (s.raiseBit R.LNK_FLT_DEPART 0 p).get F i := by
  unfold State.get State.word
  rw [State.depart_regs]

/-- A departure leaves every field at another offset. -/
theorem State.depart_get_offset (s : State) (p cause : Nat) (F : Fld) (i : Nat) (hc : F.inst ≠ .cell) (hb : F.base % 0x1000 ≠ 0x14) :
    (s.depart p cause).get F i = s.get F i :=
  (s.depart_get p cause F i).trans (State.get_set_offset _ R.LNK_FLT_DEPART F 0 i _ (by decide) hc hb.symm)

theorem State.depart_shown (s : State) (p cause : Nat) (hp : p < 4) : ((s.depart p cause).get R.LNK_FLT_DEPART).testBit p = true := by
  rw [State.depart_get]
  exact State.testBit_raiseBit _ _ _ _ (by decide) hp

theorem State.depart_framed (u s : State) (p cause : Nat) (ks : List Nat) (h : u.framed s ks) (hk : R.LNK_FLT_DEPART.key 0 ∈ ks) :
    u.framed (s.depart p cause) ks :=
  State.framed_congr _ _ _ _ (State.framed_set u s ks R.LNK_FLT_DEPART 0 (s.get R.LNK_FLT_DEPART ||| 2 ^ p) h hk)
    (s.depart_regs p cause)

theorem State.zoneUp_raiseDepart (s : State) (p q : Nat) : (s.raiseBit R.LNK_FLT_DEPART 0 p).zoneUp q = s.zoneUp q := by
  have hd (d : Nat) : (s.raiseBit R.LNK_FLT_DEPART 0 p).dst d = s.dst d :=
    State.get_set_offset _ _ _ _ _ _ (by decide) (by decide) (by decide)
  unfold State.zoneUp
  simp only [hd]
  rfl

/-- A departure while a district of the zone is not OFF is reported. -/
theorem State.depart_lines (s : State) (p cause : Nat) (hup : s.zoneUp p = true) (hm : (srcOf 5 p, clsModloss) ∉ s.flt.masked) :
    (s.depart p cause).flt.lines = s.flt.lines ++ [{ cls := clsModloss, cause := cause, src := srcOf 5 p }] := by
  unfold State.depart
  dsimp only
  rw [State.zoneUp_raiseDepart, if_pos hup]
  exact State.report_lines _ _ _ _ hm

/-- A departure leaves a module's presence. -/
theorem State.depart_port_present (s : State) (p cause : Nat) : ((s.depart p cause).port p).present = (s.port p).present := by
  unfold State.depart
  dsimp only
  split
  · simp [State.port, State.updPort, tabUpd, tabAt, State.raiseBit, State.set]
  · rfl

/-! ### A port leaves its state -/

/-- The link of a port is closed, and the port in its new state with its reason. -/
def State.closed (s : State) (p st reason : Nat) : State :=
  (((s.updPort p fun x => { x.close with aligned := x.aligned && st != lkReset }).unack p).set R.LNK_PSTAT_STATE p st).set
    R.LNK_PSTAT_DOWNR p reason

/-- The count and the event of a port that goes down. -/
def State.countDown (s : State) (p : Nat) : State := (s.inc R.LNK_CNT1_DOWNS p).raiseBit R.LNK_FLT_DOWN 0 p

theorem State.portDown_down (s : State) (p reason cause : Nat) :
    s.portDown p lkDown reason cause = if s.pst p = lkUp then ((s.closed p lkDown reason).countDown p).depart p cause
      else (s.closed p lkDown reason).countDown p := by
  simp [State.portDown, State.closed, State.countDown]

theorem State.portDown_reset (s : State) (p reason cause : Nat) :
    s.portDown p lkReset reason cause = if s.pst p = lkUp then (s.closed p lkReset reason).depart p cause
      else s.closed p lkReset reason := by
  simp [State.portDown, State.closed]

theorem State.closed_pst (s : State) (p st reason : Nat) (h : st < 8) : (s.closed p st reason).pst p = st := by
  unfold State.closed State.pst
  rw [State.get_set_other _ R.LNK_PSTAT_DOWNR R.LNK_PSTAT_STATE _ _ _ rfl (by decide), State.get_set_self _ _ _ _ (by decide)]
  exact Nat.mod_eq_of_lt h

theorem State.closed_reason (s : State) (p st reason : Nat) (h : reason < 16) :
    (s.closed p st reason).get R.LNK_PSTAT_DOWNR p = reason :=
  (State.get_set_self _ _ _ _ (by decide)).trans (Nat.mod_eq_of_lt h)

theorem State.closed_present (s : State) (p st reason : Nat) (h : s.get R.LNK_PSTAT_PRSNT p = 0) :
    (s.closed p st reason).get R.LNK_PSTAT_PRSNT p = 0 := by
  unfold State.closed State.unack
  simp (disch := decide) only [State.get_set_other]
  exact h

theorem State.closed_port (s : State) (p st reason : Nat) :
    (s.closed p st reason).port p = { (s.port p).close with aligned := (s.port p).aligned && st != lkReset } := by
  simp [State.closed, State.unack]

/-- Closing the link leaves the fields at other offsets. -/
theorem State.closed_get (s : State) (p st reason : Nat) (F : Fld) (i : Nat) (hc : F.inst ≠ .cell) (hb : F.base % 0x1000 ≠ 0x4c) :
    (s.closed p st reason).get F i = s.get F i := by
  have go (s : State) (G : Fld) (hG : G.inst ≠ .cell ∧ G.base % 0x1000 = 0x4c) (v : Nat) : (s.set G p v).get F i = s.get F i :=
    State.get_set_offset _ _ _ _ _ _ hG.1 hc (by omega)
  unfold State.closed State.unack
  rw [go _ _ (by decide), go _ _ (by decide), go _ _ (by decide)]
  rfl

theorem State.linkOnly.closed {s t : State} (h : s.linkOnly t) (p st reason : Nat) : s.linkOnly (t.closed p st reason) :=
  (((h.updPort p _).set R.LNK_PSTAT_UNACK p _).set R.LNK_PSTAT_STATE p st).set R.LNK_PSTAT_DOWNR p reason

theorem State.closed_framed (u s : State) (p st reason : Nat) (ks : List Nat) (h : u.framed s ks)
    (hk : R.LNK_PSTAT_STATE.key p ∈ ks) : u.framed (s.closed p st reason) ks :=
  State.framed_set _ _ _ R.LNK_PSTAT_DOWNR _ _ (State.framed_set _ _ _ _ _ _
    (State.framed_set _ (s.updPort p _) _ R.LNK_PSTAT_UNACK _ _ h hk) hk) hk

theorem State.countDown_get (s : State) (p : Nat) (F : Fld) (i : Nat) (hc : F.inst ≠ .cell)
    (h1 : F.base % 0x1000 ≠ 0x74) (h2 : F.base % 0x1000 ≠ 0x14) : (s.countDown p).get F i = s.get F i := by
  unfold State.countDown State.raiseBit State.inc State.setSat
  rw [State.get_set_offset _ R.LNK_FLT_DOWN F _ _ _ (by decide) hc h2.symm,
    State.get_set_offset _ R.LNK_CNT1_DOWNS F _ _ _ (by decide) hc h1.symm]

theorem State.countDown_count (s : State) (p : Nat) :
    (s.countDown p).get R.LNK_CNT1_DOWNS p = satU 16 (s.get R.LNK_CNT1_DOWNS p + 1) := by
  unfold State.countDown State.raiseBit State.inc State.setSat
  rw [State.get_set_offset _ R.LNK_FLT_DOWN R.LNK_CNT1_DOWNS _ _ _ (by decide) (by decide) (by decide),
    State.get_set_self _ _ _ _ (by decide)]
  exact Nat.mod_eq_of_lt (satU_lt _ _)

theorem State.countDown_shown (s : State) (p : Nat) (hp : p < 4) : ((s.countDown p).get R.LNK_FLT_DOWN).testBit p = true :=
  State.testBit_raiseBit _ _ _ _ (by decide) hp

theorem State.linkOnly.countDown {s t : State} (h : s.linkOnly t) (p : Nat) : s.linkOnly (t.countDown p) :=
  (h.set R.LNK_CNT1_DOWNS p _).set R.LNK_FLT_DOWN 0 _

theorem State.countDown_port (s : State) (p q : Nat) : (s.countDown p).port q = s.port q := rfl

theorem State.countDown_framed (u s : State) (p : Nat) (ks : List Nat) (h : u.framed s ks) (h1 : R.LNK_CNT1_DOWNS.key p ∈ ks)
    (h2 : R.LNK_FLT_DOWN.key 0 ∈ ks) : u.framed (s.countDown p) ks :=
  State.framed_set _ _ _ _ _ _ (State.framed_set _ _ _ _ _ _ h h1) h2

/-- What a change of registers and ports alone leaves of the districts' states, it leaves of the zones. -/
theorem State.linkOnly.zoneUp {s t : State} (h : s.linkOnly t) (p : Nat) (hd : ∀ d, t.dst d = s.dst d) : t.zoneUp p = s.zoneUp p := by
  unfold State.zoneUp
  simp only [hd]
  obtain ⟨r, q, rfl⟩ := h
  rfl

theorem State.linkOnly.flt {s t : State} (h : s.linkOnly t) : t.flt = s.flt := by
  obtain ⟨r, q, rfl⟩ := h
  rfl

/-! ### Down, with a reason -/

/-- The words that a port writes as it goes down: its status, its count and the page's events. -/
abbrev downKeys (p : Nat) : List Nat := [R.LNK_PSTAT_STATE.key p, R.LNK_CNT1_DOWNS.key p, R.LNK_FLT_DOWN.key 0]

theorem State.down_framed (u s : State) (p reason : Nat) (h : u.framed s (downKeys p)) :
    u.framed ((s.closed p lkDown reason).countDown p) (downKeys p) :=
  State.countDown_framed _ _ _ _ (State.closed_framed _ _ _ _ _ _ h (by simp)) (by simp) (by simp)

theorem State.down_status (s : State) (p reason : Nat) (hr : reason < 16) :
    ((s.closed p lkDown reason).countDown p).pst p = lkDown ∧
      ((s.closed p lkDown reason).countDown p).get R.LNK_PSTAT_DOWNR p = reason := by
  constructor
  · exact (State.countDown_get _ _ R.LNK_PSTAT_STATE _ (by decide) (by decide) (by decide)).trans (s.closed_pst p _ _ (by decide))
  · exact (State.countDown_get _ _ R.LNK_PSTAT_DOWNR _ (by decide) (by decide) (by decide)).trans (s.closed_reason p _ _ hr)

/-- `t` is `s` after a port that was not UP has gone down with its reason and a count. -/
abbrev State.WentDown (s t : State) (p reason : Nat) : Prop :=
  t.pst p = lkDown ∧ t.get R.LNK_PSTAT_DOWNR p = reason ∧ (t.port p).tx = [] ∧
    t.get R.LNK_CNT1_DOWNS p = satU 16 (s.get R.LNK_CNT1_DOWNS p + 1) ∧ (t.get R.LNK_FLT_DOWN).testBit p = true ∧
    t = { s with regs := t.regs, ports := t.ports } ∧ s.framed t (downKeys p)

theorem State.portDown_wentDown (s : State) (p reason cause : Nat) (hp : p < 4) (hup : s.pst p ≠ lkUp) (hr : reason < 16) :
    s.WentDown (s.portDown p lkDown reason cause) p reason := by
  rw [State.portDown_down, if_neg hup]
  obtain ⟨hst, hreason⟩ := s.down_status p reason hr
  refine ⟨hst, hreason, ?_, ?_, State.countDown_shown _ _ hp, ((s.linkOnly_refl.closed _ _ _).countDown _).eq,
    s.down_framed s p reason (State.framed_refl _ _)⟩
  · rw [State.countDown_port, State.closed_port]
    rfl
  · rw [State.countDown_count, State.closed_get _ _ _ _ _ _ (by decide) (by decide)]

/-- `t` is `s` after a port that was UP, with a district of its zone not OFF, has gone down with its reason: a departure. -/
abbrev State.WentAway (s t : State) (p reason cause : Nat) : Prop :=
  t.pst p = lkDown ∧ t.get R.LNK_PSTAT_DOWNR p = reason ∧ t.zoneLimit p = 0 ∧ (t.get R.LNK_FLT_DEPART).testBit p = true ∧
    t.flt.lines = s.flt.lines ++ [{ cls := clsModloss, cause := cause, src := srcOf 5 p }] ∧ s.framed t (downKeys p)

theorem State.portDown_wentAway (s : State) (p reason cause : Nat) (hp : p < 4) (hup : s.pst p = lkUp) (hr : reason < 16)
    (hz : s.zoneUp p = true) (hm : (srcOf 5 p, clsModloss) ∉ s.flt.masked) :
    s.WentAway (s.portDown p lkDown reason cause) p reason cause := by
  rw [State.portDown_down, if_pos hup]
  obtain ⟨hst, hreason⟩ := s.down_status p reason hr
  have hlink : s.linkOnly ((s.closed p lkDown reason).countDown p) := (s.linkOnly_refl.closed _ _ _).countDown _
  have hdst (d : Nat) : ((s.closed p lkDown reason).countDown p).dst d = s.dst d :=
    (State.countDown_get _ _ R.PWR_DSTAT_STATE d (by decide) (by decide) (by decide)).trans
      (State.closed_get _ _ _ _ _ _ (by decide) (by decide))
  have hlines := State.depart_lines ((s.closed p lkDown reason).countDown p) p cause ((hlink.zoneUp p hdst).trans hz)
    (by rwa [hlink.flt])
  have hdown : (((s.closed p lkDown reason).countDown p).depart p cause).pst p = lkDown :=
    (State.depart_get_offset _ _ _ R.LNK_PSTAT_STATE p (by decide) (by decide)).trans hst
  refine ⟨hdown, ?_, State.zoneLimit_of_not_up _ _ (by rw [hdown]; decide), State.depart_shown _ _ _ hp,
    hlines.trans (by rw [hlink.flt]), ?_⟩
  · exact (State.depart_get_offset _ _ _ R.LNK_PSTAT_DOWNR p (by decide) (by decide)).trans hreason
  · exact State.depart_framed _ _ _ _ _ (s.down_framed s p reason (State.framed_refl _ _)) (by simp [Fld.key, R.LNK_FLT_DEPART, R.LNK_FLT_DOWN])

/-- The receiver of a port has lost its alignment. -/
def State.misaligned (s : State) (p : Nat) : State := s.updPort p fun x => { x with aligned := false }

theorem State.WentDown.of_misaligned {s t : State} {p reason : Nat} (h : (s.misaligned p).WentDown t p reason) :
    s.WentDown t p reason := h

theorem State.WentAway.of_misaligned {s t : State} {p reason cause : Nat} (h : (s.misaligned p).WentAway t p reason cause) :
    s.WentAway t p reason cause := h

theorem exec_alignmentLoss_down (s : State) (p : Nat) (hp : p < 4) (hst : s.pst p ∈ lkOpen) :
    exec (.alignmentLoss p) s = .next ((s.misaligned p).portDown p lkDown dnAlign 1) := by
  have hst' : lkOpen.contains ((s.misaligned p).pst p) = true := List.contains_iff_mem.mpr hst
  exact congrArg Host.Outcome.next ((if_pos hp).trans (if_pos hst'))

theorem exec_linkTimeout_down (s : State) (p : Nat) (hp : p < 4) (hst : s.pst p ∈ lkOpen) :
    exec (.linkTimeout p) s = .next (s.portDown p lkDown dnLink 1) :=
  congrArg Host.Outcome.next ((if_pos hp).trans (if_pos (List.contains_iff_mem.mpr hst)))

theorem exec_linkSyncTimeout_down (s : State) (p : Nat) (hp : p < 4) (hst : s.pst p = lkSync) (ha : (s.port p).aligned = false) :
    exec (.linkSyncTimeout p) s = .next (s.portDown p lkDown dnSync 1) :=
  congrArg Host.Outcome.next ((if_pos hp).trans ((if_neg (by simp [ha])).trans (if_pos (by simp [hst]))))

theorem exec_helloTimeout_down (s : State) (p : Nat) (hp : p < 4) (hst : s.pst p = lkHello) :
    exec (.helloTimeout p) s = .next (s.portDown p lkDown dnHello 1) :=
  congrArg Host.Outcome.next ((if_pos hp).trans (if_pos (by simp [hst])))

theorem exec_capsTimeout_down (s : State) (p : Nat) (hp : p < 4) (hst : s.pst p = lkCaps) :
    exec (.capsTimeout p) s = .next (s.portDown p lkDown dnCaps 1) :=
  congrArg Host.Outcome.next ((if_pos hp).trans (if_pos (by simp [hst])))

/-! ### To RESET, with a reason -/

/-- Beyond closing, a port that leaves for RESET writes at most the page's events. -/
theorem State.portDown_reset_get (s : State) (p reason cause : Nat) (F : Fld) (i : Nat) (hc : F.inst ≠ .cell)
    (hb : F.base % 0x1000 ≠ 0x14) : (s.portDown p lkReset reason cause).get F i = (s.closed p lkReset reason).get F i := by
  rw [State.portDown_reset]
  split
  · exact State.depart_get_offset _ _ _ _ _ hc hb
  · rfl

theorem State.portDown_reset_status (s : State) (p reason cause : Nat) (hr : reason < 16) :
    (s.portDown p lkReset reason cause).pst p = lkReset ∧ (s.portDown p lkReset reason cause).get R.LNK_PSTAT_DOWNR p = reason :=
  ⟨(s.portDown_reset_get p reason cause R.LNK_PSTAT_STATE p (by decide) (by decide)).trans (s.closed_pst p _ _ (by decide)),
    (s.portDown_reset_get p reason cause R.LNK_PSTAT_DOWNR p (by decide) (by decide)).trans (s.closed_reason p _ _ hr)⟩

theorem State.portDown_reset_framed (u s : State) (p reason cause : Nat) (ks : List Nat) (h : u.framed s ks)
    (h1 : R.LNK_PSTAT_STATE.key p ∈ ks) (h2 : R.LNK_FLT_DEPART.key 0 ∈ ks) : u.framed (s.portDown p lkReset reason cause) ks := by
  rw [State.portDown_reset]
  split
  · exact State.depart_framed _ _ _ _ _ (State.closed_framed _ _ _ _ _ _ h h1) h2
  · exact State.closed_framed _ _ _ _ _ _ h h1

/-! ### The module -/

/-- The module of a port has gone. -/
def State.removed (s : State) (p : Nat) : State :=
  (s.updPort p fun x => { x with present := false, aligned := false }).set R.LNK_PSTAT_PRSNT p 0

theorem effAbsent_eq (s : State) (p : Nat) (hz : s.zoneUsed p = true) :
    effAbsent s p = if s.pst p ≠ lkReset then (s.removed p).portDown p lkReset dnAbsent 0
      else if ((s.port p).present && (s.port p).unsaid && s.dev.released && s.zoneUp p) = true then (s.removed p).depart p 0
      else s.removed p := by
  have hst : (s.removed p).pst p = s.pst p := State.get_set_other _ R.LNK_PSTAT_PRSNT R.LNK_PSTAT_STATE _ _ _ rfl (by decide)
  rw [← hst]
  unfold effAbsent State.removed
  simp [hz]

theorem State.removed_pst (s : State) (p : Nat) : (s.removed p).pst p = s.pst p :=
  State.get_set_other _ R.LNK_PSTAT_PRSNT R.LNK_PSTAT_STATE _ _ _ rfl (by decide)

theorem State.removed_prsnt (s : State) (p : Nat) : (s.removed p).get R.LNK_PSTAT_PRSNT p = 0 :=
  State.get_set_self _ _ _ _ (by decide)

theorem State.removed_port (s : State) (p : Nat) : (s.removed p).port p = { s.port p with present := false, aligned := false } := by
  simp [State.removed]

theorem State.removed_linkOnly (s : State) (p : Nat) : s.linkOnly (s.removed p) := (s.linkOnly_refl.updPort _ _).set _ _ _

theorem State.removed_framed (s : State) (p : Nat) (ks : List Nat) (h : R.LNK_PSTAT_STATE.key p ∈ ks) : s.framed (s.removed p) ks :=
  State.framed_set _ (s.updPort p _) _ R.LNK_PSTAT_PRSNT _ _ (State.framed_refl _ _) h

/-- The absence of the module of a port that a reset had taken out of UP reports the departure. -/
theorem effAbsent_unsaid (s : State) (p : Nat) (hp : p < 4) (hz : s.zoneUsed p = true) (hst : s.pst p = lkReset)
    (hpr : (s.port p).present = true) (hu : (s.port p).unsaid = true) (hrel : s.dev.released = true) (hup : s.zoneUp p = true)
    (hm : (srcOf 5 p, clsModloss) ∉ s.flt.masked) :
    ((effAbsent s p).port p).present = false ∧ ((effAbsent s p).get R.LNK_FLT_DEPART).testBit p = true ∧
      (effAbsent s p).flt.lines = s.flt.lines ++ [{ cls := clsModloss, cause := 0, src := srcOf 5 p }] ∧
      s.framed (effAbsent s p) [R.LNK_PSTAT_STATE.key p, R.LNK_FLT_DEPART.key 0] := by
  rw [effAbsent_eq s p hz, if_neg (by simpa using hst), if_pos (by simp [hpr, hu, hrel, hup])]
  have hlink := s.removed_linkOnly p
  have hdst (d : Nat) : (s.removed p).dst d = s.dst d :=
    State.get_set_offset _ R.LNK_PSTAT_PRSNT R.PWR_DSTAT_STATE _ _ _ (by decide) (by decide) (by decide)
  have hlines := State.depart_lines (s.removed p) p 0 ((hlink.zoneUp p hdst).trans hup) (by rwa [hlink.flt])
  refine ⟨?_, State.depart_shown _ _ _ hp, hlines.trans (by rw [hlink.flt]), ?_⟩
  · rw [State.depart_port_present, State.removed_port]
  · exact State.depart_framed _ _ _ _ _ (s.removed_framed p _ (by simp)) (by simp)

/-- The absence of the module of an open port takes the port to RESET. -/
theorem effAbsent_open (s : State) (p : Nat) (hz : s.zoneUsed p = true) (hst : s.pst p ≠ lkReset) :
    (effAbsent s p).get R.LNK_PSTAT_PRSNT p = 0 ∧ (effAbsent s p).pst p = lkReset ∧
      (effAbsent s p).get R.LNK_PSTAT_DOWNR p = dnAbsent ∧
      s.framed (effAbsent s p) [R.LNK_PSTAT_STATE.key p, R.LNK_FLT_DOWN.key 0] ∧
      (s.pst p ≠ lkUp → s.linkOnly (effAbsent s p) ∧ s.framed (effAbsent s p) [R.LNK_PSTAT_STATE.key p]) := by
  rw [effAbsent_eq s p hz, if_pos hst]
  obtain ⟨hreset, hreason⟩ := (s.removed p).portDown_reset_status p dnAbsent 0 (by decide)
  refine ⟨?_, hreset, hreason, ?_, fun hup => ?_⟩
  · exact (State.portDown_reset_get _ _ _ _ R.LNK_PSTAT_PRSNT p (by decide) (by decide)).trans
      (State.closed_present _ _ _ _ (s.removed_prsnt p))
  · exact State.portDown_reset_framed _ _ _ _ _ _ (s.removed_framed p _ (by simp)) (by simp)
      (by simp [Fld.key, R.LNK_FLT_DEPART, R.LNK_FLT_DOWN])
  · rw [State.portDown_reset, if_neg (by rwa [State.removed_pst])]
    exact ⟨(s.removed_linkOnly p).closed _ _ _, State.closed_framed _ _ _ _ _ _ (s.removed_framed p _ (by simp)) (by simp)⟩

/-! ### Opening, and HELLO -/

/-- A port enters SYNC. -/
def State.portOpened (s : State) (p : Nat) : State := (s.set R.LNK_PSTAT_STATE p lkSync).set R.LNK_TRIM_DV p 0

theorem State.portOpened_pst (s : State) (p : Nat) : (s.portOpened p).pst p = lkSync :=
  (State.get_set_offset _ R.LNK_TRIM_DV R.LNK_PSTAT_STATE _ _ _ (by decide) (by decide) (by decide)).trans
    (State.get_set_self _ R.LNK_PSTAT_STATE _ _ (by decide))

theorem State.portOpened_dv (s : State) (p : Nat) : (s.portOpened p).get R.LNK_TRIM_DV p = 0 := State.get_set_self _ _ _ _ (by decide)

theorem State.portOpened_only (s : State) (p : Nat) : s.only (s.portOpened p) [R.LNK_PSTAT_STATE.key p, R.LNK_TRIM_DV.key p] :=
  ⟨rfl, State.framed_set _ _ _ _ _ _ (State.framed_set _ _ _ _ _ _ (State.framed_refl _ _) (by simp)) (by simp)⟩

/-- A frame that finds none held or waiting is sent at once. -/
theorem PortS.drain_one (x : PortS) (f : Nat × List Nat) (n : Nat) (htx : x.tx = []) (hw : x.waiting = [f]) :
    x.drain (n + 2) = { x with
      waiting := [], txSeq := (x.txSeq + 1) % 32, tx := [{ ty := f.1, seq := x.txSeq, pay := f.2 }],
      wire := TxFrame.bytes { ty := f.1, seq := x.txSeq, pay := f.2 } } := by
  simp [PortS.drain, htx, hw]

theorem State.sendFrame_port (s : State) (p ty : Nat) (pay : List Nat) (htx : (s.port p).tx = []) (hw : (s.port p).waiting = []) :
    (s.sendFrame p ty pay).port p = { s.port p with
      waiting := [], txSeq := ((s.port p).txSeq + 1) % 32, tx := [{ ty := ty, seq := (s.port p).txSeq, pay := pay }],
      wire := TxFrame.bytes { ty := ty, seq := (s.port p).txSeq, pay := pay } } := by
  unfold State.sendFrame State.unack
  rw [State.port_set, State.port_updPort]
  refine (PortS.drain_one _ (ty, pay) 14 ?_ ?_).trans rfl
  · exact htx
  · simp [hw]

theorem State.sendFrame_unack (s : State) (p ty : Nat) (pay : List Nat) :
    (s.sendFrame p ty pay).get R.LNK_PSTAT_UNACK p = ((s.sendFrame p ty pay).port p).tx.length % 32 :=
  State.get_set_self _ _ _ _ (by decide)

/-- The port starts both directions anew, in HELLO. -/
def State.anew (s : State) (p : Nat) : State :=
  (s.updPort p fun x => { x.close with txSeq := 0, rxSeq := 0, bye := none }).set R.LNK_PSTAT_STATE p lkHello

theorem State.anew_port (s : State) (p : Nat) :
    (s.anew p).port p = { (s.port p).close with txSeq := 0, rxSeq := 0, bye := none } := by
  simp [State.anew]

theorem State.syncDone_eq (s : State) (p : Nat) (hst : s.pst p = lkSync) (ha : (s.port p).aligned = true) :
    ∃ pay, s.syncDone p = (s.anew p).sendFrame p 0x08 pay := by
  unfold State.syncDone
  rw [if_pos (by simp [hst, ha])]
  exact ⟨_, rfl⟩

theorem State.syncDone_other (s : State) (p : Nat) (h : s.pst p ≠ lkSync ∨ (s.port p).aligned = false) : s.syncDone p = s := by
  unfold State.syncDone
  rw [if_neg]
  rcases h with h | h <;> simp [h]

/-- A port in SYNC whose receiver is aligned sends HELLO as frame 0, and is in HELLO. -/
theorem State.syncDone_hello (s : State) (p : Nat) (hst : s.pst p = lkSync) (ha : (s.port p).aligned = true) :
    ∃ f, (s.syncDone p).pst p = lkHello ∧ ((s.syncDone p).port p).tx = [f] ∧ f.ty = 0x08 ∧ f.seq = 0 ∧
      ((s.syncDone p).port p).rxSeq = 0 ∧ ((s.syncDone p).port p).txSeq = 1 ∧ ((s.syncDone p).port p).aligned = true ∧
      (s.syncDone p).get R.LNK_PSTAT_UNACK p = 1 := by
  obtain ⟨pay, he⟩ := s.syncDone_eq p hst ha
  have hport := State.sendFrame_port (s.anew p) p 0x08 pay (by rw [State.anew_port]; rfl) (by rw [State.anew_port]; rfl)
  have hunack := State.sendFrame_unack (s.anew p) p 0x08 pay
  rw [he, hunack, hport, State.anew_port]
  refine ⟨_, ?_, rfl, rfl, rfl, rfl, rfl, ha, rfl⟩
  exact (State.get_set_other _ R.LNK_PSTAT_UNACK R.LNK_PSTAT_STATE _ _ _ rfl (by decide)).trans
    (State.get_set_self _ R.LNK_PSTAT_STATE _ _ (by decide))

theorem State.syncDone_linkOnly {s t : State} (h : s.linkOnly t) (p : Nat) : s.linkOnly (t.syncDone p) := by
  unfold State.syncDone State.sendFrame State.unack
  split
  · exact (((h.updPort _ _).set _ _ _).updPort _ _).set _ _ _
  · exact h

theorem State.syncDone_framed (u s : State) (p : Nat) (ks : List Nat) (h : u.framed s ks) (hk : R.LNK_PSTAT_STATE.key p ∈ ks) :
    u.framed (s.syncDone p) ks := by
  by_cases hc : s.pst p = lkSync ∧ (s.port p).aligned = true
  · obtain ⟨hst, ha⟩ := hc
    obtain ⟨pay, he⟩ := s.syncDone_eq p hst ha
    rw [he]
    exact State.framed_set _ ((s.anew p).updPort p _) _ R.LNK_PSTAT_UNACK _ _
      (State.framed_set _ (s.updPort p _) _ _ _ _ h hk) hk
  · rw [State.syncDone_other _ _ (by rcases not_and_or.mp hc with h | h; exacts [Or.inl h, Or.inr (by simpa using h)])]
    exact h

theorem State.syncDone_dv (s : State) (p : Nat) : (s.syncDone p).get R.LNK_TRIM_DV p = s.get R.LNK_TRIM_DV p := by
  unfold State.syncDone State.sendFrame State.unack
  split
  · refine (State.get_set_offset _ _ _ _ _ _ (by decide) (by decide) (by decide)).trans ?_
    exact State.get_set_offset _ R.LNK_PSTAT_STATE R.LNK_TRIM_DV _ _ _ (by decide) (by decide) (by decide)
  · rfl

/-! ### PORT_EN -/

/-- A write that passes takes effect and is answered OK. -/
theorem State.hostRow_passes (s : State) (g : Nat) (F : Fld) (i v : Nat) (eff : State → State) (h : s.rowPasses g F i v) :
    s.hostRow g F i v eff = (eff s.newAccess).respond g .ok 0 := by
  obtain ⟨hfence, hcheck⟩ := h
  unfold State.hostRow State.hostWrite
  dsimp only
  rw [show (tabAt s.newAccess.fence g).waiting = false from hfence]
  unfold State.writeNow
  rw [hcheck]
  rfl

/-- The bit of a port in PORT_EN clears. -/
def State.portOff (s : State) (p : Nat) : State := s.set R.LNK_CTL_PORT_EN 0 (s.get R.LNK_CTL_PORT_EN - 2 ^ p)

theorem State.portOff_pst (s : State) (p : Nat) : (s.portOff p).pst p = s.pst p :=
  State.get_set_offset _ R.LNK_CTL_PORT_EN R.LNK_PSTAT_STATE _ _ _ (by decide) (by decide) (by decide)

theorem State.portOff_testBit (s : State) (p : Nat) (h : (s.get R.LNK_CTL_PORT_EN).testBit p = true) :
    ((s.portOff p).get R.LNK_CTL_PORT_EN).testBit p = false := by
  unfold State.portOff
  rw [State.get_set_self _ _ _ _ (by decide), Nat.testBit_mod_two_pow, testBit_sub_two_pow _ _ h, Bool.and_false]

theorem State.portOff_linkOnly (s : State) (p : Nat) : s.linkOnly (s.portOff p) := s.linkOnly_refl.set _ _ _

theorem execPortEnClear_open (s : State) (g : Gal) (p : Nat) (hp : p < 4) (hen : (s.get R.LNK_CTL_PORT_EN).testBit p = true)
    (hpass : s.rowPasses g R.LNK_CTL_PORT_EN 0 (s.get R.LNK_CTL_PORT_EN - 2 ^ p)) (hst : s.pst p ≠ lkReset) :
    exec (.portEnClear g p) s =
      .next (((s.newAccess.portOff p).portDown p lkReset dnPortEn 1).respond g .ok 0) := by
  have hen' : (s.newAccess.get R.LNK_CTL_PORT_EN).testBit p = true := hen
  have hst' : ¬(s.newAccess.portOff p).pst p = lkReset := by rwa [State.portOff_pst]
  refine congrArg Host.Outcome.next ((if_pos hp).trans ?_)
  rw [if_pos hen, State.hostRow_passes _ _ _ _ _ _ hpass, State.clearBit, if_pos hen', State.portEnFell]
  change (if (s.newAccess.portOff p).pst p == lkReset then _ else _ : State).respond g .ok 0 = _
  rw [if_neg (by simpa using hst')]
  rfl

theorem ports_portEnClear (s : State) (g : Gal) (p : Nat) (hp : p < 4) (hen : (s.get R.LNK_CTL_PORT_EN).testBit p = true)
    (hpass : s.rowPasses g R.LNK_CTL_PORT_EN 0 (s.get R.LNK_CTL_PORT_EN - 2 ^ p)) (hst : s.pst p ≠ lkReset) :
    ∃ t, exec (.portEnClear g p) s = .next t ∧ (t.get R.LNK_CTL_PORT_EN).testBit p = false ∧ t.pst p = lkReset ∧
      t.get R.LNK_PSTAT_DOWNR p = dnPortEn ∧ t.kept = s.kept ∧
      (s.okRsp g).framed t [R.LNK_PSTAT_STATE.key p, R.LNK_CTL_PORT_EN.key 0, R.LNK_FLT_DOWN.key 0] ∧
      (s.pst p ≠ lkUp → t = { s.okRsp g with regs := t.regs, ports := t.ports }) := by
  obtain ⟨hreset, hreason⟩ := (s.newAccess.portOff p).portDown_reset_status p dnPortEn 1 (by decide)
  refine ⟨_, execPortEnClear_open s g p hp hen hpass hst, ?_, hreset, hreason, ?_, ?_, fun hup => ?_⟩
  · have h : ((s.newAccess.portOff p).portDown p lkReset dnPortEn 1).get R.LNK_CTL_PORT_EN =
        (s.newAccess.portOff p).get R.LNK_CTL_PORT_EN :=
      (State.portDown_reset_get _ _ _ _ _ _ (by decide) (by decide)).trans (State.closed_get _ _ _ _ _ _ (by decide) (by decide))
    exact (congrArg (Nat.testBit · p) h).trans (s.newAccess.portOff_testBit p hen)
  · simp [State.portOff]
  · refine State.portDown_reset_framed (s.okRsp g) (s.newAccess.portOff p) p dnPortEn 1 _ ?_ (by simp)
      (by simp [Fld.key, R.LNK_FLT_DEPART, R.LNK_FLT_DOWN])
    exact State.framed_set _ s.newAccess _ _ _ _ (State.framed_refl s _) (by simp)
  · have hup' : (s.newAccess.portOff p).pst p ≠ lkUp := by rwa [State.portOff_pst]
    rw [State.portDown_reset, if_neg hup']
    obtain ⟨r, q, h⟩ := (s.newAccess.portOff_linkOnly p).closed p lkReset dnPortEn
    rw [h]
    rfl

/-! ### The ports -/

theorem ports_absence (s : State) (p : Nat) (hp : p < 4) (hz : s.zoneUsed p = true) (hst : s.pst p ≠ lkReset) :
    ∃ t, exec (.moduleAbsent p) s = .next t ∧ t.get R.LNK_PSTAT_PRSNT p = 0 ∧
      t.pst p = lkReset ∧ t.get R.LNK_PSTAT_DOWNR p = dnAbsent ∧ t.zoneLimit p = 0 ∧ t.kept = s.kept ∧
      s.framed t [R.LNK_PSTAT_STATE.key p, R.LNK_FLT_DOWN.key 0] ∧
      (s.pst p ≠ lkUp → t = { s with regs := t.regs, ports := t.ports } ∧ s.framed t [R.LNK_PSTAT_STATE.key p]) := by
  obtain ⟨hprsnt, hreset, hreason, hframe, hdown⟩ := effAbsent_open s p hz hst
  refine ⟨_, congrArg Host.Outcome.next (if_pos hp), hprsnt, hreset, hreason, ?_, effAbsent_kept s p, hframe, fun hup => ?_⟩
  · exact State.zoneLimit_of_not_up _ _ (by rw [hreset]; decide)
  · obtain ⟨hlink, hframe⟩ := hdown hup
    exact ⟨hlink.eq, hframe⟩

/-! ### Opening and aligning -/

theorem ports_alignment_sync (s : State) (p : Nat) (hp : p < 4) (hst : s.pst p = lkSync) :
    ∃ t f, exec (.alignment p) s = .next t ∧ t.pst p = lkHello ∧ (t.port p).tx = [f] ∧ f.ty = 0x08 ∧
      f.seq = 0 ∧ (t.port p).rxSeq = 0 ∧ (t.port p).txSeq = 1 ∧ t.get R.LNK_PSTAT_UNACK p = 1 ∧
      t = { s with regs := t.regs, ports := t.ports } ∧ s.framed t [R.LNK_PSTAT_STATE.key p] := by
  have hst' : (s.updPort p fun x => { x with aligned := true }).pst p = lkSync := hst
  obtain ⟨f, h1, h2, h3, h4, h5, h6, -, h8⟩ := State.syncDone_hello _ p hst' (by simp)
  refine ⟨_, f, congrArg Host.Outcome.next ((if_pos hp).trans (if_neg (by simp [hst]))), h1, h2, h3, h4, h5, h6, h8,
    (State.syncDone_linkOnly (s.linkOnly_refl.updPort p _) p).eq, ?_⟩
  exact State.syncDone_framed s _ p _ (State.framed_refl s _) (by simp)

theorem ports_alignment_other (s : State) (p : Nat) (hp : p < 4) (h0 : s.pst p ≠ lkReset) (h1 : s.pst p ≠ lkSync) :
    ∃ t, exec (.alignment p) s = .next t ∧ (t.port p).aligned = true ∧ t = { s with ports := t.ports } := by
  have hn : (s.updPort p fun x => { x with aligned := true }).pst p ≠ lkSync := h1
  refine ⟨s.updPort p fun x => { x with aligned := true }, congrArg Host.Outcome.next ((if_pos hp).trans ?_), by simp, rfl⟩
  exact (if_neg (by simpa using h0)).trans (State.syncDone_other _ p (Or.inl hn))

theorem ports_alignmentLoss_down (s : State) (p : Nat) (hp : p < 4) (hst : s.pst p = lkDown) :
    ∃ t, exec (.alignmentLoss p) s = .next t ∧ (t.port p).aligned = false ∧ t = { s with ports := t.ports } := by
  have hst' : (s.misaligned p).pst p = lkDown := hst
  refine ⟨s.misaligned p, congrArg Host.Outcome.next ((if_pos hp).trans ?_), by simp [State.misaligned], rfl⟩
  exact if_neg (by rw [← State.misaligned, hst']; decide)

theorem ports_downRetry_misaligned (s : State) (p : Nat) (hp : p < 4) (hst : s.pst p = lkDown) (hpr : (s.port p).present = true)
    (ha : (s.port p).aligned = false) : exec (.downRetry p) s = .next (s.portOpened p) := by
  have he : effDownRetry s p = s.portOpened p :=
    (if_pos (by simp [hst, hpr])).trans (State.syncDone_other (s.portOpened p) p (Or.inr ha))
  exact congrArg Host.Outcome.next ((if_pos hp).trans he)

theorem ports_downRetry_aligned (s : State) (p : Nat) (hp : p < 4) (hst : s.pst p = lkDown) (hpr : (s.port p).present = true)
    (ha : (s.port p).aligned = true) :
    ∃ t f, exec (.downRetry p) s = .next t ∧ t.pst p = lkHello ∧ t.get R.LNK_TRIM_DV p = 0 ∧ (t.port p).tx = [f] ∧
      f.ty = 0x08 ∧ f.seq = 0 ∧ (t.port p).rxSeq = 0 ∧ (t.port p).txSeq = 1 ∧ (t.port p).aligned = true ∧
      t = { s with regs := t.regs, ports := t.ports } ∧ s.framed t [R.LNK_PSTAT_STATE.key p, R.LNK_TRIM_DV.key p] := by
  have he : effDownRetry s p = (s.portOpened p).syncDone p := if_pos (by simp [hst, hpr])
  obtain ⟨f, h1, h2, h3, h4, h5, h6, h7, -⟩ := (s.portOpened p).syncDone_hello p (s.portOpened_pst p) ha
  obtain ⟨-, hframe⟩ := s.portOpened_only p
  exact ⟨_, f, congrArg Host.Outcome.next ((if_pos hp).trans he), h1, ((s.portOpened p).syncDone_dv p).trans (s.portOpened_dv p),
    h2, h3, h4, h5, h6, h7, (State.syncDone_linkOnly ((s.linkOnly_refl.set _ _ _).set _ _ _) p).eq,
    State.syncDone_framed s _ p _ hframe (by simp)⟩

/-! ### Going down -/

theorem ports_goDown (s : State) (p st reason : Nat) (c : Instr) (hp : p < 4)
    (hc : (c, st, reason) ∈ [(Instr.linkSyncTimeout p, lkSync, dnSync), (.helloTimeout p, lkHello, dnHello),
      (.capsTimeout p, lkCaps, dnCaps), (.alignmentLoss p, lkSync, dnAlign), (.alignmentLoss p, lkHello, dnAlign),
      (.alignmentLoss p, lkCaps, dnAlign), (.linkTimeout p, lkHello, dnLink), (.linkTimeout p, lkCaps, dnLink)])
    (hst : s.pst p = st) (ha : st ≠ lkSync ∨ (s.port p).aligned = false) : ∃ t, exec c s = .next t ∧ s.WentDown t p reason := by
  have hloss (hn : st ≠ lkUp) (ho : st ∈ lkOpen) : ∃ t, exec (.alignmentLoss p) s = .next t ∧ s.WentDown t p dnAlign :=
    ⟨_, exec_alignmentLoss_down s p hp (hst ▸ ho),
      ((s.misaligned p).portDown_wentDown p dnAlign 1 hp (hst ▸ hn : s.pst p ≠ lkUp) (by decide)).of_misaligned⟩
  have htime (hn : st ≠ lkUp) (ho : st ∈ lkOpen) : ∃ t, exec (.linkTimeout p) s = .next t ∧ s.WentDown t p dnLink :=
    ⟨_, exec_linkTimeout_down s p hp (hst ▸ ho), s.portDown_wentDown p dnLink 1 hp (hst ▸ hn) (by decide)⟩
  simp only [List.mem_cons, Prod.mk.injEq, List.not_mem_nil, or_false] at hc
  rcases hc with ⟨rfl, rfl, rfl⟩ | ⟨rfl, rfl, rfl⟩ | ⟨rfl, rfl, rfl⟩ | ⟨rfl, rfl, rfl⟩ | ⟨rfl, rfl, rfl⟩ | ⟨rfl, rfl, rfl⟩ |
    ⟨rfl, rfl, rfl⟩ | ⟨rfl, rfl, rfl⟩
  · exact ⟨_, exec_linkSyncTimeout_down s p hp hst (ha.resolve_left (by simp)),
      s.portDown_wentDown p dnSync 1 hp (by rw [hst]; decide) (by decide)⟩
  · exact ⟨_, exec_helloTimeout_down s p hp hst, s.portDown_wentDown p dnHello 1 hp (by rw [hst]; decide) (by decide)⟩
  · exact ⟨_, exec_capsTimeout_down s p hp hst, s.portDown_wentDown p dnCaps 1 hp (by rw [hst]; decide) (by decide)⟩
  · exact hloss (by decide) (by decide)
  · exact hloss (by decide) (by decide)
  · exact hloss (by decide) (by decide)
  · exact htime (by decide) (by decide)
  · exact htime (by decide) (by decide)

theorem ports_goAway (s : State) (p reason : Nat) (c : Instr) (hp : p < 4)
    (hc : (c, reason) ∈ [(Instr.alignmentLoss p, dnAlign), (.linkTimeout p, dnLink)]) (hst : s.pst p = lkUp)
    (hup : ∃ d ∈ s.inZone p, s.dst d ≠ 0) (hm : (srcOf 5 p, clsModloss) ∉ s.flt.masked) :
    ∃ t, exec c s = .next t ∧ s.WentAway t p reason 1 := by
  have hz := (s.zoneUp_iff p).mpr hup
  have ho : s.pst p ∈ lkOpen := by rw [hst]; decide
  simp only [List.mem_cons, Prod.mk.injEq, List.not_mem_nil, or_false] at hc
  rcases hc with ⟨rfl, rfl⟩ | ⟨rfl, rfl⟩
  · exact ⟨_, exec_alignmentLoss_down s p hp ho,
      ((s.misaligned p).portDown_wentAway p dnAlign 1 hp hst (by decide) hz hm).of_misaligned⟩
  · exact ⟨_, exec_linkTimeout_down s p hp ho, s.portDown_wentAway p dnLink 1 hp hst (by decide) hz hm⟩

/-- Settles O43, by the rules of closing, of opening and of departures. -/
theorem portsFollowTheirStates : Obligations.PortsFollowTheirStates := by
  refine ⟨fun s p hp => ⟨fun hz => ?_, fun hz => ?_, fun hz hst hpr hu hrel hup hm => ?_, fun hz hst hu => ?_,
      fun hz hst => ports_absence s p hp hz hst, fun hst hpr hz hsrc hrel hen => ?_, fun hen => ?_,
      fun hst => ports_alignment_sync s p hp hst, fun hst => ?_, fun h0 h1 => ports_alignment_other s p hp h0 h1,
      fun hst => ports_alignmentLoss_down s p hp hst, fun hst hpr ha => ?_,
      fun hst hpr ha => ports_downRetry_aligned s p hp hst hpr ha, fun ha => ?_⟩,
    fun s p st reason c hp hc hst ha => ports_goDown s p st reason c hp hc hst ha,
    fun s p reason c hp hc hst hup hm => ports_goAway s p reason c hp hc hst hup hm,
    fun s g p hp hen hpass hst => ports_portEnClear s g p hp hen hpass hst, fun s p hp c hc => ?_⟩
  · exact ⟨congrArg Host.Outcome.next ((if_pos hp).trans (by simp [effPresent, hz])),
      congrArg Host.Outcome.next ((if_pos hp).trans (by simp [effAbsent, hz]))⟩
  · refine ⟨_, congrArg Host.Outcome.next ((if_pos hp).trans (if_pos hz)), State.get_set_self _ _ _ _ (by decide), by simp, rfl, ?_⟩
    exact State.framed_set _ (s.updPort p _) _ _ _ _ (State.framed_refl _ _) (by simp [Fld.key, R.LNK_PSTAT_STATE, R.LNK_PSTAT_PRSNT])
  · exact ⟨_, congrArg Host.Outcome.next (if_pos hp),
      effAbsent_unsaid s p hp hz hst hpr hu hrel ((s.zoneUp_iff p).mpr hup) hm⟩
  · refine ⟨_, congrArg Host.Outcome.next (if_pos hp), ?_⟩
    rw [effAbsent_eq s p hz, if_neg (by simpa using hst), if_neg (by simp [hu])]
    exact ⟨s.removed_prsnt p, by rw [State.removed_port], (s.removed_linkOnly p).eq, s.removed_framed p _ (by simp)⟩
  · refine ⟨s.portOpened p, congrArg Host.Outcome.next ((if_pos hp).trans (if_pos ?_)), s.portOpened_pst p, s.portOpened_dv p,
      s.portOpened_only p⟩
    simp [hst, hpr, hz, State.onPll, State.flag, hsrc, hrel, hen]
  · exact congrArg Host.Outcome.next ((if_pos hp).trans (if_neg (by simp [hen])))
  · exact congrArg Host.Outcome.next ((if_pos hp).trans (if_pos (by simp [hst])))
  · exact ⟨_, ports_downRetry_misaligned s p hp hst hpr ha, s.portOpened_pst p, s.portOpened_dv p, s.portOpened_only p⟩
  · exact congrArg Host.Outcome.next ((if_pos hp).trans (if_pos ha))
  · simp only [List.mem_cons, List.not_mem_nil, or_false] at hc
    rcases hc with rfl | rfl | rfl | rfl | rfl | rfl | rfl | rfl | rfl | rfl <;>
      exact congrArg Host.Outcome.next (if_neg (by omega))

end Sys2Proof.Machine

namespace Sys2Proof.Machine

/-! ### Fields that no write of another field alters -/

/-- A write of the one field leaves the other, whatever the units of both: their addresses never meet, or they are
different bits under the same reset word. -/
abbrev Fld.apart (F G : Fld) : Prop :=
  F.base % 16 ≠ G.base % 16 ∨ (F.inst ≠ .cell ∧ G.inst ≠ .cell ∧ F.base % 0x1000 ≠ G.base % 0x1000) ∨
    (F.inst ∈ [Inst.one, .bank] ∧ G.inst ∈ [Inst.one, .bank] ∧ F.base % 0x100000 ≠ G.base % 0x100000) ∨
    (F.rst = G.rst ∧ (F.lo + F.w ≤ G.lo ∨ G.lo + G.w ≤ F.lo))

theorem Fld.key_mod_16 (F : Fld) (i : Nat) : F.key i % 16 = F.base % 16 := by
  unfold Fld.key
  cases F.inst <;> dsimp only <;> omega

theorem Fld.key_mod_bank {F : Fld} (h : F.inst ∈ [Inst.one, .bank]) (i : Nat) : F.key i % 0x100000 = F.base % 0x100000 := by
  unfold Fld.key
  cases hF : F.inst with
  | one => rfl
  | bank => dsimp only; omega
  | page => simp [hF] at h
  | cell => simp [hF] at h

theorem State.get_set_apart {F G : Fld} (h : F.apart G) (s : State) (i v j : Nat) : (s.set F i v).get G j = s.get G j := by
  rcases h with h | ⟨hF, hG, h⟩ | ⟨hF, hG, h⟩ | ⟨hr, hb⟩
  · exact State.get_set_ne _ _ _ _ _ _ fun e => h (by rw [← F.key_mod_16 i, e, G.key_mod_16])
  · exact State.get_set_offset _ _ _ _ _ _ hF hG h
  · exact State.get_set_ne _ _ _ _ _ _ fun e => h (by rw [← Fld.key_mod_bank hF i, e, Fld.key_mod_bank hG])
  · exact State.get_set_other _ _ _ _ _ _ hr hb

/-- A field is apart from each of a list of fields. -/
abbrev Fld.apartAll (G : Fld) (l : List Fld) : Prop := ∀ F ∈ l, F.apart G

/-! ### Folds -/

/-- What every step keeps stands after the fold. -/
theorem State.each_induct (P : State → Prop) (f : State → Nat → State) (l : List Nat)
    (hf : ∀ t x, x ∈ l → P t → P (f t x)) (s : State) (hs : P s) : P (s.each l f) := by
  unfold State.each
  induction l generalizing s with
  | nil => exact hs
  | cons a l ih => exact ih (fun t x hx => hf t x (List.mem_cons_of_mem _ hx)) _ (hf s a (List.mem_cons_self ..) hs)

/-! ### The sequence of a district -/

theorem State.pw_updPw (s : State) (k : Nat) (f : PwrS → PwrS) (d : Nat) :
    (s.updPw k f).pw d = if k = d then f (s.pw d) else s.pw d := by
  unfold State.pw State.updPw tabAt tabUpd
  split
  · next h => subst h; simp [tabAt]
  · next h => simp [tabGet_put_ne _ _ _ _ h]

@[simp] theorem State.pw_updPw_self (s : State) (d : Nat) (f : PwrS → PwrS) : (s.updPw d f).pw d = f (s.pw d) := by
  rw [State.pw_updPw, if_pos rfl]

@[simp] theorem State.pw_set (s : State) (F : Fld) (i v d : Nat) : (s.set F i v).pw d = s.pw d := rfl

/-- `t` differs from `s` in the register file, the sequences of the districts, their Forecaster elements and what is kept
of their capacity alone. -/
def State.powerOnly (s t : State) : Prop := ∃ r p f o, t = { s with regs := r, pwr := p, fcs := f, fo := o }

theorem State.powerOnly_refl (s : State) : s.powerOnly s := ⟨s.regs, s.pwr, s.fcs, s.fo, rfl⟩

theorem State.powerOnly.dev {s t : State} (h : s.powerOnly t) : t.dev = s.dev := by
  obtain ⟨r, p, f, o, rfl⟩ := h
  rfl

theorem State.powerOnly.set {s t : State} (h : s.powerOnly t) (F : Fld) (i v : Nat) : s.powerOnly (t.set F i v) := by
  obtain ⟨r, p, f, o, rfl⟩ := h
  exact ⟨_, p, f, o, rfl⟩

theorem State.powerOnly.updPw {s t : State} (h : s.powerOnly t) (d : Nat) (g : PwrS → PwrS) : s.powerOnly (t.updPw d g) := by
  obtain ⟨r, p, f, o, rfl⟩ := h
  exact ⟨r, _, f, o, rfl⟩

theorem State.powerOnly.ite {s t u : State} (c : Prop) [Decidable c] (h : s.powerOnly t) (h' : s.powerOnly u) :
    s.powerOnly (if c then t else u) := by
  split
  · exact h
  · exact h'

theorem State.powerOnly.pwrStep {s t : State} (h : s.powerOnly t) (d : Nat) (st : PwrStep) (code : Nat) :
    s.powerOnly (t.pwrStep d st code) := (h.updPw _ _).set _ _ _

/-- What is kept of the capacity has not changed either. -/
theorem State.powerOnly.eq_fcs {s t : State} (h : s.powerOnly t) (hf : t.fo = s.fo) :
    t = { s with regs := t.regs, pwr := t.pwr, fcs := t.fcs } := by
  obtain ⟨r, p, f, o, rfl⟩ := h
  exact congrArg (fun o => { s with regs := r, pwr := p, fcs := f, fo := o }) hf

/-- The Forecaster elements have not changed either. -/
theorem State.powerOnly.eq_fo {s t : State} (h : s.powerOnly t) (hf : t.fcs = s.fcs) :
    t = { s with regs := t.regs, pwr := t.pwr, fo := t.fo } := by
  obtain ⟨r, p, f, o, rfl⟩ := h
  exact congrArg (fun f => { s with regs := r, pwr := p, fcs := f, fo := o }) hf

theorem State.pwrStep_get {F : Fld} (h : R.PWR_DSTAT_STEP.apart F) (s : State) (d : Nat) (st : PwrStep) (code i : Nat) :
    (s.pwrStep d st code).get F i = s.get F i := State.get_set_apart h _ _ _ _

theorem State.pwrStep_code (s : State) (d : Nat) (st : PwrStep) (code : Nat) :
    (s.pwrStep d st code).get R.PWR_DSTAT_STEP d = code % 8 := State.get_set_self _ _ _ _ (by decide)

@[simp] theorem State.pwrStep_pw (s : State) (d : Nat) (st : PwrStep) (code : Nat) :
    (s.pwrStep d st code).pw d = { s.pw d with step := st } := State.pw_updPw_self s d fun x => { x with step := st }

@[simp] theorem State.pwrStep_fo (s : State) (d : Nat) (st : PwrStep) (code : Nat) : (s.pwrStep d st code).fo = s.fo := rfl

theorem State.pwrStep_framed {u s : State} {ks : List Nat} (h : u.framed s ks) (d : Nat) (st : PwrStep) (code : Nat)
    (hk : R.PWR_DSTAT_STEP.key d ∈ ks) : u.framed (s.pwrStep d st code) ks :=
  State.framed_set _ _ _ _ _ _ (State.framed_congr _ _ _ _ h rfl) hk

theorem State.framed_ite {s t u : State} {ks : List Nat} (c : Prop) [Decidable c] (h : s.framed t ks) (h' : s.framed u ks) :
    s.framed (if c then t else u) ks := by
  split
  · exact h
  · exact h'

/-! ### The wait of a district ends -/

/-- The fields that the end of a wait writes. -/
def endWaitFlds : List Fld := [R.DST_FILL_STAT_SWWAIT, R.PWR_DSTAT_STEP]

theorem State.endWait_get {F : Fld} (h : F.apartAll endWaitFlds) (s : State) (d i : Nat) :
    (s.endWait d).get F i = s.get F i := by
  have hw := h R.DST_FILL_STAT_SWWAIT (by simp [endWaitFlds])
  have hs := h R.PWR_DSTAT_STEP (by simp [endWaitFlds])
  unfold State.endWait
  dsimp only
  split <;> simp only [State.get_set_apart hs, State.get_set_apart hw, State.updPw_get]

theorem State.endWait_pw (s : State) (d : Nat) : (s.endWait d).pw d = { s.pw d with reqOn := none } := by
  unfold State.endWait
  dsimp only
  split <;> simp

theorem State.powerOnly.endWait {s t : State} (h : s.powerOnly t) (d : Nat) : s.powerOnly (t.endWait d) :=
  .ite _ ((h.updPw _ _).set _ _ _) (((h.updPw _ _).set _ _ _).set _ _ _)

theorem State.endWait_fo (s : State) (d : Nat) : (s.endWait d).fo = s.fo := by
  unfold State.endWait
  dsimp only
  split <;> rfl

theorem State.endWait_framed {u s : State} {ks : List Nat} (h : u.framed s ks) (d : Nat)
    (hw : R.DST_FILL_STAT_SWWAIT.key d ∈ ks) (hs : R.PWR_DSTAT_STEP.key d ∈ ks) : u.framed (s.endWait d) ks := by
  have hu : u.framed ((s.updPw d fun x => { x with reqOn := none }).set R.DST_FILL_STAT_SWWAIT d 0) ks :=
    State.framed_set _ _ _ _ _ _ (State.framed_congr _ _ _ _ h rfl) hw
  exact State.framed_ite _ hu (State.framed_set _ _ _ _ _ _ hu hs)

/-! ### The start of an entry -/

/-- A district takes its entry: its wait is over, and its Forecaster elements are 0. -/
def State.entryTaken (s : State) (d : Nat) (retain : Bool) : State :=
  ((s.endWait d).updPw d fun x => { x with reqEntry := false, toRetain := retain }).zeroF d

theorem State.entryTaken_get {F : Fld} (h : F.apartAll endWaitFlds) (s : State) (d : Nat) (r : Bool) (i : Nat) :
    (s.entryTaken d r).get F i = s.get F i := s.endWait_get h d i

theorem State.entryTaken_pw (s : State) (d : Nat) (r : Bool) :
    (s.entryTaken d r).pw d = { (s.endWait d).pw d with reqEntry := false, toRetain := r } :=
  State.pw_updPw_self (s.endWait d) d fun x => { x with reqEntry := false, toRetain := r }

theorem State.entryTaken_busy (s : State) (d : Nat) (r : Bool) : (s.entryTaken d r).seqBusy d = s.seqBusy d := by
  simp only [State.seqBusy, State.entryTaken_pw, State.endWait_pw]

theorem State.entryTaken_fo (s : State) (d : Nat) (r : Bool) : (s.entryTaken d r).fo = s.fo := s.endWait_fo d

theorem State.entryTaken_powerOnly (s : State) (d : Nat) (r : Bool) : s.powerOnly (s.entryTaken d r) := by
  obtain ⟨r', p, f, o, h⟩ := (s.powerOnly_refl.endWait d).updPw d fun x => { x with reqEntry := false, toRetain := r }
  exact ⟨r', p, _, o, by rw [State.entryTaken, State.zeroF, h]⟩

theorem State.entryTaken_framed (s : State) (d : Nat) (r : Bool) :
    s.framed (s.entryTaken d r) [R.PWR_DSTAT_STEP.key d, R.DST_FILL_STAT_SWWAIT.key d] :=
  State.framed_congr _ (s.endWait d) _ _ (State.endWait_framed (s.framed_refl _) d (by simp) (by simp)) rfl

/-- From RETAIN an entry begins ahead of its 10 ns step. -/
theorem State.entryStart_retain (s : State) (d : Nat) (r : Bool) (hd : s.dst d = 1) (hb : s.seqBusy d = false) :
    s.entryStart d r = (s.entryTaken d r).pwrStep d .entIso (if r then 1 else 2) := by
  have h1 : (s.entryTaken d r).dst d = 1 := (s.entryTaken_get (by decide) d r d).trans hd
  have h2 : (s.entryTaken d r).seqBusy d = false := (s.entryTaken_busy d r).trans hb
  unfold State.entryStart
  exact if_pos (by simp only [State.entryTaken] at h1 h2; simp [h1, h2])

/-- From ON an entry begins at its 0 ns step. -/
theorem State.entryStart_on (s : State) (d : Nat) (r : Bool) (hd : s.dst d = 2) :
    s.entryStart d r =
      (((if (s.entryTaken d r).get R.LOOP_TST_CTL_DIST == d then (s.entryTaken d r).tstStop 4 else s.entryTaken d r).pwrStep d
        .entBegun (if r then 1 else 2)).set R.PWR_DSTAT_CSTOP d 1) := by
  have h1 : (s.entryTaken d r).dst d = 2 := (s.entryTaken_get (by decide) d r d).trans hd
  unfold State.entryStart
  exact if_neg (by simp only [State.entryTaken] at h1; simp [h1])

theorem effEntryBegin_eq (s : State) (d : Nat) (hreq : (s.pw d).reqEntry = true) (hb : s.seqBusy d = false) (hd : s.dst d ≠ 0)
    (hn : s.noBooking d = true) (hf : d ≠ s.cfg.ccsup ∨ s.supplyFixed = false) :
    effEntryBegin s d = s.entryStart d (s.tgtOf d == 1) := by
  refine if_pos ?_
  rcases hf with hf | hf <;> simp [hreq, hb, hd, hn, hf]

/-- The STEP code of an entry to RETAIN or OFF. -/
theorem entryCode_mod (n : Nat) : (if (n == 1) = true then 1 else 2) % 8 = if n = 1 then 1 else 2 := by
  by_cases h : n = 1 <;> simp [h]

theorem entryBegin_on (s : State) (d : Nat) (hn : d < s.cfg.n) (hreq : (s.pw d).reqEntry = true) (hb : s.seqBusy d = false)
    (hd : s.dst d = 2) (hk : s.noBooking d = true) (hf : d ≠ s.cfg.ccsup ∨ s.supplyFixed = false) :
    ∃ t, exec (.districtEntryBegin d) s = .next t ∧ t.get R.PWR_DSTAT_CSTOP d = 1 ∧
      t.get R.PWR_DSTAT_STEP d = (if s.tgtOf d = 1 then 1 else 2) ∧ (t.pw d).step = .entBegun ∧ t.kept = s.kept ∧
      (s.get R.LOOP_TST_CTL_DIST ≠ d → t = { s with regs := t.regs, pwr := t.pwr, fcs := t.fcs } ∧
        s.framed t [R.PWR_DSTAT_STEP.key d, R.DST_FILL_STAT_SWWAIT.key d]) := by
  have he := (effEntryBegin_eq s d hreq hb (by omega) hk hf).trans (s.entryStart_on d _ hd)
  have hkept := effEntryBegin_kept s d
  have hdist : (s.entryTaken d (s.tgtOf d == 1)).get R.LOOP_TST_CTL_DIST = s.get R.LOOP_TST_CTL_DIST :=
    s.entryTaken_get (by decide) d _ 0
  rw [he] at hkept
  refine ⟨_, congrArg Host.Outcome.next ((if_pos hn).trans he), State.get_set_self _ _ _ _ (by decide), ?_, ?_, hkept,
    fun hne => ?_⟩
  · rw [State.get_set_apart (by decide), State.pwrStep_code, entryCode_mod]
  · rw [State.pw_set, State.pwrStep_pw]
  · rw [if_neg (by simpa [hdist] using hne)]
    have hk : R.PWR_DSTAT_CSTOP.key d = R.PWR_DSTAT_STEP.key d := rfl
    have hp := ((s.entryTaken_powerOnly d (s.tgtOf d == 1)).pwrStep d .entBegun
      (if (s.tgtOf d == 1) = true then 1 else 2)).set R.PWR_DSTAT_CSTOP d 1
    exact ⟨hp.eq_fcs (by rw [State.set_fo, State.pwrStep_fo, State.entryTaken_fo]),
      State.framed_set _ _ _ _ _ _ (State.pwrStep_framed (s.entryTaken_framed d _) d _ _ (by simp)) (by simp [hk])⟩

theorem entryBegin_retain (s : State) (d : Nat) (hn : d < s.cfg.n) (hreq : (s.pw d).reqEntry = true) (hb : s.seqBusy d = false)
    (hd : s.dst d = 1) (hk : s.noBooking d = true) (hf : d ≠ s.cfg.ccsup ∨ s.supplyFixed = false) :
    ∃ t, exec (.districtEntryBegin d) s = .next t ∧ (t.pw d).step = .entIso ∧
      t.get R.PWR_DSTAT_STEP d = (if s.tgtOf d = 1 then 1 else 2) ∧
      t = { s with regs := t.regs, pwr := t.pwr, fcs := t.fcs } ∧
      s.framed t [R.PWR_DSTAT_STEP.key d, R.DST_FILL_STAT_SWWAIT.key d] := by
  have he := (effEntryBegin_eq s d hreq hb (by omega) hk hf).trans (s.entryStart_retain d _ hd hb)
  refine ⟨_, congrArg Host.Outcome.next ((if_pos hn).trans he), ?_, ?_, ?_, ?_⟩
  · rw [State.pwrStep_pw]
  · rw [State.pwrStep_code, entryCode_mod]
  · exact ((s.entryTaken_powerOnly d _).pwrStep d _ _).eq_fcs (by rw [State.pwrStep_fo, State.entryTaken_fo])
  · exact State.pwrStep_framed (s.entryTaken_framed d _) d _ _ (by simp)

/-! ### The steps of an entry -/

theorem entryIsolate_step (s : State) (d : Nat) (hn : d < s.cfg.n) (hs : (s.pw d).step = .entBegun) :
    ∃ t, exec (.districtEntryIsolate d) s = .next t ∧ t.get R.PWR_DSTAT_ISO d = 1 ∧ (t.pw d).step = .entIso ∧
      t = { s with regs := t.regs, pwr := t.pwr } ∧ s.framed t [R.PWR_DSTAT_ISO.key d] := by
  refine ⟨_, congrArg Host.Outcome.next ((if_pos hn).trans (if_pos (by simp [hs]))), State.get_set_self _ _ _ _ (by decide), ?_,
    rfl, State.framed_set _ _ _ _ _ _ (State.framed_congr _ _ _ _ (s.framed_refl _) rfl) (by simp)⟩
  simp

/-- The fields that the end of a release or a change of state writes of the anvil cells. -/
def anvilFlds : List Fld := [R.ANV_STAT_STATE, R.ANV_STAT_VST, R.DST_TH_STAT_ANV_RDY, R.ANV_STAT_LASTLEN]

theorem State.setAnv_get {F : Fld} (h : F.apartAll anvilFlds) (s : State) (a st i : Nat) :
    (s.setAnv a st).get F i = s.get F i := by
  have h1 := h R.ANV_STAT_STATE (by simp [anvilFlds])
  have h2 := h R.ANV_STAT_VST (by simp [anvilFlds])
  have h3 := h R.DST_TH_STAT_ANV_RDY (by simp [anvilFlds])
  unfold State.setAnv State.raiseBit State.clearBit
  dsimp only
  split
  · simp only [State.updAnv_get, State.get_set_apart h1, State.get_set_apart h2, State.get_set_apart h3]
  · rw [State.updAnv_get]
    split <;> simp only [State.get_set_apart h1, State.get_set_apart h2, State.get_set_apart h3]

theorem State.anvilsOff_get {F : Fld} (h : F.apartAll anvilFlds) (s : State) (d i : Nat) :
    (s.anvilsOff d).get F i = s.get F i :=
  State.each_const (State.get · F i) _ _ _ fun t a => by
    split
    · rfl
    · exact t.setAnv_get h a _ i

theorem State.endReleases_get {F : Fld} (h : F.apartAll anvilFlds) (s : State) (d i : Nat) :
    (s.endReleases d).get F i = s.get F i :=
  State.each_const (State.get · F i) _ _ _ fun t a => by
    unfold State.anvRelEnd
    split
    · rw [State.get_set_apart (h R.ANV_STAT_LASTLEN (by simp [anvilFlds])), State.setAnv_get h]
    · rfl

theorem State.thDisarm_get {F : Fld} (h : F.apartAll (R.DST_TH_STAT_STATE :: anvilFlds)) (s : State) (d i : Nat) :
    (s.thDisarm d).get F i = s.get F i := by
  have ha : F.apartAll anvilFlds := fun G hG => h G (List.mem_cons_of_mem _ hG)
  unfold State.thDisarm
  dsimp only
  rw [State.updHub_get, State.get_set_apart (h R.DST_TH_STAT_STATE (List.mem_cons_self ..)), State.endReleases_get ha]

/-- A state of the anvil cells leaves the sequences of the districts. -/
theorem State.setAnv_pwr (s : State) (a st : Nat) : (s.setAnv a st).pwr = s.pwr := by
  unfold State.setAnv State.raiseBit State.clearBit
  dsimp only
  split
  · rfl
  · split <;> rfl

theorem State.anvilsOff_pwr (s : State) (d : Nat) : (s.anvilsOff d).pwr = s.pwr :=
  State.each_const State.pwr _ _ _ fun t a => by
    split
    · rfl
    · exact t.setAnv_pwr a _

theorem State.thDisarm_pwr (s : State) (d : Nat) : (s.thDisarm d).pwr = s.pwr :=
  (State.each_const State.pwr s _ _ fun t a => by
    unfold State.anvRelEnd
    split
    · exact t.setAnv_pwr a _
    · rfl : (s.endReleases d).pwr = s.pwr)

theorem State.pw_of_pwr {s t : State} (h : t.pwr = s.pwr) (d : Nat) : t.pw d = s.pw d := congrArg (tabAt · d) h

theorem State.driveState_psw (s : State) (d st : Nat) :
    (s.driveState d st).get R.PWR_DSTAT_PSW d = (if st = 0 then 0 else if st = 1 then 1 else 3) := by
  unfold State.driveState
  rw [State.get_set_apart (by decide), State.get_set_apart (by decide), State.get_set_self _ _ _ _ (by decide)]
  split
  · rfl
  · split <;> rfl

theorem entrySwitches_step (s : State) (d : Nat) (hn : d < s.cfg.n) (hs : (s.pw d).step = .entIso) :
    ∃ t, exec (.districtEntrySwitches d) s = .next t ∧ (t.pw d).step = .entSw ∧
      t.get R.PWR_DSTAT_PSW d = (if (s.pw d).toRetain then 1 else 0) ∧ t.kept = s.kept := by
  have hkept := effEntrySwitches_kept s d
  unfold effEntrySwitches at hkept
  rw [if_pos (by simp [hs])] at hkept
  refine ⟨_, congrArg Host.Outcome.next ((if_pos hn).trans (if_pos (by simp [hs]))), ?_, ?_, hkept⟩
  · rw [State.pw_of_pwr ((State.anvilsOff_pwr _ d).trans (State.thDisarm_pwr _ d))]
    simp [State.driveState]
  · rw [State.anvilsOff_get (by decide), State.thDisarm_get (by decide), State.driveState_psw]
    cases h : (s.pw d).toRetain <;> simp [h]

theorem State.sendStop_pwr (s : State) (c : Nat) : (s.sendStop c).pwr = s.pwr := rfl

theorem State.rampCell_pwr (s : State) (c v : Nat) : (s.rampCell c v).pwr = s.pwr := rfl

/-- The cells of an entry to RETAIN. -/
def State.rampedOff (s : State) (d : Nat) : State :=
  s.each (s.availCells d) fun s c => s.rampCell c (s.get R.PWR_VREF_VRET)

theorem State.rampedOff_kept (s : State) (d : Nat) : (s.rampedOff d).kept = s.kept :=
  State.each_kept _ _ _ fun t c => t.rampCell_kept c _

theorem State.rampedOff_pwr (s : State) (d : Nat) : (s.rampedOff d).pwr = s.pwr :=
  State.each_const State.pwr _ _ _ fun t c => t.rampCell_pwr c _

theorem effEntryCells_retain (s : State) (d : Nat) (hs : (s.pw d).step = .entSw) (hr : (s.pw d).toRetain = true) :
    effEntryCells s d = (s.updPw d fun x => { x with step := .entCells }).rampedOff d := by
  unfold effEntryCells
  rw [if_pos (by simp [hs])]
  exact if_pos (by simp [hr])

/-- The stop orders of an entry to OFF. -/
def State.stopped (s : State) (d : Nat) : State := s.each (cellsOf d) fun s c => s.sendStop c

theorem effEntryCells_off (s : State) (d : Nat) (hs : (s.pw d).step = .entSw) (hr : (s.pw d).toRetain = false)
    (hc : d ≠ s.cfg.ccsup) :
    effEntryCells s d = (s.updPw d fun x => { x with step := .entCells }).stopped d := by
  have hcfg : ((s.updPw d fun x => { x with step := .entCells }).stopped d).cfg = s.cfg :=
    State.each_const State.cfg _ _ _ fun _ _ => rfl
  unfold effEntryCells
  rw [if_pos (by simp [hs])]
  refine (if_neg (by simp [hr])).trans (if_neg fun h => hc ?_)
  exact h.1.trans (congrArg Integ.ccsup hcfg)

/-- Each stop order changes cells alone. -/
theorem State.stopped_eq (s : State) (d : Nat) : s.stopped d = { s with cells := (s.stopped d).cells } :=
  State.each_induct (fun t => t = { s with cells := t.cells }) _ _
    (fun t c _ ht => by conv_lhs => rw [ht]
                        rfl) _ rfl

theorem State.stopped_pwr (s : State) (d : Nat) : (s.stopped d).pwr = s.pwr :=
  State.each_const State.pwr _ _ _ fun t c => t.sendStop_pwr c

theorem State.stopped_sent (s : State) (d c : Nat) (hc : c ∈ cellsOf d) : ((s.stopped d).cell c).stopSent = true := by
  refine State.each_reaches (fun _ => True) (fun t => (t.cell c).stopSent = true) _ c (fun _ _ _ => trivial) (fun t _ => ?_)
    (fun t e ht => ?_) s _ hc trivial
  · simp [State.sendStop, State.cell_updCell]
  · rw [State.sendStop, State.cell_updCell]
    split
    · rfl
    · exact ht

theorem entryCells_retain (s : State) (d : Nat) (hn : d < s.cfg.n) (hs : (s.pw d).step = .entSw) (hr : (s.pw d).toRetain = true) :
    ∃ t, exec (.districtEntryCells d) s = .next t ∧ (t.pw d).step = .entCells ∧ t.kept = s.kept := by
  refine ⟨_, congrArg Host.Outcome.next ((if_pos hn).trans (effEntryCells_retain s d hs hr)), ?_, ?_⟩
  · rw [State.pw_of_pwr (State.rampedOff_pwr _ d), State.pw_updPw_self]
  · rw [State.rampedOff_kept]
    rfl

theorem entryCells_off (s : State) (d : Nat) (hn : d < s.cfg.n) (hs : (s.pw d).step = .entSw) (hr : (s.pw d).toRetain = false)
    (hc : d ≠ s.cfg.ccsup) :
    ∃ t, exec (.districtEntryCells d) s = .next t ∧ (t.pw d).step = .entCells ∧
      (∀ c ∈ cellsOf d, (t.cell c).stopSent = true) ∧ t = { s with pwr := t.pwr, cells := t.cells } := by
  refine ⟨_, congrArg Host.Outcome.next ((if_pos hn).trans (effEntryCells_off s d hs hr hc)), ?_,
    fun c hc => State.stopped_sent _ d c hc, ?_⟩
  · rw [State.pw_of_pwr (State.stopped_pwr _ d), State.pw_updPw_self]
  · rw [State.stopped_eq]
    rfl

end Sys2Proof.Machine

namespace Sys2Proof.Machine

/-! ### The end of an entry -/

theorem State.get_of_key {F : Fld} {i j : Nat} (h : F.key i = F.key j) (s : State) : s.get F i = s.get F j := by
  simp only [State.get, h]

section
set_option autoImplicit true
set_option relaxedAutoImplicit true

/-- The fields of a state with the same register file. -/
theorem State.get_with (s : State) (F : Fld) (i : Nat) :
    (State.mk cfg' fuse' s.regs cells' phases' law' hub' anv' book' queues' fcs' fo' pwr' fab' ports' coef' weights' adm' bud'
    tst' adc' thm' age' cal' dev' flt' arc' exh' fence' rsps' i3c' rings' tel' mw' cap' sec' flash' pageBuf' ticks' base'
    free' pending').get F i = s.get F i := rfl
end

/-- A field that reads 0 does so after a write of 0 to that field of any unit. -/
theorem State.get_set_zero {F : Fld} (hw : F.lo + F.w ≤ 32) {s : State} {j : Nat} (h : s.get F j = 0) (i : Nat) :
    (s.set F i 0).get F j = 0 := by
  by_cases hk : F.key i = F.key j
  · rw [← State.get_of_key hk, State.get_set_self _ _ _ _ hw, Nat.zero_mod]
  · rw [State.get_set_ne _ _ _ _ _ _ hk, h]

/-- The fields that the end of a throttle request writes. -/
def clearThrFlds : List Fld := [R.DST_FO_THR_THRQ, R.DST_FO_STAT_STATE]

theorem State.clearThr_get {F : Fld} (h : F.apartAll clearThrFlds) (s : State) (d i : Nat) :
    (s.clearThr d).get F i = s.get F i := by
  have h1 := h R.DST_FO_THR_THRQ (by simp [clearThrFlds])
  have h2 := h R.DST_FO_STAT_STATE (by simp [clearThrFlds])
  unfold State.clearThr
  dsimp only
  split <;> simp only [State.get_set_apart h1, State.get_set_apart h2]

theorem State.clearThr_thrq (s : State) (d : Nat) : (s.clearThr d).get R.DST_FO_THR_THRQ d = 0 := by
  have h : (s.set R.DST_FO_THR_THRQ d 0).get R.DST_FO_THR_THRQ d = 0 := State.get_set_self _ _ _ _ (by decide)
  unfold State.clearThr
  dsimp only
  split
  · rw [State.get_set_apart (by decide), h]
  · exact h

theorem State.clearThr_regs_only (s : State) (d : Nat) : s.clearThr d = { s with regs := (s.clearThr d).regs } := by
  unfold State.clearThr
  dsimp only
  split <;> rfl

theorem State.clearThr_framed {u s : State} {ks : List Nat} (h : u.framed s ks) (d : Nat)
    (h1 : R.DST_FO_THR_THRQ.key d ∈ ks) (h2 : R.DST_FO_STAT_STATE.key d ∈ ks) : u.framed (s.clearThr d) ks := by
  have hu := State.framed_set _ _ _ R.DST_FO_THR_THRQ d 0 h h1
  exact State.framed_ite _ (State.framed_set _ _ _ _ _ _ hu h2) hu

/-- The fields that the end of a floor test writes. -/
def qualFlds : List Fld := [R.DST_FO_STAT_QUAL, R.DST_FO_THR_QUALCNT]

/-- The floor test of one member of a group starts from 0. -/
def State.qualClear (s : State) (e : Nat) : State :=
  { (s.set R.DST_FO_STAT_QUAL e 0).set R.DST_FO_THR_QUALCNT e 0 with
    fo := tabUpd s.fo e fun (x : FoS) => { x with qual := 0 } }

theorem State.qualZero_eq (s : State) (d : Nat) : s.qualZero d = s.each (s.inGroup d) State.qualClear := rfl

theorem State.qualClear_get (s : State) (e : Nat) (F : Fld) (i : Nat) :
    (s.qualClear e).get F i = ((s.set R.DST_FO_STAT_QUAL e 0).set R.DST_FO_THR_QUALCNT e 0).get F i := rfl

theorem State.qualZero_get {F : Fld} (h : F.apartAll qualFlds) (s : State) (d i : Nat) : (s.qualZero d).get F i = s.get F i := by
  have h1 := h R.DST_FO_STAT_QUAL (by simp [qualFlds])
  have h2 := h R.DST_FO_THR_QUALCNT (by simp [qualFlds])
  refine State.each_const (State.get · F i) _ _ State.qualClear fun t e => ?_
  rw [State.qualClear_get, State.get_set_apart h2, State.get_set_apart h1]

theorem State.qualZero_count (s : State) (d e : Nat) (he : e ∈ s.inGroup d) : (s.qualZero d).get R.DST_FO_THR_QUALCNT e = 0 := by
  rw [State.qualZero_eq]
  refine State.each_reaches (fun _ => True) (fun t => t.get R.DST_FO_THR_QUALCNT e = 0) State.qualClear e
    (fun _ _ _ => trivial) (fun t _ => ?_) (fun t k ht => ?_) s _ he trivial
  · rw [State.qualClear_get, State.get_set_self _ _ _ _ (by decide), Nat.zero_mod]
  · rw [State.qualClear_get]
    exact State.get_set_zero (by decide) (by rw [State.get_set_apart (by decide), ht]) k

theorem State.powerOnly.qualClear {s t : State} (h : s.powerOnly t) (e : Nat) : s.powerOnly (t.qualClear e) := by
  obtain ⟨r, p, f, o, rfl⟩ := h
  exact ⟨_, p, f, _, rfl⟩

theorem State.powerOnly.qualZero {s t : State} (h : s.powerOnly t) (d : Nat) : s.powerOnly (t.qualZero d) :=
  State.each_induct s.powerOnly State.qualClear _ (fun _ e _ hu => hu.qualClear e) _ h

theorem State.qualZero_fcs (s : State) (d : Nat) : (s.qualZero d).fcs = s.fcs :=
  State.each_const State.fcs _ _ State.qualClear fun _ _ => rfl

theorem State.qualZero_pwr (s : State) (d : Nat) : (s.qualZero d).pwr = s.pwr :=
  State.each_const State.pwr _ _ State.qualClear fun _ _ => rfl

theorem State.qualClear_framed {u s : State} {ks : List Nat} (h : u.framed s ks) (e : Nat)
    (h1 : R.DST_FO_STAT_QUAL.key e ∈ ks) (h2 : R.DST_FO_THR_QUALCNT.key e ∈ ks) : u.framed (s.qualClear e) ks :=
  State.framed_congr _ ((s.set R.DST_FO_STAT_QUAL e 0).set R.DST_FO_THR_QUALCNT e 0) _ _
    (State.framed_set _ _ _ _ _ _ (State.framed_set _ _ _ _ _ _ h h1) h2) rfl

theorem State.qualZero_framed {u s : State} {ks : List Nat} (h : u.framed s ks) (d : Nat)
    (hk : ∀ e ∈ s.inGroup d, R.DST_FO_STAT_QUAL.key e ∈ ks ∧ R.DST_FO_THR_QUALCNT.key e ∈ ks) :
    u.framed (s.qualZero d) ks :=
  State.each_induct (u.framed · ks) State.qualClear _
    (fun _ e he ht => State.qualClear_framed ht e (hk e he).1 (hk e he).2) _ h

/-- Where no member stands in service behind the hold of its floor test, its count is 0. -/
theorem State.qualHold_count (s : State) (d : Nat) (h : (s.inGroup d).any (s.qualHold d).inService' = false) :
    ∀ e ∈ s.inGroup d, (s.qualHold d).get R.DST_FO_THR_QUALCNT e = 0 := by
  unfold State.qualHold at h ⊢
  split
  · next hs => rw [if_pos hs, hs] at h; cases h
  · exact s.qualZero_count d

theorem State.qualHold_get {F : Fld} (h : F.apartAll qualFlds) (s : State) (d i : Nat) : (s.qualHold d).get F i = s.get F i := by
  unfold State.qualHold
  split
  · rfl
  · exact s.qualZero_get h d i

theorem State.qualHold_pwr (s : State) (d : Nat) : (s.qualHold d).pwr = s.pwr := by
  unfold State.qualHold
  split
  · rfl
  · exact s.qualZero_pwr d

theorem State.qualHold_fcs (s : State) (d : Nat) : (s.qualHold d).fcs = s.fcs := by
  unfold State.qualHold
  split
  · rfl
  · exact s.qualZero_fcs d

/-- A district reaches the state in which its entry ends. -/
def State.reached (s : State) (d st : Nat) : State := (((s.pwrStep d .idle 0).set R.PWR_DSTAT_STATE d st).clearThr d).qualHold d

/-- The fields that the end of an entry writes, but for the state and the STEP of the district. -/
def reachedFlds : List Fld := [R.PWR_DSTAT_STEP, R.PWR_DSTAT_STATE] ++ clearThrFlds ++ qualFlds

theorem State.reached_get {F : Fld} (h : F.apartAll reachedFlds) (s : State) (d st i : Nat) :
    (s.reached d st).get F i = s.get F i := by
  have h1 := h R.PWR_DSTAT_STEP (by simp [reachedFlds])
  have h2 := h R.PWR_DSTAT_STATE (by simp [reachedFlds])
  have h3 : F.apartAll clearThrFlds := fun G hG => h G (by simp [reachedFlds, hG])
  have h4 : F.apartAll qualFlds := fun G hG => h G (by simp [reachedFlds, hG])
  rw [State.reached, State.qualHold_get h4, State.clearThr_get h3, State.get_set_apart h2, State.pwrStep_get h1]

theorem State.reached_dst (s : State) (d st : Nat) (h : st < 4) : (s.reached d st).dst d = st := by
  rw [State.dst, State.reached, State.qualHold_get (by decide), State.clearThr_get (by decide),
    State.get_set_self _ _ _ _ (by decide)]
  exact Nat.mod_eq_of_lt h

theorem State.reached_code (s : State) (d st : Nat) : (s.reached d st).get R.PWR_DSTAT_STEP d = 0 := by
  rw [State.reached, State.qualHold_get (by decide), State.clearThr_get (by decide), State.get_set_apart (by decide),
    State.pwrStep_code]

theorem State.reached_thrq (s : State) (d st : Nat) : (s.reached d st).get R.DST_FO_THR_THRQ d = 0 := by
  rw [State.reached, State.qualHold_get (by decide), State.clearThr_thrq]

theorem State.reached_step (s : State) (d st : Nat) : ((s.reached d st).pw d).step = .idle := by
  rw [State.reached, State.pw_of_pwr (State.qualHold_pwr _ d), State.clearThr_regs_only]
  exact congrArg PwrS.step (s.pwrStep_pw d .idle 0)

theorem State.powerOnly.clearThr {s t : State} (h : s.powerOnly t) (d : Nat) : s.powerOnly (t.clearThr d) :=
  .ite _ ((h.set _ _ _).set _ _ _) (h.set _ _ _)

theorem State.reached_powerOnly (s : State) (d st : Nat) : s.powerOnly (s.reached d st) := by
  have h := ((s.powerOnly_refl.pwrStep d .idle 0).set R.PWR_DSTAT_STATE d st).clearThr d
  exact .ite _ h (h.qualZero d)

theorem State.reached_fcs (s : State) (d st : Nat) : (s.reached d st).fcs = s.fcs := by
  rw [State.reached, State.qualHold_fcs, State.clearThr_regs_only]
  rfl

/-- The words that the end of an entry may change. -/
abbrev State.reachedKeys (s : State) (d : Nat) : List Nat :=
  [R.PWR_DSTAT_STATE.key d, R.DST_FO_THR_THRQ.key d, R.DST_FO_STAT_STATE.key d] ++
    (s.inGroup d).flatMap fun e => [R.DST_FO_THR_QUALCNT.key e, R.DST_FO_STAT_QUAL.key e]

theorem State.reached_framed (s : State) (d st : Nat) : s.framed (s.reached d st) (s.reachedKeys d) := by
  have h1 : s.framed ((s.pwrStep d .idle 0).set R.PWR_DSTAT_STATE d st) (s.reachedKeys d) :=
    State.framed_set _ _ _ _ _ _ (State.pwrStep_framed (s.framed_refl _) d _ _ (List.mem_append_left _ (List.mem_cons_self ..)))
      (by simp)
  have h2 := State.clearThr_framed h1 d (by simp) (by simp)
  have hg : (((s.pwrStep d .idle 0).set R.PWR_DSTAT_STATE d st).clearThr d).inGroup d = s.inGroup d := by
    rw [State.clearThr_regs_only]
    rfl
  refine State.framed_ite _ h2 (State.qualZero_framed h2 d fun e he => ?_)
  rw [hg] at he
  constructor <;>
    exact List.mem_append_right _ (List.mem_flatMap.mpr ⟨e, he, by simp⟩)

theorem State.reached_count (s : State) (d st : Nat) (h : (s.inGroup d).any (s.reached d st).inService' = false) :
    ∀ e ∈ s.inGroup d, (s.reached d st).get R.DST_FO_THR_QUALCNT e = 0 := by
  have hg : (((s.pwrStep d .idle 0).set R.PWR_DSTAT_STATE d st).clearThr d).inGroup d = s.inGroup d := by
    rw [State.clearThr_regs_only]
    rfl
  rw [← hg] at h ⊢
  exact State.qualHold_count _ d h

/-! ### A latched target -/

theorem State.pursue_get {F : Fld} (h : F.apartAll endWaitFlds) (s : State) (d i : Nat) : (s.pursue d).get F i = s.get F i := by
  unfold State.pursue
  dsimp only
  split
  · exact State.endWait_get h _ d i
  · split
    · rfl
    · exact State.endWait_get h _ d i

/-- What a request, its end and its pursuit leave of the sequence of a district. -/
def PwrS.course (x : PwrS) : PwrS := { x with reqEntry := false, reqOn := none, latchAt := none }

theorem State.updPw_course (s : State) (k : Nat) (f : PwrS → PwrS) (hf : ∀ x, (f x).course = x.course) (d : Nat) :
    ((s.updPw k f).pw d).course = (s.pw d).course := by
  rw [State.pw_updPw]
  split
  · exact hf _
  · rfl

theorem State.endWait_course (s : State) (k d : Nat) : ((s.endWait k).pw d).course = (s.pw d).course := by
  unfold State.endWait
  dsimp only
  split <;> exact s.updPw_course k (fun x => { x with reqOn := none }) (fun _ => rfl) d

theorem State.pursue_course (s : State) (d e : Nat) : ((s.pursue d).pw e).course = (s.pw e).course := by
  have h := s.updPw_course d (fun x => { x with latchAt := none }) (fun _ => rfl) e
  unfold State.pursue
  dsimp only
  split
  · rw [State.updPw_course _ d _ (by intro x; rfl), State.endWait_course, h]
  · split
    · rw [State.updPw_course _ d _ (by intro x; rfl), h]
    · rw [State.updPw_course _ d _ (by intro x; rfl), State.endWait_course, h]

theorem State.pursueLatched_get {F : Fld} (h : F.apartAll (R.PWR_DSTAT_TPEND :: endWaitFlds)) (s : State) (d i : Nat) :
    (s.pursueLatched d).get F i = s.get F i := by
  have ht := h R.PWR_DSTAT_TPEND (List.mem_cons_self ..)
  have hw : F.apartAll endWaitFlds := fun G hG => h G (List.mem_cons_of_mem _ hG)
  unfold State.pursueLatched
  dsimp only
  split
  · rfl
  · split
    · exact State.get_set_apart ht _ _ _ _
    · rw [State.pursue_get hw, State.get_set_apart ht]

theorem State.pursueLatched_of_not (s : State) (d : Nat) (h : s.get R.PWR_DSTAT_TPEND d = 0) : s.pursueLatched d = s :=
  if_pos (by simp [State.flag, h])

theorem State.pursueLatched_course (s : State) (d e : Nat) : ((s.pursueLatched d).pw e).course = (s.pw e).course := by
  unfold State.pursueLatched
  dsimp only
  split
  · rfl
  · split
    · exact State.updPw_course _ d (fun x => { x with latchAt := none }) (fun _ => rfl) e
    · exact State.pursue_course _ d e

theorem State.pursueLatched_step (s : State) (d e : Nat) : ((s.pursueLatched d).pw e).step = (s.pw e).step := by
  have h := congrArg PwrS.step (s.pursueLatched_course d e)
  exact h

theorem State.inService'_congr {s t : State} {e : Nat} (h1 : t.dst e = s.dst e) (h2 : (t.pw e).step = (s.pw e).step)
    (h3 : t.get R.DST_FO_STAT_STATE e = s.get R.DST_FO_STAT_STATE e) : t.inService' e = s.inService' e := by
  have h2' : (tabAt t.pwr e).step = (tabAt s.pwr e).step := h2
  simp only [State.inService', State.isOn, State.inSwitchOn, h1, h2', h3]

theorem State.pursueLatched_inService' (s : State) (d : Nat) : (s.pursueLatched d).inService' = s.inService' :=
  funext fun e => State.inService'_congr (s.pursueLatched_get (by decide) d e) (s.pursueLatched_step d e)
    (s.pursueLatched_get (by decide) d e)


theorem retainEntry_end (s : State) (d : Nat) (hn : d < s.cfg.n) (hs : (s.pw d).step = .entCells) (hr : (s.pw d).toRetain = true) :
    ∃ t, exec (.retainEntryComplete d) s = .next t ∧ t.dst d = 1 ∧ (t.pw d).step = .idle ∧
      t.get R.DST_FO_THR_THRQ d = 0 ∧ t.kept = s.kept ∧
      ((s.inGroup d).any t.inService' = false → ∀ e ∈ s.inGroup d, t.get R.DST_FO_THR_QUALCNT e = 0) ∧
      (s.get R.PWR_DSTAT_TPEND d = 0 → t.get R.PWR_DSTAT_STEP d = 0 ∧
        t = { s with regs := t.regs, pwr := t.pwr, fo := t.fo } ∧ s.framed t (s.reachedKeys d)) := by
  have he : effRetainDone s d = (s.reached d 1).pursueLatched d := if_pos (by simp [hs, hr])
  have hkept := effRetainDone_kept s d
  rw [he] at hkept
  refine ⟨_, congrArg Host.Outcome.next ((if_pos hn).trans he), ?_, ?_, ?_, hkept, fun h e hm => ?_, fun ht => ?_⟩
  · exact (State.pursueLatched_get (by decide) _ d d).trans (s.reached_dst d 1 (by decide))
  · rw [State.pursueLatched_step, State.reached_step]
  · rw [State.pursueLatched_get (by decide), State.reached_thrq]
  · rw [State.pursueLatched_inService'] at h
    rw [State.pursueLatched_get (by decide), s.reached_count d 1 h e hm]
  · rw [State.pursueLatched_of_not _ d ((s.reached_get (by decide) d 1 d).trans ht)]
    exact ⟨s.reached_code d 1, (s.reached_powerOnly d 1).eq_fo (s.reached_fcs d 1), s.reached_framed d 1⟩

/-! ### What the end of an OFF entry does for SLEEP and for the supply group -/

theorem State.setSat_get {F G : Fld} (h : F.apart G) (s : State) (i v j : Nat) : (s.setSat F i v).get G j = s.get G j :=
  State.get_set_apart h _ _ _ _

theorem State.inc_get {F G : Fld} (h : F.apart G) (s : State) (i n j : Nat) : (s.inc F i n).get G j = s.get G j :=
  State.get_set_apart h _ _ _ _

/-- The fields that a wake writes. -/
def wakeFlds : List Fld :=
  [R.PWR_STAT_WPEND, R.PWR_STAT_WSRC, R.PWR_STAT_WAKES, R.PWR_STAT_WLNK, R.PWR_STAT_DEV, R.PWR_CTL_DEV_REQ]

theorem State.wakeNow_get {F : Fld} (h : F.apartAll wakeFlds) (s : State) (src lnk i : Nat) :
    (s.wakeNow src lnk).get F i = s.get F i := by
  have h1 := h R.PWR_STAT_WSRC (by simp [wakeFlds])
  have h2 := h R.PWR_STAT_WAKES (by simp [wakeFlds])
  have h3 := h R.PWR_STAT_WLNK (by simp [wakeFlds])
  have h4 := h R.PWR_STAT_DEV (by simp [wakeFlds])
  have h5 := h R.PWR_CTL_DEV_REQ (by simp [wakeFlds])
  have hl : (if src = wakeLink then ((s.set R.PWR_STAT_WSRC 0 src).inc R.PWR_STAT_WAKES).set R.PWR_STAT_WLNK 0 lnk
      else (s.set R.PWR_STAT_WSRC 0 src).inc R.PWR_STAT_WAKES).get F i = s.get F i := by
    split
    · rw [State.get_set_apart h3, State.inc_get h2, State.get_set_apart h1]
    · rw [State.inc_get h2, State.get_set_apart h1]
  unfold State.wakeNow
  dsimp only
  generalize (if src = wakeLink then _ else _ : State) = u at hl ⊢
  split
  · rw [State.get_with ((u.set R.PWR_STAT_DEV 0 devBoot).set R.PWR_CTL_DEV_REQ 0 0), State.get_set_apart h5,
      State.get_set_apart h4, hl]
  · rw [State.get_with (u.set R.PWR_CTL_DEV_REQ 0 (reqCode u.dev.before)), State.get_set_apart h5, hl]

theorem State.wakePending_get {F : Fld} (h : F.apartAll wakeFlds) (s : State) (i : Nat) : s.wakePending.get F i = s.get F i := by
  unfold State.wakePending
  split
  · rw [State.wakeNow_get h, State.get_set_apart (h R.PWR_STAT_WPEND (by simp [wakeFlds]))]
  · rfl

/-- The fields that a port writes as it closes. -/
def byeFlds : List Fld := [R.LNK_PSTAT_UNACK, R.LNK_PSTAT_STATE]

theorem State.byeSleep_get {F : Fld} (h : F.apartAll byeFlds) (s : State) (p i : Nat) : (s.byeSleep p).get F i = s.get F i := by
  have h1 := h R.LNK_PSTAT_UNACK (by simp [byeFlds])
  have h2 := h R.LNK_PSTAT_STATE (by simp [byeFlds])
  unfold State.byeSleep State.sendBye State.sendFrame State.unack
  dsimp only
  split
  · simp only [State.get_set_apart h1, State.get_set_apart h2, State.updPort_get]
  · rfl

theorem State.sleepProgress_get {F : Fld} (h : F.apartAll (R.PWR_STAT_ENTRY :: (byeFlds ++ wakeFlds))) (s : State) (z i : Nat) :
    (s.sleepProgress z).get F i = s.get F i := by
  have hb : F.apartAll byeFlds := fun G hG => h G (by simp [hG])
  have hw : F.apartAll wakeFlds := fun G hG => h G (by simp [hG])
  have he := h R.PWR_STAT_ENTRY (List.mem_cons_self ..)
  have hbye : ∀ c : Bool, (if c = true then s.byeSleep z else s).get F i = s.get F i := by
    intro c
    split
    · exact s.byeSleep_get hb z i
    · rfl
  unfold State.sleepProgress
  dsimp only
  split
  · have hb := hbye (s.allOff fun d => !s.isSupply d && s.zoneOf d == z)
    generalize (if (s.allOff fun d => !s.isSupply d && s.zoneOf d == z) = true then s.byeSleep z else s) = u at hb ⊢
    split
    · rw [State.get_with u, hb]
    · exact hb
  · split
    · rw [State.wakePending_get hw, State.get_with ((s.set R.PWR_STAT_DEV 0 devSleep).set R.PWR_STAT_ENTRY 0 0),
        State.get_set_apart he, State.get_set_apart (hw R.PWR_STAT_DEV (by simp [wakeFlds]))]
    · rfl

theorem State.sleepProgress_of_zero (s : State) (z : Nat) (h : s.dev.sleepStep = 0) : s.sleepProgress z = s := by
  unfold State.sleepProgress
  dsimp only
  rw [if_neg (by omega), if_neg (by omega)]

/-- The fields of a cell that a ramp writes. -/
def rampFlds : List Fld := [R.CEL_STAT_LOCAL, R.CEL_CUR_I_CMD]

theorem State.rampCell_get {F : Fld} (h : F.apartAll rampFlds) (s : State) (c v i : Nat) :
    (s.rampCell c v).get F i = s.get F i := by
  unfold State.rampCell
  dsimp only
  rw [State.get_set_apart (h R.CEL_CUR_I_CMD (by simp [rampFlds])), State.get_set_apart (h R.CEL_STAT_LOCAL (by simp [rampFlds])),
    State.updCell_get]

theorem State.anvilsCharge_get {F : Fld} (h : F.apartAll anvilFlds) (s : State) (d i : Nat) :
    (s.anvilsCharge d).get F i = s.get F i :=
  State.each_const (State.get · F i) _ _ _ fun t a => by
    split
    · exact t.setAnv_get h a _ i
    · rfl

/-- The fields that the begin of a switch-on writes. -/
def switchOnFlds : List Fld := endWaitFlds ++ (R.DST_REF_VREF :: (rampFlds ++ anvilFlds))

theorem State.switchOn_get {F : Fld} (h : F.apartAll switchOnFlds) (s : State) (d vs i : Nat) :
    (s.switchOn d vs).get F i = s.get F i := by
  have hw : F.apartAll endWaitFlds := fun G hG => h G (by simp [switchOnFlds, hG])
  have hr : F.apartAll rampFlds := fun G hG => h G (by simp [switchOnFlds, hG])
  have ha : F.apartAll anvilFlds := fun G hG => h G (by simp [switchOnFlds, hG])
  have hs : R.PWR_DSTAT_STEP.apart F := hw _ (by simp [endWaitFlds])
  have hv : R.DST_REF_VREF.apart F := h _ (by simp [switchOnFlds])
  have hramp : ∀ (u : State) (l : List Nat), (u.each l fun s c => s.rampCell c vs).get F i = u.get F i := fun u l =>
    State.each_const (State.get · F i) u l _ fun t c => t.rampCell_get hr c vs i
  have hstart : ∀ (u : State) (l : List Nat), (u.each l fun s c =>
      if s.cst c == cFused || s.cst c == cFailed || s.flag R.CEL_CTL_CELL_DIS c then s else s.sendStart c vs).get F i = u.get F i :=
    fun u l => State.each_const (State.get · F i) u l _ fun t c => by
      split
      · rfl
      · exact t.updCell_get c _ F i
  unfold State.switchOn
  dsimp only
  rw [State.anvilsCharge_get ha]
  split
  · rw [hramp, State.updLaw_get, State.get_set_apart hv, State.pwrStep_get hs, State.updPw_get, State.endWait_get hw]
  · rw [hstart, State.updLaw_get, State.get_set_apart hv, State.pwrStep_get hs, State.updPw_get, State.endWait_get hw]

theorem State.supplyDue_get {F : Fld} (h : F.apartAll switchOnFlds) (s : State) (i : Nat) : s.supplyDue.get F i = s.get F i := by
  unfold State.supplyDue State.supplyOn
  dsimp only
  split
  · refine (State.each_const (State.get · F i) _ _ _ fun t d => ?_).trans rfl
    split
    · exact t.switchOn_get h d _ i
    · rfl
  · rfl

theorem offEntry_end (s : State) (d : Nat) (hn : d < s.cfg.n) (hs : (s.pw d).step = .entCells) (hr : (s.pw d).toRetain = false)
    (hk : s.get R.DST_FO_STAT_STATE d ≠ 2) :
    ∃ t, exec (.offEntryComplete d) s = .next t ∧ t.dst d = 0 ∧ t.get R.DST_FO_THR_THRQ d = 0 ∧ t.kept = s.kept ∧
      (s.get R.PWR_DSTAT_TPEND d = 0 → s.dev.sleepStep = 0 → s.dev.supDue = false →
        t.get R.PWR_DSTAT_STEP d = 0 ∧ (t.pw d).step = .idle ∧ t = { s with regs := t.regs, pwr := t.pwr, fo := t.fo } ∧
        s.framed t (s.reachedKeys d)) := by
  have he : effOffDone s d = (((s.reached d 0).pursueLatched d).sleepProgress (s.zoneOf d)).supplyDue :=
    if_pos (by simp [hs, hr, hk])
  have hkept := effOffDone_kept s d
  rw [he] at hkept
  refine ⟨_, congrArg Host.Outcome.next ((if_pos hn).trans he), ?_, ?_, hkept, fun ht hz hd => ?_⟩
  · rw [State.dst, State.supplyDue_get (by decide), State.sleepProgress_get (by decide), State.pursueLatched_get (by decide)]
    exact s.reached_dst d 0 (by decide)
  · rw [State.supplyDue_get (by decide), State.sleepProgress_get (by decide), State.pursueLatched_get (by decide),
      State.reached_thrq]
  · have hdev := (s.reached_powerOnly d 0).dev
    rw [State.pursueLatched_of_not _ d ((s.reached_get (by decide) d 0 d).trans ht),
      State.sleepProgress_of_zero _ _ (hdev ▸ hz), State.supplyDue_of_not_due _ (hdev ▸ hd)]
    exact ⟨s.reached_code d 0, s.reached_step d 0, (s.reached_powerOnly d 0).eq_fo (s.reached_fcs d 0), s.reached_framed d 0⟩

/-- Settles O12: each step of an entry by its own lemma; nothing that follows the end of an OFF entry, the wake of SLEEP and the
switch-on of the supply group among it, writes the state or the throttle request of a district. -/
theorem districtEntriesFollowTheirSteps : Obligations.DistrictEntriesFollowTheirSteps :=
  ⟨entryBegin_on, entryBegin_retain, entryIsolate_step, entrySwitches_step, entryCells_retain, entryCells_off,
    retainEntry_end, offEntry_end⟩

end Sys2Proof.Machine

namespace Sys2Proof.Machine

/-! ### The start of the Orrery -/

theorem State.get_of_regs {s t : State} (h : t.regs = s.regs) (F : Fld) (i : Nat) : t.get F i = s.get F i := by
  simp only [State.get, State.word, h]

theorem State.lw_updLaw (s : State) (k : Nat) (f : LawS → LawS) (d : Nat) :
    (s.updLaw k f).lw d = if k = d then f (s.lw d) else s.lw d := by
  unfold State.lw State.updLaw tabAt tabUpd
  split
  · next h => subst h; simp [tabAt]
  · next h => simp [tabGet_put_ne _ _ _ _ h]

/-- `t` differs from `s` in the register file, the laws of the districts and the cells alone. -/
def State.sumsOnly (s t : State) : Prop := ∃ r l c, t = { s with regs := r, law := l, cells := c }

theorem State.sumsOnly_refl (s : State) : s.sumsOnly s := ⟨s.regs, s.law, s.cells, rfl⟩

theorem State.sumsOnly.set {s t : State} (h : s.sumsOnly t) (F : Fld) (i v : Nat) : s.sumsOnly (t.set F i v) := by
  obtain ⟨r, l, c, rfl⟩ := h
  exact ⟨_, l, c, rfl⟩

theorem State.sumsOnly.updLaw {s t : State} (h : s.sumsOnly t) (d : Nat) (f : LawS → LawS) : s.sumsOnly (t.updLaw d f) := by
  obtain ⟨r, l, c, rfl⟩ := h
  exact ⟨r, _, c, rfl⟩

theorem State.sumsOnly.updCell {s t : State} (h : s.sumsOnly t) (k : Nat) (f : CellS → CellS) : s.sumsOnly (t.updCell k f) := by
  obtain ⟨r, l, c, rfl⟩ := h
  exact ⟨r, l, _, rfl⟩

theorem State.sumsOnly.regionStart {s t : State} (h : s.sumsOnly t) (d : Nat) : s.sumsOnly (t.regionStart d) := by
  unfold State.regionStart
  dsimp only
  split
  · exact (h.updLaw _ _).set _ _ _
  · exact ((h.updLaw _ _).set _ _ _).set _ _ _

theorem State.sumsOnly.sumStart {s t : State} (h : s.sumsOnly t) (d : Nat) : s.sumsOnly (t.sumStart d) :=
  State.sumsOnly.updLaw (State.each_induct s.sumsOnly _ _ (fun _ c _ hu => hu.updCell c _) _ h) d _

theorem State.regionStart_keeps (s : State) (k d : Nat) (h : s.get R.DST_RGN_STAT_REGION d = 0) :
    (s.regionStart k).get R.DST_RGN_STAT_REGION d = 0 := by
  have h0 : ((s.updLaw k fun l => { l with cb := 0, vb := 0 }).set R.DST_RGN_STAT_REGION k 0).get R.DST_RGN_STAT_REGION d = 0 :=
    State.get_set_zero (by decide) h k
  unfold State.regionStart
  dsimp only
  split
  · exact h0
  · rw [State.get_set_apart (by decide), h0]

theorem State.regionStart_region (s : State) (d : Nat) : (s.regionStart d).get R.DST_RGN_STAT_REGION d = 0 := by
  have h0 : ((s.updLaw d fun l => { l with cb := 0, vb := 0 }).set R.DST_RGN_STAT_REGION d 0).get R.DST_RGN_STAT_REGION d = 0 :=
    State.get_set_self _ _ _ _ (by decide)
  unfold State.regionStart
  dsimp only
  split
  · exact h0
  · rw [State.get_set_apart (by decide), h0]

theorem State.regionStart_cell (s : State) (d c : Nat) : (s.regionStart d).cell c = s.cell c := by
  unfold State.regionStart
  dsimp only
  split <;> rfl

/-- The sum of the currents of a cell starts again. -/
def CellS.restarted (x : CellS) : CellS := { x with curSum := 0 }

theorem CellS.restarted_of_zero {x : CellS} (h : x.curSum = 0) : x.restarted = x := by
  cases x
  cases h
  rfl

/-- The sums of the cells of a district start again. -/
def State.cellsRestarted (s : State) (d : Nat) : State := s.each (cellsOf d) fun s c => s.updCell c CellS.restarted

theorem State.sumStart_eq (s : State) (d : Nat) :
    s.sumStart d = (s.cellsRestarted d).updLaw d fun l => { l with imSum := 0, imCnt := 0 } := rfl

theorem State.cellsRestarted_regs (s : State) (d : Nat) : (s.cellsRestarted d).regs = s.regs :=
  State.each_const State.regs s _ _ fun _ _ => rfl

theorem State.cellsRestarted_law (s : State) (d : Nat) : (s.cellsRestarted d).law = s.law :=
  State.each_const State.law s _ _ fun _ _ => rfl

theorem State.sumStart_regs (s : State) (d : Nat) : (s.sumStart d).regs = s.regs := s.cellsRestarted_regs d

theorem State.restart_restarted (s : State) (k c : Nat) :
    ((s.updCell k CellS.restarted).cell c).restarted = (s.cell c).restarted := by
  rw [State.cell_updCell]
  split <;> rfl

theorem State.restart_keeps (s : State) (k c : Nat) (h : (s.cell c).curSum = 0) :
    ((s.updCell k CellS.restarted).cell c).curSum = 0 := by
  rw [State.cell_updCell]
  split
  · rfl
  · exact h

theorem State.sumStart_restarted (s : State) (d c : Nat) : ((s.sumStart d).cell c).restarted = (s.cell c).restarted :=
  State.each_const (fun t => (t.cell c).restarted) s _ _ fun t k => t.restart_restarted k c

theorem State.sumStart_keeps_cell (s : State) (d c : Nat) (h : (s.cell c).curSum = 0) : ((s.sumStart d).cell c).curSum = 0 :=
  State.each_induct (fun t => (t.cell c).curSum = 0) _ _ (fun t k _ => t.restart_keeps k c) s h

theorem State.sumStart_cell (s : State) (d c : Nat) (hc : c ∈ cellsOf d) : ((s.sumStart d).cell c).curSum = 0 :=
  State.each_reaches (fun _ => True) (fun t => (t.cell c).curSum = 0) _ c (fun _ _ _ => trivial)
    (fun t _ => by rw [State.cell_updCell, if_pos rfl]; rfl) (fun t k => t.restart_keeps k c) s _ hc trivial

theorem State.sumStart_lw (s : State) (k d : Nat) :
    (s.sumStart k).lw d = if k = d then { s.lw d with imSum := 0, imCnt := 0 } else s.lw d := by
  have h : (s.cellsRestarted k).lw d = s.lw d := congrArg (tabAt · d) (s.cellsRestarted_law k)
  rw [State.sumStart_eq, State.lw_updLaw, h]

/-- The regions and the sums as the Orrery starts. -/
def State.sumsStarted (s : State) : State := (s.each s.districts State.regionStart).each s.districts State.sumStart

theorem State.sumsStarted_only (s : State) : s.sumsOnly s.sumsStarted :=
  State.each_induct s.sumsOnly _ _ (fun _ d _ h => h.sumStart d) _
    (State.each_induct s.sumsOnly _ _ (fun _ d _ h => h.regionStart d) _ s.sumsOnly_refl)

theorem State.sumsStarted_region (s : State) (d : Nat) (hd : d ∈ s.districts) : s.sumsStarted.get R.DST_RGN_STAT_REGION d = 0 :=
  (State.get_of_regs (State.each_const State.regs _ _ _ State.sumStart_regs) _ _).trans
    (State.each_reaches (fun _ => True) (fun t => t.get R.DST_RGN_STAT_REGION d = 0) _ d (fun _ _ _ => trivial)
      (fun t _ => t.regionStart_region d) (fun t k => t.regionStart_keeps k d) s _ hd trivial)

theorem State.sumsStarted_lw (s : State) (d : Nat) (hd : d ∈ s.districts) :
    (s.sumsStarted.lw d).imSum = 0 ∧ (s.sumsStarted.lw d).imCnt = 0 :=
  State.each_reaches (fun _ => True) (fun t => (t.lw d).imSum = 0 ∧ (t.lw d).imCnt = 0) _ d (fun _ _ _ => trivial)
    (fun t _ => by rw [State.sumStart_lw, if_pos rfl]; exact ⟨rfl, rfl⟩)
    (fun t k h => by
      rw [State.sumStart_lw]
      split
      · exact ⟨rfl, rfl⟩
      · exact h) _ _ hd trivial

theorem State.sumsStarted_cell (s : State) (d c : Nat) (hd : d ∈ s.districts) (hc : c ∈ cellsOf d) :
    s.sumsStarted.cell c = { s.cell c with curSum := 0 } := by
  have h1 : (s.sumsStarted.cell c).restarted = (s.cell c).restarted :=
    (State.each_const (fun t => (t.cell c).restarted) _ _ _ fun t k => t.sumStart_restarted k c).trans
      (State.each_const (fun t => (t.cell c).restarted) _ _ _ fun t k => congrArg CellS.restarted (t.regionStart_cell k c))
  have h2 : (s.sumsStarted.cell c).curSum = 0 :=
    State.each_reaches (fun _ => True) (fun t => (t.cell c).curSum = 0) _ d (fun _ _ _ => trivial)
      (fun t _ => t.sumStart_cell d c hc) (fun t k => t.sumStart_keeps_cell k c) _ _ hd trivial
  exact (CellS.restarted_of_zero h2).symm.trans h1

/-- The Orrery counts from its start. -/
def State.orrBegun (s : State) : State :=
  { s with dev := { s.dev with orrRun := true, dper := 0, die := 0, ep := 0, slot := 0, slotStb := 0 } }

theorem boot_orreryStart (s : State) (hrel : s.dev.released = true) (hsrc : s.get R.CLK_STAT_SRC = 1) (himg : s.dev.imgDone = true)
    (hrun : s.dev.orrRun = false) :
    ∃ t, exec .orreryStart s = .next t ∧ t.get R.ORR_STAT_RUN = 1 ∧
      t = { s with regs := t.regs, law := t.law, cells := t.cells,
                   dev := { s.dev with orrRun := true, dper := 0, die := 0, ep := 0, slot := 0, slotStb := 0 } } ∧
      (∀ d < s.cfg.n, t.get R.DST_RGN_STAT_REGION d = 0 ∧ (t.lw d).imSum = 0 ∧ (t.lw d).imCnt = 0 ∧
        ∀ c ∈ cellsOf d, t.cell c = { s.cell c with curSum := 0 }) := by
  have he : effOrrStart s = s.orrBegun.sumsStarted.set R.ORR_STAT_RUN 0 1 :=
    if_pos (by simp [hrel, State.onPll, State.flag, hsrc, himg, hrun])
  refine ⟨_, congrArg Host.Outcome.next he, State.get_set_self _ _ _ _ (by decide), ?_, fun d hd => ?_⟩
  · obtain ⟨r, l, c, h⟩ := s.orrBegun.sumsStarted_only.set R.ORR_STAT_RUN 0 1
    rw [h]
    rfl
  · have hm : d ∈ s.orrBegun.districts := List.mem_range.mpr hd
    obtain ⟨h1, h2⟩ := s.orrBegun.sumsStarted_lw d hm
    refine ⟨?_, h1, h2, fun c hc => s.orrBegun.sumsStarted_cell d c hm hc⟩
    rw [State.get_set_apart (by decide), State.sumsStarted_region _ d hm]

theorem boot_orreryStart_idle (s : State)
    (h : s.dev.released = false ∨ s.get R.CLK_STAT_SRC = 0 ∨ s.dev.imgDone = false ∨ s.dev.orrRun = true) :
    exec .orreryStart s = .next s := by
  refine congrArg Host.Outcome.next (if_neg ?_)
  rcases h with h | h | h | h <;> simp [State.onPll, State.flag, h]

/-! ### District return -/

theorem State.powerOnly.pursue {s t : State} (h : s.powerOnly t) (d : Nat) : s.powerOnly (t.pursue d) := by
  have h0 := h.updPw d fun x => { x with latchAt := none }
  unfold State.pursue
  dsimp only
  split
  · exact (h0.endWait d).updPw _ _
  · split
    · exact h0.updPw _ _
    · exact (h0.endWait d).updPw _ _

theorem State.pursue_dev (s : State) (d : Nat) : (s.pursue d).dev = s.dev := (s.powerOnly_refl.pursue d).dev

theorem State.anvilsCharge_dev (s : State) (d : Nat) : (s.anvilsCharge d).dev = s.dev :=
  congrArg Prod.fst (s.anvilsCharge_tests d 0)

theorem State.switchOn_dev (s : State) (d vs : Nat) : (s.switchOn d vs).dev = s.dev := congrArg Prod.fst (s.switchOn_tests d vs 0)

/-- District return begins: no entry of the return order has passed. -/
def State.returnBegun (s : State) : State :=
  { s with dev := { s.dev with returned := true, retIdx := 0, retWait := false } }.phase

/-- What district return does beyond its begin. -/
def State.returnAll (s : State) : State :=
  let s := if s.dev.supStayed then s.each s.supply State.anvilsCharge else s
  if s.large then s.each (s.districts.filter s.toReturn) fun s d => if s.seqBusy d then s else s.pursue d else s

theorem State.returnAll_dev (s : State) : s.returnAll.dev = s.dev := by
  have h1 : (if s.dev.supStayed then s.each s.supply State.anvilsCharge else s).dev = s.dev := by
    split
    · exact State.each_const State.dev _ _ _ State.anvilsCharge_dev
    · rfl
  unfold State.returnAll
  dsimp only
  generalize (if s.dev.supStayed then s.each s.supply State.anvilsCharge else s) = u at h1 ⊢
  split
  · refine (State.each_const State.dev _ _ _ fun t d => ?_).trans h1
    split
    · rfl
    · exact t.pursue_dev d
  · exact h1

theorem State.returnAll_small (s : State) (hl : s.large = false) (hs : s.dev.supStayed = false) : s.returnAll = s := by
  unfold State.returnAll
  simp only [hs, hl, Bool.false_eq_true, if_false]

theorem boot_districtReturn (s : State) (hdev : s.devSt = devBoot) (himg : s.dev.imgDone = true) (hrun : s.dev.orrRun = true)
    (htherm : s.dev.thermOk = true) (hret : s.dev.returned = false) (hoff : s.offStanding = []) (hwire : s.flt.wireOff = false) :
    ∃ t, exec .districtReturn s = .next t ∧ t.dev.returned = true ∧ t.dev.retIdx = 0 ∧ t.kept = s.kept ∧
      (s.large = false → s.dev.supStayed = false →
        t = { s with regs := t.regs, dev := { s.dev with returned := true, retIdx := 0, retWait := false } } ∧
        s.framed t [R.IMG_BOOT_PHASE.key 0]) := by
  have he : effReturn s = s.returnBegun.returnAll := if_pos (by simp [hdev, himg, hrun, htherm, hret, hoff, hwire])
  have hkept := effReturn_kept s
  have hd := s.returnBegun.returnAll_dev
  rw [he] at hkept
  refine ⟨_, congrArg Host.Outcome.next he, ?_, ?_, hkept, fun hl hs => ?_⟩
  · rw [hd]
    rfl
  · rw [hd]
    rfl
  · rw [State.returnAll_small s.returnBegun hl hs]
    exact ⟨rfl, State.framed_set _ { s with dev := { s.dev with returned := true, retIdx := 0, retWait := false } } _ _ _ _
      (State.framed_congr _ _ _ _ (s.framed_refl _) rfl) (by simp)⟩

end Sys2Proof.Machine

namespace Sys2Proof.Machine

/-! ### The return order -/

/-- Where a return-order entry falls due. -/
abbrev State.returnDue (s : State) : Prop :=
  s.large = false ∧ s.dev.returned = true ∧ s.dev.booted = false ∧ s.devSt = devBoot ∧ s.dev.retIdx < 16

theorem effReturnEntry_eq (s : State) (h : s.returnDue) :
    effReturnEntry s =
      if !s.toReturn (s.seqDist s.dev.retIdx) || s.seqBusy (s.seqDist s.dev.retIdx) then s.nextEntry
      else if s.pst (s.zoneOf (s.seqDist s.dev.retIdx)) == lkUp
        then (s.switchOn (s.seqDist s.dev.retIdx) (s.startRef (s.seqDist s.dev.retIdx))).nextEntry
      else { s.raise R.PWR_FLT_SEQWAIT with dev := { s.dev with retWait := true } } := by
  obtain ⟨hl, hr, hb, hd, hi⟩ := h
  exact if_pos (by simp [hl, hr, hb, hd, hi])

theorem State.pw_updLaw (s : State) (k : Nat) (f : LawS → LawS) (d : Nat) : (s.updLaw k f).pw d = s.pw d := rfl

theorem State.switchOn_step (s : State) (d vs : Nat) : ((s.switchOn d vs).pw d).step = .onBegun := by
  have hramp : ∀ (u : State) (l : List Nat), (u.each l fun s c => s.rampCell c vs).pwr = u.pwr := fun u l =>
    State.each_const State.pwr u l _ fun t c => t.rampCell_pwr c vs
  have hstart : ∀ (u : State) (l : List Nat), (u.each l fun s c =>
      if s.cst c == cFused || s.cst c == cFailed || s.flag R.CEL_CTL_CELL_DIS c then s else s.sendStart c vs).pwr = u.pwr :=
    fun u l => State.each_const State.pwr u l _ fun t c => by split <;> rfl
  have hcharge : ∀ u : State, (u.anvilsCharge d).pwr = u.pwr := fun u =>
    State.each_const State.pwr u _ _ fun t a => by
      split
      · exact t.setAnv_pwr a _
      · rfl
  unfold State.switchOn
  dsimp only
  rw [State.pw_of_pwr (hcharge _)]
  split
  · rw [State.pw_of_pwr (hramp _ _), State.pw_updLaw, State.pw_set, State.pwrStep_pw]
  · rw [State.pw_of_pwr (hstart _ _), State.pw_updLaw, State.pw_set, State.pwrStep_pw]

theorem boot_entry_passed (s : State) (h : s.returnDue)
    (hp : s.toReturn (s.seqDist s.dev.retIdx) = false ∨ s.seqBusy (s.seqDist s.dev.retIdx) = true) :
    exec .returnOrderEntry s = .next { s with dev := { s.dev with retIdx := s.dev.retIdx + 1, retWait := false } } :=
  congrArg Host.Outcome.next ((effReturnEntry_eq s h).trans (if_pos (by rcases hp with hp | hp <;> simp [hp])))

theorem boot_entry_waits (s : State) (h : s.returnDue) (ht : s.toReturn (s.seqDist s.dev.retIdx) = true)
    (hb : s.seqBusy (s.seqDist s.dev.retIdx) = false) (hz : s.pst (s.zoneOf (s.seqDist s.dev.retIdx)) ≠ lkUp) :
    ∃ t, exec .returnOrderEntry s = .next t ∧ t.get R.PWR_FLT_SEQWAIT = 1 ∧
      t = { s with regs := t.regs, dev := { s.dev with retWait := true } } ∧ s.framed t [R.PWR_FLT_SEQWAIT.key 0] := by
  have he := ((effReturnEntry_eq s h).trans (if_neg (by simp [ht, hb]))).trans (if_neg (by simp [hz]))
  refine ⟨_, congrArg Host.Outcome.next he, ?_, rfl, ?_⟩
  · rw [State.get_with (s.raise R.PWR_FLT_SEQWAIT)]
    exact State.get_set_self _ _ _ _ (by decide)
  · exact State.framed_congr _ (s.raise R.PWR_FLT_SEQWAIT) _ _ (State.framed_set _ _ _ _ _ _ (s.framed_refl _) (by simp)) rfl

theorem boot_entry_begun (s : State) (h : s.returnDue) (ht : s.toReturn (s.seqDist s.dev.retIdx) = true)
    (hb : s.seqBusy (s.seqDist s.dev.retIdx) = false) (hz : s.pst (s.zoneOf (s.seqDist s.dev.retIdx)) = lkUp) :
    ∃ t, exec .returnOrderEntry s = .next t ∧ t.kept = s.kept ∧ t.dev.retWait = false ∧ t.dev.retIdx = s.dev.retIdx + 1 ∧
      (t.pw (s.seqDist s.dev.retIdx)).step = .onBegun := by
  have he := ((effReturnEntry_eq s h).trans (if_neg (by simp [ht, hb]))).trans (if_pos (by simp [hz]))
  have hkept := effReturnEntry_kept s
  rw [he] at hkept
  refine ⟨_, congrArg Host.Outcome.next he, hkept, rfl, ?_, State.switchOn_step s _ _⟩
  exact congrArg (fun x => x.retIdx + 1) (State.switchOn_dev s _ _)

theorem boot_abandon (s : State) (hw : s.dev.retWait = true) (hz : s.pst (s.zoneOf (s.seqDist s.dev.retIdx)) ≠ lkUp) :
    ∃ t, exec .zoneWaitAbandon s = .next t ∧ t.get R.IMG_FLT_ZONETMO = 1 ∧
      t = { s with regs := t.regs, dev := { s.dev with retIdx := s.dev.retIdx + 1, retWait := false } } ∧
      s.framed t [R.IMG_FLT_ZONETMO.key 0] := by
  have he : effAbandon s = (s.raise R.IMG_FLT_ZONETMO).nextEntry :=
    (if_neg (by simp [hw])).trans (if_neg (by simp [hz]))
  refine ⟨_, congrArg Host.Outcome.next he, ?_, rfl, ?_⟩
  · rw [State.nextEntry, State.get_with (s.raise R.IMG_FLT_ZONETMO)]
    exact State.get_set_self _ _ _ _ (by decide)
  · exact State.framed_congr _ (s.raise R.IMG_FLT_ZONETMO) _ _ (State.framed_set _ _ _ _ _ _ (s.framed_refl _) (by simp)) rfl

/-! ### The records that the end of BOOT stages -/

/-- The fields that staging a record writes. -/
def stageFlds : List Fld := [R.ARC_HEAD_ACC, R.ARC_STAT_EMPTY, R.ARC_STAT_STGB, R.ARC_DROP_STAGE, R.ARC_FLT_OVF]

/-- `t` differs from `s` in the register file and the Archive alone. -/
def State.arcOnly (s t : State) : Prop := ∃ r a, t = { s with regs := r, arc := a }

theorem State.arcOnly_refl (s : State) : s.arcOnly s := ⟨s.regs, s.arc, rfl⟩

theorem State.arcOnly.dev {s t : State} (h : s.arcOnly t) : t.dev = s.dev := by
  obtain ⟨r, a, rfl⟩ := h
  rfl

theorem State.arcOnly.flt {s t : State} (h : s.arcOnly t) : t.flt = s.flt := by
  obtain ⟨r, a, rfl⟩ := h
  rfl

theorem State.enqueue_get {F : Fld} (h : F.apartAll stageFlds) (s : State) (k : Nat) (p : List Byte) (i : Nat) :
    (s.enqueue k p).get F i = s.get F i := by
  have h1 := h R.ARC_HEAD_ACC (by simp [stageFlds])
  have h2 := h R.ARC_STAT_EMPTY (by simp [stageFlds])
  have h3 := h R.ARC_STAT_STGB (by simp [stageFlds])
  unfold State.enqueue
  dsimp only
  rw [State.setSat_get h3]
  split
  · rw [State.get_set_apart h2, State.get_set_apart h1, State.get_with s]
  · rw [State.get_with s]

theorem State.arcOnly.enqueue {s t : State} (h : s.arcOnly t) (k : Nat) (p : List Byte) : s.arcOnly (t.enqueue k p) := by
  obtain ⟨r, a, rfl⟩ := h
  unfold State.enqueue
  dsimp only
  split
  · exact ⟨_, _, rfl⟩
  · exact ⟨_, _, rfl⟩

theorem State.stageOverflow_get {F : Fld} (h : F.apartAll stageFlds) (s : State) (i : Nat) :
    s.stageOverflow.get F i = s.get F i := by
  unfold State.stageOverflow
  dsimp only
  split
  · rw [State.get_with (s.enqueue _ _), State.enqueue_get h]
  · rfl

theorem State.arcOnly.stageOverflow {s t : State} (h : s.arcOnly t) : s.arcOnly t.stageOverflow := by
  unfold State.stageOverflow
  dsimp only
  split
  · obtain ⟨r, a, hu⟩ := h.enqueue 0x05 (leBytes 4 t.arc.dropCnt ++ leBytes 4 t.arc.dropFirst)
    exact ⟨r, _, by rw [hu]⟩
  · exact h

theorem State.stage_get {F : Fld} (h : F.apartAll stageFlds) (s : State) (k : Nat) (p : List Byte) (i : Nat) :
    (s.stage k p).get F i = s.get F i := by
  unfold State.stage
  dsimp only
  split
  · rfl
  · split
    · rw [State.enqueue_get h, State.stageOverflow_get h]
    · rw [State.get_with ((s.stageOverflow.inc R.ARC_DROP_STAGE).raise R.ARC_FLT_OVF), State.raise,
        State.get_set_apart (h R.ARC_FLT_OVF (by simp [stageFlds])), State.inc_get (h R.ARC_DROP_STAGE (by simp [stageFlds])),
        State.stageOverflow_get h]

theorem State.stage_arcOnly (s : State) (k : Nat) (p : List Byte) : s.arcOnly (s.stage k p) := by
  have ho := s.arcOnly_refl.stageOverflow
  unfold State.stage
  dsimp only
  split
  · exact s.arcOnly_refl
  · split
    · exact ho.enqueue k p
    · obtain ⟨r, a, hu⟩ := ho
      rw [hu]
      exact ⟨_, _, rfl⟩

/-! ### The end of BOOT -/

/-- BOOT counts as ended, with its length in IMG_BOOT; the length, and the state ahead of its write. -/
def State.bootTimed (s : State) : Nat × State := { s with dev := { s.dev with booted := true } }.phase.bootMicros

/-- The START record is staged, and what it counts starts again. -/
def State.bootStarted (s : State) : State :=
  let t := (s.bootTimed.2.set R.IMG_BOOT_DUR 0 s.bootTimed.1).stage 0x01 s.bootTimed.2.startRec
  { t with arc := { t.arc with lost := 0 }, flt := { t.flt with released := 0 } }

/-- The records of the end of BOOT: START, and the history behind it after WRST and SAFE_OFF. -/
def State.bootRecords (s : State) : State :=
  if s.bootStarted.dev.bootCause = 2 ∨ s.bootStarted.dev.bootCause = 4 then s.bootStarted.stageHistory else s.bootStarted

/-- A target that is still open at the end of BOOT is pursued. -/
def State.bootPursue (s : State) (d : Nat) : State :=
  if s.seqBusy d || (s.pw d).failed || decide (2 ≤ s.get R.DST_FO_STAT_STATE d) then s else s.pursue d

theorem State.bootDone_eq (s : State) : s.bootDone = s.bootRecords.each s.bootRecords.districts State.bootPursue := rfl

/-- The fields that the records of the end of BOOT write. -/
def bootRecordFlds : List Fld := [R.IMG_BOOT_PHASE, R.IMG_BOOT_DUR] ++ stageFlds

theorem State.bootStarted_get {F : Fld} (h : F.apartAll bootRecordFlds) (s : State) (i : Nat) :
    s.bootStarted.get F i = s.get F i := by
  have hp := h R.IMG_BOOT_PHASE (by simp [bootRecordFlds])
  have hd := h R.IMG_BOOT_DUR (by simp [bootRecordFlds])
  have hs : F.apartAll stageFlds := fun G hG => h G (by simp [bootRecordFlds, hG])
  have ht : s.bootTimed.2.get F i = s.get F i :=
    State.get_set_apart hp { s with dev := { s.dev with booted := true } } _ _ _
  rw [State.bootStarted, State.get_with (State.stage _ _ _), State.stage_get hs, State.get_set_apart hd, ht]

theorem State.bootRecords_get {F : Fld} (h : F.apartAll bootRecordFlds) (s : State) (i : Nat) :
    s.bootRecords.get F i = s.get F i := by
  unfold State.bootRecords
  split
  · rw [State.stageHistory, State.stage_get fun G hG => h G (by simp [bootRecordFlds, hG]), State.bootStarted_get h]
  · exact s.bootStarted_get h i

theorem State.bootStarted_dev (s : State) : s.bootStarted.dev = { s.dev with booted := true } :=
  (State.stage_arcOnly (s.bootTimed.2.set R.IMG_BOOT_DUR 0 s.bootTimed.1) 0x01 s.bootTimed.2.startRec).dev

theorem State.bootStarted_flt (s : State) : s.bootStarted.flt = { s.flt with released := 0 } :=
  congrArg (fun x => { x with released := 0 })
    (State.stage_arcOnly (s.bootTimed.2.set R.IMG_BOOT_DUR 0 s.bootTimed.1) 0x01 s.bootTimed.2.startRec).flt

theorem State.bootRecords_dev (s : State) : s.bootRecords.dev = { s.dev with booted := true } := by
  unfold State.bootRecords
  split
  · exact (State.stage_arcOnly _ _ _).dev.trans s.bootStarted_dev
  · exact s.bootStarted_dev

theorem State.bootRecords_flt (s : State) : s.bootRecords.flt = { s.flt with released := 0 } := by
  unfold State.bootRecords
  split
  · exact (State.stage_arcOnly _ _ _).flt.trans s.bootStarted_flt
  · exact s.bootStarted_flt

theorem State.pursue_flt (s : State) (d : Nat) : (s.pursue d).flt = s.flt := by
  obtain ⟨r, p, f, o, h⟩ := s.powerOnly_refl.pursue d
  rw [h]

theorem State.bootPursue_get {F : Fld} (h : F.apartAll endWaitFlds) (s : State) (d i : Nat) :
    (s.bootPursue d).get F i = s.get F i := by
  unfold State.bootPursue
  split
  · rfl
  · exact s.pursue_get h d i

theorem State.bootPursue_dev (s : State) (d : Nat) : (s.bootPursue d).dev = s.dev := by
  unfold State.bootPursue
  split
  · rfl
  · exact s.pursue_dev d

theorem State.bootPursue_flt (s : State) (d : Nat) : (s.bootPursue d).flt = s.flt := by
  unfold State.bootPursue
  split
  · rfl
  · exact s.pursue_flt d

theorem State.bootDone_get {F : Fld} (h : F.apartAll (bootRecordFlds ++ endWaitFlds)) (s : State) (i : Nat) :
    s.bootDone.get F i = s.get F i := by
  rw [State.bootDone_eq]
  exact (State.each_const (State.get · F i) _ _ _ fun t d => t.bootPursue_get (fun G hG => h G (by simp [hG])) d i).trans
    (s.bootRecords_get (fun G hG => h G (by simp [hG])) i)

theorem State.bootDone_dev (s : State) : s.bootDone.dev = { s.dev with booted := true } := by
  rw [State.bootDone_eq]
  exact (State.each_const State.dev _ _ _ State.bootPursue_dev).trans s.bootRecords_dev

theorem State.bootDone_flt (s : State) : s.bootDone.flt = { s.flt with released := 0 } := by
  rw [State.bootDone_eq]
  exact (State.each_const State.flt _ _ _ State.bootPursue_flt).trans s.bootRecords_flt

/-! ### A stored request acts -/

/-- The fields that a request of the owner writes. -/
def actReqFlds : List Fld := [R.PWR_STAT_DEV, R.PWR_STAT_ENTRY]

theorem State.tstStop_get (s : State) (k : Nat) (F : Fld) (i : Nat) : (s.tstStop k).get F i = s.get F i := by
  unfold State.tstStop
  split <;> rfl

theorem State.tstStop_dev (s : State) (k : Nat) : (s.tstStop k).dev = s.dev := by
  unfold State.tstStop
  split <;> rfl

theorem State.tstStop_flt (s : State) (k : Nat) : (s.tstStop k).flt = s.flt := by
  unfold State.tstStop
  split <;> rfl

/-- An entry of DOZE (1) or SLEEP (2) is requested. -/
def State.entering (s : State) (e : Nat) : State :=
  { s.set R.PWR_STAT_ENTRY 0 1 with dev := { s.dev with
      entry := e, before := s.devSt, sleepStep := 0, ledgersClear := false,
      ledgerBusy := s.dev.ledgerBusy || decide (10 * s.dev.die < s.dev.dper) } }

/-- QUIET is reached from RUN. -/
def State.quieted (s : State) : State := { (s.tstStop 4).set R.PWR_STAT_DEV 0 devQuiet with bud := { s.bud with ivNoGrp := true } }

/-- What a request can do: nothing, RUN, QUIET from RUN, or the entry of DOZE or SLEEP. -/
theorem State.actReq_cases (s : State) (v : Nat) :
    s.actReq v ∈ [s, s.set R.PWR_STAT_DEV 0 devRun, s.quieted, s.entering 1, s.entering 2] := by
  unfold State.actReq
  dsimp only
  split
  · exact List.mem_cons_self ..
  · split
    · simp
    · split <;> simp [State.quieted]
    · simp [State.entering]
    · simp [State.entering]
    · exact List.mem_cons_self ..

/-- What is so of the five outcomes of a request is so of it. -/
theorem State.actReq_all (P : State → Prop) (s : State) (v : Nat) (h0 : P s) (h1 : P (s.set R.PWR_STAT_DEV 0 devRun))
    (h2 : P s.quieted) (h3 : ∀ e, P (s.entering e)) : P (s.actReq v) := by
  have h := s.actReq_cases v
  simp only [List.mem_cons, List.not_mem_nil, or_false] at h
  rcases h with h | h | h | h | h <;> rw [h]
  · exact h0
  · exact h1
  · exact h2
  · exact h3 1
  · exact h3 2

theorem State.quieted_get {F : Fld} (h : R.PWR_STAT_DEV.apart F) (s : State) (i : Nat) : s.quieted.get F i = s.get F i := by
  rw [State.quieted, State.get_with ((s.tstStop 4).set R.PWR_STAT_DEV 0 devQuiet), State.get_set_apart h, State.tstStop_get]

theorem State.entering_get {F : Fld} (h : R.PWR_STAT_ENTRY.apart F) (s : State) (e i : Nat) :
    (s.entering e).get F i = s.get F i := by
  rw [State.entering, State.get_with (s.set R.PWR_STAT_ENTRY 0 1), State.get_set_apart h]

theorem State.quieted_devSt (s : State) : s.quieted.devSt = devQuiet := by
  rw [State.devSt, State.quieted, State.get_with ((s.tstStop 4).set R.PWR_STAT_DEV 0 devQuiet)]
  exact State.get_set_self _ _ _ _ (by decide)

theorem State.entering_devSt (s : State) (e : Nat) : (s.entering e).devSt = s.devSt := s.entering_get (by decide) e 0

theorem State.actReq_get {F : Fld} (h : F.apartAll actReqFlds) (s : State) (v i : Nat) : (s.actReq v).get F i = s.get F i :=
  have hd := h R.PWR_STAT_DEV (by simp [actReqFlds])
  State.actReq_all (fun t => t.get F i = s.get F i) s v rfl (State.get_set_apart hd _ _ _ _) (s.quieted_get hd i)
    fun e => s.entering_get (h R.PWR_STAT_ENTRY (by simp [actReqFlds])) e i

theorem State.actReq_flt (s : State) (v : Nat) : (s.actReq v).flt = s.flt :=
  State.actReq_all (fun t => t.flt = s.flt) s v rfl rfl (s.tstStop_flt 4) fun _ => rfl

theorem State.actReq_booted (s : State) (v : Nat) : (s.actReq v).dev.booted = s.dev.booted :=
  State.actReq_all (fun t => t.dev.booted = s.dev.booted) s v rfl rfl (congrArg DevS.booted (s.tstStop_dev 4)) fun _ => rfl

theorem State.actReq_awake (s : State) (v : Nat) (h : s.devSt = devRun) :
    (s.actReq v).devSt = devRun ∨ (s.actReq v).devSt = devQuiet :=
  State.actReq_all (fun t => t.devSt = devRun ∨ t.devSt = devQuiet) s v (.inl h)
    (.inl (State.get_set_self _ _ _ _ (by decide))) (.inr s.quieted_devSt) fun e => .inl ((s.entering_devSt e).trans h)

/-- A request in RUN with no entry in progress. -/
theorem State.actReq_run (s : State) (v : Nat) (h : s.devSt = devRun) (he : s.dev.entry = 0) :
    (s.actReq v).devSt = (if v = 1 then devQuiet else devRun) ∧
      (s.actReq v).dev.entry = (if v = 2 then 1 else if v = 3 then 2 else 0) := by
  have hd : s.actReq v = match v with
      | 0 => s.set R.PWR_STAT_DEV 0 devRun
      | 1 => s.quieted
      | 2 => s.entering 1
      | 3 => s.entering 2
      | _ => s := by
    unfold State.actReq
    rw [if_neg (by simp [h, he])]
    match v with
    | 0 => rfl
    | 1 => exact if_pos (by simp [h])
    | 2 => rfl
    | 3 => rfl
    | n + 4 => rfl
  rw [hd]
  match v with
  | 0 => exact ⟨State.get_set_self _ _ _ _ (by decide), he⟩
  | 1 => exact ⟨s.quieted_devSt, (congrArg DevS.entry (s.tstStop_dev 4)).trans he⟩
  | 2 => exact ⟨(s.entering_devSt 1).trans h, rfl⟩
  | 3 => exact ⟨(s.entering_devSt 2).trans h, rfl⟩
  | n + 4 =>
    rw [if_neg (by omega), if_neg (by omega), if_neg (by omega)]
    exact ⟨h, he⟩

/-! ### RUN is reached -/

/-- The device stands in RUN, which has ended BOOT. -/
def State.inRun (s : State) : State := { s with dev := { s.dev with booted := true } }.set R.PWR_STAT_DEV 0 devRun

theorem State.reachRun_eq (s : State) : s.reachRun = s.inRun.actReq (s.get R.PWR_CTL_DEV_REQ) := rfl

theorem State.inRun_devSt (s : State) : s.inRun.devSt = devRun := State.get_set_self _ _ _ _ (by decide)

theorem State.reachRun_get {F : Fld} (h : F.apartAll actReqFlds) (s : State) (i : Nat) : s.reachRun.get F i = s.get F i := by
  rw [State.reachRun_eq, State.actReq_get h, State.inRun, State.get_set_apart (h R.PWR_STAT_DEV (by simp [actReqFlds])),
    State.get_with s]

theorem State.reachRun_flt (s : State) : s.reachRun.flt = s.flt := s.inRun.actReq_flt _

theorem State.reachRun_booted (s : State) : s.reachRun.dev.booted = true := s.inRun.actReq_booted _

/-- RUN at the end of BOOT. -/
def State.booted (s : State) : State := s.bootDone.reachRun

theorem State.booted_get {F : Fld} (h : F.apartAll (bootRecordFlds ++ endWaitFlds ++ actReqFlds)) (s : State) (i : Nat) :
    s.booted.get F i = s.get F i :=
  (s.bootDone.reachRun_get (fun G hG => h G (by simp [hG])) i).trans
    (s.bootDone_get (fun G hG => h G (by rcases List.mem_append.mp hG with hG | hG <;> simp [hG])) i)

theorem State.standing_congr {s t : State} (hc : t.get R.FLT_CAUSE_CAUSE = s.get R.FLT_CAUSE_CAUSE)
    (hh : t.flt.wireHold = s.flt.wireHold) (ho : t.flt.wireOff = s.flt.wireOff) (k : Nat) : t.standing k = s.standing k := by
  simp only [State.standing, State.stands, hc, hh, ho]

theorem State.booted_standing (s : State) (k : Nat) : s.booted.standing k = s.standing k := by
  have hf : s.booted.flt = { s.flt with released := 0 } := s.bootDone.reachRun_flt.trans s.bootDone_flt
  exact State.standing_congr (s.booted_get (by decide) 0) (by rw [hf]) (by rw [hf]) k

theorem effBootEnd_eq (s : State) (h : s.bootOver = true) :
    effBootEnd s = if s.standing 2 then s.booted.forceHold else s.booted := by
  rw [← s.booted_standing 2]
  exact if_pos h

theorem boot_end_run (s : State) (h : s.bootOver = true) (hs : s.standing 2 = false) (he : s.dev.entry = 0) :
    ∃ t, exec .bootEnd s = .next t ∧ t.kept = s.kept ∧ t.dev.booted = true ∧
      t.devSt = (if s.get R.PWR_CTL_DEV_REQ = 1 then devQuiet else devRun) ∧
      t.dev.entry = (if s.get R.PWR_CTL_DEV_REQ = 2 then 1 else if s.get R.PWR_CTL_DEV_REQ = 3 then 2 else 0) ∧
      t.get R.PWR_CTL_DEV_REQ = s.get R.PWR_CTL_DEV_REQ := by
  have heq : effBootEnd s = s.booted := (effBootEnd_eq s h).trans (if_neg (by simp [hs]))
  have hkept := effBootEnd_kept s
  have hreq : s.bootDone.get R.PWR_CTL_DEV_REQ = s.get R.PWR_CTL_DEV_REQ := s.bootDone_get (by decide) 0
  have hent : s.bootDone.inRun.dev.entry = 0 := (congrArg DevS.entry s.bootDone_dev).trans he
  obtain ⟨h1, h2⟩ := s.bootDone.inRun.actReq_run (s.bootDone.get R.PWR_CTL_DEV_REQ) s.bootDone.inRun_devSt hent
  rw [← State.reachRun_eq, hreq] at h1 h2
  rw [heq] at hkept
  exact ⟨_, congrArg Host.Outcome.next heq, hkept, s.bootDone.reachRun_booted, h1, h2, s.booted_get (by decide) 0⟩

/-! ### SAFE_HOLD is forced -/

theorem State.irqAll_get {F : Fld} (h : R.GAL_ISTAT_IRQ.apart F) (s : State) (b p i : Nat) :
    (s.irqAll b p).get F i = s.get F i := by
  refine State.each_const (State.get · F i) s _ _ fun t g => ?_
  split
  · unfold State.irq State.ibiCheck
    dsimp only
    split
    · exact State.get_set_apart h _ _ _ _
    · split
      · rw [State.get_with (t.raiseBit R.GAL_ISTAT_IRQ g b)]
        exact State.get_set_apart h _ _ _ _
      · exact State.get_set_apart h _ _ _ _
  · rfl

theorem State.irqAll_dev (s : State) (b p : Nat) : (s.irqAll b p).dev = s.dev := by
  refine State.each_const State.dev s _ _ fun t g => ?_
  split
  · unfold State.irq State.ibiCheck
    dsimp only
    split
    · rfl
    · split <;> rfl
  · rfl

/-- The fields that a capture trigger writes. -/
def capTrigFlds : List Fld := [R.CAP_STAT_STATE, R.CAP_STAT_TRIGD]

theorem State.capTrig_get {F : Fld} (h : F.apartAll capTrigFlds) (s : State) (c i : Nat) : (s.capTrig c).get F i = s.get F i := by
  unfold State.capTrig
  split
  · rw [State.capRuns, State.get_with ((s.set R.CAP_STAT_STATE 0 2).set R.CAP_STAT_TRIGD 0 1),
      State.get_set_apart (h R.CAP_STAT_TRIGD (by simp [capTrigFlds])),
      State.get_set_apart (h R.CAP_STAT_STATE (by simp [capTrigFlds]))]
  · rfl

theorem State.capTrig_dev (s : State) (c : Nat) : (s.capTrig c).dev = s.dev := by
  unfold State.capTrig
  split <;> rfl

theorem State.pursueAll_get {F : Fld} (h : F.apartAll (R.PWR_DSTAT_TPEND :: endWaitFlds)) (s : State) (i : Nat) :
    s.pursueAll.get F i = s.get F i := by
  have ht := h R.PWR_DSTAT_TPEND (List.mem_cons_self ..)
  refine State.each_const (State.get · F i) s _ _ fun t d => ?_
  split
  · rfl
  · split
    · exact State.get_set_apart ht _ _ _ _
    · rw [State.pursue_get fun G hG => h G (List.mem_cons_of_mem _ hG), State.get_set_apart ht]

theorem State.pursueAll_dev (s : State) : s.pursueAll.dev = s.dev := by
  refine State.each_const State.dev s _ _ fun t d => ?_
  split
  · rfl
  · split
    · rfl
    · exact State.pursue_dev _ d

/-- SAFE_HOLD shows, and what was in progress ends. -/
def State.holdShown (s : State) : State :=
  let s := (((s.tstStop 3).endDoze.set R.PWR_STAT_DEV 0 devHold).set R.FLT_STAT_STATE 0 1).raise R.FLT_FLT_HOLD
  ((s.set R.ORR_STAT_NODIST 0 1).irqAll 1 0x07).capTrig 3

/-- Every district skips as far as the budget allows. -/
def State.holdSkip (s : State) : State :=
  let k := s.budLat.skipMax
  let s := s.each s.districts fun s d =>
    { s.set R.BUD_DACT_SK d k with fo := tabUpd s.fo d fun (x : FoS) => { x with sk := k } }
  let s := s.raiseIf s.bud.gmode R.GRP_FLT_OVR
  { s with flt := { s.flt with pin := false }, bud := { s.bud with ivNoGrp := true, ivSafe := true } }

theorem State.forceHold_eq (s : State) (h : s.devSt = devRun ∨ s.devSt = devQuiet) :
    s.forceHold = (if s.sleeping then s.holdShown.pursueAll else s.holdShown).holdSkip :=
  if_neg (by rcases h with h | h <;> simp [h])

theorem State.holdShown_devSt (s : State) : s.holdShown.devSt = devHold := by
  unfold State.holdShown
  dsimp only
  rw [State.devSt, State.capTrig_get (by decide), State.irqAll_get (by decide), State.get_set_apart (by decide), State.raise,
    State.get_set_apart (by decide), State.get_set_apart (by decide), State.get_set_self _ _ _ _ (by decide)]
  rfl

theorem State.endDoze_booted (s : State) (h : s.devSt ≠ devDoze) : s.endDoze.dev.booted = s.dev.booted := by
  unfold State.endDoze
  simp only [beq_eq_false_iff_ne.mpr h, Bool.false_eq_true, if_false]
  split <;> rfl

theorem State.holdShown_booted (s : State) (h : s.devSt ≠ devDoze) : s.holdShown.dev.booted = s.dev.booted := by
  have hd : (s.tstStop 3).devSt ≠ devDoze := fun e => h ((s.tstStop_get 3 _ 0).symm.trans e)
  unfold State.holdShown
  dsimp only
  rw [State.capTrig_dev, State.irqAll_dev, State.set_dev, State.raise, State.set_dev, State.set_dev, State.set_dev,
    State.endDoze_booted _ hd, State.tstStop_dev]

theorem State.holdSkip_get {F : Fld} (h : F.apartAll [R.BUD_DACT_SK, R.GRP_FLT_OVR]) (s : State) (i : Nat) :
    s.holdSkip.get F i = s.get F i := by
  have hk := h R.BUD_DACT_SK (by simp)
  have ho := h R.GRP_FLT_OVR (by simp)
  unfold State.holdSkip State.raiseIf
  dsimp only
  generalize hu : s.each s.districts _ = u
  have hg : u.get F i = s.get F i := hu ▸ State.each_const (State.get · F i) s _ _ fun t d => by
    rw [State.get_with (t.set R.BUD_DACT_SK d _), State.get_set_apart hk]
  split
  · rw [State.get_with (u.raise R.GRP_FLT_OVR), State.raise, State.get_set_apart ho, hg]
  · rw [State.get_with u, hg]

theorem State.holdSkip_dev (s : State) : s.holdSkip.dev = s.dev := by
  unfold State.holdSkip State.raiseIf
  dsimp only
  split <;> exact State.each_const State.dev s _ _ fun _ _ => rfl

theorem State.forceHold_devSt (s : State) (h : s.devSt = devRun ∨ s.devSt = devQuiet) : s.forceHold.devSt = devHold := by
  rw [State.forceHold_eq s h, State.devSt, State.holdSkip_get (by decide)]
  split
  · rw [State.pursueAll_get (by decide)]
    exact s.holdShown_devSt
  · exact s.holdShown_devSt

theorem State.forceHold_booted (s : State) (h : s.devSt = devRun ∨ s.devSt = devQuiet) :
    s.forceHold.dev.booted = s.dev.booted := by
  have hd : s.devSt ≠ devDoze := by rcases h with h | h <;> rw [h] <;> decide
  rw [State.forceHold_eq s h, State.holdSkip_dev]
  split
  · rw [State.pursueAll_dev, s.holdShown_booted hd]
  · exact s.holdShown_booted hd

theorem boot_end_hold (s : State) (h : s.bootOver = true) (hs : s.standing 2 = true) :
    ∃ t, exec .bootEnd s = .next t ∧ t.kept = s.kept ∧ t.dev.booted = true ∧ t.devSt = devHold := by
  have heq : effBootEnd s = s.booted.forceHold := (effBootEnd_eq s h).trans (if_pos hs)
  have hkept := effBootEnd_kept s
  have hdev := s.bootDone.inRun.actReq_awake (s.bootDone.get R.PWR_CTL_DEV_REQ) s.bootDone.inRun_devSt
  rw [heq] at hkept
  exact ⟨_, congrArg Host.Outcome.next heq, hkept, (s.booted.forceHold_booted hdev).trans s.bootDone.reachRun_booted,
    s.booted.forceHold_devSt hdev⟩

/-- Settles O11: one lemma for each clause. Nothing that the end of BOOT stages or pursues writes the device state, the
stored request or the causes that stand, so that the request, or SAFE_HOLD behind it, decides the state. -/
theorem bootReturnsTheDistricts : Obligations.BootReturnsTheDistricts :=
  ⟨boot_orreryStart, boot_orreryStart_idle, boot_districtReturn,
    fun s hl hr hb hd hi => ⟨boot_entry_passed s ⟨hl, hr, hb, hd, hi⟩, boot_entry_waits s ⟨hl, hr, hb, hd, hi⟩,
      boot_entry_begun s ⟨hl, hr, hb, hd, hi⟩⟩,
    boot_abandon, boot_end_run, boot_end_hold⟩

end Sys2Proof.Machine

namespace Sys2Proof.Machine

/-! ### A die period in SAFE_HOLD, up to its end -/

/-- Fields that no die period writes ahead of the end of SAFE_HOLD. -/
def calmFlds : List Fld := [R.THM_DLVL_TH, R.PWR_STAT_DEV, R.FLT_CAUSE_CAUSE, R.PWR_DSTAT_STATE]

/-- From `s` to `t` those fields stand, and so do the configuration, the faults, the sequences of the districts and whether
BOOT has ended; and no district has begun to darken. -/
structure State.Calm (s t : State) : Prop where
  get : ∀ F ∈ calmFlds, ∀ i, t.get F i = s.get F i
  fo : ∀ d, s.get R.DST_FO_STAT_STATE d < 2 → t.get R.DST_FO_STAT_STATE d < 2
  cfg : t.cfg = s.cfg
  flt : t.flt = s.flt
  pwr : t.pwr = s.pwr
  booted : t.dev.booted = s.dev.booted

/-- Writes of such a field keep to that. -/
abbrev Fld.calm (F : Fld) : Prop := ∀ G ∈ R.DST_FO_STAT_STATE :: calmFlds, F.apart G

theorem State.calm_refl (s : State) : s.Calm s := ⟨fun _ _ _ => rfl, fun _ h => h, rfl, rfl, rfl, rfl⟩

namespace State.Calm

variable {s t u : State}

theorem congr (h : s.Calm t) (hr : u.regs = t.regs) (hc : u.cfg = t.cfg) (hf : u.flt = t.flt) (hp : u.pwr = t.pwr)
    (hb : u.dev.booted = t.dev.booted) : s.Calm u where
  get F hF i := (State.get_of_regs hr F i).trans (h.get F hF i)
  fo d hd := by rw [State.get_of_regs hr]; exact h.fo d hd
  cfg := hc.trans h.cfg
  flt := hf.trans h.flt
  pwr := hp.trans h.pwr
  booted := hb.trans h.booted

section
set_option autoImplicit true
set_option relaxedAutoImplicit true

/-- A change of any other part of the state. -/
theorem hidden (h : s.Calm t) (hb : dev'.booted = t.dev.booted) :
    s.Calm (State.mk t.cfg fuse' t.regs cells' phases' law' hub' anv' book' queues' fcs' fo' t.pwr fab' ports' coef' weights'
      adm' bud' tst' adc' thm' age' cal' dev' t.flt arc' exh' fence' rsps' i3c' rings' tel' mw' cap' sec' flash' pageBuf'
      ticks' base' free' pending') :=
  h.congr rfl rfl rfl rfl hb
end

theorem set (h : s.Calm t) {F : Fld} (hF : F.calm) (i v : Nat) : s.Calm (t.set F i v) where
  get G hG j := (State.get_set_apart (hF G (List.mem_cons_of_mem _ hG)) t i v j).trans (h.get G hG j)
  fo d hd := by rw [State.get_set_apart (hF _ (List.mem_cons_self ..))]; exact h.fo d hd
  cfg := h.cfg
  flt := h.flt
  pwr := h.pwr
  booted := h.booted

/-- NORMAL and THROTTLED are no begin of darkening. -/
theorem setFo (h : s.Calm t) (k v : Nat) (hv : v < 2) : s.Calm (t.set R.DST_FO_STAT_STATE k v) where
  get G hG j := (State.get_set_apart
    ((by decide : ∀ G ∈ calmFlds, R.DST_FO_STAT_STATE.apart G) G hG) t k v j).trans (h.get G hG j)
  fo d hd := by
    by_cases hk : R.DST_FO_STAT_STATE.key k = R.DST_FO_STAT_STATE.key d
    · rw [← State.get_of_key hk, State.get_set_self _ _ _ _ (by decide)]
      exact lt_of_le_of_lt (Nat.mod_le _ _) hv
    · rw [State.get_set_ne _ _ _ _ _ _ hk]
      exact h.fo d hd
  cfg := h.cfg
  flt := h.flt
  pwr := h.pwr
  booted := h.booted

theorem each (h : s.Calm t) (l : List Nat) {f : State → Nat → State} (hf : ∀ u d, s.Calm u → s.Calm (f u d)) :
    s.Calm (t.each l f) :=
  State.each_induct s.Calm f l (fun u d _ hu => hf u d hu) t h

theorem ite {c : Prop} [Decidable c] (h : s.Calm t) (h' : s.Calm u) : s.Calm (if c then t else u) := by
  split
  · exact h
  · exact h'

theorem raiseIf (h : s.Calm t) {F : Fld} (hF : F.calm) (c : Bool) (i : Nat) : s.Calm (t.raiseIf c F i) := (h.set hF i 1).ite h

theorem updFo (h : s.Calm t) (d : Nat) (f : FoS → FoS) : s.Calm (t.updFo d f) := h.congr rfl rfl rfl rfl rfl
theorem updFc (h : s.Calm t) (d : Nat) (f : FcsS → FcsS) : s.Calm (t.updFc d f) := h.congr rfl rfl rfl rfl rfl
theorem updHub (h : s.Calm t) (d : Nat) (f : HubS → HubS) : s.Calm (t.updHub d f) := h.congr rfl rfl rfl rfl rfl
theorem updLaw (h : s.Calm t) (d : Nat) (f : LawS → LawS) : s.Calm (t.updLaw d f) := h.congr rfl rfl rfl rfl rfl
theorem updBk (h : s.Calm t) (d : Nat) (f : BookS → BookS) : s.Calm (t.updBk d f) := h.congr rfl rfl rfl rfl rfl
theorem updPort (h : s.Calm t) (d : Nat) (f : PortS → PortS) : s.Calm (t.updPort d f) := h.congr rfl rfl rfl rfl rfl

/-! #### The first boundary, its latches and its outputs -/

theorem dieFirst (h : s.Calm t) : s.Calm t.dieFirst :=
  h.each _ fun _ _ hu => ((hu.set (by decide) _ _).raiseIf (by decide) _ _).updHub _ _

theorem dieLatch (h : s.Calm t) : s.Calm t.dieLatch := by
  refine each (t := { t with bud := { t.bud with lat := some t.budNow } }) ?_ _ fun _ _ hu => hu.updFo _ _
  exact h.congr rfl rfl rfl rfl rfl

theorem sampleSkip (h : s.Calm t) (m d : Nat) : s.Calm (t.sampleSkip m d) := (h.updFo _ _).set (by decide) _ _

theorem drive (h : s.Calm t) (d : Nat) : s.Calm (t.drive d) :=
  ((((((h.updFo _ _).updFo _ _).set (by decide) _ _).set (by decide) _ _).set (by decide) _ _).set (by decide) _ _)

theorem shareMove (h : s.Calm t) : s.Calm t.shareMove := by
  unfold State.shareMove
  dsimp only
  split
  · exact h
  · next m _ =>
    have hb := h.updBk m fun b => { b with shares := t.bud.shares }
    generalize t.updBk m _ = u at hb ⊢
    split
    · exact hb.congr rfl rfl rfl rfl rfl
    · exact (hb.set (F := R.BUD_SHR2_PEND) (by decide) 0 _).congr rfl rfl rfl rfl rfl

/-! #### The Forecaster -/

theorem stage (h : s.Calm t) (k : Nat) (p : List Byte) : s.Calm (t.stage k p) := by
  have hg : ∀ F ∈ R.DST_FO_STAT_STATE :: calmFlds, ∀ i, (t.stage k p).get F i = t.get F i := fun F hF i =>
    State.stage_get ((by decide : ∀ F ∈ R.DST_FO_STAT_STATE :: calmFlds, F.apartAll stageFlds) F hF) t k p i
  obtain ⟨r, a, ha⟩ := t.stage_arcOnly k p
  exact
    { get := fun F hF i => (hg F (List.mem_cons_of_mem _ hF) i).trans (h.get F hF i)
      fo := fun d hd => by rw [hg _ (List.mem_cons_self ..)]; exact h.fo d hd
      cfg := by rw [ha]; exact h.cfg
      flt := by rw [ha]; exact h.flt
      pwr := by rw [ha]; exact h.pwr
      booted := by rw [ha]; exact h.booted }

theorem enterTr (h : s.Calm t) (d : Nat) (p : Int) (im : Nat) : s.Calm (t.enterTr d p im) :=
  ((((((((h.set (by decide) _ _).set (by decide) _ _).set (by decide) _ _).updFc _ _).set (by decide) _ _).set (by decide) _ _).set
    (by decide) _ _).stage _ _)

theorem trustCheck (h : s.Calm t) (d : Nat) (p : Int) (im : Nat) : s.Calm (t.trustCheck d p im) := by
  unfold State.trustCheck State.setSat
  dsimp only
  have h1 : ∀ a b, s.Calm ((t.set R.FCS_ERR_RERR d a).set R.FCS_ERR_LASTE d b) := fun a b =>
    (h.set (by decide) d a).set (by decide) d b
  split
  · exact ((h1 _ _).enterTr _ _ _).ite ((h1 _ _).set (by decide) _ _)
  · exact ((((h1 _ _).set (by decide) _ _).set (by decide) _ _).updFc _ _).ite ((h1 _ _).set (by decide) _ _)

theorem window (h : s.Calm t) (d : Nat) : s.Calm (t.window d) := by
  unfold State.window
  dsimp only
  refine updFc ?_ _ _
  split
  · exact h.updFc _ _
  · have h1 : ∀ (c : Bool) (f : FcsS → FcsS) (u : State), s.Calm u → s.Calm (if c = true then u.updFc d f else u) :=
      fun c f u hu => (hu.updFc _ _).ite hu
    refine ite (h1 _ _ _ (h.updFc d _)) (ite (trustCheck ?_ _ _ _) ?_)
    · exact ((h1 _ _ _ (h.updFc d _)).set (by decide) _ _).set (by decide) _ _
    · exact ((h1 _ _ _ (h.updFc d _)).set (by decide) _ _).set (by decide) _ _

theorem fcState (h : s.Calm t) : s.Calm t.fcState := by
  unfold State.fcState
  exact (h.set (by decide) _ _).ite h

theorem fcAct (h : s.Calm t) (b : Bool) : s.Calm (t.fcAct b) :=
  (h.set (F := R.ORR_STAT_FC_ACT) (by decide) 0 (if t.dev.fcRan then 1 else 0)).congr rfl rfl rfl rfl rfl

theorem fcIdle (h : s.Calm t) (d : Nat) : s.Calm (t.fcIdle d) := (h.updFc _ _).updFc _ _

theorem snapshot (h : s.Calm t) : s.Calm t.snapshot := h.congr rfl rfl rfl rfl rfl

end State.Calm

/-- In SAFE_HOLD no step of the Forecaster runs. -/
theorem State.fcState_hold (s : State) (h : s.devSt = devHold) : s.fcState.get R.FCS_STAT_STATE ≠ fcRun := by
  unfold State.fcState
  dsimp only
  split
  · rw [State.get_set_self _ _ _ _ (by decide)]
    simp [h, R.FCS_STAT_STATE]
  · next hn => simpa using fun e => hn (by simp [e])

theorem State.Calm.fcDie {s t : State} (h : s.Calm t) (hs : s.devSt = devHold) (e : List (Nat × StepErr)) :
    s.Calm (t.fcDie e) := by
  have hw : s.Calm (t.each t.districts State.window) := h.each _ fun _ _ hu => hu.window _
  have hr := State.fcState_hold (t.each t.districts State.window) ((hw.get R.PWR_STAT_DEV (by simp [calmFlds]) 0).trans hs)
  unfold State.fcDie
  dsimp only
  rw [if_neg (by simp [hr])]
  exact ((hw.fcState.fcAct _).each _ fun _ _ hu => hu.fcIdle _).snapshot

namespace State.Calm
variable {s t u : State}

/-! #### Failover and the budget -/

theorem zeroOrOne_lt (c : Prop) [Decidable c] : (if c then 0 else 1) < 2 := by
  split <;> decide

theorem throttle (h : s.Calm t) (d : Nat) : s.Calm (t.throttle d) := by
  unfold State.throttle State.setI
  dsimp only
  have h1 : ∀ a, s.Calm (t.set R.DST_FO_THR_THRQ d a) := fun a => h.set (by decide) d a
  split
  · exact h
  · split
    · exact (h1 _).setFo d 0 (by decide)
    · refine (((h1 _).set (by decide) _ _).raiseIf (by decide) _ _).setFo d _ (zeroOrOne_lt _)

theorem floorTest (h : s.Calm t) (m : List Nat) : s.Calm (t.floorTest m) :=
  h.each _ fun _ _ hu => ((hu.updFo _ _).set (by decide) _ _).set (by decide) _ _

theorem failover (h : s.Calm t) : s.Calm t.failover :=
  each (each h _ fun _ _ hu => hu.throttle _) _ fun _ _ hu => hu.floorTest _

theorem setTargets (h : s.Calm t) (l : List Nat) (d a : Nat) : s.Calm (t.setTargets l d a) := by
  unfold State.setTargets
  dsimp only
  exact (((((h.set (F := R.BUD_TRC0_TRCC) (by decide) 0 _).set (F := R.BUD_TRC0_TRCM) (by decide) 0 _).set
    (F := R.BUD_TRC1_TRCL) (by decide) 0 _).set (F := R.BUD_TRQ_TRD) (by decide) 0 _).set
    (F := R.BUD_TRQ_TRA) (by decide) 0 _).congr rfl rfl rfl rfl rfl

theorem updateTargets (h : s.Calm t) : s.Calm t.updateTargets := by
  unfold State.updateTargets State.setSat
  dsimp only
  exact ((((((h.setTargets _ _ _).raiseIf (F := R.BUD_FLT_DIEBIND) (by decide) _ 0).raiseIf (F := R.BUD_FLT_CLSBIND)
    (by decide) _ 0).raiseIf (F := R.BUD_FLT_ABSLIM) (by decide) _ 0).set (F := R.GRP_STAT_RESID) (by decide) 0 _).set
    (F := R.GRP_STAT_HOLDBK) (by decide) 0 _).hidden rfl

theorem actTarget (h : s.Calm t) (d red : Nat) : s.Calm (t.actTarget d red) := (h.set (by decide) _ _).updFo _ _

theorem allocate (h : s.Calm t) : s.Calm t.allocate := by
  have hov : R.GRP_FLT_OVR.calm := by decide
  unfold State.allocate
  dsimp only
  refine each (h.raiseIf hov _ 0) _ fun u d hu => ?_
  exact actTarget (hu.updFo d _) d _

/-! #### The die loop -/

theorem compose (h : s.Calm t) (d : Nat) : s.Calm (t.compose d) := by
  unfold State.compose State.setI State.setSat
  dsimp only
  exact ((((((((h.set (F := R.DST_COMP_GB) (by decide) d _).set (F := R.DST_COMP_GBSRC) (by decide) d _).set
    (F := R.DST_COMP_TBAND) (by decide) d _).set (F := R.DST_COMP_THM) (by decide) d _).set
    (F := R.DST_COMP_AGE) (by decide) d _).set (F := R.DST_ERR_BAR) (by decide) d _).set
    (F := R.DST_ERR_ERR) (by decide) d _).set (F := R.DST_REF_TGT) (by decide) d _).raiseIf
    (F := R.DST_FLT_BARLIFT) (by decide) _ d

theorem groupRef (h : s.Calm t) (n : Nat) (l : List Nat) : s.Calm (t.groupRef n l) := by
  unfold State.groupRef
  dsimp only
  refine each h _ fun u d hu => updHub (updLaw ?_ d _) d _
  exact (((hu.set (F := R.DST_REF_CEIL) (by decide) d _).set (F := R.DST_REF_FLR) (by decide) d _).set
    (F := R.DST_REF_GRP) (by decide) d _).raiseIf (F := R.DST_FLT_CEIL) (by decide) _ d

theorem dieLoop (h : s.Calm t) : s.Calm t.dieLoop := by
  unfold State.dieLoop
  dsimp only
  have hc := each h t.districts fun _ d hu => hu.compose d
  have hr := each hc ((t.each t.districts State.compose).districts.filter fun d =>
    ((t.each t.districts State.compose).inGroup d).head? == some d) fun u d hu =>
      hu.groupRef (t.each t.districts State.compose).dev.dper (u.inGroup d)
  exact each hr _ fun _ d hu => (hu.updLaw d _).ite hu

theorem stormRearm (h : s.Calm t) (d : Nat) : s.Calm (t.stormRearm d) := by
  unfold State.stormRearm
  dsimp only
  have h1 := h.set (F := R.DST_TH_STAT_STORMD) (by decide) d 0
  exact ((h1.set (F := R.DST_TH_STAT_STATE) (by decide) d _).ite h1).ite h

/-! #### The ports -/

theorem sendFrame (h : s.Calm t) (p ty : Nat) (pay : List Nat) : s.Calm (t.sendFrame p ty pay) :=
  (h.updPort p _).set (F := R.LNK_PSTAT_UNACK) (by decide) p _

end State.Calm

/-- The TELEM accepted before a die period boundary takes force in a port. -/
def State.telemTaken (s : State) (p : Nat) : State :=
  s.updPort p fun x => { x with vmeas := x.telNew.getD x.vmeas, telNew := none }

/-- The CAPS accepted before it take force, and a departure ends with them. -/
def State.capsTaken (s : State) (p : Nat) : State :=
  let x := s.port p
  if x.capsNew then
    let s := s.updPort p fun x =>
      { x with capsNew := false, limit := s.get R.LNK_CAPS0_ILIM p, alertHold := false, departed := false, feedBad := false,
               unsaid := false }
    if x.departed && !x.feedBad && !s.flt.injected.contains clsModloss && (List.range 4).all fun q => !(s.port q).departed
    then s.clearCause clsModloss else s
  else s

/-- SETPOINT is sent where a field of it changes. -/
def State.spSent (s : State) (p : Nat) : State :=
  let v := (s.vset p).getD 0
  let f := s.fcast p
  let nd := ((s.inZone p).filter fun d => s.dst d != 0).length
  if (s.port p).sp == some (v, f, nd) then s
  else
    let s := s.sendFrame p 0x0A (le2 v ++ le2 f ++ [nd, 0])
    ((s.updPort p fun x => { x with sp := some (v, f, nd) }).set R.LNK_SP_VSETS p v).set R.LNK_SP_FCAST p f

theorem State.portDie_eq (s : State) (p : Nat) :
    s.portDie p = if (s.telemTaken p).pst p != lkUp then s.telemTaken p else ((s.telemTaken p).capsTaken p).spSent p := rfl

namespace State.Calm
variable {s t u : State}

/-- Where the cause of MODLOSS has been injected, no port clears it. -/
theorem capsTaken (h : s.Calm t) (hm : s.flt.injected.contains clsModloss = true) (p : Nat) : s.Calm (t.capsTaken p) := by
  have hi : t.flt.injected.contains clsModloss = true := by rw [h.flt, hm]
  unfold State.capsTaken
  dsimp only
  refine ite ?_ h
  rw [if_neg (by simp only [State.updPort, hi]; simp)]
  exact h.updPort p _

theorem spSent (h : s.Calm t) (p : Nat) : s.Calm (t.spSent p) := by
  unfold State.spSent
  dsimp only
  exact h.ite ((((h.sendFrame _ _ _).updPort p _).set (F := R.LNK_SP_VSETS) (by decide) p _).set (F := R.LNK_SP_FCAST)
    (by decide) p _)

theorem portDie (h : s.Calm t) (hm : s.flt.injected.contains clsModloss = true) (p : Nat) : s.Calm (t.portDie p) := by
  have hp : s.Calm (t.telemTaken p) := h.updPort p _
  rw [State.portDie_eq]
  exact hp.ite ((hp.capsTaken hm p).spSent p)

/-! #### The whole of it -/

/-- In SAFE_HOLD no switch-on begins. -/
theorem dieSwitchOn (h : s.Calm t) (hs : s.devSt = devHold) : s.Calm t.dieSwitchOn := by
  have ht : t.devSt = devHold := (h.get R.PWR_STAT_DEV (by simp [calmFlds]) 0).trans hs
  unfold State.dieSwitchOn
  rw [if_neg (by simp [State.switchOns, ht])]
  exact h

theorem dieWork (h : s.Calm t) (hs : s.devSt = devHold) (e : List (Nat × StepErr)) (k : Nat) : s.Calm (t.dieWork false e k) := by
  unfold State.dieWork
  dsimp only
  rw [if_neg Bool.false_ne_true]
  exact (((each (each h _ fun _ d hu => hu.sampleSkip k d) _ fun _ d hu => hu.drive d).shareMove.fcDie
    hs e).failover).updateTargets.allocate

end State.Calm

/-- The die loop, the ports and the switch-ons of a die period boundary. -/
def State.dieSwitched (s : State) : State := ((s.dieLoop.liftsEnd).each s.districts State.stormRearm).diePorts.dieSwitchOn

/-- A die period boundary ahead of the end of SAFE_HOLD. -/
def State.dieToHold (s : State) : State :=
  let s := s.dieSwitched
  let clear := s.dev.entry != 0 && !s.dev.ledgerBusy
  { s with dev := { s.dev with ledgersClear := clear, ledgerBusy := !s.ledgersEmpty } }

theorem State.dieEnd_eq (s : State) :
    s.dieEnd = { s.dieToHold.holdRelease with
      dev := { s.dieToHold.holdRelease.dev with quiet := s.dieToHold.holdRelease.devSt == devQuiet } } := rfl

theorem State.Calm.dieSwitched {s t : State} (h : s.Calm t) (hs : s.devSt = devHold)
    (hm : s.flt.injected.contains clsModloss = true) : s.Calm t.dieSwitched := by
  have hl : s.Calm t.dieLoop.liftsEnd := h.dieLoop.hidden rfl
  exact dieSwitchOn (each (each hl _ fun _ d hu => hu.stormRearm d) _ fun _ p hu => hu.portDie hm p) hs

theorem State.Calm.dieToHold {s t : State} (h : s.Calm t) (hs : s.devSt = devHold)
    (hm : s.flt.injected.contains clsModloss = true) : s.Calm t.dieToHold := by
  have hd := h.dieSwitched hs hm
  unfold State.dieToHold
  exact hd.hidden rfl

end Sys2Proof.Machine

namespace Sys2Proof.Machine

/-! ### The end of SAFE_HOLD ends the waits -/

/-- A district that is ON, with no sequence in progress, and stays so at the end of BOOT. -/
def State.settled (s : State) (d : Nat) : Prop :=
  s.dst d = 2 ∧ (s.pw d).step = .idle ∧ (s.pw d).failed = false ∧ s.get R.DST_FO_STAT_STATE d < 2

theorem State.settled.bootPursue {s : State} {d : Nat} (h : s.settled d) (k : Nat) : (s.bootPursue k).settled d := by
  obtain ⟨hd, hs, hf, hq⟩ := h
  have hc : ((s.bootPursue k).pw d).course = (s.pw d).course := by
    unfold State.bootPursue
    split
    · rfl
    · exact s.pursue_course k d
  have hstep := congrArg PwrS.step hc
  have hfail := congrArg PwrS.failed hc
  exact ⟨(s.bootPursue_get (by decide) k d).trans hd, hstep.trans hs, hfail.trans hf,
    by rw [s.bootPursue_get (by decide) k d]; exact hq⟩

theorem State.endWait_swwait (s : State) (d : Nat) : (s.endWait d).get R.DST_FILL_STAT_SWWAIT d = 0 := by
  have h : ((s.updPw d fun x => { x with reqOn := none }).set R.DST_FILL_STAT_SWWAIT d 0).get R.DST_FILL_STAT_SWWAIT d = 0 :=
    State.get_set_self _ _ _ _ (by decide)
  unfold State.endWait
  dsimp only
  split
  · exact h
  · rw [State.get_set_apart (by decide), h]

theorem State.endWait_keeps_swwait (s : State) (k d : Nat) (h : s.get R.DST_FILL_STAT_SWWAIT d = 0) :
    (s.endWait k).get R.DST_FILL_STAT_SWWAIT d = 0 := by
  have h' : ((s.updPw k fun x => { x with reqOn := none }).set R.DST_FILL_STAT_SWWAIT k 0).get R.DST_FILL_STAT_SWWAIT d = 0 :=
    State.get_set_zero (by decide) h k
  unfold State.endWait
  dsimp only
  split
  · exact h'
  · rw [State.get_set_apart (by decide), h']

theorem State.bootPursue_swwait {s : State} {d : Nat} (h : s.settled d) : (s.bootPursue d).get R.DST_FILL_STAT_SWWAIT d = 0 := by
  obtain ⟨hd, hs, hf, hq⟩ := h
  unfold State.bootPursue State.pursue
  rw [if_neg (by simp [State.seqBusy, hs, hf, hq])]
  exact (congrArg (fun u : State => u.get R.DST_FILL_STAT_SWWAIT d) (if_pos hd)).trans
    (State.endWait_swwait (s.updPw d fun x => { x with latchAt := none }) d)

theorem State.bootPursue_keeps_swwait (s : State) (k d : Nat) (h : s.get R.DST_FILL_STAT_SWWAIT d = 0) :
    (s.bootPursue k).get R.DST_FILL_STAT_SWWAIT d = 0 := by
  have hw := State.endWait_keeps_swwait (s.updPw k fun x => { x with latchAt := none }) k d h
  unfold State.bootPursue State.pursue
  split
  · exact h
  · dsimp only
    split
    · exact hw
    · split
      · exact h
      · exact hw

theorem State.bootRecords_arcOnly (s : State) : s.bootStarted.arcOnly s.bootRecords := by
  unfold State.bootRecords
  split
  · exact State.stage_arcOnly _ _ _
  · exact s.bootStarted.arcOnly_refl

theorem State.bootRecords_pwr (s : State) : s.bootRecords.pwr = s.pwr := by
  obtain ⟨r, a, h⟩ := s.bootRecords_arcOnly
  obtain ⟨r', a', h'⟩ := State.stage_arcOnly (s.bootTimed.2.set R.IMG_BOOT_DUR 0 s.bootTimed.1) 0x01 s.bootTimed.2.startRec
  rw [h, State.bootStarted, h']
  rfl

theorem State.bootRecords_cfg (s : State) : s.bootRecords.cfg = s.cfg := by
  obtain ⟨r, a, h⟩ := s.bootRecords_arcOnly
  obtain ⟨r', a', h'⟩ := State.stage_arcOnly (s.bootTimed.2.set R.IMG_BOOT_DUR 0 s.bootTimed.1) 0x01 s.bootTimed.2.startRec
  rw [h, State.bootStarted, h']
  rfl

theorem State.bootDone_swwait {s : State} {d : Nat} (hn : d < s.cfg.n) (h : s.settled d) :
    s.bootDone.get R.DST_FILL_STAT_SWWAIT d = 0 := by
  obtain ⟨hd, hs, hf, hq⟩ := h
  have hp : s.bootRecords.pw d = s.pw d := State.pw_of_pwr s.bootRecords_pwr d
  have hr : s.bootRecords.settled d :=
    ⟨(s.bootRecords_get (by decide) d).trans hd, by rw [hp, hs], by rw [hp, hf],
      by rw [s.bootRecords_get (by decide) d]; exact hq⟩
  have hm : d ∈ s.bootRecords.districts := by
    rw [State.districts, s.bootRecords_cfg]
    exact List.mem_range.mpr hn
  rw [State.bootDone_eq]
  exact State.each_reaches (State.settled · d) (fun t => t.get R.DST_FILL_STAT_SWWAIT d = 0) State.bootPursue d
    (fun _ k ht => ht.bootPursue k) (fun _ ht => State.bootPursue_swwait ht) (fun t k ht => t.bootPursue_keeps_swwait k d ht)
    _ _ hm hr

theorem State.booted_swwait {s : State} {d : Nat} (hn : d < s.cfg.n) (h : s.settled d) :
    s.booted.get R.DST_FILL_STAT_SWWAIT d = 0 := by
  rw [State.booted, State.reachRun_get (by decide), State.bootDone_swwait hn h]

/-! ### A register file that is too small -/

/-- The fill status of district 205 stands in the word of the actuator status of district 0: the page of the one and the bank
of the other meet beyond the 64 districts of R3. -/
theorem fillStat_key_205 : R.DST_FILL_STAT_SWWAIT.key 205 = R.BUD_DACT_RED.key 0 := by decide

theorem bitsOf_top_zero (x : Word) (h : bitsOf x 31 1 = 0) : bitsOf x 20 12 < 2 ^ 11 := by
  have hx := x.isLt
  simp only [bitsOf, BitVec.toNat_ushiftRight, Nat.shiftRight_eq_div_pow] at h ⊢
  omega

/-- Without a wait of district 205, RED of district 0 shows no more than 11 bits. -/
theorem State.red_lt_of_swwait (s : State) (h : s.get R.DST_FILL_STAT_SWWAIT 205 = 0) : s.get R.BUD_DACT_RED 0 < 2 ^ 11 := by
  have hk : s.word (R.BUD_DACT_RED.key 0) 0 = s.word (R.DST_FILL_STAT_SWWAIT.key 205) 0 := by rw [fillStat_key_205]
  exact bitsOf_top_zero _ (by rw [show R.BUD_DACT_RED.rst = 0 from rfl, hk]; exact h)

/-- The die period that begins is counted. -/
def State.dieCounted (s : State) : State := { s with dev := { s.dev with die := (s.dev.dper - 1) / 10 + 1 } }

/-- The first die period boundary, up to the end of SAFE_HOLD. -/
def State.firstToHold (s : State) (e : List (Nat × StepErr)) (k : Nat) : State :=
  (s.dieCounted.dieFirst.dieLatch.dieWork false e k).dieToHold

/-- The first die period boundary, from the end of SAFE_HOLD on. -/
def State.firstReleased (s : State) (e : List (Nat × StepErr)) (k : Nat) : State := (s.firstToHold e k).holdRelease

theorem effDiePeriod_first (s : State) (e : List (Nat × StepErr)) (k : Nat) (hr : s.dev.orrRun = true) (hp : s.dev.dper = 1)
    (hd : s.dev.die = 0) (hg : s.dev.gated = false) :
    effDiePeriod s e k = { s.firstReleased e k with
      dev := { (s.firstReleased e k).dev with quiet := (s.firstReleased e k).devSt == devQuiet } } := by
  have hk : (s.dev.dper - 1) / 10 = 0 := by rw [hp]
  have hk' : ((s.dev.dper - 1) / 10 != 0) = false := by simp [hk]
  have hgd : s.dieCounted.dev.gated ≠ true := by simp [State.dieCounted, hg]
  have h1 : effDiePeriod s e k = (((if (s.dev.dper - 1) / 10 = 0 then s.dieCounted.dieFirst else
      s.dieCounted.dieClose).dieLatch).dieWork ((s.dev.dper - 1) / 10 != 0) e k).dieEnd := by
    unfold effDiePeriod
    rw [if_neg (by simp [hr, hp, hd])]
    exact if_neg hgd
  rw [h1, if_pos hk, hk', State.dieEnd_eq]
  rfl

/-- A SAFE_HOLD that cut BOOT short, at the first die period boundary, with the cause of MODLOSS injected and no cause of HOLD
standing. -/
structure State.HoldEnds (s : State) : Prop where
  run : s.dev.orrRun = true
  dper : s.dev.dper = 1
  die : s.dev.die = 0
  gated : s.dev.gated = false
  booted : s.dev.booted = false
  hold : s.devSt = devHold
  causes : s.standing 2 = false
  injected : s.flt.injected.contains clsModloss = true

/-- SAFE_HOLD as its end begins. -/
def State.holdLeft (s : State) : State := (s.set R.FLT_STAT_STATE 0 0).set R.ORR_STAT_NODIST 0 0

theorem State.holdLeft_get {F : Fld} (h : F.apartAll [R.FLT_STAT_STATE, R.ORR_STAT_NODIST]) (s : State) (i : Nat) :
    s.holdLeft.get F i = s.get F i := by
  rw [State.holdLeft, State.get_set_apart (h R.ORR_STAT_NODIST (by simp)), State.get_set_apart (h R.FLT_STAT_STATE (by simp))]

theorem State.holdRelease_boot (s : State) (hd : s.devSt = devHold) (hs : s.standing 2 = false) (hb : s.dev.booted = false) :
    s.holdRelease = s.holdLeft.booted := by
  unfold State.holdRelease
  rw [if_pos (by simp [hd, hs])]
  exact congrArg State.reachRun (if_neg (by simp [State.set_dev, hb]))

namespace State.HoldEnds
variable {s : State}

/-- Nothing ahead of the end of SAFE_HOLD alters what that end reads. -/
theorem calm (h : s.HoldEnds) (e : List (Nat × StepErr)) (k : Nat) : s.Calm (s.firstToHold e k) :=
  have h0 : s.Calm s.dieCounted := s.calm_refl.hidden rfl
  (h0.dieFirst.dieLatch.dieWork h.hold e k).dieToHold h.hold h.injected

/-- The boundary ends SAFE_HOLD, and with it BOOT. -/
theorem released (h : s.HoldEnds) (e : List (Nat × StepErr)) (k : Nat) :
    s.firstReleased e k = (s.firstToHold e k).holdLeft.booted := by
  have hc := h.calm e k
  refine State.holdRelease_boot _ ((hc.get R.PWR_STAT_DEV (by simp [calmFlds]) 0).trans h.hold) ?_ (hc.booted.trans h.booted)
  exact (State.standing_congr (hc.get R.FLT_CAUSE_CAUSE (by simp [calmFlds]) 0) (by rw [hc.flt]) (by rw [hc.flt]) 2).trans h.causes

theorem get_after (h : s.HoldEnds) (e : List (Nat × StepErr)) (k : Nat) (F : Fld) (i : Nat) :
    (effDiePeriod s e k).get F i = (s.firstToHold e k).holdLeft.booted.get F i := by
  rw [effDiePeriod_first s e k h.run h.dper h.die h.gated, State.get_with (s.firstReleased e k), h.released]

/-- The thermal requests stand through the die period. -/
theorem th_after (h : s.HoldEnds) (e : List (Nat × StepErr)) (k d : Nat) :
    (effDiePeriod s e k).get R.THM_DLVL_TH d = s.get R.THM_DLVL_TH d := by
  rw [h.get_after, State.booted_get (by decide), State.holdLeft_get (by decide), (h.calm e k).get _ (by simp [calmFlds])]

/-- A settled district waits for no switch-on behind the end of BOOT. -/
theorem swwait_after (h : s.HoldEnds) (e : List (Nat × StepErr)) (k : Nat) {d : Nat} (hn : d < s.cfg.n) (hs : s.settled d) :
    (effDiePeriod s e k).get R.DST_FILL_STAT_SWWAIT d = 0 := by
  have hc := h.calm e k
  obtain ⟨hd, hstep, hf, hq⟩ := hs
  have hp : (s.firstToHold e k).holdLeft.pw d = s.pw d := State.pw_of_pwr hc.pwr d
  have hcfg : (s.firstToHold e k).holdLeft.cfg = s.cfg := hc.cfg
  rw [h.get_after]
  refine State.booted_swwait (by rw [hcfg]; exact hn) ⟨?_, by rw [hp, hstep], by rw [hp, hf], ?_⟩
  · exact (State.holdLeft_get (by decide) _ d).trans ((hc.get R.PWR_DSTAT_STATE (by simp [calmFlds]) d).trans hd)
  · rw [State.holdLeft_get (by decide)]
    exact hc.fo d hq

end State.HoldEnds

/-- Integration data of 206 districts, all in one zone. -/
def wideInteg : Integ := { Integ.zk08 with n := 206 }

/-- A block of that size in a SAFE_HOLD that cut BOOT short, at the first die period boundary: no cause of it stands any
longer, district 205 is ON, and the thermal request of district 0 is 0xFFF. -/
def wideHold : State :=
  { (((State.resetOf wideInteg []).set R.PWR_STAT_DEV 0 devHold).set R.PWR_DSTAT_STATE 205 2).set R.THM_DLVL_TH 0 0xFFF with
    dev := { orrRun := true, dper := 1 }, flt := { injected := [clsModloss] } }

theorem wideHold_holdEnds : wideHold.HoldEnds := ⟨rfl, rfl, rfl, rfl, rfl, by decide, by decide, by decide⟩

theorem wideHold_settled : wideHold.settled 205 := ⟨by decide, rfl, rfl, by decide⟩

theorem wideHold_th : wideHold.get R.THM_DLVL_TH 0 = 0xFFF := by decide

/-- Refutes O20: of every state, those with more than the 64 districts of R3 included, it says that a DIE_PERIOD
leaves RED of each district at the largest of its requests, cut at 0xFFF. With 206 districts the bank of BUD_DACT and the page
of DST_FILL_STAT share the word of district 0 and district 205, and the switch-on wait of district 205 that ends behind
the allocation clears the top bit of RED of district 0, whose thermal request is 0xFFF. -/
theorem not_periodsAreCountedWhileTheOrreryRuns : ¬ Obligations.PeriodsAreCountedWhileTheOrreryRuns := by
  rintro ⟨-, -, -, -, -, -, -, hdie, -, -⟩
  obtain ⟨t, ht, -, -, hred⟩ := hdie wideHold [] 0 rfl rfl Nat.one_pos rfl (Nat.le_refl 0)
  have he : effDiePeriod wideHold [] 0 = t := Host.Outcome.next.inj ht
  have hth := (wideHold_holdEnds.th_after [] 0 0).trans wideHold_th
  have hlt := State.red_lt_of_swwait _ (wideHold_holdEnds.swwait_after [] 0 (by decide : 205 < 206) wideHold_settled)
  rw [he] at hth hlt
  obtain ⟨hred, -⟩ := hred 0 (by decide)
  omega

end Sys2Proof.Machine

namespace Sys2Proof.Machine

/-! ### The state after reset -/

/-- The integration data that the model's reset stands for is within the limits of R46. -/
theorem zk08_wf : Integ.zk08.wf = true := by decide

/-- The reset state is in canonical form where its flash is: one register word is listed. -/
theorem State.resetOf_canonical (c : Integ) (flash : List Host.Cell) (h : memWf flash = true) :
    (State.resetOf c flash).canonical = true :=
  Bool.and_eq_true_iff.mpr ⟨rfl, h⟩

/-- Settles O2: the flash of the reset state is erased, no secret is held, and the integration data is that of a ZK2400-08. -/
theorem resetIsCanonical : Obligations.ResetIsCanonical :=
  ⟨zk08_wf, State.resetOf_canonical Integ.zk08 [] rfl, rfl, rfl, rfl⟩

end Sys2Proof.Machine

namespace Sys2Proof.Machine

/-! ### Bits of a field, tables of cells, and reports -/

/-- A bit cleared in a field does not show. -/
theorem State.testBit_clearBit (s : State) (F : Fld) (i b : Nat) (hw : F.lo + F.w ≤ 32) :
    ((s.clearBit F i b).get F i).testBit b = false := by
  unfold State.clearBit
  split
  · next h => rw [State.get_set_self _ _ _ _ hw, Nat.testBit_mod_two_pow, testBit_sub_two_pow _ _ h, Bool.and_false]
  · next h => simpa using h

theorem State.clearBit_get {F G : Fld} (h : F.apart G) (s : State) (i b j : Nat) : (s.clearBit F i b).get G j = s.get G j := by
  unfold State.clearBit
  split
  · exact State.get_set_apart h _ _ _ _
  · rfl

theorem State.raiseBit_get {F G : Fld} (h : F.apart G) (s : State) (i b j : Nat) : (s.raiseBit F i b).get G j = s.get G j :=
  State.get_set_apart h _ _ _ _

theorem State.raise_get {F G : Fld} (h : F.apart G) (s : State) (i j : Nat) : (s.raise F i).get G j = s.get G j :=
  State.get_set_apart h _ _ _ _

theorem State.clearBit_framed (s t : State) (ks : List Nat) (F : Fld) (i b : Nat) (h : s.framed t ks) (hk : F.key i ∈ ks) :
    s.framed (t.clearBit F i b) ks := by
  unfold State.clearBit
  split
  · exact State.framed_set _ _ _ _ _ _ h hk
  · exact h

theorem State.report_get (s : State) (cls cause src : Nat) (F : Fld) (i : Nat) :
    (s.report cls cause src).get F i = s.get F i := by
  unfold State.report
  split <;> rfl

/-- The entry of a table after a change of one entry. -/
theorem tabAt_tabUpd {α : Type} [Inhabited α] (t : Tab α) (k : Nat) (f : α → α) (j : Nat) :
    tabAt (tabUpd t k f) j = if k = j then f (tabAt t j) else tabAt t j := by
  unfold tabUpd
  split
  · next h => subst h; simp [tabAt]
  · next h => simp [tabAt, tabGet_put_ne _ _ _ _ h]

theorem foldl_max_lt_iff (l : List Nat) (b m : Nat) : l.foldl max b < m ↔ b < m ∧ ∀ x ∈ l, x < m := by
  induction l generalizing b with
  | nil => simp
  | cons x l ih => simp [ih, and_assoc]

end Sys2Proof.Machine

namespace Sys2Proof.Machine

/-! ### An anvil cell enters a state -/

theorem anvStat_key_ne {a b : Nat} (h : a ≠ b) : R.ANV_STAT_STATE.key a ≠ R.ANV_STAT_STATE.key b := by
  simp only [Fld.key, R.ANV_STAT_STATE]
  omega

/-- The register part of an entry: ANV_STAT, and the cell's bit of ANV_RDY. -/
def State.anvShown (s : State) (a st : Nat) : State :=
  let t := (s.set R.ANV_STAT_STATE a st).set R.ANV_STAT_VST a (tabAt s.anv a : AnvS).vst
  if st = aReady then t.raiseBit R.DST_TH_STAT_ANV_RDY (a / 4) (a % 4) else t.clearBit R.DST_TH_STAT_ANV_RDY (a / 4) (a % 4)

/-- An anvil cell whose counts have restarted. -/
def AnvS.restarted (x : AnvS) : AnvS := { x with win := [], leak := 0, relNs := 0, chg := 0, cur := 0 }

theorem State.setAnv_eq (s : State) (a st : Nat) : s.setAnv a st = (s.anvShown a st).updAnv a AnvS.restarted := rfl

theorem State.anvShown_with (s : State) (a st : Nat) : s.anvShown a st = { s with regs := (s.anvShown a st).regs } := by
  unfold State.anvShown State.raiseBit State.clearBit
  dsimp only
  split
  · rfl
  · split <;> rfl

theorem State.setAnv_with (s : State) (a st : Nat) :
    s.setAnv a st = { s with regs := (s.setAnv a st).regs, anv := (s.setAnv a st).anv } := by
  rw [State.setAnv_eq, State.anvShown_with]
  rfl

theorem State.setAnv_hub (s : State) (a st : Nat) : (s.setAnv a st).hub = s.hub := by
  rw [State.setAnv_with]

theorem State.setAnv_flt (s : State) (a st : Nat) : (s.setAnv a st).flt = s.flt := by
  rw [State.setAnv_with]

/-- ANV_RDY stands beside every other field of an entry. -/
theorem State.anvShown_get {F : Fld} (h : R.DST_TH_STAT_ANV_RDY.apart F) (s : State) (a st i : Nat) :
    (s.anvShown a st).get F i =
      ((s.set R.ANV_STAT_STATE a st).set R.ANV_STAT_VST a (tabAt s.anv a : AnvS).vst).get F i := by
  unfold State.anvShown
  dsimp only
  split
  · exact State.raiseBit_get h _ _ _ _
  · exact State.clearBit_get h _ _ _ _

theorem State.setAnv_ast (s : State) (a st : Nat) (h : st < 8) : (s.setAnv a st).ast a = st := by
  rw [State.ast, State.setAnv_eq, State.updAnv_get, State.anvShown_get (by decide), State.get_set_apart (by decide),
    State.get_set_self _ _ _ _ (by decide)]
  exact Nat.mod_eq_of_lt h

/-- The other anvil cells stay where they are. -/
theorem State.setAnv_ast_ne (s : State) {a b : Nat} (st : Nat) (h : a ≠ b) : (s.setAnv a st).ast b = s.ast b := by
  rw [State.ast, State.setAnv_eq, State.updAnv_get, State.anvShown_get (by decide), State.get_set_apart (by decide),
    State.get_set_ne _ _ _ _ _ _ (anvStat_key_ne h)]
  rfl

/-- Only READY sets the bit of ANV_RDY. -/
theorem State.setAnv_rdy (s : State) (a st : Nat) :
    ((s.setAnv a st).get R.DST_TH_STAT_ANV_RDY (a / 4)).testBit (a % 4) = decide (st = aReady) := by
  rw [State.setAnv_eq, State.updAnv_get]
  unfold State.anvShown
  dsimp only
  split
  · next h => exact (State.testBit_raiseBit _ _ _ _ (by decide) (Nat.mod_lt a (by decide))).trans (decide_eq_true h).symm
  · next h => rw [State.testBit_clearBit _ _ _ _ (by decide), decide_eq_false h]

theorem State.setAnv_anv (s : State) (a st b : Nat) :
    (tabAt (s.setAnv a st).anv b : AnvS) = if a = b then (tabAt s.anv b : AnvS).restarted else tabAt s.anv b := by
  rw [State.setAnv_eq, State.anvShown_with]
  exact tabAt_tabUpd _ _ _ _

/-- The two registers that an entry writes. -/
abbrev anvKeys (a : Nat) : List Nat := [R.ANV_STAT_STATE.key a, R.DST_TH_STAT_ANV_RDY.key (a / 4)]

theorem State.setAnv_framed {s t : State} {ks : List Nat} (h : s.framed t ks) (a st : Nat) (hk : ∀ k ∈ anvKeys a, k ∈ ks) :
    s.framed (t.setAnv a st) ks := by
  have h1 : R.ANV_STAT_STATE.key a ∈ ks := hk _ (by simp)
  have h2 : R.DST_TH_STAT_ANV_RDY.key (a / 4) ∈ ks := hk _ (by simp)
  have hs := State.framed_set _ _ _ R.ANV_STAT_VST a (tabAt t.anv a : AnvS).vst
    (State.framed_set _ _ _ R.ANV_STAT_STATE a st h h1) h1
  rw [State.setAnv_eq]
  refine State.framed_congr _ (t.anvShown a st) _ _ ?_ rfl
  unfold State.anvShown
  dsimp only
  split
  · exact State.framed_set _ _ _ _ _ _ hs h2
  · exact State.clearBit_framed _ _ _ _ _ _ hs h2

/-! ### The table of an anvil cell -/

/-- `t` differs from `s` in the state of the one anvil cell alone, which is `st`. -/
structure State.AnvEntered (s : State) (a st : Nat) (t : State) : Prop where
  ast : t.ast a = st
  rdy : (t.get R.DST_TH_STAT_ANV_RDY (a / 4)).testBit (a % 4) = decide (st = aReady)
  only : t = { s with regs := t.regs, anv := t.anv }
  framed : s.framed t (anvKeys a)

theorem State.setAnv_entered (s : State) (a st : Nat) (h : st < 8) : s.AnvEntered a st (s.setAnv a st) where
  ast := s.setAnv_ast a st h
  rdy := s.setAnv_rdy a st
  only := s.setAnv_with a st
  framed := State.setAnv_framed (s.framed_refl _) a st fun _ hk => hk

/-- A change of the anvil cells before the entry makes no difference. -/
theorem State.AnvEntered.of_updAnv {s t : State} {a b st : Nat} {f : AnvS → AnvS} (h : (s.updAnv b f).AnvEntered a st t) :
    s.AnvEntered a st t where
  ast := h.ast
  rdy := h.rdy
  only := h.only
  framed := fun k r hk => h.framed k r hk

theorem State.anvCharging_iff (s : State) (a : Nat) : s.anvCharging a = true ↔ s.ast a = aCharging ∨ s.ast a = aRecharge := by
  simp [State.anvCharging]

/-- A cell that does not charge, or has not met a condition, meets no rule that asks for both. -/
theorem State.not_anvCharging_and {s : State} {a : Nat} {p : Prop} [Decidable p]
    (h : (s.ast a ≠ aCharging ∧ s.ast a ≠ aRecharge) ∨ ¬p) : ¬(s.anvCharging a && decide p) = true := by
  rw [Bool.and_eq_true, decide_eq_true_iff, State.anvCharging_iff]
  rintro ⟨hc, hp⟩
  rcases h with ⟨h1, h2⟩ | h
  · exact hc.elim h1 h2
  · exact h hp

theorem onAnv_next {s : State} {a : Nat} (ha : a < 4 * s.cfg.n) (t : State) : onAnv s a t = .next t :=
  congrArg Host.Outcome.next (if_pos ha)

theorem anvilCharged_ready (s : State) (a vst vfeed : Nat) (ha : a < 4 * s.cfg.n)
    (hc : s.ast a = aCharging ∨ s.ast a = aRecharge) (hv : vfeed ≤ vst + 80) :
    ∃ t, exec (.anvilCharged a vst vfeed) s = .next t ∧ s.AnvEntered a aReady t := by
  have he : effAnvCharged s a vst vfeed = (s.updAnv a fun x => { x with vst := vst }).setAnv a aReady :=
    if_pos (by simp [(s.anvCharging_iff a).mpr hc, hv])
  exact ⟨_, (onAnv_next ha _).trans (congrArg Host.Outcome.next he), (State.setAnv_entered _ a aReady (by decide)).of_updAnv⟩

theorem anvilCharged_short (s : State) (a vst vfeed : Nat) (ha : a < 4 * s.cfg.n)
    (h : (s.ast a ≠ aCharging ∧ s.ast a ≠ aRecharge) ∨ vst + 80 < vfeed) :
    exec (.anvilCharged a vst vfeed) s = .next s :=
  (onAnv_next ha _).trans (congrArg Host.Outcome.next (if_neg (State.not_anvCharging_and (h.imp_right Nat.not_le.mpr))))

/-- The end of a release is an entry into recharge, with its length. -/
theorem State.anvRelEnd_release (s : State) (a ns : Nat) (h : s.ast a = aRelease) :
    s.anvRelEnd a ns = (s.setAnv a aRecharge).set R.ANV_STAT_LASTLEN a (min ns 40) := if_pos (by simp [h])

theorem State.AnvEntered.setLastlen {s t : State} {a st : Nat} (h : s.AnvEntered a st t) (v : Nat) :
    s.AnvEntered a st (t.set R.ANV_STAT_LASTLEN a v) where
  ast := (State.get_set_apart (F := R.ANV_STAT_LASTLEN) (G := R.ANV_STAT_STATE) (by decide) _ _ _ _).trans h.ast
  rdy := by rw [State.get_set_apart (by decide), h.rdy]
  only := by conv_lhs => rw [h.only]
             rfl
  framed := State.framed_set _ _ _ _ _ _ h.framed (by simp [Fld.key, R.ANV_STAT_STATE, R.ANV_STAT_LASTLEN])

theorem anvilReleaseEnd_ends (s : State) (a ns vst : Nat) (ha : a < 4 * s.cfg.n) (hr : s.ast a = aRelease)
    (h1 : (tabAt s.anv a : AnvS).relNs ≤ ns) (h2 : ns ≤ (tabAt s.anv a : AnvS).relNs + 5)
    (he : 40 ≤ ns ∨ vst ≤ s.anvFloor a ∨ s.thSt (a / 4) ≠ thFired) :
    ∃ t, exec (.anvilReleaseEnd a ns vst) s = .next t ∧ t.get R.ANV_STAT_LASTLEN a = min ns 40 ∧
      s.AnvEntered a aRecharge t := by
  have heff : effAnvRelease s a ns vst = (s.updAnv a fun x => { x with vst := vst }).anvRelEnd a ns :=
    if_pos (by simpa [hr, h1, h2, or_assoc] using he)
  have hend := (s.updAnv a fun x => { x with vst := vst }).anvRelEnd_release a ns hr
  refine ⟨_, (onAnv_next ha _).trans (congrArg Host.Outcome.next (heff.trans hend)), ?_,
    (State.setAnv_entered _ a aRecharge (by decide)).of_updAnv.setLastlen _⟩
  rw [State.get_set_self _ _ _ _ (by decide)]
  exact Nat.mod_eq_of_lt (lt_of_le_of_lt (Nat.min_le_right ns 40) (by decide))

theorem anvilReleaseEnd_goes_on (s : State) (a ns vst : Nat) (ha : a < 4 * s.cfg.n)
    (h : s.ast a ≠ aRelease ∨ (ns < 40 ∧ s.anvFloor a < vst ∧ s.thSt (a / 4) = thFired)) :
    exec (.anvilReleaseEnd a ns vst) s = .next s := by
  refine (onAnv_next ha _).trans (congrArg Host.Outcome.next (if_neg ?_))
  rcases h with h | ⟨h1, h2, h3⟩
  · simp [h]
  · simp [h1, h2, h3]

theorem anvilLeakRecharge_full (s : State) (a : Nat) (ha : a < 4 * s.cfg.n) (hr : s.ast a = aReady)
    (hl : (tabAt s.anv a : AnvS).leak = 200) :
    ∃ t, exec (.anvilLeakRecharge a) s = .next t ∧ s.AnvEntered a aRecharge t := by
  have he : effAnvLeak s a = s.setAnv a aRecharge := if_pos (by simp [hr, hl])
  exact ⟨_, (onAnv_next ha _).trans (congrArg Host.Outcome.next he), s.setAnv_entered a aRecharge (by decide)⟩

/-! ### An anvil cell fails -/

/-- The fields that the failure of an anvil cell writes. -/
def anvFailFlds : List Fld := R.ANV_FLT_ANVFAIL :: R.DST_FLT_ANVFAIL :: anvilFlds

theorem State.anvFail_get {F : Fld} (h : F.apartAll anvFailFlds) (s : State) (a i : Nat) :
    (s.anvFail a).get F i = s.get F i := by
  have h1 := h R.ANV_FLT_ANVFAIL (by simp [anvFailFlds])
  have h2 := h R.DST_FLT_ANVFAIL (by simp [anvFailFlds])
  have ha : F.apartAll anvilFlds := fun G hG => h G (by simp [anvFailFlds, hG])
  unfold State.anvFail
  rw [State.report_get, State.raise_get h2, State.raise_get h1, State.setAnv_get ha]

theorem State.anvFail_ast (s : State) (a b : Nat) : (s.anvFail a).ast b = (s.setAnv a aFailed).ast b := by
  unfold State.anvFail State.ast
  rw [State.report_get, State.raise_get (by decide), State.raise_get (by decide)]

theorem State.report_with (s : State) (cls cause src : Nat) :
    s.report cls cause src = { s with flt := (s.report cls cause src).flt } := by
  unfold State.report
  split <;> rfl

theorem State.anvFail_hub (s : State) (a : Nat) : (s.anvFail a).hub = s.hub := by
  rw [State.anvFail, State.report_with]
  exact s.setAnv_hub a _

theorem State.anvFail_pwr (s : State) (a : Nat) : (s.anvFail a).pwr = s.pwr := by
  rw [State.anvFail, State.report_with]
  exact s.setAnv_pwr a _

theorem State.anvFail_anv (s : State) (a : Nat) : (s.anvFail a).anv = (s.setAnv a aFailed).anv := by
  rw [State.anvFail, State.report_with]
  rfl

theorem anvilChargeTimeout_fails (s : State) (a : Nat) (ha : a < 4 * s.cfg.n) (hc : s.ast a = aCharging ∨ s.ast a = aRecharge)
    (ht : 2 * s.get R.ANV_CFG_CHG_TMO ≤ (tabAt s.anv a : AnvS).chg) (hm : (srcOf 3 a, clsAnvil) ∉ s.flt.masked) :
    ∃ t, exec (.anvilChargeTimeout a) s = .next t ∧ t.ast a = aFailed ∧ t.get R.ANV_FLT_ANVFAIL = 1 ∧
      t.get R.DST_FLT_ANVFAIL (a / 4) = 1 ∧
      t.flt.lines = s.flt.lines ++ [{ cls := clsAnvil, cause := 0, src := srcOf 3 a }] ∧ t.kept = s.kept ∧
      s.framed t [R.ANV_STAT_STATE.key a, R.DST_TH_STAT_ANV_RDY.key (a / 4), R.ANV_FLT_ANVFAIL.key 0,
        R.DST_FLT_ANVFAIL.key (a / 4)] := by
  have he : effAnvTimeout s a = s.anvFail a := if_pos (by simp [(s.anvCharging_iff a).mpr hc, ht])
  have hflt : (((s.setAnv a aFailed).raise R.ANV_FLT_ANVFAIL).raise R.DST_FLT_ANVFAIL (a / 4)).flt = s.flt := s.setAnv_flt a _
  refine ⟨_, (onAnv_next ha _).trans (congrArg Host.Outcome.next he), ?_, ?_, ?_, ?_, s.anvFail_kept a, ?_⟩
  · rw [State.anvFail_ast, State.setAnv_ast _ _ _ (by decide)]
  · unfold State.anvFail
    rw [State.report_get, State.raise_get (by decide), State.raise, State.get_set_self _ _ _ _ (by decide)]
    rfl
  · unfold State.anvFail
    rw [State.report_get, State.raise, State.get_set_self _ _ _ _ (by decide)]
    rfl
  · unfold State.anvFail
    rw [State.report_lines _ _ _ _ (by rwa [hflt]), hflt]
  · have hent := State.setAnv_framed (s.framed_refl [R.ANV_STAT_STATE.key a, R.DST_TH_STAT_ANV_RDY.key (a / 4),
      R.ANV_FLT_ANVFAIL.key 0, R.DST_FLT_ANVFAIL.key (a / 4)]) a aFailed (by simp)
    exact State.framed_congr _ _ _ _ (State.framed_set _ _ _ R.DST_FLT_ANVFAIL (a / 4) 1
      (State.framed_set _ _ _ R.ANV_FLT_ANVFAIL 0 1 hent (by simp)) (by simp)) (State.report_regs _ _ _ _)

theorem anvilChargeTimeout_short (s : State) (a : Nat) (ha : a < 4 * s.cfg.n)
    (h : (s.ast a ≠ aCharging ∧ s.ast a ≠ aRecharge) ∨ (tabAt s.anv a : AnvS).chg < 2 * s.get R.ANV_CFG_CHG_TMO) :
    exec (.anvilChargeTimeout a) s = .next s :=
  (onAnv_next ha _).trans (congrArg Host.Outcome.next (if_neg (State.not_anvCharging_and (h.imp_right Nat.not_le.mpr))))

end Sys2Proof.Machine

namespace Sys2Proof.Machine

/-! ### The conditions of R156 -/

/-- The fields that the conditions of R156 read. -/
def armFlds : List Fld := [R.PWR_DSTAT_STATE, R.DST_SSUSP0_SUSP, R.DST_SSUSP1_SUSP, R.PWR_STAT_DEV, R.DST_TH_STAT_STORMD]

theorem State.armOk_congr {s t : State} {d : Nat} (hg : ∀ F ∈ armFlds, ∀ i, t.get F i = s.get F i) (hp : t.pwr = s.pwr)
    (hh : (t.hubOf d).ret = (s.hubOf d).ret) : t.armOk d = s.armOk d := by
  have hsusp (k : Nat) : t.suspect d k = s.suspect d k := by
    have hF : suspFld (k / 32) ∈ armFlds := by
      unfold suspFld
      split <;> simp [armFlds]
    rw [State.suspect, hg _ hF, State.suspect]
  have hvalid : t.validSensors d = s.validSensors d := by
    simp only [State.validSensors, State.retired, hh, hsusp]
  have hdev : t.devSt = s.devSt := hg R.PWR_STAT_DEV (by simp [armFlds]) 0
  have hon : t.isOn d = s.isOn d := congrArg (· == 2) (hg R.PWR_DSTAT_STATE (by simp [armFlds]) d)
  have hstorm : t.flag R.DST_TH_STAT_STORMD d = s.flag R.DST_TH_STAT_STORMD d :=
    congrArg (· != 0) (hg R.DST_TH_STAT_STORMD (by simp [armFlds]) d)
  unfold State.armOk
  rw [hvalid, hdev, hon, hstorm, hp]

theorem State.hubOf_updHub (s : State) (d : Nat) (f : HubS → HubS) : (s.updHub d f).hubOf d = f (s.hubOf d) :=
  (tabAt_tabUpd _ _ _ _).trans (if_pos rfl)

theorem State.updHub_anv (s : State) (d : Nat) (f : HubS → HubS) : (s.updHub d f).anv = s.anv := rfl

/-- The suspect tests leave the retirements. -/
theorem suspCounts_ret (lo hi : Option Nat) (codes : List Nat) (l : List Nat) (h : HubS) :
    (l.foldl (fun h k => suspCounts lo hi h k (codes.getD k 0)) h).ret = h.ret := by
  induction l generalizing h with
  | nil => rfl
  | cons k l ih => exact ih _

/-! ### One anvil cell at a hub sample -/

theorem State.anv_updAnv_ne (s : State) {a b : Nat} (h : a ≠ b) (f : AnvS → AnvS) :
    (tabAt (s.updAnv a f).anv b : AnvS) = tabAt s.anv b :=
  (tabAt_tabUpd _ _ _ _).trans (if_neg h)

/-- The voltage of a sample, and the times that it counts. -/
def State.anvMeasured (s : State) (a vst : Nat) : State :=
  s.updAnv a fun x =>
    { x with vst := vst, relNs := if s.ast a == aRelease then x.relNs + 5 else x.relNs,
             chg := if s.anvCharging a then x.chg + 1 else x.chg }

/-- The monitor of a READY cell that has not failed. -/
def State.anvMonitored (s : State) (a vst vfeed : Nat) : State :=
  s.updAnv a fun x => { x with win := (vst :: x.win).take 200, leak := if vst + 160 < vfeed then min 200 (x.leak + 1) else 0 }

theorem State.anvSample_eq (s : State) (a vst vfeed : Nat) :
    s.anvSample a vst vfeed =
      if s.ast a = aReady then
        if vst + 800 ≤ (tabAt s.anv a : AnvS).win.foldl max 0 then (s.anvMeasured a vst).anvFail a
        else (s.anvMeasured a vst).anvMonitored a vst vfeed
      else s.anvMeasured a vst := by
  have hast : (s.anvMeasured a vst).ast a = s.ast a := rfl
  have hwin : (tabAt (s.anvMeasured a vst).anv a : AnvS).win = (tabAt s.anv a : AnvS).win := by
    rw [State.anvMeasured, State.updAnv, tabAt_tabUpd, if_pos rfl]
  unfold State.anvSample
  rw [← State.anvMeasured]
  simp only [hast, hwin, beq_iff_eq, decide_eq_true_eq]
  rfl

/-- A sample measures, monitors or fails its cell: what each of these keeps, it keeps. -/
theorem State.anvSample_all (P : State → Prop) (s : State) (a vst vfeed : Nat) (hf : P ((s.anvMeasured a vst).anvFail a))
    (hm : P ((s.anvMeasured a vst).anvMonitored a vst vfeed)) (h : P (s.anvMeasured a vst)) : P (s.anvSample a vst vfeed) := by
  rw [State.anvSample_eq]
  split
  · split
    · exact hf
    · exact hm
  · exact h

theorem State.anvSample_get {F : Fld} (h : F.apartAll anvFailFlds) (s : State)
    (a vst vfeed i : Nat) : (s.anvSample a vst vfeed).get F i = s.get F i :=
  State.anvSample_all (fun t => t.get F i = s.get F i) s a vst vfeed ((s.anvMeasured a vst).anvFail_get h a i) rfl rfl

theorem State.anvSample_hub (s : State) (a vst vfeed : Nat) : (s.anvSample a vst vfeed).hub = s.hub :=
  State.anvSample_all (fun t => t.hub = s.hub) s a vst vfeed (State.anvFail_hub _ a) rfl rfl

theorem State.anvSample_pwr (s : State) (a vst vfeed : Nat) : (s.anvSample a vst vfeed).pwr = s.pwr :=
  State.anvSample_all (fun t => t.pwr = s.pwr) s a vst vfeed (State.anvFail_pwr _ a) rfl rfl

/-- A sample of another anvil cell changes neither the state nor the window of this one. -/
theorem State.anvSample_ne (s : State) {a b : Nat} (h : a ≠ b) (vst vfeed : Nat) :
    (s.anvSample a vst vfeed).ast b = s.ast b ∧ (tabAt (s.anvSample a vst vfeed).anv b : AnvS) = tabAt s.anv b := by
  have hmeas : (tabAt (s.anvMeasured a vst).anv b : AnvS) = tabAt s.anv b := s.anv_updAnv_ne h _
  refine State.anvSample_all (fun t => t.ast b = s.ast b ∧ (tabAt t.anv b : AnvS) = tabAt s.anv b) s a vst vfeed
    ⟨?_, ?_⟩ ⟨rfl, ?_⟩ ⟨rfl, hmeas⟩
  · exact (State.anvFail_ast _ _ _).trans (State.setAnv_ast_ne _ _ h)
  · rw [State.anvFail_anv, State.setAnv_anv, if_neg h, hmeas]
  · exact ((s.anvMeasured a vst).anv_updAnv_ne h _).trans hmeas

/-- Only a READY cell leaves its state at a sample. -/
theorem State.anvSample_ast_of_not_ready (s : State) (a vst vfeed : Nat) (h : s.ast a ≠ aReady) :
    (s.anvSample a vst vfeed).ast a = s.ast a := by
  rw [State.anvSample_eq, if_neg h]
  rfl

/-- A READY cell whose recent voltages all lie less than 200 mV above one of a sample. -/
def State.readyAt (s : State) (a vst : Nat) : Prop := s.ast a = aReady ∧ ∀ x ∈ (tabAt s.anv a : AnvS).win, x < vst + 800

/-- The fall test passes such a sample, which joins the window (R166). -/
theorem State.readyAt.anvSample {s : State} {a vst : Nat} (h : s.readyAt a vst) (vfeed : Nat) :
    (s.anvSample a vst vfeed).readyAt a vst := by
  obtain ⟨hr, hw⟩ := h
  have hmax : ¬vst + 800 ≤ (tabAt s.anv a : AnvS).win.foldl max 0 :=
    Nat.not_le.mpr ((foldl_max_lt_iff _ _ _).mpr ⟨by omega, hw⟩)
  rw [State.anvSample_eq, if_pos hr, if_neg hmax]
  refine ⟨hr, fun x hx => ?_⟩
  simp only [State.anvMonitored, State.anvMeasured, State.updAnv, tabAt_tabUpd, if_true] at hx
  rcases List.mem_cons.mp (List.mem_of_mem_take hx) with rfl | hx
  · omega
  · exact hw x hx

/-! ### A hub sample, up to Thunderhead -/

/-- The hub has taken its sample and tested its sensors (R131, R134). -/
def State.hubMeasured (s : State) (d : Nat) (codes : List Nat) : State :=
  let mn := s.hubMin d codes
  (s.testSensors d codes).updHub d fun h =>
    { h with min := mn, sum := h.sum + mn, cnt := h.cnt + 1, low := min h.low mn, droop := codes, taper := h.taper - 1 }

/-- The anvil cells have been sampled behind it. -/
def State.hubSampled (s : State) (d : Nat) (codes vst : List Nat) (vfeed : Nat) : State :=
  (s.hubMeasured d codes).each (List.range 4) fun s k => s.anvSample (4 * d + k) (vst.getD k 0) vfeed

/-- The currents that the anvil cells of a district deliver are formed. -/
def State.delivered (s : State) (d : Nat) (vloc : List Nat) : State :=
  s.each (List.range 4) fun s k => s.anvDeliver (4 * d + k) (vloc.getD k 0)

theorem effHubSample_eq (s : State) (d : Nat) (codes vst vloc : List Nat) (vfeed : Nat) :
    effHubSample s d codes vst vloc vfeed =
      (((s.hubSampled d codes vst vfeed).thSample d (s.hubMin d codes)).delivered d vloc).updHub d fun h =>
        { h with last4 := (s.hubMin d codes :: h.last4).take 4 } := rfl

theorem State.hubMeasured_ret (s : State) (d : Nat) (codes : List Nat) :
    ((s.hubMeasured d codes).hubOf d).ret = (s.hubOf d).ret := by
  rw [State.hubMeasured, State.hubOf_updHub, State.testSensors, State.hubOf_updHub]
  exact suspCounts_ret _ _ _ _ _

theorem State.hubSampled_get {F : Fld} (h : F.apartAll anvFailFlds) (s : State) (d : Nat)
    (codes vst : List Nat) (vfeed i : Nat) : (s.hubSampled d codes vst vfeed).get F i = s.get F i :=
  State.each_const (State.get · F i) (s.hubMeasured d codes) _ _ fun t _ => t.anvSample_get h _ _ _ i

theorem State.hubSampled_thSt (s : State) (d : Nat) (codes vst : List Nat) (vfeed : Nat) :
    (s.hubSampled d codes vst vfeed).thSt d = s.thSt d := s.hubSampled_get (by decide) d codes vst vfeed d

theorem State.hubSampled_trip (s : State) (d : Nat) (codes vst : List Nat) (vfeed : Nat) :
    (s.hubSampled d codes vst vfeed).get R.DST_TH_STAT_TRIP d = s.get R.DST_TH_STAT_TRIP d :=
  s.hubSampled_get (by decide) d codes vst vfeed d

theorem State.hubSampled_armOk (s : State) (d : Nat) (codes vst : List Nat) (vfeed : Nat) :
    (s.hubSampled d codes vst vfeed).armOk d = s.armOk d := by
  have hflds : ∀ F ∈ armFlds, F.apartAll anvFailFlds := by decide
  have hhub : (s.hubSampled d codes vst vfeed).hub = (s.hubMeasured d codes).hub :=
    State.each_const State.hub _ _ _ fun t _ => t.anvSample_hub _ _ _
  refine State.armOk_congr (fun F hF i => s.hubSampled_get (hflds F hF) d codes vst vfeed i) ?_ ?_
  · exact State.each_const State.pwr (s.hubMeasured d codes) _ _ fun t _ => t.anvSample_pwr _ _ _
  · rw [State.hubOf, hhub]
    exact s.hubMeasured_ret d codes

/-- A releasing cell goes on. -/
theorem State.hubSampled_release (s : State) (d k : Nat) (codes vst : List Nat) (vfeed : Nat) (h : s.ast (4 * d + k) = aRelease) :
    (s.hubSampled d codes vst vfeed).ast (4 * d + k) = aRelease := by
  refine State.each_induct (fun t => t.ast (4 * d + k) = aRelease) _ _ (fun t j _ ht => ?_) (s.hubMeasured d codes) h
  by_cases hj : j = k
  · subst hj
    exact (t.anvSample_ast_of_not_ready _ _ _ (by rw [ht]; decide)).trans ht
  · exact (t.anvSample_ne (by omega) _ _).1.trans ht

/-- A READY cell that the sample does not fail stays READY. -/
theorem State.hubSampled_ready (s : State) (d k : Nat) (codes vst : List Nat) (vfeed : Nat)
    (h : s.readyAt (4 * d + k) (vst.getD k 0)) : (s.hubSampled d codes vst vfeed).readyAt (4 * d + k) (vst.getD k 0) := by
  refine State.each_induct (fun t => t.readyAt (4 * d + k) (vst.getD k 0)) _ _ (fun t j _ ht => ?_) (s.hubMeasured d codes) h
  by_cases hj : j = k
  · subst hj
    exact ht.anvSample vfeed
  · obtain ⟨hast, hanv⟩ := t.anvSample_ne (show 4 * d + j ≠ 4 * d + k by omega) (vst.getD j 0) vfeed
    exact ⟨hast.trans ht.1, by rw [hanv]; exact ht.2⟩

/-! ### Thunderhead at a hub sample below TRIP -/

/-- A FIRED district whose minimum lies below TRIP goes on. -/
theorem State.thSample_fired (s : State) (d mn : Nat) (hst : s.thSt d = thFired) (ha : s.armOk d = true)
    (hd : mn < s.get R.DST_TH_STAT_TRIP d) : ∃ f, s.thSample d mn = s.updHub d f := by
  unfold State.thSample
  simp [hst, ha, hd]

/-- An ARMED one, or one in the taper, fires. -/
theorem State.thSample_fires (s : State) (d mn : Nat) (hst : s.thSt d = thArmed ∨ s.thSt d = thTaper) (ha : s.armOk d = true)
    (hd : mn < s.get R.DST_TH_STAT_TRIP d) : ∃ slope, s.thSample d mn = s.thFire d true slope := by
  unfold State.thSample
  rcases hst with hst | hst <;> simp [hst, ha, hd]

/-- The order of R157 shows, with its source. -/
def State.thShown (s : State) (d src : Nat) : State :=
  let s := (s.set R.DST_TH_STAT_STATE d thFired).set R.DST_TH_STAT_SRC d src
  let s := (s.inc R.DST_TH_CNT_FIRES d).raise R.DST_FLT_THFIRE d
  if s.get R.CAP_TRIG_DIST == d then s.capTrig 2 else s

/-- Every usable phase of the available cells switches. -/
def State.phasesForced (s : State) (d : Nat) : State :=
  s.each (s.availCells d) fun s c => s.updCell c fun x => { x with act := s.usable c, shed := 0 }

/-- A READY anvil cell that ANV_EN names is released. -/
def State.anvOrdered (s : State) (d k : Nat) : State :=
  if s.ast (4 * d + k) == aReady && (s.get R.DST_TH_TIME_ANV_EN d).testBit k
  then (s.setAnv (4 * d + k) aRelease).incWrap R.ANV_CNT_RELEASES (4 * d + k) else s

/-- The READY anvil cells of a district are released. -/
def State.anvilsOrdered (s : State) (d : Nat) : State := s.each (List.range 4) fun s k => s.anvOrdered d k

theorem State.thFire_eq (s : State) (d : Nat) (depth slope : Bool) :
    s.thFire d depth slope =
      (((s.thShown d ((if depth then 1 else 0) + (if slope then 2 else 0))).phasesForced d).anvilsOrdered d).updHub d fun h =>
        { h with fireCnt := 0, recov := 0, taper := 0 } := rfl

/-- The fields that a fire writes beside those of the anvil cells. -/
def fireFlds : List Fld :=
  [R.DST_TH_STAT_STATE, R.DST_TH_STAT_SRC, R.DST_TH_CNT_FIRES, R.DST_FLT_THFIRE] ++ capTrigFlds

theorem State.thShown_get {F : Fld} (h : F.apartAll fireFlds) (s : State) (d src i : Nat) :
    (s.thShown d src).get F i = s.get F i := by
  have h1 := h R.DST_TH_STAT_STATE (by simp [fireFlds])
  have h2 := h R.DST_TH_STAT_SRC (by simp [fireFlds])
  have h3 := h R.DST_TH_CNT_FIRES (by simp [fireFlds])
  have h4 := h R.DST_FLT_THFIRE (by simp [fireFlds])
  have hc : F.apartAll capTrigFlds := fun G hG => h G (by simp [fireFlds, hG])
  unfold State.thShown
  dsimp only
  split
  · rw [State.capTrig_get hc, State.raise_get h4, State.inc_get h3, State.get_set_apart h2, State.get_set_apart h1]
  · rw [State.raise_get h4, State.inc_get h3, State.get_set_apart h2, State.get_set_apart h1]

theorem State.phasesForced_get (s : State) (d : Nat) (F : Fld) (i : Nat) : (s.phasesForced d).get F i = s.get F i :=
  State.each_const (State.get · F i) s _ _ fun _ _ => rfl

theorem State.anvOrdered_get {F : Fld} (h : F.apartAll (R.ANV_CNT_RELEASES :: anvilFlds)) (s : State) (d k i : Nat) :
    (s.anvOrdered d k).get F i = s.get F i := by
  unfold State.anvOrdered
  split
  · exact (State.get_set_apart (h R.ANV_CNT_RELEASES (by simp)) _ _ _ _).trans
      (State.setAnv_get (fun G hG => h G (by simp [hG])) _ _ _ _)
  · rfl

/-- The order reaches the one cell, where that is READY and enabled. -/
theorem State.anvOrdered_ast (s : State) (d j k : Nat) :
    (s.anvOrdered d j).ast (4 * d + k) =
      if j = k ∧ s.ast (4 * d + k) = aReady ∧ (s.get R.DST_TH_TIME_ANV_EN d).testBit k = true then aRelease
      else s.ast (4 * d + k) := by
  have hcnt (t : State) (a b : Nat) : (t.incWrap R.ANV_CNT_RELEASES a).ast b = t.ast b :=
    State.get_set_apart (F := R.ANV_CNT_RELEASES) (G := R.ANV_STAT_STATE) (by decide) _ _ _ _
  unfold State.anvOrdered
  by_cases hj : j = k
  · subst hj
    simp only [Bool.and_eq_true, beq_iff_eq, true_and]
    split
    · rw [hcnt, State.setAnv_ast _ _ _ (by decide)]
    · rfl
  · rw [if_neg (fun h : j = k ∧ _ => hj h.1)]
    split
    · rw [hcnt, State.setAnv_ast_ne _ _ (by omega)]
    · rfl

/-- Where ANV_EN names a READY cell, the orders release it. -/
theorem State.anvilsOrdered_ast (s : State) (d k : Nat) (hk : k < 4) (hr : s.ast (4 * d + k) = aReady)
    (he : (s.get R.DST_TH_TIME_ANV_EN d).testBit k = true) : (s.anvilsOrdered d).ast (4 * d + k) = aRelease := by
  have hen (t : State) (j : Nat) : (t.anvOrdered d j).get R.DST_TH_TIME_ANV_EN d = t.get R.DST_TH_TIME_ANV_EN d :=
    t.anvOrdered_get (by decide) d j d
  refine State.each_reaches
    (fun t => (t.ast (4 * d + k) = aReady ∨ t.ast (4 * d + k) = aRelease) ∧ (t.get R.DST_TH_TIME_ANV_EN d).testBit k = true)
    (fun t => t.ast (4 * d + k) = aRelease) _ k (fun t j ht => ⟨?_, ?_⟩) (fun t ht => ?_) (fun t j ht => ?_) s _
    (List.mem_range.mpr hk) ⟨Or.inl hr, he⟩
  · rw [State.anvOrdered_ast]
    split
    · exact Or.inr rfl
    · exact ht.1
  · rw [hen]
    exact ht.2
  · rw [State.anvOrdered_ast]
    split
    · rfl
    · next h => exact ht.1.resolve_left fun hready => h ⟨rfl, hready, ht.2⟩
  · rw [State.anvOrdered_ast, ht, ite_self]

theorem State.thFire_get {F : Fld} (h : F.apartAll (R.ANV_CNT_RELEASES :: (fireFlds ++ anvilFlds))) (s : State) (d : Nat)
    (depth slope : Bool) (i : Nat) : (s.thFire d depth slope).get F i = s.get F i := by
  have ha : F.apartAll (R.ANV_CNT_RELEASES :: anvilFlds) := fun G hG => h G (by
    rcases List.mem_cons.mp hG with rfl | hG
    · simp
    · simp [hG])
  have hanv (t : State) : (t.anvilsOrdered d).get F i = t.get F i :=
    State.each_const (State.get · F i) t _ _ fun u k => u.anvOrdered_get ha d k i
  rw [State.thFire_eq, State.updHub_get, hanv, State.phasesForced_get, State.thShown_get fun G hG => h G (by simp [hG])]

/-- A fire releases every READY anvil cell that ANV_EN names (R157, R165). -/
theorem State.thFire_releases (s : State) (d k : Nat) (depth slope : Bool) (hk : k < 4) (hr : s.ast (4 * d + k) = aReady)
    (he : (s.get R.DST_TH_TIME_ANV_EN d).testBit k = true) : (s.thFire d depth slope).ast (4 * d + k) = aRelease := by
  rw [State.thFire_eq]
  refine State.anvilsOrdered_ast _ d k hk ?_ ?_
  · rw [State.ast, State.phasesForced_get, State.thShown_get (by decide)]
    exact hr
  · rw [State.phasesForced_get, State.thShown_get (by decide), he]

/-! ### The currents -/

theorem State.anvDeliver_cur (s : State) (d k vloc : Nat) (hk : k < 4) (hr : s.ast (4 * d + k) = aRelease) :
    (tabAt (s.anvDeliver (4 * d + k) vloc).anv (4 * d + k) : AnvS).cur =
      anvCurrent (s.get R.DST_TH_STAT_TRIP d) (s.get R.ANV_CFG_SPAN) vloc := by
  have hd : (4 * d + k) / 4 = d := by omega
  simp [State.anvDeliver, State.updAnv, tabAt_tabUpd, hr, hd]

theorem State.delivered_get (s : State) (d : Nat) (vloc : List Nat) (F : Fld) (i : Nat) :
    (s.delivered d vloc).get F i = s.get F i :=
  State.each_const (State.get · F i) s _ _ fun _ _ => rfl

/-- Each releasing cell forms its current from TRIP and SPAN. -/
theorem State.delivered_cur (s : State) (d k : Nat) (vloc : List Nat) (hk : k < 4) (hr : s.ast (4 * d + k) = aRelease) :
    (tabAt (s.delivered d vloc).anv (4 * d + k) : AnvS).cur =
      anvCurrent (s.get R.DST_TH_STAT_TRIP d) (s.get R.ANV_CFG_SPAN) (vloc.getD k 0 : Nat) := by
  generalize hc : anvCurrent (s.get R.DST_TH_STAT_TRIP d) (s.get R.ANV_CFG_SPAN) (vloc.getD k 0 : Nat) = c
  have hstep (t : State) (ht : ∀ F i, t.get F i = s.get F i) :
      (tabAt (t.anvDeliver (4 * d + k) (vloc.getD k 0)).anv (4 * d + k) : AnvS).cur = c := by
    rw [t.anvDeliver_cur d k _ hk ((ht _ _).trans hr), ht, ht, hc]
  refine (State.each_reaches (fun t => ∀ F i, t.get F i = s.get F i)
    (fun t => (∀ F i, t.get F i = s.get F i) ∧ (tabAt t.anv (4 * d + k) : AnvS).cur = c)
    (fun t j => t.anvDeliver (4 * d + j) (vloc.getD j 0)) k (fun _ _ ht => ht) (fun t ht => ⟨ht, hstep t ht⟩)
    (fun t j ht => ⟨ht.1, ?_⟩) s _ (List.mem_range.mpr hk) fun _ _ => rfl).2
  by_cases hj : j = k
  · subst hj
    exact hstep t ht.1
  · exact (congrArg AnvS.cur (t.anv_updAnv_ne (show 4 * d + j ≠ 4 * d + k by omega) _)).trans ht.2

/-! ### A hub sample of a district that releases -/

/-- In `t` an anvil cell of the district releases, with the current that TRIP, SPAN and the rail at its node in `s` give. -/
abbrev State.delivers (s : State) (d k : Nat) (vloc : List Nat) (t : State) : Prop :=
  t.ast (4 * d + k) = aRelease ∧
    (tabAt t.anv (4 * d + k) : AnvS).cur =
      anvCurrent (s.get R.DST_TH_STAT_TRIP d) (s.get R.ANV_CFG_SPAN) (vloc.getD k 0 : Nat) ∧ t.kept = s.kept

/-- Where Thunderhead leaves an anvil cell releasing and TRIP and SPAN as they are, the sample forms its current. -/
theorem hubSample_forms (s : State) (d k : Nat) (codes vst vloc : List Nat) (vfeed : Nat) (hn : d < s.cfg.n) (hk : k < 4)
    (t : State) (ht : (s.hubSampled d codes vst vfeed).thSample d (s.hubMin d codes) = t) (hr : t.ast (4 * d + k) = aRelease)
    (htrip : t.get R.DST_TH_STAT_TRIP d = s.get R.DST_TH_STAT_TRIP d) (hspan : t.get R.ANV_CFG_SPAN = s.get R.ANV_CFG_SPAN) :
    ∃ u, exec (.hubSample d codes vst vloc vfeed) s = .next u ∧ s.delivers d k vloc u := by
  have hkept := effHubSample_kept s d codes vst vloc vfeed
  have he := effHubSample_eq s d codes vst vloc vfeed
  rw [ht] at he
  rw [he] at hkept
  refine ⟨_, congrArg Host.Outcome.next ((if_pos hn).trans he), ?_, ?_, hkept⟩
  · rw [State.ast, State.updHub_get, State.delivered_get]
    exact hr
  · rw [State.updHub_anv, t.delivered_cur d k vloc hk hr, htrip, hspan]

theorem hubSample_releasing (s : State) (d k : Nat) (codes vst vloc : List Nat) (vfeed : Nat) (hn : d < s.cfg.n) (hk : k < 4)
    (hr : s.ast (4 * d + k) = aRelease) (hst : s.thSt d = thFired) (ha : s.armOk d = true)
    (hd : s.hubMin d codes < s.get R.DST_TH_STAT_TRIP d) :
    ∃ t, exec (.hubSample d codes vst vloc vfeed) s = .next t ∧ s.delivers d k vloc t := by
  obtain ⟨f, hf⟩ := (s.hubSampled d codes vst vfeed).thSample_fired d (s.hubMin d codes)
    ((s.hubSampled_thSt d codes vst vfeed).trans hst) ((s.hubSampled_armOk d codes vst vfeed).trans ha)
    (by rwa [State.hubSampled_trip])
  exact hubSample_forms s d k codes vst vloc vfeed hn hk _ hf (s.hubSampled_release d k codes vst vfeed hr)
    (s.hubSampled_trip d codes vst vfeed) (s.hubSampled_get (by decide) d codes vst vfeed 0)

theorem hubSample_fires (s : State) (d k : Nat) (codes vst vloc : List Nat) (vfeed : Nat) (hn : d < s.cfg.n) (hk : k < 4)
    (hr : s.ast (4 * d + k) = aReady) (he : (s.get R.DST_TH_TIME_ANV_EN d).testBit k = true)
    (hw : (tabAt s.anv (4 * d + k) : AnvS).win.foldl max 0 < vst.getD k 0 + 800) (hst : s.thSt d = thArmed ∨ s.thSt d = thTaper)
    (ha : s.armOk d = true) (hd : s.hubMin d codes < s.get R.DST_TH_STAT_TRIP d) :
    ∃ t, exec (.hubSample d codes vst vloc vfeed) s = .next t ∧ s.delivers d k vloc t := by
  obtain ⟨slope, hf⟩ := (s.hubSampled d codes vst vfeed).thSample_fires d (s.hubMin d codes)
    (by rwa [State.hubSampled_thSt]) ((s.hubSampled_armOk d codes vst vfeed).trans ha) (by rwa [State.hubSampled_trip])
  obtain ⟨hready, -⟩ := s.hubSampled_ready d k codes vst vfeed ⟨hr, ((foldl_max_lt_iff _ _ _).mp hw).2⟩
  have hen : ((s.hubSampled d codes vst vfeed).get R.DST_TH_TIME_ANV_EN d).testBit k = true := by
    rw [s.hubSampled_get (by decide), he]
  exact hubSample_forms s d k codes vst vloc vfeed hn hk _ hf (State.thFire_releases _ d k true slope hk hready hen)
    ((State.thFire_get (by decide) _ d true slope d).trans (s.hubSampled_trip d codes vst vfeed))
    ((State.thFire_get (by decide) _ d true slope 0).trans (s.hubSampled_get (by decide) d codes vst vfeed 0))

end Sys2Proof.Machine

namespace Sys2Proof.Machine

/-! ### VFEED outside its window -/

/-- A VFEED excursion is noted at its hub, and at a port whose departure stands (R42, R374); a restart release ends (R417). -/
def State.feedNoted (s : State) (d : Nat) : State :=
  let s := { s with flt := { s.flt with relOk := s.flt.relOk.erase clsVfeed } }
  (s.updHub d fun h => { h with feedBad := true }).updPort (s.zoneOf d) fun p =>
    if p.departed then { p with feedBad := true } else p

theorem effVfeedExcursion_eq (s : State) (d : Nat) :
    effVfeedExcursion s d =
      if !s.dev.released then
        if s.dev.hubs.testBit (s.zoneOf d) then
          { s.feedNoted d with dev := { s.dev with feedWait := s.dev.feedWait ||| 2 ^ s.zoneOf d } } else s.feedNoted d
      else if s.dev.hubs.testBit (s.zoneOf d) then (s.feedNoted d).report clsVfeed 0 (srcOf 12 d) else s.feedNoted d := rfl

theorem vfeedExcursion_reported (s : State) (d : Nat) (hn : d < s.cfg.n) (hz : s.dev.hubs.testBit (s.zoneOf d) = true)
    (hr : s.dev.released = true) (hm : (srcOf 12 d, clsVfeed) ∉ s.flt.masked) :
    ∃ t, exec (.vfeedExcursion d) s = .next t ∧ t.regs = s.regs ∧ t.kept = s.kept ∧
      t.flt.lines = s.flt.lines ++ [{ cls := clsVfeed, cause := 0, src := srcOf 12 d }] := by
  have he : effVfeedExcursion s d = (s.feedNoted d).report clsVfeed 0 (srcOf 12 d) := by
    rw [effVfeedExcursion_eq, if_neg (by simp [hr]), if_pos hz]
  have hkept := effVfeedExcursion_kept s d
  rw [he] at hkept
  exact ⟨_, congrArg Host.Outcome.next ((if_pos hn).trans he), State.report_regs _ _ _ _, hkept,
    (s.feedNoted d).report_lines _ _ _ hm⟩

theorem vfeedExcursion_waits (s : State) (d : Nat) (hn : d < s.cfg.n) (hz : s.dev.hubs.testBit (s.zoneOf d) = true)
    (hr : s.dev.released = false) :
    ∃ t, exec (.vfeedExcursion d) s = .next t ∧ t.regs = s.regs ∧ t.flt.lines = s.flt.lines ∧
      t.dev = { s.dev with feedWait := s.dev.feedWait ||| 2 ^ (s.zoneOf d) } ∧ t.kept = s.kept := by
  have he : effVfeedExcursion s d =
      { s.feedNoted d with dev := { s.dev with feedWait := s.dev.feedWait ||| 2 ^ s.zoneOf d } } := by
    rw [effVfeedExcursion_eq, if_pos (by simp [hr]), if_pos hz]
  have hkept := effVfeedExcursion_kept s d
  rw [he] at hkept
  exact ⟨_, congrArg Host.Outcome.next ((if_pos hn).trans he), rfl, rfl, rfl, hkept⟩

/-! ### The anvil cells -/

/-- Settles O53, by what an entry of an anvil cell into a state does; at a hub sample nothing before Thunderhead writes what it
reads, and a fire reaches every READY cell that ANV_EN names. -/
theorem anvilCellsChargeReleaseAndFail : Obligations.AnvilCellsChargeReleaseAndFail := by
  refine ⟨fun s a ha => ⟨fun vst vfeed hc hv => ?_, fun vst vfeed h => anvilCharged_short s a vst vfeed ha h,
      fun ns vst hr h1 h2 he => ?_, fun ns vst h => anvilReleaseEnd_goes_on s a ns vst ha h, fun hr hl => ?_,
      fun hc ht hm => anvilChargeTimeout_fails s a ha hc ht hm, fun h => anvilChargeTimeout_short s a ha h⟩,
    fun s d k codes vst vloc vfeed => hubSample_releasing s d k codes vst vloc vfeed,
    fun s d k codes vst vloc vfeed => hubSample_fires s d k codes vst vloc vfeed,
    fun s d hn hz => ⟨vfeedExcursion_reported s d hn hz, vfeedExcursion_waits s d hn hz⟩⟩
  · obtain ⟨t, ht, hent⟩ := anvilCharged_ready s a vst vfeed ha hc hv
    exact ⟨t, ht, hent.ast, hent.rdy, hent.only, hent.framed⟩
  · obtain ⟨t, ht, hlen, hent⟩ := anvilReleaseEnd_ends s a ns vst ha hr h1 h2 he
    exact ⟨t, ht, hent.ast, hlen, hent.rdy, hent.only, hent.framed⟩
  · obtain ⟨t, ht, hent⟩ := anvilLeakRecharge_full s a ha hr hl
    exact ⟨t, ht, hent.ast, hent.only, hent.framed⟩

end Sys2Proof.Machine

namespace Sys2Proof.Machine

/-! ### Commands that name a cell or a district -/

theorem onCell_next {s : State} {c : Nat} (hc : c < 16 * s.cfg.n) (t : State) : onCell s c t = .next t :=
  congrArg Host.Outcome.next (if_pos (decide_eq_true hc))

theorem onDist_next {s : State} {d : Nat} (hd : d < s.cfg.n) (t : State) : onDist s d t = .next t :=
  congrArg Host.Outcome.next (if_pos hd)

/-! ### Cells of the table -/

@[simp] theorem State.cell_set (s : State) (F : Fld) (i v c : Nat) : (s.set F i v).cell c = s.cell c := rfl

@[simp] theorem State.cell_updCell_self (s : State) (c : Nat) (f : CellS → CellS) : (s.updCell c f).cell c = f (s.cell c) := by
  rw [State.cell_updCell, if_pos rfl]

theorem State.cell_updCell_ne {c e : Nat} (h : e ≠ c) (s : State) (f : CellS → CellS) : (s.updCell c f).cell e = s.cell e := by
  rw [State.cell_updCell, if_neg h.symm]

/-! ### The delay-locked line -/

theorem dllLock_locks (s : State) (d : Nat) (hd : d < s.cfg.n) :
    ∃ t, exec (.dllLock d) s = .next t ∧ t.get R.CEL_SYNC_LOCK d = 1 ∧ t.get R.CEL_SYNC_HOLDOVER d = 0 ∧
      s.only t [R.CEL_SYNC_LOCK.key d] := by
  refine ⟨_, onDist_next hd _, ?_, State.get_set_self _ R.CEL_SYNC_HOLDOVER d 0 (by decide), rfl, ?_⟩
  · exact (State.get_set_apart (by decide) _ _ _ _).trans (State.get_set_self _ R.CEL_SYNC_LOCK d 1 (by decide))
  · exact State.framed_set _ _ _ R.CEL_SYNC_HOLDOVER d 0
      (State.framed_set _ _ _ R.CEL_SYNC_LOCK d 1 (s.framed_refl _) (List.mem_singleton_self _)) (List.mem_singleton_self _)

/-- The line of a district has lost SYNC_IN and holds over. -/
def State.heldOver (s : State) (d : Nat) : State :=
  ((s.set R.CEL_SYNC_LOCK d 0).set R.CEL_SYNC_HOLDOVER d 1).raise R.CEL_FLT_SYNCLOSS d

theorem effHoldover_locked (s : State) (d : Nat) (h : s.get R.CEL_SYNC_LOCK d = 1) :
    effHoldover s d = (s.heldOver d).report clsSync 0 (srcOf 9 (0x100 + d)) := if_pos (by simp [State.flag, h])

theorem syncHoldover_unlocked (s : State) (d : Nat) (hd : d < s.cfg.n) (h : s.get R.CEL_SYNC_LOCK d = 0) :
    exec (.syncHoldover d) s = .next s :=
  (onDist_next hd _).trans (congrArg Host.Outcome.next (if_neg (by simp [State.flag, h])))

theorem syncHoldover_holds (s : State) (d : Nat) (hd : d < s.cfg.n) (h : s.get R.CEL_SYNC_LOCK d = 1)
    (hm : (srcOf 9 (0x100 + d), clsSync) ∉ s.flt.masked) :
    ∃ t, exec (.syncHoldover d) s = .next t ∧ t.get R.CEL_SYNC_LOCK d = 0 ∧ t.get R.CEL_SYNC_HOLDOVER d = 1 ∧
      t.get R.CEL_FLT_SYNCLOSS d = 1 ∧
      t = { s with regs := t.regs, flt := { s.flt with
        lines := s.flt.lines ++ [{ cls := clsSync, cause := 0, src := srcOf 9 (0x100 + d) }] } } ∧
      s.framed t [R.CEL_SYNC_LOCK.key d, R.CEL_FLT_SYNCLOSS.key d] := by
  refine ⟨_, (onDist_next hd _).trans (congrArg Host.Outcome.next (effHoldover_locked s d h)), ?_, ?_, ?_, ?_, ?_⟩
  · rw [State.report_get, State.heldOver, State.raise_get (by decide), State.get_set_apart (by decide)]
    exact State.get_set_self _ _ _ _ (by decide)
  · rw [State.report_get, State.heldOver, State.raise_get (by decide)]
    exact State.get_set_self _ _ _ _ (by decide)
  · rw [State.report_get]
    exact State.get_set_self _ R.CEL_FLT_SYNCLOSS d 1 (by decide)
  · rw [State.report, if_neg (show _ ∉ (s.heldOver d).flt.masked from hm)]
    rfl
  · refine State.framed_congr _ (s.heldOver d) _ _ ?_ (State.report_regs _ _ _ _)
    have hl := State.framed_set _ _ [R.CEL_SYNC_LOCK.key d, R.CEL_FLT_SYNCLOSS.key d] R.CEL_SYNC_LOCK d 0
      (s.framed_refl _) (by simp)
    have hh := State.framed_set _ _ _ R.CEL_SYNC_HOLDOVER d 1 hl (List.mem_cons_self ..)
    exact State.framed_set _ _ _ R.CEL_FLT_SYNCLOSS d 1 hh (by simp)

/-- The line of a district has locked again; how far its phases have drifted is a free value. -/
def State.relocked (s : State) (d : Nat) : State := ((s.freeBits 6).2.set R.CEL_SYNC_LOCK d 1).set R.CEL_SYNC_HOLDOVER d 0

/-- The phases of a switching cell lie a drift away from their places. -/
def State.drifted (s : State) (v c : Nat) : State :=
  if s.cst c == cRun || s.cst c == cSoft then s.updCell c fun x => { x with drift := v } else s

theorem State.drifted_cell (s : State) (v k c : Nat) :
    { (s.drifted v k).cell c with drift := 0 } = { s.cell c with drift := 0 } := by
  unfold State.drifted
  split
  · rw [State.cell_updCell]
    split <;> rfl
  · rfl

/-- The line of a district has locked again, and the phases of its cells come back from where they drifted to. -/
def State.syncReturned (s : State) (d : Nat) : State :=
  (s.relocked d).each (cellsOf d) fun t c => t.drifted (s.freeBits 6).1 c

theorem State.syncReturned_form (s : State) (d : Nat) : ∃ l, s.syncReturned d = { s.relocked d with cells := l } := by
  refine State.each_induct (fun t => ∃ l, t = { s.relocked d with cells := l }) _ _ (fun t c _ ht => ?_) _ ⟨_, rfl⟩
  obtain ⟨l, rfl⟩ := ht
  unfold State.drifted
  split
  · exact ⟨_, rfl⟩
  · exact ⟨l, rfl⟩

theorem State.syncReturned_cell (s : State) (d c : Nat) :
    { (s.syncReturned d).cell c with drift := 0 } = { s.cell c with drift := 0 } :=
  State.each_const (fun t : State => { t.cell c with drift := 0 }) (s.relocked d) _ _ fun t k => t.drifted_cell _ k c

theorem syncReturn_relocks (s : State) (d : Nat) (hd : d < s.cfg.n) (h : s.get R.CEL_SYNC_HOLDOVER d = 1) :
    ∃ t, exec (.syncReturn d) s = .next t ∧ t.get R.CEL_SYNC_LOCK d = 1 ∧ t.get R.CEL_SYNC_HOLDOVER d = 0 ∧
      (∀ c, { t.cell c with drift := 0 } = { s.cell c with drift := 0 }) ∧
      t = { s with regs := t.regs, cells := t.cells, free := s.free + 1 } ∧ s.framed t [R.CEL_SYNC_LOCK.key d] := by
  have he : effSyncReturn s d = s.syncReturned d := if_pos (by simp [State.flag, h])
  have hcell := s.syncReturned_cell d
  obtain ⟨l, hl⟩ := s.syncReturned_form d
  rw [hl] at he hcell
  refine ⟨_, (onDist_next hd _).trans (congrArg Host.Outcome.next he), ?_, State.get_set_self _ R.CEL_SYNC_HOLDOVER d 0 (by decide),
    hcell, rfl, ?_⟩
  · exact (State.get_set_apart (F := R.CEL_SYNC_HOLDOVER) (G := R.CEL_SYNC_LOCK) (by decide) _ _ _ _).trans
      (State.get_set_self (s.freeBits 6).2 R.CEL_SYNC_LOCK d 1 (by decide))
  · exact State.framed_set _ _ _ R.CEL_SYNC_HOLDOVER d 0 (State.framed_set _ _ _ R.CEL_SYNC_LOCK d 1
      (s.framed_refl _) (List.mem_singleton_self _)) (List.mem_singleton_self _)

theorem position_lt (skew ilv p : Nat) : position skew ilv p < 64 := Nat.mod_lt _ (by decide)

/-- Four phases lie a quarter of the switching period apart. -/
theorem position_add_four (skew ilv p : Nat) : position skew ilv (p + 4) = position skew ilv p := by
  unfold position
  omega

/-- Settles O50: LOCK, HOLDOVER and SYNCLOSS by their writes; the fold of SYNC_RETURN writes nothing but how far cells have
drifted. -/
theorem cellsKeepTheirPhaseToSync : Obligations.CellsKeepTheirPhaseToSync :=
  ⟨fun s d hd => ⟨dllLock_locks s d hd, syncHoldover_holds s d hd, syncHoldover_unlocked s d hd, syncReturn_relocks s d hd⟩,
    fun skew ilv p => ⟨position_lt skew ilv p, position_add_four skew ilv p⟩⟩

end Sys2Proof.Machine

namespace Sys2Proof.Machine

/-! ### The registers of a cell -/

/-- A register of a page outside its cells is no register of a cell. -/
theorem Fld.key_page_ne_cell {F G : Fld} (hF : F.inst = .page) (hG : G.inst = .cell)
    (hb : F.base % 0x1000 < G.base % 0x1000) (hc : G.base % 0x1000 + 0xF0 < 0x1000) (i j : Nat) : F.key i ≠ G.key j := by
  have h1 : F.key i = F.base + 0x1000 * i := by simp [Fld.key, hF]
  have h2 : G.key j = G.base + 0x1000 * (j / 16) + 0x10 * (j % 16) := by simp [Fld.key, hG]
  omega

/-- The fields of CEL_STAT stand in one word. -/
theorem celStat_key {F : Fld} (hi : F.inst = .cell) (hb : F.base = R.CEL_STAT_STATE.base) (c : Nat) :
    F.key c = R.CEL_STAT_STATE.key c := by
  simp only [Fld.key, hi, hb, R.CEL_STAT_STATE]

/-- A write of a field of CEL_STAT stays in a frame that holds the word. -/
theorem State.framed.setStat {s t : State} {ks : List Nat} {c : Nat} (h : s.framed t ks) (hk : R.CEL_STAT_STATE.key c ∈ ks)
    {F : Fld} (hF : F.inst = .cell ∧ F.base = R.CEL_STAT_STATE.base) (v : Nat) : s.framed (t.set F c v) ks :=
  State.framed_set _ _ _ _ _ _ h (by rwa [celStat_key hF.1 hF.2])

theorem State.framed.setCst {s t : State} {ks : List Nat} {c : Nat} (h : s.framed t ks) (hk : R.CEL_STAT_STATE.key c ∈ ks)
    (st : Nat) : s.framed (t.setCst c st) ks :=
  (h.setStat hk (F := R.CEL_STAT_STATE) ⟨rfl, rfl⟩ st).setStat hk (F := R.CEL_STAT_AVAIL) ⟨rfl, rfl⟩ _

/-- A field of CEL_STAT beside STATE and AVAIL. -/
theorem State.setCst_get {F : Fld} (h : F.apartAll [R.CEL_STAT_STATE, R.CEL_STAT_AVAIL]) (s : State) (c st i : Nat) :
    (s.setCst c st).get F i = s.get F i := by
  unfold State.setCst
  rw [State.get_set_apart (h R.CEL_STAT_AVAIL (by simp)), State.get_set_apart (h R.CEL_STAT_STATE (by simp))]

theorem State.setCst_avail (s : State) (c st : Nat) :
    (s.setCst c st).get R.CEL_STAT_AVAIL c = if st = cRun then 1 else 0 := by
  refine (State.get_set_self _ R.CEL_STAT_AVAIL c _ (by decide)).trans ?_
  split <;> rfl

theorem State.cst_setCst_self (s : State) {c st : Nat} (h : st < 8) : (s.setCst c st).cst c = st := by
  rw [State.cst_setCst, if_pos rfl, Nat.mod_eq_of_lt h]

/-- `t` differs from `s` in the register file, the cells and their phases alone. -/
def State.cellOnly (s t : State) : Prop := ∃ r l p, t = { s with regs := r, cells := l, phases := p }

theorem State.cellOnly_refl (s : State) : s.cellOnly s := ⟨s.regs, s.cells, s.phases, rfl⟩

theorem State.cellOnly.eq {s t : State} (h : s.cellOnly t) : t = { s with regs := t.regs, cells := t.cells, phases := t.phases } := by
  obtain ⟨r, l, p, rfl⟩ := h
  rfl

theorem State.cellOnly.flt {s t : State} (h : s.cellOnly t) : t.flt = s.flt := by
  obtain ⟨r, l, p, rfl⟩ := h
  rfl

theorem State.cellOnly.set {s t : State} (h : s.cellOnly t) (F : Fld) (i v : Nat) : s.cellOnly (t.set F i v) := by
  obtain ⟨r, l, p, rfl⟩ := h
  exact ⟨_, l, p, rfl⟩

theorem State.cellOnly.updCell {s t : State} (h : s.cellOnly t) (c : Nat) (f : CellS → CellS) : s.cellOnly (t.updCell c f) := by
  obtain ⟨r, l, p, rfl⟩ := h
  exact ⟨r, _, p, rfl⟩

theorem State.cellOnly.withPhases {s t : State} (h : s.cellOnly t) (ps : Tab PhaseS) : s.cellOnly { t with phases := ps } := by
  obtain ⟨r, l, p, rfl⟩ := h
  exact ⟨r, l, ps, rfl⟩

/-! ### The entry into soft start -/

@[simp] theorem State.raiseIf_cell (s : State) (b : Bool) (F : Fld) (i c : Nat) : (s.raiseIf b F i).cell c = s.cell c := by
  unfold State.raiseIf
  split <;> rfl

theorem State.raiseIf_with (s : State) (b : Bool) (F : Fld) (i : Nat) :
    s.raiseIf b F i = { s with regs := (s.raiseIf b F i).regs } := by
  unfold State.raiseIf
  split <;> rfl

theorem State.framed.raiseIf {s t : State} {ks : List Nat} (h : s.framed t ks) (b : Bool) (F : Fld) (i : Nat) (hk : F.key i ∈ ks) :
    s.framed (t.raiseIf b F i) ks := by
  unfold State.raiseIf
  split
  · exact State.framed_set _ _ _ _ _ _ h hk
  · exact h

/-- The registers that a soft start writes. -/
abbrev softKeys (c : Nat) : List Nat := [R.CEL_STAT_STATE.key c, R.CEL_CUR_I_CMD.key c, R.CEL_FLT_DRZBAD.key (c / 16)]

/-- `t` is `s` with the soft start of a cell begun. -/
structure State.SoftBegun (s : State) (c : Nat) (t : State) : Prop where
  cst : t.cst c = cSoft
  loc : t.get R.CEL_STAT_LOCAL c = 1
  avail : t.get R.CEL_STAT_AVAIL c = 0
  held : (t.cell c).held = false
  target : (t.cell c).target = (s.cell c).start
  start : (t.cell c).start = (s.cell c).start
  ordered : (t.cell c).ordered = (s.cell c).ordered
  startSent : (t.cell c).startSent = (s.cell c).startSent
  only : t = { s with regs := t.regs, cells := t.cells }
  framed : s.framed t (softKeys c)

/-- The cell samples its configuration, DRZBAD shows a bad pair of its page, and the status and command of the cell follow. -/
theorem State.beginSoft_form (s : State) (c : Nat) : ∃ l : Tab CellS,
    ((tabAt l c : CellS).held = false ∧ (tabAt l c : CellS).target = (s.cell c).start ∧
      (tabAt l c : CellS).start = (s.cell c).start ∧ (tabAt l c : CellS).ordered = (s.cell c).ordered ∧
      (tabAt l c : CellS).startSent = (s.cell c).startSent) ∧
    s.beginSoft c = (((({ s with cells := l } : State).raiseIf (s.pairBad (c / 16)) R.CEL_FLT_DRZBAD (c / 16)).setCst c
      cSoft).set R.CEL_STAT_LOCAL c 1).set R.CEL_CUR_I_CMD c 0 := by
  refine ⟨_, ?_, rfl⟩
  simp [State.updCell, tabAt_tabUpd, State.cell]

theorem State.beginSoft_begun (s : State) (c : Nat) : s.SoftBegun c (s.beginSoft c) := by
  obtain ⟨l, ⟨hheld, htarget, hstart, hordered, hsent⟩, he⟩ := s.beginSoft_form c
  rw [he]
  have hcell : (((({ s with cells := l } : State).raiseIf (s.pairBad (c / 16)) R.CEL_FLT_DRZBAD (c / 16)).setCst c
      cSoft).set R.CEL_STAT_LOCAL c 1).cell c = tabAt l c := State.raiseIf_cell _ _ _ _ _
  have hk : R.CEL_STAT_STATE.key c ∈ softKeys c := by simp
  have hd := State.framed.raiseIf (t := { s with cells := l }) (s.framed_refl (softKeys c)) (s.pairBad (c / 16))
    R.CEL_FLT_DRZBAD (c / 16) (by simp)
  refine ⟨?_, ?_, ?_, by rw [State.cell_set, hcell, hheld], by rw [State.cell_set, hcell, htarget],
    by rw [State.cell_set, hcell, hstart], by rw [State.cell_set, hcell, hordered], by rw [State.cell_set, hcell, hsent], ?_,
    State.framed_set _ _ _ R.CEL_CUR_I_CMD c 0 ((hd.setCst hk cSoft).setStat hk (F := R.CEL_STAT_LOCAL) ⟨rfl, rfl⟩ 1) (by simp)⟩
  · rw [State.cst, State.get_set_apart (by decide), State.get_set_apart (by decide)]
    exact State.cst_setCst_self _ (by decide)
  · rw [State.get_set_apart (by decide)]
    exact State.get_set_self _ _ _ _ (by decide)
  · rw [State.get_set_apart (by decide), State.get_set_apart (by decide), State.setCst_avail]
    rfl
  · rw [State.raiseIf_with]
    rfl

/-! ### The switches open -/

/-- A cell whose switches are open. -/
def CellS.opened (x : CellS) : CellS :=
  { x with act := 0, shed := 0, limCnt := 0, shortCnt := 0, window := 0, winOpen := false, dem := 0, integ := 0,
           ssDone := false }

theorem State.openSwitches_get (s : State) (c : Nat) (F : Fld) (i : Nat) :
    (s.openSwitches c).get F i = (s.set R.CEL_STAT_PH_ACT c 0).get F i := rfl

theorem State.openSwitches_cell (s : State) (c : Nat) : (s.openSwitches c).cell c = (s.cell c).opened :=
  State.cell_updCell_self _ _ _

theorem State.framed.openSwitches {s t : State} {ks : List Nat} {c : Nat} (h : s.framed t ks) (hk : R.CEL_STAT_STATE.key c ∈ ks) :
    s.framed (t.openSwitches c) ks :=
  State.framed_congr _ _ _ _ (h.setStat hk (F := R.CEL_STAT_PH_ACT) ⟨rfl, rfl⟩ 0) rfl

/-- The cell is in a state with its switches open. -/
def State.shut (s : State) (c st : Nat) : State := (s.openSwitches c).setCst c st

theorem State.shut_cst (s : State) {c st : Nat} (h : st < 8) : (s.shut c st).cst c = st := State.cst_setCst_self _ h

theorem State.shut_phAct (s : State) (c st : Nat) : (s.shut c st).get R.CEL_STAT_PH_ACT c = 0 := by
  rw [State.shut, State.setCst_get (by decide), State.openSwitches_get]
  exact State.get_set_self _ _ _ _ (by decide)

/-- A field of CEL_STAT beside STATE, AVAIL and PH_ACT. -/
theorem State.shut_get {F : Fld} (h : F.apartAll [R.CEL_STAT_STATE, R.CEL_STAT_AVAIL, R.CEL_STAT_PH_ACT]) (s : State)
    (c st i : Nat) : (s.shut c st).get F i = s.get F i := by
  have hs : F.apartAll [R.CEL_STAT_STATE, R.CEL_STAT_AVAIL] := fun G hG => h G (by simp at hG ⊢; tauto)
  rw [State.shut, State.setCst_get hs, State.openSwitches_get, State.get_set_apart (h R.CEL_STAT_PH_ACT (by simp))]

theorem State.shut_cell (s : State) (c st : Nat) : (s.shut c st).cell c = (s.cell c).opened := s.openSwitches_cell c

theorem State.cellOnly.clearPhases {s t : State} (h : s.cellOnly t) (c : Nat) : s.cellOnly (t.clearPhases c) :=
  State.each_induct s.cellOnly _ _ (fun _ _ _ ht => ht.withPhases _) t h

theorem State.cellOnly.shut {s t : State} (h : s.cellOnly t) (c st : Nat) : s.cellOnly (t.shut c st) :=
  ((((h.set R.CEL_STAT_PH_ACT c 0).clearPhases c).updCell c CellS.opened).set R.CEL_STAT_STATE c st).set R.CEL_STAT_AVAIL c _

theorem State.framed.shut {s t : State} {ks : List Nat} {c : Nat} (h : s.framed t ks) (hk : R.CEL_STAT_STATE.key c ∈ ks)
    (st : Nat) : s.framed (t.shut c st) ks := (h.openSwitches hk).setCst hk st

end Sys2Proof.Machine

namespace Sys2Proof.Machine

/-! ### An event of a cell -/

@[simp] theorem State.report_cell (s : State) (cls cause src c : Nat) : (s.report cls cause src).cell c = s.cell c := by
  unfold State.report
  split <;> rfl

@[simp] theorem State.cellEvent_cell (s : State) (c cause e : Nat) : (s.cellEvent c cause).cell e = s.cell e :=
  State.report_cell _ _ _ _ _

/-- An event of a cell writes no register of a cell. -/
theorem State.cellEvent_get {F : Fld} (hi : F.inst = .cell) (hb : 0x14 < F.base % 0x1000 ∧ F.base % 0x1000 + 0xF0 < 0x1000)
    (s : State) (c cause i : Nat) : (s.cellEvent c cause).get F i = s.get F i := by
  rw [State.cellEvent, State.report_get, State.raiseBit,
    State.get_set_ne _ _ _ _ _ _ (Fld.key_page_ne_cell (F := R.CEL_FLT_CELEV) rfl hi hb.1 hb.2 _ _)]

theorem State.cellEvent_shown (s : State) (c cause : Nat) :
    ((s.cellEvent c cause).get R.CEL_FLT_CELEV (c / 16)).testBit (c % 16) = true := by
  rw [State.cellEvent, State.report_get]
  exact State.testBit_raiseBit _ _ _ _ (by decide) (Nat.mod_lt _ (by decide))

theorem State.cellEvent_lines (s : State) (c cause : Nat) (hm : (srcOf 1 c, clsCell) ∉ s.flt.masked) :
    (s.cellEvent c cause).flt.lines = s.flt.lines ++ [{ cls := clsCell, cause := cause, src := srcOf 1 c }] :=
  State.report_lines _ _ _ _ hm

theorem State.framed.cellEvent {s t : State} {ks : List Nat} {c : Nat} (h : s.framed t ks)
    (hk : R.CEL_FLT_CELEV.key (c / 16) ∈ ks) (cause : Nat) : s.framed (t.cellEvent c cause) ks :=
  State.framed_congr _ _ _ _ (State.framed_set _ _ _ R.CEL_FLT_CELEV (c / 16) _ h hk) (State.report_regs _ _ _ _)

/-! ### A cell goes to HICCUP or fails -/

/-- The registers that a hiccup and a failure write. -/
abbrev tripKeys (c : Nat) : List Nat := [R.CEL_STAT_STATE.key c, R.CEL_CUR_I_CMD.key c, R.CEL_FLT_CELEV.key (c / 16)]

/-- The fields that show the state and the cause of a cell that was tripped. -/
abbrev tripFlds : List Fld := [R.CEL_STAT_STATE, R.CEL_STAT_PH_ACT, R.CEL_STAT_AVAIL, R.CEL_STAT_LAST_CAUSE]

/-- `t` is `s` with a cell in a state in which it does not switch, with the cause; its event is still to come. -/
structure State.Tripped (s : State) (c st cause : Nat) (t : State) : Prop where
  cst : t.cst c = st
  phAct : t.get R.CEL_STAT_PH_ACT c = 0
  avail : t.get R.CEL_STAT_AVAIL c = 0
  cause : t.get R.CEL_STAT_LAST_CAUSE c = cause
  act : (t.cell c).act = 0
  flt : t.flt = s.flt
  framed : s.framed t (tripKeys c)

/-- The cell is shut with a cause, and its loss noted. -/
def State.tripped (s : State) (c st cause : Nat) : State := ((s.noteLoss c).shut c st).set R.CEL_STAT_LAST_CAUSE c cause

theorem State.tripped_tripped (s : State) {c st cause : Nat} (hst : st < 8) (hrun : st ≠ cRun) (hk : cause < 16) :
    s.Tripped c st cause (s.tripped c st cause) where
  cst := by
    rw [State.cst, State.tripped, State.get_set_apart (by decide)]
    exact State.shut_cst _ hst
  phAct := by rw [State.tripped, State.get_set_apart (by decide), State.shut_phAct]
  avail := by rw [State.tripped, State.get_set_apart (by decide), State.shut, State.setCst_avail, if_neg hrun]
  cause := by
    rw [State.tripped, State.get_set_self _ _ _ _ (by decide)]
    exact Nat.mod_eq_of_lt hk
  act := by
    rw [State.tripped, State.cell_set, State.shut_cell]
    rfl
  flt := (((s.noteLoss c).cellOnly_refl.shut c st).set R.CEL_STAT_LAST_CAUSE c cause).flt
  framed := State.framed.setStat (State.framed.shut (t := s.noteLoss c) (s.framed_refl (tripKeys c)) (by simp) st) (by simp)
    (F := R.CEL_STAT_LAST_CAUSE) ⟨rfl, rfl⟩ cause

theorem State.Tripped.set {s t : State} {c st cause : Nat} (h : s.Tripped c st cause t) {F : Fld} (hF : ∀ G ∈ tripFlds, F.apart G)
    (i v : Nat) (hk : F.key i ∈ tripKeys c) : s.Tripped c st cause (t.set F i v) where
  cst := (State.get_set_apart (hF _ (by simp)) _ _ _ _).trans h.cst
  phAct := (State.get_set_apart (hF _ (by simp)) _ _ _ _).trans h.phAct
  avail := (State.get_set_apart (hF _ (by simp)) _ _ _ _).trans h.avail
  cause := (State.get_set_apart (hF _ (by simp)) _ _ _ _).trans h.cause
  act := h.act
  flt := h.flt
  framed := State.framed_set _ _ _ _ _ _ h.framed hk

theorem State.Tripped.updCell {s t : State} {c st cause : Nat} (h : s.Tripped c st cause t) {f : CellS → CellS}
    (hf : ∀ x, (f x).act = x.act) : s.Tripped c st cause (t.updCell c f) where
  cst := h.cst
  phAct := h.phAct
  avail := h.avail
  cause := h.cause
  act := by rw [State.cell_updCell_self, hf, h.act]
  flt := h.flt
  framed := h.framed

/-- What the event of a tripped cell adds, and what it leaves. -/
theorem State.Tripped.cellEvent {s t : State} {c st cause : Nat} (h : s.Tripped c st cause t) (code : Nat)
    (hm : (srcOf 1 c, clsCell) ∉ s.flt.masked) :
    (t.cellEvent c code).cst c = st ∧ (t.cellEvent c code).get R.CEL_STAT_PH_ACT c = 0 ∧
    (t.cellEvent c code).get R.CEL_STAT_AVAIL c = 0 ∧ (t.cellEvent c code).get R.CEL_STAT_LAST_CAUSE c = cause ∧
    ((t.cellEvent c code).cell c).act = 0 ∧
    (t.cellEvent c code).flt.lines = s.flt.lines ++ [{ cls := clsCell, cause := code, src := srcOf 1 c }] ∧
    s.framed (t.cellEvent c code) (tripKeys c) := by
  refine ⟨?_, ?_, ?_, ?_, ?_, ?_, h.framed.cellEvent (by simp) code⟩
  · exact (State.cellEvent_get rfl (by decide) _ _ _ _).trans h.cst
  · exact (State.cellEvent_get rfl (by decide) _ _ _ _).trans h.phAct
  · exact (State.cellEvent_get rfl (by decide) _ _ _ _).trans h.avail
  · exact (State.cellEvent_get rfl (by decide) _ _ _ _).trans h.cause
  · rw [State.cellEvent_cell, h.act]
  · rw [State.cellEvent_lines _ _ _ (by rwa [h.flt]), h.flt]

/-- A failed cell before its event. -/
def State.failed (s : State) (c cause : Nat) : State := (s.tripped c cFailed cause).set R.CEL_CUR_I_CMD c 0

theorem State.cellFail_eq (s : State) (c cause : Nat) : s.cellFail c cause = (s.failed c cause).cellEvent c (0x30 + cause) := rfl

theorem State.failed_tripped (s : State) {c cause : Nat} (hk : cause < 16) : s.Tripped c cFailed cause (s.failed c cause) :=
  (s.tripped_tripped (by decide) (by decide) hk).set (by decide) _ _ (by simp)

/-- A cell in HICCUP before its event: one more counted, and its off time to come. -/
def State.hiccuped (s : State) (c cause : Nat) : State :=
  (((s.tripped c cHiccup cause).inc R.CEL_STAT_HIC_CNT c).set R.CEL_CUR_I_CMD c 0).updCell c fun x => { x with offCnt := 2000 }

theorem State.trigger_hiccup (s : State) (c cause : Nat) (h : s.get R.CEL_STAT_HIC_CNT c < 8) :
    s.trigger c cause = (s.hiccuped c cause).cellEvent c (0x20 + cause) :=
  if_neg (by simpa using Nat.ne_of_lt h)

theorem State.trigger_fail (s : State) (c cause : Nat) (h : s.get R.CEL_STAT_HIC_CNT c = 8) :
    s.trigger c cause = s.cellFail c cause := if_pos (by simp [h])

theorem State.hiccuped_tripped (s : State) {c cause : Nat} (hk : cause < 16) :
    s.Tripped c cHiccup cause (s.hiccuped c cause) := by
  have hi := (s.tripped_tripped (c := c) (st := cHiccup) (by decide) (by decide) hk).set (F := R.CEL_STAT_HIC_CNT) (by decide) c
    (satU 4 ((s.tripped c cHiccup cause).get R.CEL_STAT_HIC_CNT c + 1)) (by simp [Fld.key, R.CEL_STAT_HIC_CNT, R.CEL_STAT_STATE])
  have hc := hi.set (F := R.CEL_CUR_I_CMD) (by decide) c 0 (by simp)
  exact hc.updCell fun _ => rfl

theorem State.hiccuped_count (s : State) (c cause : Nat) (h : s.get R.CEL_STAT_HIC_CNT c < 8) :
    (s.hiccuped c cause).get R.CEL_STAT_HIC_CNT c = s.get R.CEL_STAT_HIC_CNT c + 1 := by
  have ht : (s.tripped c cHiccup cause).get R.CEL_STAT_HIC_CNT c = s.get R.CEL_STAT_HIC_CNT c :=
    (State.get_set_apart (G := R.CEL_STAT_HIC_CNT) (by decide) _ _ _ _).trans (State.shut_get (by decide) _ _ _ _)
  rw [State.hiccuped, State.updCell_get, State.get_set_apart (by decide), State.inc, State.setSat,
    State.get_set_self _ _ _ _ (by decide), ht]
  have hs : satU 4 (s.get R.CEL_STAT_HIC_CNT c + 1) = s.get R.CEL_STAT_HIC_CNT c + 1 := if_pos (by omega)
  exact (congrArg (· % 2 ^ 4) hs).trans (Nat.mod_eq_of_lt (by omega))

/-! ### The triggers of a hiccup -/

/-- Each trigger of R83 where its condition holds. -/
theorem exec_trigger {s : State} {c k : Nat} {x : Instr} (hc : c < 16 * s.cfg.n)
    (h : (x = .cellHiccup c ∧ k = 1 ∧ s.cst c = cRun ∧ (s.cell c).hicN ≤ (s.cell c).limCnt) ∨
      (x = .softstartShort c ∧ k = 2 ∧ s.cst c = cSoft ∧ 200 < (s.cell c).shortCnt) ∨
      (x = .softstartTimeout c ∧ k = 3 ∧ s.cst c = cSoft ∧ (s.cell c).ssLeft = 0 ∧ (s.cell c).ssDone = false)) :
    exec x s = .next (s.trigger c k) ∧ k < 16 := by
  rcases h with ⟨rfl, rfl, hs, hl⟩ | ⟨rfl, rfl, hs, hn⟩ | ⟨rfl, rfl, hs, hl, hd⟩
  · exact ⟨(onCell_next hc _).trans (congrArg Host.Outcome.next (if_pos (by simp [hs, hl]))), by decide⟩
  · exact ⟨(onCell_next hc _).trans (congrArg Host.Outcome.next (if_pos (by simp [hs, hn]))), by decide⟩
  · exact ⟨(onCell_next hc _).trans (congrArg Host.Outcome.next (if_pos (by simp [hs, hl, hd]))), by decide⟩

theorem hiccupEnd_waits (s : State) (c : Nat) (hc : c < 16 * s.cfg.n) (h : (s.cell c).offCnt ≠ 0) :
    exec (.hiccupEnd c) s = .next s :=
  (onCell_next hc _).trans (congrArg Host.Outcome.next (if_neg (by simp [h])))

theorem hiccupEnd_begins (s : State) (c : Nat) (hc : c < 16 * s.cfg.n) (hs : s.cst c = cHiccup) (h0 : (s.cell c).offCnt = 0)
    (ho : (s.cell c).ordered = true) (hl : s.get R.CEL_SYNC_LOCK (c / 16) = 1) :
    exec (.hiccupEnd c) s = .next (s.beginSoft c) :=
  (onCell_next hc _).trans (congrArg Host.Outcome.next (if_pos (by simp [hs, h0, ho, hl, State.flag])))

/-- Settles O48: by whether 8 hiccups are counted, a trigger shuts the cell in HICCUP or in FAILED; the end of the off time begins
a soft start. -/
theorem hiccupsOpenTheSwitches : Obligations.HiccupsOpenTheSwitches := by
  intro s c hc hm
  refine ⟨fun x k hx => ?_, fun _ h => hiccupEnd_waits s c hc h, fun hs h0 ho hl => ?_⟩
  · obtain ⟨he, hk⟩ := exec_trigger hc hx
    have hkept := s.trigger_kept c k
    refine ⟨fun h => ⟨_, he, ?_⟩, fun h => ⟨_, he, ?_⟩⟩
    · rw [State.trigger_hiccup _ _ _ h] at hkept ⊢
      obtain ⟨hcst, hact, havail, hcause, hset, hlines, hframe⟩ := (s.hiccuped_tripped hk).cellEvent (0x20 + k) hm
      have hcnt := (State.cellEvent_get (F := R.CEL_STAT_HIC_CNT) rfl (by decide) (s.hiccuped c k) c (0x20 + k) c).trans
        (s.hiccuped_count c k h)
      have hoff : (((s.hiccuped c k).cellEvent c (0x20 + k)).cell c).offCnt = 2000 := by
        rw [State.cellEvent_cell, State.hiccuped, State.cell_updCell_self]
      exact ⟨hcst, hact, havail, hcnt, hcause, hoff, hset, State.cellEvent_shown _ _ _, hlines, hkept, hframe⟩
    · rw [State.trigger_fail _ _ _ h, State.cellFail_eq] at hkept ⊢
      obtain ⟨hcst, hact, havail, hcause, -, hlines, hframe⟩ := (s.failed_tripped hk).cellEvent (0x30 + k) hm
      exact ⟨hcst, hact, havail, hcause, hlines, hkept, hframe⟩
  · have hb := s.beginSoft_begun c
    exact ⟨_, hiccupEnd_begins s c hc hs h0 ho hl, hb.cst, hb.loc, hb.only, hb.framed⟩

end Sys2Proof.Machine

namespace Sys2Proof.Machine

/-! ### Start orders -/

/-- The start order has arrived at its cell. -/
def State.orderTaken (s : State) (c v : Nat) : State :=
  s.updCell c fun x => { x with startSent := none, ordered := true, start := v }

theorem State.orderTaken_mayStart (s : State) (c v : Nat) : (s.orderTaken c v).mayStart c = s.mayStart c := by
  unfold State.mayStart State.orderTaken
  rw [State.cell_updCell_self]
  rfl

/-- A start order on a cell that is OFF: refused, acting, or held. -/
theorem effStartOrder_off (s : State) (c v : Nat) (hv : (s.cell c).startSent = some v) (hs : s.cst c = cOff) :
    effStartOrder s c =
      if s.startable c = false then (s.orderTaken c v).updCell c fun x => { x with ordered := false }
      else if s.mayStart c = true then (s.orderTaken c v).beginSoft c
      else (s.orderTaken c v).updCell c fun x => { x with held := true } := by
  have hst : (s.orderTaken c v).cst c = cOff := hs
  have hok : (s.orderTaken c v).startable c = s.startable c := rfl
  have hm := s.orderTaken_mayStart c v
  unfold effStartOrder
  rw [hv]
  unfold State.orderTaken at *
  simp [hst, hok, hm]

theorem cellStartOrder_begins (s : State) (c v : Nat) (hc : c < 16 * s.cfg.n) (hv : (s.cell c).startSent = some v)
    (hs : s.cst c = cOff) (hok : s.startable c = true) (hm : s.mayStart c = true) :
    ∃ t, exec (.cellStartOrder c) s = .next t ∧ t.cst c = cSoft ∧ t.get R.CEL_STAT_LOCAL c = 1 ∧
      t.get R.CEL_STAT_AVAIL c = 0 ∧ (t.cell c).target = v ∧ (t.cell c).start = v ∧ (t.cell c).ordered = true ∧
      (t.cell c).startSent = none ∧ t = { s with regs := t.regs, cells := t.cells } ∧ s.framed t (softKeys c) := by
  have he : effStartOrder s c = (s.orderTaken c v).beginSoft c := by
    rw [effStartOrder_off s c v hv hs, if_neg (by simp [hok]), if_pos hm]
  have hb := (s.orderTaken c v).beginSoft_begun c
  have hx : (s.orderTaken c v).cell c = { s.cell c with startSent := none, ordered := true, start := v } :=
    State.cell_updCell_self _ _ _
  refine ⟨_, (onCell_next hc _).trans (congrArg Host.Outcome.next he), hb.cst, hb.loc, hb.avail, ?_, ?_, ?_, ?_, hb.only,
    hb.framed⟩
  · rw [hb.target, hx]
  · rw [hb.start, hx]
  · rw [hb.ordered, hx]
  · rw [hb.startSent, hx]

theorem cellStartOrder_held (s : State) (c v : Nat) (hc : c < 16 * s.cfg.n) (hv : (s.cell c).startSent = some v)
    (hs : s.cst c = cOff) (hok : s.startable c = true) (hm : s.mayStart c = false) :
    exec (.cellStartOrder c) s = .next ((s.orderTaken c v).updCell c fun x => { x with held := true }) := by
  refine (onCell_next hc _).trans (congrArg Host.Outcome.next ?_)
  rw [effStartOrder_off s c v hv hs, if_neg (by simp [hok]), if_neg (by simp [hm])]

theorem cellStartOrder_refused (s : State) (c v : Nat) (hc : c < 16 * s.cfg.n) (hv : (s.cell c).startSent = some v)
    (hs : s.cst c = cOff) (hok : s.startable c = false) :
    ∃ t, exec (.cellStartOrder c) s = .next t ∧ t.cst c = cOff ∧ (t.cell c).ordered = false ∧ t = { s with cells := t.cells } := by
  have he := effStartOrder_off s c v hv hs
  rw [if_pos hok] at he
  exact ⟨_, (onCell_next hc _).trans (congrArg Host.Outcome.next he), hs,
    congrArg CellS.ordered (State.cell_updCell_self _ c _), rfl⟩

theorem cellStartOrder_none (s : State) (c : Nat) (hc : c < 16 * s.cfg.n) (h : (s.cell c).startSent = none) :
    exec (.cellStartOrder c) s = .next s := by
  refine (onCell_next hc _).trans (congrArg Host.Outcome.next ?_)
  unfold effStartOrder
  rw [h]

theorem cellHeldStart_begins (s : State) (c : Nat) (hc : c < 16 * s.cfg.n) (hs : s.cst c = cOff) (hh : (s.cell c).held = true)
    (hm : s.mayStart c = true) (hok : s.startable c = true) :
    exec (.cellHeldStart c) s = .next (s.beginSoft c) :=
  (onCell_next hc _).trans (congrArg Host.Outcome.next (if_pos (by simp [hs, hh, hm, hok])))

/-! ### The end of a soft start, stop orders, and the clean window -/

/-- A soft start that completes enters RUN with its clean window open, whatever reference it takes. -/
theorem effSoftComplete_done (s : State) (c : Nat) (hs : s.cst c = cSoft) (hd : (s.cell c).ssDone = true)
    (hn : (s.cell c).shortCnt ≤ 200) :
    ∃ f : CellS → CellS, (∀ x, (f x).window = 1000) ∧ effSoftComplete s c = (s.setCst c cRun).updCell c f := by
  refine ⟨_, fun x => ?_, if_pos (by simp [hs, hd, hn])⟩
  dsimp only
  split <;> rfl

theorem softstartComplete_runs (s : State) (c : Nat) (hc : c < 16 * s.cfg.n) (hs : s.cst c = cSoft)
    (hd : (s.cell c).ssDone = true) (hn : (s.cell c).shortCnt ≤ 200) :
    ∃ t, exec (.softstartComplete c) s = .next t ∧ t.cst c = cRun ∧ t.avail c = true ∧ t.get R.CEL_STAT_AVAIL c = 1 ∧
      (t.cell c).window = 1000 ∧ t = { s with regs := t.regs, cells := t.cells } ∧ s.framed t [R.CEL_STAT_STATE.key c] := by
  obtain ⟨f, hf, he⟩ := effSoftComplete_done s c hs hd hn
  have hrun : ((s.setCst c cRun).updCell c f).cst c = cRun := s.cst_setCst_self (by decide)
  refine ⟨_, (onCell_next hc _).trans (congrArg Host.Outcome.next he), hrun, beq_iff_eq.mpr hrun, s.setCst_avail c cRun, ?_, rfl,
    (s.framed_refl _).setCst (List.mem_singleton_self _) cRun⟩
  rw [State.cell_updCell_self, hf]

/-- The orders of a cell that is told to stop are discarded. -/
def CellS.dropOrders (x : CellS) : CellS := { x with stopSent := false, startSent := none, ordered := false, held := false }

theorem effStopOrder_switching (s : State) (c : Nat) (hsent : (s.cell c).stopSent = true)
    (hs : s.cst c = cRun ∨ s.cst c = cSoft ∨ s.cst c = cHiccup) :
    effStopOrder s c = ((s.updCell c CellS.dropOrders).shut c cOff).set R.CEL_CUR_I_CMD c 0 := by
  have hst : ((s.updCell c CellS.dropOrders).cst c == cSoft || (s.updCell c CellS.dropOrders).cst c == cRun ||
      (s.updCell c CellS.dropOrders).cst c == cHiccup) = true := by
    have hcst : (s.updCell c CellS.dropOrders).cst c = s.cst c := rfl
    rcases hs with hs | hs | hs <;> simp [hcst, hs]
  exact (if_pos hsent).trans (if_pos hst)

theorem cellStopOrder_stops (s : State) (c : Nat) (hc : c < 16 * s.cfg.n) (hsent : (s.cell c).stopSent = true)
    (hs : s.cst c = cRun ∨ s.cst c = cSoft ∨ s.cst c = cHiccup) :
    ∃ t, exec (.cellStopOrder c) s = .next t ∧ t.cst c = cOff ∧ t.get R.CEL_STAT_PH_ACT c = 0 ∧
      t.get R.CEL_STAT_HIC_CNT c = s.get R.CEL_STAT_HIC_CNT c ∧ (t.cell c).act = 0 ∧ (t.cell c).ordered = false ∧
      t = { s with regs := t.regs, cells := t.cells, phases := t.phases } ∧
      s.framed t [R.CEL_STAT_STATE.key c, R.CEL_CUR_I_CMD.key c] := by
  have hx := (s.updCell c CellS.dropOrders).shut_cell c cOff
  rw [State.cell_updCell_self] at hx
  refine ⟨_, (onCell_next hc _).trans (congrArg Host.Outcome.next (effStopOrder_switching s c hsent hs)), ?_, ?_, ?_,
    congrArg CellS.act hx, congrArg CellS.ordered hx,
    (((s.cellOnly_refl.updCell c _).shut c cOff).set R.CEL_CUR_I_CMD c 0).eq, ?_⟩
  · exact (State.get_set_apart (by decide) _ _ _ _).trans (State.shut_cst _ (by decide))
  · exact (State.get_set_apart (by decide) _ _ _ _).trans (State.shut_phAct _ _ _)
  · exact (State.get_set_apart (by decide) _ _ _ _).trans (State.shut_get (by decide) _ _ _ _)
  · exact State.framed_set _ _ _ R.CEL_CUR_I_CMD c 0
      (State.framed.shut (t := s.updCell c CellS.dropOrders) (s.framed_refl _) (by simp) cOff) (by simp)

theorem cleanWindowClose_clears (s : State) (c : Nat) (hc : c < 16 * s.cfg.n) (hs : s.cst c = cRun)
    (ho : (s.cell c).winOpen = true) (hw : (s.cell c).window = 0) :
    ∃ t, exec (.cleanWindowClose c) s = .next t ∧ t.get R.CEL_STAT_HIC_CNT c = 0 ∧ (t.cell c).winOpen = false ∧
      t = { s with regs := t.regs, cells := t.cells } ∧ s.framed t [R.CEL_STAT_STATE.key c] := by
  have he : effCleanWindow s c = (s.set R.CEL_STAT_HIC_CNT c 0).updCell c fun x => { x with winOpen := false } :=
    if_pos (by simp [hs, ho, hw])
  exact ⟨_, (onCell_next hc _).trans (congrArg Host.Outcome.next he), State.get_set_self _ R.CEL_STAT_HIC_CNT c 0 (by decide),
    congrArg CellS.winOpen (State.cell_updCell_self _ c _), rfl,
    (s.framed_refl _).setStat (List.mem_singleton_self _) (F := R.CEL_STAT_HIC_CNT) ⟨rfl, rfl⟩ 0⟩

/-- Settles O47: a start order on a cell that is OFF has three ends, of which one begins a soft start; a stop order shuts the cell. -/
theorem cellsStartAndStopOnOrders : Obligations.CellsStartAndStopOnOrders := by
  intro s c hc
  refine ⟨fun v hv => cellStartOrder_begins s c v hc hv, fun v hv => cellStartOrder_held s c v hc hv,
    fun v hv => cellStartOrder_refused s c v hc hv, cellStartOrder_none s c hc, fun hs hh hm hok => ?_,
    softstartComplete_runs s c hc, cellStopOrder_stops s c hc, cleanWindowClose_clears s c hc⟩
  have hb := s.beginSoft_begun c
  exact ⟨_, cellHeldStart_begins s c hc hs hh hm hok, hb.cst, hb.held, hb.only, hb.framed⟩

end Sys2Proof.Machine

namespace Sys2Proof.Machine

/-! ### Drizzle -/

/-- A fold each of whose steps writes phases alone. -/
theorem State.each_phases (s : State) (l : List Nat) (f : State → Nat → State)
    (hf : ∀ t p, ∃ ps, f t p = { t with phases := ps }) : ∃ ps, s.each l f = { s with phases := ps } := by
  refine State.each_induct (fun t => ∃ ps, t = { s with phases := ps }) _ _ (fun t p _ ht => ?_) s ⟨s.phases, rfl⟩
  obtain ⟨ps, rfl⟩ := ht
  obtain ⟨qs, hq⟩ := hf { s with phases := ps } p
  exact ⟨qs, hq⟩

/-- The counts of the phases that leave the active set restart. -/
def State.phasesLeave (s : State) (c old new : Nat) : State :=
  s.each [0, 1, 2, 3] fun s p => if old.testBit p && !new.testBit p then s.clearPhase c p else s

theorem State.phasesLeave_form (s : State) (c old new : Nat) : ∃ ps, s.phasesLeave c old new = { s with phases := ps } :=
  State.each_phases _ _ _ fun t p => by
    split
    · exact ⟨_, rfl⟩
    · exact ⟨t.phases, rfl⟩

/-- The condition under which Drizzle sheds a phase (rule 3 of R79). -/
abbrev State.sheds (s : State) (c : Nat) : Prop :=
  s.cst c = cRun ∧ (s.cell c).drzEn = true ∧ s.drzOk c = true ∧ (s.cell c).shed = 16 ∧ 1 < popN 4 (s.cell c).act

/-- The set of a cell that sheds one phase. -/
abbrev State.shedSet (s : State) (c : Nat) : Nat := firstActive (popN 4 (s.cell c).act - 1) (s.usable c)

theorem effDrizzleShed_eq (s : State) (c : Nat) :
    effDrizzleShed s c = if s.sheds c then
      (s.updCell c fun x => { x with act := s.shedSet c, shed := 0 }).phasesLeave c (s.cell c).act (s.shedSet c) else s := by
  unfold effDrizzleShed
  dsimp only
  refine if_congr ?_ rfl rfl
  simp [State.sheds, and_assoc]

theorem drizzleShed_sheds (s : State) (c : Nat) (hc : c < 16 * s.cfg.n) (h : s.sheds c) :
    ∃ t, exec (.drizzleShed c) s = .next t ∧ (t.cell c).act = s.shedSet c ∧ (t.cell c).shed = 0 ∧
      t = { s with cells := t.cells, phases := t.phases } := by
  obtain ⟨ps, hps⟩ := (s.updCell c fun x => { x with act := s.shedSet c, shed := 0 }).phasesLeave_form c (s.cell c).act (s.shedSet c)
  have he := ((effDrizzleShed_eq s c).trans (if_pos h)).trans hps
  have hx := s.cell_updCell_self c fun x => { x with act := s.shedSet c, shed := 0 }
  exact ⟨_, (onCell_next hc _).trans (congrArg Host.Outcome.next he), congrArg CellS.act hx, congrArg CellS.shed hx, rfl⟩

/-! ### The removal of a phase -/

/-- A good phase is left where another one than the removed was good. -/
theorem good_left_iff : ∀ x < 16, ∀ p < 4,
    (15 - (x ||| 2 ^ p) % 16 = 0 ↔ ∀ q < 4, q ≠ p → (15 - x).testBit q = false) := by decide

/-- A phase is marked with its cause, its counts restart, its loss is noted, and it is reported. -/
def State.phaseRemoved (s : State) (c p cause : Nat) : State :=
  (((s.markPhase c p cause).clearPhase c p).notePhase c).cellEvent c (0x10 + p)

theorem State.phaseRemoved_get {F : Fld} (hi : F.inst = .cell) (hb : 0x14 < F.base % 0x1000 ∧ F.base % 0x1000 + 0xF0 < 0x1000)
    (s : State) (c p cause i : Nat) : (s.phaseRemoved c p cause).get F i = (s.markPhase c p cause).get F i :=
  State.cellEvent_get hi hb _ _ _ _

theorem State.phaseRemoved_good (s : State) (c p cause : Nat) (hp : p < 4) :
    (s.phaseRemoved c p cause).good c = 0 ↔ ∀ q < 4, q ≠ p → (s.good c).testBit q = false := by
  unfold State.good
  rw [State.phaseRemoved_get rfl (by decide), State.phFail_markPhase]
  exact good_left_iff _ (Nat.mod_lt _ (by decide)) p hp

theorem effPhaseRemoval_eq (s : State) (c p : Nat) (hp : p < 4) (hs : s.cst c = cRun ∨ s.cst c = cSoft)
    (hd : (tabAt s.phases (4 * c + p) : PhaseS).done ≠ 0) (hg : (s.good c).testBit p = true) :
    ∃ f : CellS → CellS, effPhaseRemoval s c p =
      if (s.phaseRemoved c p (tabAt s.phases (4 * c + p) : PhaseS).done).good c = 0
      then (s.phaseRemoved c p (tabAt s.phases (4 * c + p) : PhaseS).done).cellFail c 4
      else (s.phaseRemoved c p (tabAt s.phases (4 * c + p) : PhaseS).done).updCell c f := by
  have hrun : (s.cst c == cRun || s.cst c == cSoft) = true := by
    rcases hs with hs | hs <;> simp [hs]
  refine ⟨_, (if_pos (by simp only [hrun, hg, decide_eq_true hp, bne_iff_ne.mpr hd, Bool.and_true])).trans
    (if_congr beq_iff_eq rfl rfl)⟩

/-- The registers that the removal of a phase writes, while another one is good. -/
abbrev removeKeys (c : Nat) : List Nat := [R.CEL_STAT_STATE.key c, R.CEL_PH_CAUSE0.key c, R.CEL_FLT_CELEV.key (c / 16)]

theorem State.phaseRemoved_framed (s : State) (c p cause : Nat) : s.framed (s.phaseRemoved c p cause) (removeKeys c) := by
  have hf := (s.framed_refl (removeKeys c)).setStat (c := c) (by simp) (F := R.CEL_STAT_PH_FAIL) ⟨rfl, rfl⟩
    (s.get R.CEL_STAT_PH_FAIL c ||| 2 ^ p)
  have hm := State.framed_set _ _ _ { R.CEL_PH_CAUSE0 with lo := 2 * p } c cause hf
    (List.mem_cons_of_mem _ (List.mem_cons_self ..))
  exact State.framed.cellEvent (t := ((s.markPhase c p cause).clearPhase c p).notePhase c) hm (by simp) (0x10 + p)

theorem phaseRemoval_goes_on (s : State) (c p : Nat) (hc : c < 16 * s.cfg.n) (hp : p < 4) (hs : s.cst c = cRun ∨ s.cst c = cSoft)
    (hd : (tabAt s.phases (4 * c + p) : PhaseS).done ≠ 0) (h4 : (tabAt s.phases (4 * c + p) : PhaseS).done < 4)
    (hg : (s.good c).testBit p = true) (hm : (srcOf 1 c, clsCell) ∉ s.flt.masked)
    (hq : ∃ q < 4, q ≠ p ∧ (s.good c).testBit q = true) :
    ∃ t, exec (.phaseRemoval c p) s = .next t ∧ (t.get R.CEL_STAT_PH_FAIL c).testBit p = true ∧ t.cst c = s.cst c ∧
      t.get { R.CEL_PH_CAUSE0 with lo := 2 * p } c = (tabAt s.phases (4 * c + p) : PhaseS).done ∧
      t.flt.lines = s.flt.lines ++ [{ cls := clsCell, cause := 0x10 + p, src := srcOf 1 c }] ∧ t.kept = s.kept ∧
      s.framed t (removeKeys c) := by
  obtain ⟨f, he⟩ := effPhaseRemoval_eq s c p hp hs hd hg
  have hkept := effPhaseRemoval_kept s c p
  have hgood : ¬(s.phaseRemoved c p (tabAt s.phases (4 * c + p) : PhaseS).done).good c = 0 := by
    obtain ⟨q, hq4, hne, hqg⟩ := hq
    rw [State.phaseRemoved_good _ _ _ _ hp]
    intro h
    simp [h q hq4 hne] at hqg
  rw [if_neg hgood] at he
  rw [he] at hkept
  refine ⟨_, (onCell_next hc _).trans (congrArg Host.Outcome.next he), ?_, ?_, ?_, ?_, hkept, s.phaseRemoved_framed c p _⟩
  · rw [State.updCell_get, State.phaseRemoved_get rfl (by decide), State.phFail_markPhase]
    exact testBit_or_two_pow_mod hp _
  · exact (State.phaseRemoved_get (F := R.CEL_STAT_STATE) rfl (by decide) _ _ _ _ _).trans (s.cst_markPhase c p _ c)
  · rw [State.updCell_get, State.phaseRemoved_get rfl (by simp [R.CEL_PH_CAUSE0]), State.markPhase,
      State.get_set_self _ _ _ _ (by simp only [R.CEL_PH_CAUSE0]; omega)]
    exact Nat.mod_eq_of_lt h4
  · exact State.cellEvent_lines _ _ _ hm

theorem phaseRemoval_fails (s : State) (c p : Nat) (hc : c < 16 * s.cfg.n) (hp : p < 4) (hs : s.cst c = cRun ∨ s.cst c = cSoft)
    (hd : (tabAt s.phases (4 * c + p) : PhaseS).done ≠ 0) (hg : (s.good c).testBit p = true)
    (hq : ∀ q < 4, q ≠ p → (s.good c).testBit q = false) :
    ∃ t, exec (.phaseRemoval c p) s = .next t ∧ t.cst c = cFailed ∧ t.get R.CEL_STAT_LAST_CAUSE c = 4 ∧ t.kept = s.kept := by
  obtain ⟨f, he⟩ := effPhaseRemoval_eq s c p hp hs hd hg
  have hkept := effPhaseRemoval_kept s c p
  rw [if_pos ((s.phaseRemoved_good c p _ hp).mpr hq)] at he
  rw [he] at hkept
  have ht := (s.phaseRemoved c p (tabAt s.phases (4 * c + p) : PhaseS).done).failed_tripped (c := c) (cause := 4) (by decide)
  refine ⟨_, (onCell_next hc _).trans (congrArg Host.Outcome.next he), ?_, ?_, hkept⟩
  · exact (State.cellEvent_get rfl (by decide) _ _ _ _).trans ht.cst
  · exact (State.cellEvent_get rfl (by decide) _ _ _ _).trans ht.cause

theorem phaseRemoval_sound (s : State) (c p : Nat) (hc : c < 16 * s.cfg.n) (hd : (tabAt s.phases (4 * c + p) : PhaseS).done = 0) :
    exec (.phaseRemoval c p) s = .next s :=
  (onCell_next hc _).trans (congrArg Host.Outcome.next (if_neg (by simp [hd])))

/-- Settles O49: Drizzle by its condition, the removal of a phase by whether another one is good. -/
theorem phasesAreShedAndRemoved : Obligations.PhasesAreShedAndRemoved := by
  refine ⟨fun s c hc hs hen hok h16 hn => drizzleShed_sheds s c hc ⟨hs, hen, hok, h16, hn⟩, fun s c hc h => ?_,
    fun s c p hc hp hs hd h4 hg hm =>
      ⟨phaseRemoval_goes_on s c p hc hp hs hd h4 hg hm, phaseRemoval_fails s c p hc hp hs hd hg⟩, phaseRemoval_sound⟩
  have hno : ¬s.sheds c := by
    rintro ⟨hs, hen, hok, h16, hn⟩
    rcases h with h | h | h | h | h
    · exact h hs
    · simp [hen] at h
    · simp [hok] at h
    · exact h h16
    · omega
  exact (onCell_next hc _).trans (congrArg Host.Outcome.next ((effDrizzleShed_eq s c).trans (if_neg hno)))

end Sys2Proof.Machine

namespace Sys2Proof.Machine

/-! ### The demand of a cycle -/

/-- A cell has measured its output node. -/
def State.outputTaken (s : State) (c v : Nat) : State := s.updCell c fun x => { x with vcell := v }

theorem State.outputTaken_cell (s : State) (c v : Nat) : (s.outputTaken c v).cell c = { s.cell c with vcell := v } :=
  State.cell_updCell_self _ _ _

theorem State.outputTaken_cell_ne (s : State) {c e : Nat} (v : Nat) (h : e ≠ c) : (s.outputTaken c v).cell e = s.cell e :=
  State.cell_updCell_ne h _ _

/-- The demand of a switching cycle, formed from the output that the cycle measures. -/
def State.cycleDemand (s : State) (c v : Nat) : Int :=
  let n := popN 4 ((s.outputTaken c v).cell c).act
  let dem := (cellDemand (s.flag R.CEL_STAT_LOCAL c) ((s.outputTaken c v).cell c) (s.get R.CEL_CUR_I_CMD c) n).1
  if s.cst c == cRun then (s.outputTaken c v).thDemand c n dem else dem

theorem State.thDemand_fired (s : State) (c n : Nat) (dem : Int) (h : s.thSt (c / 16) = 2) : s.thDemand c n dem = demMax n :=
  if_pos (by simp [h])

theorem State.thDemand_quiet (s : State) (c n : Nat) (dem : Int) (h : s.thSt (c / 16) ≠ 2)
    (ht : (tabAt s.hub (c / 16) : HubS).taper = 0) : s.thDemand c n dem = dem :=
  (if_neg (by simp [h])).trans (if_neg (by simp [ht]))

theorem State.cycleDemand_fired (s : State) (c v : Nat) (hs : s.cst c = cRun) (h : s.thSt (c / 16) = 2) :
    s.cycleDemand c v = 56000 * (popN 4 (s.cell c).act : Int) := by
  unfold State.cycleDemand
  rw [State.outputTaken_cell]
  exact (if_pos (by simp [hs])).trans (State.thDemand_fired _ _ _ _ h)

/-- Without Thunderhead the demand of a cycle is that of R65. -/
theorem State.cycleDemand_quiet (s : State) (c v : Nat)
    (h : s.cst c = cSoft ∨ (s.cst c = cRun ∧ s.thSt (c / 16) ≠ 2 ∧ (tabAt s.hub (c / 16) : HubS).taper = 0)) :
    s.cycleDemand c v = (cellDemand (s.flag R.CEL_STAT_LOCAL c) { s.cell c with vcell := v } (s.get R.CEL_CUR_I_CMD c)
      (popN 4 (s.cell c).act)).1 := by
  unfold State.cycleDemand
  rw [State.outputTaken_cell]
  rcases h with hs | ⟨hs, hth, htap⟩
  · exact if_neg (by simp [hs])
  · exact (if_pos (by simp [hs])).trans (State.thDemand_quiet _ _ _ _ hth htap)

theorem cellDemand_current (x : CellS) (cmd n : Nat) : (cellDemand false x cmd n).1 =
    clampTo 0 (demMax n) (40 * (cmd : Int) + clampTo (-400 * (x.trimMax : Int)) (400 * (x.trimMax : Int))
      (10 * (x.gTrim : Int) * ((x.vref : Int) - (x.vcell : Int)))) := rfl

theorem cellDemand_local (x : CellS) (cmd n : Nat) (h : x.loadInteg = false) : (cellDemand true x cmd n).1 =
    clampTo 0 (demMax n) (1000 * (x.vloc - 5 * (x.vcell : Int)) + x.integ) := by
  simp [cellDemand, h]

/-! ### One phase in a cycle -/

theorem phaseRun_off (dem : Int) (n : Nat) (o : PhaseObs) (h : dem < 40 * (n : Int) * o.start) :
    (phaseRun dem n o).onTime = 0 ∧ (phaseRun dem n o).stop = o.start := by
  rw [phaseRun, if_pos h]
  exact ⟨rfl, rfl⟩

theorem phaseRun_on (dem : Int) (n : Nat) (o : PhaseObs) (h : 40 * (n : Int) * o.start ≤ dem) :
    400 ≤ (phaseRun dem n o).onTime ∧ (phaseRun dem n o).onTime ≤ 9000 := by
  rw [phaseRun, if_neg (not_lt.mpr h)]
  dsimp only
  omega

/-! ### A cycle of a cell that switches -/

/-- The parts of a cycle: the output is measured, the phases are checked, PH_ACT shows the set, and the cell takes its demand and
its counts. -/
theorem State.switchCell_form (s : State) (c v vfeed : Nat) (obs : List PhaseObs) :
    ∃ (ps : Tab PhaseS) (f : CellS → CellS), (∀ x, (f x).vcell = x.vcell ∧ (f x).dem = s.cycleDemand c v) ∧
      s.switchCell c v vfeed obs =
        (({ s.outputTaken c v with phases := ps } : State).set R.CEL_STAT_PH_ACT c (s.cell c).act).updCell c f := by
  have hact : ((s.outputTaken c v).cell c).act = (s.cell c).act := by rw [State.outputTaken_cell]
  unfold State.switchCell
  dsimp only
  rw [← State.outputTaken, hact]
  generalize hfold : State.each _ _ _ = t
  obtain ⟨ps, rfl⟩ : ∃ ps, t = { s.outputTaken c v with phases := ps } := hfold ▸ State.each_phases _ _ _ fun t p => ⟨_, rfl⟩
  refine ⟨ps, _, fun x => ?_, rfl⟩
  rw [State.cycleDemand, hact]
  dsimp only
  split
  · exact ⟨rfl, rfl⟩
  · exact ⟨rfl, rfl⟩

theorem effSwitching_switches (s : State) (c v vfeed : Nat) (obs : List PhaseObs) (h : s.cst c = cRun ∨ s.cst c = cSoft) :
    effSwitching s c v vfeed obs = s.switchCell c v vfeed obs := by
  refine if_pos ?_
  rcases h with h | h <;> simp [h]

/-- What a cycle of a cell that switches does, its demand included. -/
theorem switchingCycle_switches (s : State) (c v vfeed : Nat) (obs : List PhaseObs) (hc : c < 16 * s.cfg.n)
    (h : s.cst c = cRun ∨ s.cst c = cSoft) :
    ∃ t, exec (.switchingCycle c v vfeed obs) s = .next t ∧ (t.cell c).dem = s.cycleDemand c v ∧ (t.cell c).vcell = v ∧
      t.get R.CEL_STAT_PH_ACT c = (s.cell c).act % 16 ∧ t.cst c = s.cst c ∧ (∀ e, e ≠ c → t.cell e = s.cell e) ∧
      t = { s with regs := t.regs, cells := t.cells, phases := t.phases } ∧ s.framed t [R.CEL_STAT_STATE.key c] := by
  obtain ⟨ps, f, hf, he⟩ := s.switchCell_form c v vfeed obs
  have hx := State.cell_updCell_self (({ s.outputTaken c v with phases := ps } : State).set R.CEL_STAT_PH_ACT c (s.cell c).act) c f
  refine ⟨_, (onCell_next hc _).trans (congrArg Host.Outcome.next ((effSwitching_switches s c v vfeed obs h).trans he)),
    ?_, ?_, ?_, ?_, fun e hne => ?_, rfl, ?_⟩
  · rw [hx, (hf _).2]
  · rw [hx, (hf _).1]
    exact congrArg CellS.vcell (s.outputTaken_cell c v)
  · exact State.get_set_self _ R.CEL_STAT_PH_ACT c _ (by decide)
  · exact State.get_set_apart (F := R.CEL_STAT_PH_ACT) (G := R.CEL_STAT_STATE) (by decide) _ _ _ _
  · exact (State.cell_updCell_ne hne _ _).trans (s.outputTaken_cell_ne v hne)
  · exact State.framed.setStat (t := { s.outputTaken c v with phases := ps }) (s.framed_refl _) (List.mem_singleton_self _)
      (F := R.CEL_STAT_PH_ACT) ⟨rfl, rfl⟩ _

theorem switchingCycle_measures (s : State) (c v vfeed : Nat) (obs : List PhaseObs) (hc : c < 16 * s.cfg.n)
    (hr : s.cst c ≠ cRun) (hs : s.cst c ≠ cSoft) :
    exec (.switchingCycle c v vfeed obs) s = .next (s.updCell c fun x =>
      { x with vcell := v, offCnt := if s.cst c = cHiccup then x.offCnt - 1 else x.offCnt }) := by
  have he : effSwitching s c v vfeed obs = s.updCell c fun x =>
      { x with vcell := v, offCnt := if s.cst c == cHiccup then x.offCnt - 1 else x.offCnt } := if_neg (by simp [hr, hs])
  refine (onCell_next hc _).trans (congrArg Host.Outcome.next (he.trans ?_))
  simp only [beq_iff_eq]

theorem switchingCycle_beyond (s : State) (c v vfeed : Nat) (obs : List PhaseObs) (hc : 16 * s.cfg.n ≤ c) :
    exec (.switchingCycle c v vfeed obs) s = .next s :=
  congrArg Host.Outcome.next (if_neg (by simp [State.cellOk, hc]))

/-- Settles O46: the demand that a cycle leaves is that of `State.cycleDemand`, read in each mode and under Thunderhead. -/
theorem switchingCyclesFollowTheDemand : Obligations.SwitchingCyclesFollowTheDemand := by
  refine ⟨fun s c v vf obs hc h => ?_, fun s c v vf obs hc hr hl hth ht => ?_, fun s c v vf obs hc hl h hi => ?_,
    fun dem n o => ⟨phaseRun_off dem n o, phaseRun_on dem n o⟩, fun s c v vf obs hc hr hth => ?_,
    switchingCycle_measures, switchingCycle_beyond⟩
  · obtain ⟨t, he, -, ht⟩ := switchingCycle_switches s c v vf obs hc h
    exact ⟨t, he, ht⟩
  · obtain ⟨t, he, hd, -⟩ := switchingCycle_switches s c v vf obs hc (.inl hr)
    have hf : s.flag R.CEL_STAT_LOCAL c = false := by simp [State.flag, hl]
    rw [s.cycleDemand_quiet c v (.inr ⟨hr, hth, ht⟩), hf, cellDemand_current] at hd
    exact ⟨t, he, hd⟩
  · obtain ⟨t, he, hd, -⟩ := switchingCycle_switches s c v vf obs hc (h.elim .inr fun h => .inl h.1)
    have hf : s.flag R.CEL_STAT_LOCAL c = true := by simp [State.flag, hl]
    rw [s.cycleDemand_quiet c v h, hf] at hd
    exact ⟨t, he, hd.trans (cellDemand_local _ _ _ hi)⟩
  · obtain ⟨t, he, hd, -⟩ := switchingCycle_switches s c v vf obs hc (.inl hr)
    exact ⟨t, he, hd.trans (s.cycleDemand_fired c v hr hth)⟩

end Sys2Proof.Machine

namespace Sys2Proof.Machine

/-! ### The start of the test signal as a capture trigger -/

/-- A block in RUN with the generator armed, and with the capture engine armed on the trigger of R401 that is the start of the
test signal. -/
def armedCapture : State :=
  { ((State.resetOf Integ.zk08 []).set R.PWR_STAT_DEV 0 devRun).set R.CAP_STAT_STATE 0 1 with
    dev := { cold := false, powered := true, released := true, booted := true, orrRun := true },
    tst := { armed := true }, cap := { trig := 1 } }

/-- The start moves that engine to RUN in CAP_STAT. -/
theorem armedCapture_runs : (effTstStart armedCapture).get R.CAP_STAT_STATE ≠ armedCapture.get R.CAP_STAT_STATE := by decide

theorem State.framed.get {s t : State} {ks : List Nat} (h : s.framed t ks) {F : Fld} {i : Nat} (hk : F.key i ∉ ks) :
    t.get F i = s.get F i := by
  rw [State.get, h _ _ hk, State.get]

/-- Refutes O56: of TEST_SIGNAL_START it says that no register but LOOP_TST_STAT changes, whatever the capture engine does. Of an
engine that is armed on this very start (trigger code 1 of R401) the start sets STATE and TRIGD of CAP_STAT. -/
theorem not_orreryErrorsAndTestSignals : ¬ Obligations.OrreryErrorsAndTestSignals := by
  rintro ⟨-, -, -, -, -, -, -, -, -, -, -, -, hstart, -, -, -⟩
  obtain ⟨t, ht, -, -, -, -, -, -, -, -, hframe⟩ := hstart armedCapture rfl rfl (by decide)
  have he : effTstStart armedCapture = t := Host.Outcome.next.inj ht
  rw [← he] at hframe
  exact armedCapture_runs (hframe.get (by decide))

end Sys2Proof.Machine

namespace Sys2Proof.Machine

/-! ### Tables, folds and counts -/

theorem State.fc_updFc (s : State) (k : Nat) (f : FcsS → FcsS) (d : Nat) :
    (s.updFc k f).fc d = if k = d then f (s.fc d) else s.fc d := tabAt_tabUpd s.fcs k f d

theorem State.fc_updFc_self (s : State) (d : Nat) (f : FcsS → FcsS) : (s.updFc d f).fc d = f (s.fc d) := by
  rw [State.fc_updFc, if_pos rfl]

theorem State.fc_updFc_ne {k d : Nat} (h : d ≠ k) (s : State) (f : FcsS → FcsS) : (s.updFc k f).fc d = s.fc d := by
  rw [State.fc_updFc, if_neg h.symm]

theorem State.foS_updFo (s : State) (k : Nat) (f : FoS → FoS) (d : Nat) :
    (s.updFo k f).foS d = if k = d then f (s.foS d) else s.foS d := tabAt_tabUpd s.fo k f d

theorem State.foS_updFo_self (s : State) (d : Nat) (f : FoS → FoS) : (s.updFo d f).foS d = f (s.foS d) := by
  rw [State.foS_updFo, if_pos rfl]

theorem State.bk_updBk_self (s : State) (d : Nat) (f : BookS → BookS) : (s.updBk d f).bk d = f (s.bk d) :=
  (tabAt_tabUpd s.book d f d).trans (if_pos rfl)

/-- What each step of a fold over any list leaves, the fold leaves. -/
theorem State.foldl_const {α β : Type} (φ : State → β) (f : State → α → State) (h : ∀ s x, φ (f s x) = φ s) (l : List α)
    (s : State) : φ (l.foldl f s) = φ s := by
  induction l generalizing s with
  | nil => rfl
  | cons x l ih => rw [List.foldl_cons, ih, h]

/-- A fold whose steps write registers alone writes registers alone. -/
theorem State.each_regs (s : State) (l : List Nat) (f : State → Nat → State) (h : ∀ t x, f t x = { t with regs := (f t x).regs }) :
    s.each l f = { s with regs := (s.each l f).regs } :=
  State.each_induct (fun t => t = { s with regs := t.regs }) f l
    (fun t x _ ht => (h t x).trans (congrArg (fun u => { u with regs := (f t x).regs }) ht)) s rfl

/-- A field that takes a count shows it, saturated. -/
theorem State.get_setSat_self (s : State) (F : Fld) (i v : Nat) (h : F.lo + F.w ≤ 32) :
    (s.setSat F i v).get F i = satU F.w v :=
  (State.get_set_self _ _ _ _ h).trans (Nat.mod_eq_of_lt (satU_lt _ _))

theorem State.get_inc_self (s : State) (F : Fld) (i : Nat) (h : F.lo + F.w ≤ 32) :
    (s.inc F i).get F i = satU F.w (s.get F i + 1) := State.get_setSat_self _ _ _ _ h

theorem State.get_raise_self (s : State) (F : Fld) (i : Nat) (h : F.lo + F.w ≤ 32) (hw : 0 < F.w) : (s.raise F i).get F i = 1 :=
  (State.get_set_self _ _ _ _ h).trans (Nat.mod_eq_of_lt (Nat.one_lt_two_pow hw.ne'))

theorem State.framed_mono {s t : State} {ks ks' : List Nat} (h : s.framed t ks) (hk : ks ⊆ ks') : s.framed t ks' :=
  fun k r hn => h k r fun hm => hn (hk hm)

/-- Fields of an indexed register keep what another selection shows. -/
theorem State.get_set_bank_ne {F G : Fld} (hF : F.inst = .bank ∧ F.base < 0x100000) (hG : G.inst = .bank ∧ G.base < 0x100000)
    {i j : Nat} (h : i ≠ j) (s : State) (v : Nat) : (s.set F i v).get G j = s.get G j := by
  refine State.get_set_ne _ _ _ _ _ _ ?_
  simp only [Fld.key, hF.1, hG.1]
  omega

/-! ### A Forecaster step that misses its deadline -/

/-- The fields of ORR_ERRLOC. -/
def errLocFlds : List Fld := [R.ORR_ERRLOC_VALID, R.ORR_ERRLOC_CAUSE, R.ORR_ERRLOC_STAGE, R.ORR_ERRLOC_DIST]

theorem State.errLoc_get {F : Fld} (h : F.apartAll errLocFlds) (s : State) (c st d i : Nat) :
    (s.errLoc c st d).get F i = s.get F i := by
  unfold State.errLoc
  split
  · rfl
  · rw [State.get_set_apart (h R.ORR_ERRLOC_DIST (by simp [errLocFlds])),
      State.get_set_apart (h R.ORR_ERRLOC_STAGE (by simp [errLocFlds])),
      State.get_set_apart (h R.ORR_ERRLOC_CAUSE (by simp [errLocFlds])),
      State.raise_get (h R.ORR_ERRLOC_VALID (by simp [errLocFlds]))]

theorem State.errLoc_regs (s : State) (c st d : Nat) : s.errLoc c st d = { s with regs := (s.errLoc c st d).regs } := by
  unfold State.errLoc
  split <;> rfl

theorem State.framed.errLoc {s t : State} {ks : List Nat} (h : s.framed t ks) (c st d : Nat)
    (hk : R.ORR_ERRLOC_VALID.key 0 ∈ ks) : s.framed (t.errLoc c st d) ks := by
  have h1 := State.framed_set _ _ _ R.ORR_ERRLOC_VALID 0 1 h hk
  have h2 := State.framed_set _ _ _ R.ORR_ERRLOC_CAUSE 0 c h1 hk
  have h3 := State.framed_set _ _ _ R.ORR_ERRLOC_STAGE 0 st h2 hk
  exact State.framed_ite _ h (State.framed_set _ _ _ R.ORR_ERRLOC_DIST 0 d h3 hk)

/-- A free ORR_ERRLOC loads the cause and the district. -/
theorem State.errLoc_free (s : State) {c : Nat} (st d : Nat) (hc : c < 4) (h : s.get R.ORR_ERRLOC_VALID = 0) :
    (s.errLoc c st d).get R.ORR_ERRLOC_VALID = 1 ∧ (s.errLoc c st d).get R.ORR_ERRLOC_CAUSE = c ∧
      (s.errLoc c st d).get R.ORR_ERRLOC_DIST = d % 64 := by
  unfold State.errLoc
  rw [if_neg (by simp [State.flag, h])]
  refine ⟨?_, ?_, State.get_set_self _ R.ORR_ERRLOC_DIST 0 d (by decide)⟩
  · rw [State.get_set_apart (by decide), State.get_set_apart (by decide), State.get_set_apart (by decide),
      State.get_raise_self _ _ _ (by decide) (by decide)]
  · rw [State.get_set_apart (by decide), State.get_set_apart (by decide), State.get_set_self _ _ _ _ (by decide)]
    exact Nat.mod_eq_of_lt hc

/-- The step of a district that has not completed in time. -/
def State.stepMissed (s : State) (d : Nat) : State := ((s.fcZero d).raise R.ORR_FLT_FCOVR).errLoc 2 0xA d

theorem effFcDeadline_missed (s : State) (d : Nat) (hr : s.get R.FCS_STAT_STATE = 2) (ho : s.get R.FCS_DSTAT_OFF d = 0)
    (h1 : 1 ≤ s.dev.dper % 10) (h5 : s.dev.dper % 10 ≤ 5) : effFcDeadline s d = s.stepMissed d :=
  if_pos (by simp [State.flag, hr, ho, h1, h5])

theorem effFcDeadline_idle (s : State) (d : Nat) (h : s.get R.FCS_STAT_STATE ≠ 2 ∨ s.get R.FCS_DSTAT_OFF d = 1 ∨
    s.dev.dper % 10 = 0 ∨ 5 < s.dev.dper % 10) : effFcDeadline s d = s := by
  refine if_neg fun hc => ?_
  simp only [State.flag, Bool.and_eq_true, beq_iff_eq, decide_eq_true_eq, Bool.not_eq_true', bne_eq_false_iff_eq] at hc
  obtain ⟨⟨⟨hr, ho⟩, h1⟩, h5⟩ := hc
  rcases h with h | h | h | h
  · exact h hr
  · omega
  · omega
  · omega

theorem State.stepMissed_form (s : State) (d : Nat) :
    s.stepMissed d = { s with regs := (s.stepMissed d).regs, fcs := (s.fcZero d).fcs } := by
  rw [State.stepMissed, State.errLoc_regs]
  rfl

theorem State.stepMissed_fc (s : State) (d e : Nat) : (s.stepMissed d).fc e = (s.fcZero d).fc e := by
  rw [State.stepMissed_form]
  rfl

theorem forecasterDeadlineMiss_missed (s : State) (d : Nat) (hn : d < s.cfg.n) (hr : s.get R.FCS_STAT_STATE = 2)
    (ho : s.get R.FCS_DSTAT_OFF d = 0) (h1 : 1 ≤ s.dev.dper % 10) (h5 : s.dev.dper % 10 ≤ 5) :
    ∃ t, exec (.forecasterDeadlineMiss d) s = .next t ∧ t.get R.ORR_FLT_FCOVR = 1 ∧ (t.fc d).outNext = ⟨minExp, []⟩ ∧
      (t.fc d).pred1 = none ∧ (∀ e, e ≠ d → t.fc e = s.fc e) ∧ t = { s with regs := t.regs, fcs := t.fcs } ∧
      (s.get R.ORR_ERRLOC_VALID = 0 → t.get R.ORR_ERRLOC_VALID = 1 ∧ t.get R.ORR_ERRLOC_CAUSE = 2 ∧
        t.get R.ORR_ERRLOC_DIST = d % 64) ∧
      s.framed t [R.ORR_FLT_FCOVR.key 0, R.ORR_ERRLOC_VALID.key 0] := by
  refine ⟨s.stepMissed d, (onDist_next hn _).trans (congrArg _ (effFcDeadline_missed s d hr ho h1 h5)), ?_, ?_, ?_,
    fun e he => ?_, ?_, fun hv => ?_, ?_⟩
  · rw [State.stepMissed, State.errLoc_get (by decide), State.get_raise_self _ _ _ (by decide) (by decide)]
  · rw [State.stepMissed_fc, State.fcZero, State.fc_updFc_self]
  · rw [State.stepMissed_fc, State.fcZero, State.fc_updFc_self]
  · rw [State.stepMissed_fc, State.fcZero, State.fc_updFc_ne he]
  · rw [State.stepMissed_form]
  · exact State.errLoc_free _ _ _ (by decide) ((State.raise_get (by decide) (s.fcZero d) 0 0).trans hv)
  · exact State.framed.errLoc (State.framed_set _ (s.fcZero d) _ R.ORR_FLT_FCOVR 0 1 (s.framed_refl _) (by simp)) _ _ _ (by simp)

theorem forecasterDeadlineMiss_idle (s : State) (d : Nat) (hn : d < s.cfg.n) (h : s.get R.FCS_STAT_STATE ≠ 2 ∨
    s.get R.FCS_DSTAT_OFF d = 1 ∨ s.dev.dper % 10 = 0 ∨ 5 < s.dev.dper % 10) :
    exec (.forecasterDeadlineMiss d) s = .next s :=
  (onDist_next hn _).trans (congrArg _ (effFcDeadline_idle s d h))

/-! ### A Forecaster element whose weights are uncorrectable -/

/-- A district whose weights were uncorrectable in two die periods in a row. -/
def State.weightsLost (s : State) (d : Nat) : State :=
  ((((s.set R.FCS_DSTAT_OFF d 1).raise R.FCS_FLT_WDBE).raise R.DST_FLT_FCOFF d).fcZero d).updFc d fun x =>
    { x with out := ⟨minExp, []⟩ }

theorem effFcDisable_lost (s : State) (d : Nat) (hu : 2 ≤ (s.fc d).uncor) (ho : s.get R.FCS_DSTAT_OFF d = 0) :
    effFcDisable s d = s.weightsLost d := if_pos (by simp [State.flag, hu, ho])

theorem State.weightsLost_get (s : State) (d : Nat) (F : Fld) (i : Nat) : (s.weightsLost d).get F i =
    (((s.set R.FCS_DSTAT_OFF d 1).raise R.FCS_FLT_WDBE).raise R.DST_FLT_FCOFF d).get F i := rfl

theorem State.weightsLost_fc (s : State) (d : Nat) :
    (s.weightsLost d).fc d = { (s.fcZero d).fc d with out := ⟨minExp, []⟩ } :=
  State.fc_updFc_self _ d fun x => { x with out := ⟨minExp, []⟩ }

theorem State.weightsLost_fc_ne {d e : Nat} (h : e ≠ d) (s : State) : (s.weightsLost d).fc e = s.fc e :=
  (State.fc_updFc_ne h _ _).trans (State.fc_updFc_ne h _ _)

theorem forecasterDistrictDisable_lost (s : State) (d : Nat) (hn : d < s.cfg.n) (hu : 2 ≤ (s.fc d).uncor)
    (ho : s.get R.FCS_DSTAT_OFF d = 0) :
    ∃ t, exec (.forecasterDistrictDisable d) s = .next t ∧ t.get R.FCS_DSTAT_OFF d = 1 ∧ t.get R.FCS_FLT_WDBE = 1 ∧
      t.get R.DST_FLT_FCOFF d = 1 ∧ (t.fc d).out = ⟨minExp, []⟩ ∧ (t.fc d).outNext = ⟨minExp, []⟩ ∧
      (∀ e, e ≠ d → t.fc e = s.fc e) ∧ t = { s with regs := t.regs, fcs := t.fcs } ∧
      s.framed t [R.FCS_DSTAT_OFF.key d, R.FCS_FLT_WDBE.key 0, R.DST_FLT_FCOFF.key d] := by
  refine ⟨s.weightsLost d, (onDist_next hn _).trans (congrArg _ (effFcDisable_lost s d hu ho)), ?_, ?_, ?_, ?_, ?_,
    fun e he => State.weightsLost_fc_ne he s, rfl, ?_⟩
  · rw [State.weightsLost_get, State.raise_get (by decide), State.raise_get (by decide)]
    exact State.get_set_self _ _ _ _ (by decide)
  · rw [State.weightsLost_get, State.raise_get (by decide), State.get_raise_self _ _ _ (by decide) (by decide)]
  · rw [State.weightsLost_get, State.get_raise_self _ _ _ (by decide) (by decide)]
  · rw [State.weightsLost_fc]
  · rw [State.weightsLost_fc, State.fcZero, State.fc_updFc_self]
  · have h1 := State.framed_set _ _ _ R.FCS_DSTAT_OFF d 1
      (s.framed_refl [R.FCS_DSTAT_OFF.key d, R.FCS_FLT_WDBE.key 0, R.DST_FLT_FCOFF.key d]) (by simp)
    have h2 := State.framed_set _ _ _ R.FCS_FLT_WDBE 0 1 h1 (by simp)
    exact State.framed_congr _ _ _ _ (State.framed_set _ _ _ R.DST_FLT_FCOFF d 1 h2 (by simp)) rfl

end Sys2Proof.Machine

namespace Sys2Proof.Machine

/-! ### The attribution of an epoch is published -/

/-- A district's flags, scale and energies of the closed epoch are shown. -/
def State.energyShown (s : State) (d : Nat) : State :=
  let x := s.fc d
  let v := if x.pubValid then 1 else 0
  let s := ((s.set R.FCS_DSTAT_ATTV d v).set R.FCS_SCALE_VALID d v).set R.FCS_SCALE_SCALE d x.pubScale
  (s.setSat R.FCS_BASEE_E d x.pubBase).setSat R.FCS_EMEAS_E d x.pubMeas

/-- The energy of a queue is shown. -/
def State.queueShown (s : State) (k v : Nat) : State :=
  if v = s.get R.FCS_ATT_EQ k then s else s.setSat R.FCS_ATT_EQ k v

theorem State.publish_eq (s : State) (d : Nat) : s.publish d =
    (s.energyShown d).each (List.range 256) fun t q => t.queueShown (256 * d + q) (tabAt (s.fc d).pubEq q) := rfl

theorem State.queueShown_regs (s : State) (k v : Nat) : s.queueShown k v = { s with regs := (s.queueShown k v).regs } := by
  unfold State.queueShown
  split <;> rfl

theorem State.publish_regs (s : State) (d : Nat) : s.publish d = { s with regs := (s.publish d).regs } := by
  rw [State.publish_eq, State.each_regs _ _ _ fun t q => t.queueShown_regs _ _]
  rfl

theorem State.publish_fc (s : State) (k d : Nat) : (s.publish k).fc d = s.fc d := by
  rw [State.publish_regs]
  rfl

theorem State.queueShown_get {F : Fld} (h : R.FCS_ATT_EQ.apart F) (s : State) (k v i : Nat) :
    (s.queueShown k v).get F i = s.get F i := by
  unfold State.queueShown
  split
  · rfl
  · exact State.setSat_get h _ _ _ _

theorem State.queueShown_get_ne {k j : Nat} (h : k ≠ j) (s : State) (v : Nat) :
    (s.queueShown k v).get R.FCS_ATT_EQ j = s.get R.FCS_ATT_EQ j := by
  unfold State.queueShown
  split
  · rfl
  · exact State.get_set_bank_ne (by decide) (by decide) h _ _

/-- What a queue shows is the energy as its field holds it, be it written or shown already. -/
theorem State.queueShown_self (s : State) (k v : Nat) : (s.queueShown k v).get R.FCS_ATT_EQ k = satU 24 v := by
  unfold State.queueShown
  split
  · next h =>
    have hv : v < 2 ^ 24 := by rw [h]; exact bitsOf_lt _ _ _
    rw [← h, satU, if_pos hv]
  · exact State.get_setSat_self _ _ _ _ (by decide)

/-- Beside the energies of the queues the fields of a district stand as its own results show them. -/
theorem State.publish_get {F : Fld} (h : R.FCS_ATT_EQ.apart F) (s : State) (d i : Nat) :
    (s.publish d).get F i = (s.energyShown d).get F i := by
  rw [State.publish_eq]
  exact State.each_const (State.get · F i) _ _ _ fun t q => t.queueShown_get h _ _ _

theorem State.publish_queue (s : State) (d : Nat) {q : Nat} (hq : q < 256) :
    (s.publish d).get R.FCS_ATT_EQ (256 * d + q) = satU 24 (tabAt (s.fc d).pubEq q) := by
  rw [State.publish_eq]
  refine State.each_reaches (fun _ => True)
    (fun t => t.get R.FCS_ATT_EQ (256 * d + q) = satU 24 (tabAt (s.fc d).pubEq q)) _ q (fun _ _ _ => trivial)
    (fun t _ => t.queueShown_self _ _) (fun t p ht => ?_) _ _ (List.mem_range.mpr hq) trivial
  by_cases hp : p = q
  · rw [hp, State.queueShown_self]
  · rw [State.queueShown_get_ne (by omega), ht]

/-- The fields that show the results of a district, but for the energies of its queues. -/
def energyFlds : List Fld := [R.FCS_DSTAT_ATTV, R.FCS_SCALE_VALID, R.FCS_SCALE_SCALE, R.FCS_BASEE_E, R.FCS_EMEAS_E]

theorem State.energyShown_get {F : Fld} (h : F.apartAll energyFlds) (s : State) (d i : Nat) :
    (s.energyShown d).get F i = s.get F i := by
  unfold State.energyShown
  dsimp only
  rw [State.setSat_get (h R.FCS_EMEAS_E (by simp [energyFlds])), State.setSat_get (h R.FCS_BASEE_E (by simp [energyFlds])),
    State.get_set_apart (h R.FCS_SCALE_SCALE (by simp [energyFlds])),
    State.get_set_apart (h R.FCS_SCALE_VALID (by simp [energyFlds])),
    State.get_set_apart (h R.FCS_DSTAT_ATTV (by simp [energyFlds]))]

/-- The results of a district leave the fields of another. -/
theorem State.energyShown_get_ne {F : Fld} (hF : F.inst = .bank ∧ F.base < 0x100000) {k d : Nat} (h : k ≠ d) (s : State) :
    (s.energyShown k).get F d = s.get F d := by
  unfold State.energyShown State.setSat
  dsimp only
  rw [State.get_set_bank_ne (by decide) hF h, State.get_set_bank_ne (by decide) hF h, State.get_set_bank_ne (by decide) hF h,
    State.get_set_bank_ne (by decide) hF h, State.get_set_bank_ne (by decide) hF h]

/-- The registers show the results that a district holds of the closed epoch. -/
structure State.Published (t : State) (d : Nat) (x : FcsS) : Prop where
  valid : t.get R.FCS_SCALE_VALID d = if x.pubValid then 1 else 0
  attv : t.get R.FCS_DSTAT_ATTV d = if x.pubValid then 1 else 0
  meas : t.get R.FCS_EMEAS_E d = satU 24 x.pubMeas
  base : t.get R.FCS_BASEE_E d = satU 24 x.pubBase
  queue : ∀ q, q < 256 → t.get R.FCS_ATT_EQ (256 * d + q) = satU 24 (tabAt x.pubEq q)

theorem State.publish_published (s : State) (d : Nat) : (s.publish d).Published d (s.fc d) := by
  have hbit : (if (s.fc d).pubValid then 1 else 0) % 2 = if (s.fc d).pubValid then 1 else 0 := by split <;> rfl
  refine ⟨?_, ?_, ?_, ?_, fun q hq => s.publish_queue d hq⟩ <;> rw [State.publish_get (by decide)] <;>
    unfold State.energyShown <;> dsimp only
  · rw [State.setSat_get (by decide), State.setSat_get (by decide), State.get_set_apart (by decide),
      State.get_set_self _ _ _ _ (by decide)]
    exact hbit
  · rw [State.setSat_get (by decide), State.setSat_get (by decide), State.get_set_apart (by decide),
      State.get_set_apart (by decide), State.get_set_self _ _ _ _ (by decide)]
    exact hbit
  · exact State.get_setSat_self _ _ _ _ (by decide)
  · rw [State.setSat_get (by decide)]
    exact State.get_setSat_self _ _ _ _ (by decide)

/-- What a district shows stands while another is published. -/
theorem State.Published.publish {t : State} {d : Nat} {x : FcsS} (h : t.Published d x) {k : Nat} (hk : k ≠ d) :
    (t.publish k).Published d x := by
  have hg {F : Fld} (ha : R.FCS_ATT_EQ.apart F) (hF : F.inst = .bank ∧ F.base < 0x100000) :
      (t.publish k).get F d = t.get F d := by rw [State.publish_get ha, State.energyShown_get_ne hF hk]
  refine ⟨(hg (by decide) (by decide)).trans h.valid, (hg (by decide) (by decide)).trans h.attv,
    (hg (by decide) (by decide)).trans h.meas, (hg (by decide) (by decide)).trans h.base, fun q hq => ?_⟩
  rw [← h.queue q hq, ← State.energyShown_get (by decide) t k (256 * d + q), State.publish_eq]
  refine State.each_induct (fun u => u.get R.FCS_ATT_EQ (256 * d + q) = (t.energyShown k).get R.FCS_ATT_EQ (256 * d + q)) _ _
    (fun u p hp hu => ?_) _ rfl
  have := List.mem_range.mp hp
  rw [State.queueShown_get_ne (by omega), hu]

/-- A change of the number of the epoch, and of the hidden state, leaves what a district shows. -/
theorem State.Published.setEpoch {t : State} {d : Nat} {x : FcsS} (h : t.Published d x) (v : Nat) :
    (t.set R.FCS_EPOCH_EPOCH 0 v).Published d x :=
  ⟨(State.get_set_apart (by decide) _ _ _ _).trans h.valid, (State.get_set_apart (by decide) _ _ _ _).trans h.attv,
    (State.get_set_apart (by decide) _ _ _ _).trans h.meas, (State.get_set_apart (by decide) _ _ _ _).trans h.base,
    fun q hq => (State.get_set_apart (by decide) _ _ _ _).trans (h.queue q hq)⟩

/-- Every district is published. -/
def State.publishAll (s : State) : State := s.each s.districts State.publish

theorem State.publishAll_regs (s : State) : s.publishAll = { s with regs := s.publishAll.regs } :=
  State.each_regs _ _ _ State.publish_regs

theorem State.publishAll_published (s : State) (d : Nat) (hn : d < s.cfg.n) : s.publishAll.Published d (s.fc d) := by
  refine (State.each_reaches (fun t => t.fc d = s.fc d) (fun t => t.fc d = s.fc d ∧ t.Published d (s.fc d)) State.publish d
    (fun t k ht => (t.publish_fc k d).trans ht) (fun t ht => ⟨(t.publish_fc d d).trans ht, ?_⟩)
    (fun t k ht => ⟨(t.publish_fc k d).trans ht.1, ?_⟩) s _ (List.mem_range.mpr hn) rfl).2
  · rw [← ht]
    exact t.publish_published d
  · by_cases hk : k = d
    · rw [hk, ← ht.1]
      exact t.publish_published d
    · exact ht.2.publish hk

theorem attributionPublish_idle (s : State) (h : s.dev.pubDue = false) : exec .attributionPublish s = .next s :=
  congrArg Host.Outcome.next (if_neg (by simp [h]))

theorem attributionPublish_publishes (s : State) (h : s.dev.pubDue = true) :
    ∃ t, exec .attributionPublish s = .next t ∧ t.get R.FCS_EPOCH_EPOCH = (s.dev.epoch - 1) % 2 ^ 32 ∧
      (∀ d, d < s.cfg.n → t.get R.FCS_SCALE_VALID d = (if (s.fc d).pubValid then 1 else 0) ∧
        t.get R.FCS_DSTAT_ATTV d = (if (s.fc d).pubValid then 1 else 0) ∧
        t.get R.FCS_EMEAS_E d = satU 24 (s.fc d).pubMeas ∧ t.get R.FCS_BASEE_E d = satU 24 (s.fc d).pubBase ∧
        (∀ q, q < 256 → t.get R.FCS_ATT_EQ (256 * d + q) = satU 24 (tabAt (s.fc d).pubEq q))) ∧
      t = { s with regs := t.regs, dev := { s.dev with pubDue := false, telDue := true } } := by
  have hdev : s.publishAll.dev = s.dev := by rw [State.publishAll_regs]
  have he : effPublish s = { s.publishAll.set R.FCS_EPOCH_EPOCH 0 (s.dev.epoch - 1) with
      dev := { s.dev with pubDue := false, telDue := true } } := by
    rw [← hdev]
    exact if_pos h
  refine ⟨_, congrArg Host.Outcome.next he, State.get_set_self s.publishAll _ _ _ (by decide), fun d hn => ?_, ?_⟩
  · obtain ⟨hvalid, hattv, hmeas, hbase, hqueue⟩ := (s.publishAll_published d hn).setEpoch (s.dev.epoch - 1)
    exact ⟨hvalid, hattv, hmeas, hbase, hqueue⟩
  · rw [State.publishAll_regs]
    rfl

/-! ### The counts of the Forecaster -/

/-- The reductions of every district count from 0. -/
def State.reductionsCleared (s : State) : State := s.each s.districts fun s d => s.set R.FCS_DSTAT_REDUCTIONS d 0

theorem effFcsClr_eq (s : State) : effFcsClr s = s.reductionsCleared.set R.FCS_STAT_LOADS 0 0 := rfl

theorem State.reductionsCleared_regs (s : State) : s.reductionsCleared = { s with regs := s.reductionsCleared.regs } :=
  State.each_regs _ _ _ fun _ _ => rfl

theorem State.reductionsCleared_get {F : Fld} (h : R.FCS_DSTAT_REDUCTIONS.apart F) (s : State) (i : Nat) :
    s.reductionsCleared.get F i = s.get F i :=
  State.each_const (State.get · F i) _ _ _ fun _ _ => State.get_set_apart h _ _ _ _

theorem State.reductionsCleared_zero (s : State) (d : Nat) (hn : d < s.cfg.n) :
    s.reductionsCleared.get R.FCS_DSTAT_REDUCTIONS d = 0 :=
  State.each_reaches (fun _ => True) (fun t => t.get R.FCS_DSTAT_REDUCTIONS d = 0) _ d (fun _ _ _ => trivial)
    (fun _ _ => State.get_set_self _ _ _ _ (by decide)) (fun _ k ht => State.get_set_zero (by decide) ht k) s _
    (List.mem_range.mpr hn) trivial

theorem State.reductionsCleared_framed (s : State) :
    s.framed s.reductionsCleared ((List.range s.cfg.n).map R.FCS_DSTAT_REDUCTIONS.key) :=
  State.each_induct (s.framed · _) _ _ (fun _ _ hk ht => State.framed_set _ _ _ _ _ _ ht (List.mem_map_of_mem hk)) s
    (s.framed_refl _)

theorem fcsCntClr_clears (s : State) (g : Gal) (hp : s.rowPasses g R.FCS_CTL_CNT_CLR 0 1) :
    ∃ t, exec (.fcsCntClr g) s = .next t ∧ t.get R.FCS_STAT_LOADS = 0 ∧
      (∀ d, d < s.cfg.n → t.get R.FCS_DSTAT_REDUCTIONS d = 0 ∧ t.get R.FCS_DSTAT_GAIN d = s.get R.FCS_DSTAT_GAIN d) ∧
      (s.okRsp g).only t (R.FCS_STAT_LOADS.key 0 :: (List.range s.cfg.n).map R.FCS_DSTAT_REDUCTIONS.key) := by
  refine ⟨_, congrArg Host.Outcome.next (s.hostRow_passes g _ _ _ _ hp), ?_, fun d hn => ⟨?_, ?_⟩, ?_, ?_⟩
  · exact State.get_set_self s.newAccess.reductionsCleared R.FCS_STAT_LOADS 0 0 (by decide)
  · rw [State.respond_get, effFcsClr_eq, State.get_set_apart (by decide)]
    exact s.newAccess.reductionsCleared_zero d hn
  · rw [State.respond_get, effFcsClr_eq, State.get_set_apart (by decide), State.reductionsCleared_get (by decide),
      State.newAccess_get]
  · rw [effFcsClr_eq, State.reductionsCleared_regs]
    rfl
  · exact State.framed_set s s.newAccess.reductionsCleared _ R.FCS_STAT_LOADS 0 0
      (State.framed_mono s.newAccess.reductionsCleared_framed (List.subset_cons_self ..)) (List.mem_cons_self ..)

/-! ### The supply group has lost its floor -/

/-- The loss of the supply group is noted of its members. -/
def State.supplyNoted (s : State) : State := s.each s.supply fun s e => s.updFo e fun f => { f with supRep := true }

theorem State.supplyNoted_form (s : State) : s.supplyNoted = { s with fo := s.supplyNoted.fo } :=
  State.each_induct (fun t => t = { s with fo := t.fo }) _ _
    (fun _ e _ ht => congrArg (fun u => u.updFo e fun f => { f with supRep := true }) ht) s rfl

theorem State.supplyNoted_member (s : State) (d : Nat) (hd : d ∈ s.supply) : (s.supplyNoted.foS d).supRep = true := by
  refine State.each_reaches (fun _ => True) (fun t => (t.foS d).supRep = true) _ d (fun _ _ _ => trivial) (fun t _ => ?_)
    (fun t k ht => ?_) s _ hd trivial
  · rw [State.foS_updFo_self]
  · rw [State.foS_updFo]
    split
    · rfl
    · exact ht

theorem supcapFault_idle (s : State) (h : s.qualified s.cfg.ccsup = false) : exec .supcapFault s = .next s :=
  congrArg Host.Outcome.next (if_neg (by simp [h]))

theorem supcapFault_reports (s : State) (h : s.qualified s.cfg.ccsup = true)
    (hm : (srcOf 2 s.cfg.ccsup, clsSupcap) ∉ s.flt.masked) :
    ∃ t, exec .supcapFault s = .next t ∧ (∀ d ∈ s.supply, (t.foS d).supRep = true) ∧
      t = { s with fo := t.fo, flt := { s.flt with
        lines := s.flt.lines ++ [{ cls := clsSupcap, cause := 0, src := srcOf 2 s.cfg.ccsup }] } } := by
  have hflt : s.supplyNoted.flt = s.flt := by rw [State.supplyNoted_form]
  have hr : s.supplyNoted.report clsSupcap 0 (srcOf 2 s.cfg.ccsup) = { s.supplyNoted with flt := { s.flt with
      lines := s.flt.lines ++ [{ cls := clsSupcap, cause := 0, src := srcOf 2 s.cfg.ccsup }] } } := by
    rw [State.report, hflt, if_neg hm]
  refine ⟨_, congrArg Host.Outcome.next ((if_pos h).trans hr), s.supplyNoted_member, ?_⟩
  rw [State.supplyNoted_form]

end Sys2Proof.Machine

namespace Sys2Proof.Machine

/-! ### The grants of a district are revoked -/

theorem State.exhGq_flt (s : State) (F : Fld) : (s.exhGq F).flt = s.flt := by
  unfold State.exhGq
  split <;> rfl

theorem State.exhGq_book (s : State) (F : Fld) : (s.exhGq F).book = s.book := by
  unfold State.exhGq
  split <;> rfl

theorem State.revoke_flt (s : State) (d : Nat) (g : Grant) : (s.revoke d g).flt = s.flt := State.exhGq_flt _ _

theorem State.revoke_grants (s : State) (d : Nat) (g : Grant) :
    ((s.revoke d g).bk d).grants = (s.bk d).grants.filter fun x => x.gid != g.gid :=
  (congrArg (fun b => (tabAt b d : BookS).grants) (State.exhGq_book _ _)).trans
    (congrArg BookS.grants (s.bk_updBk_self d fun b => { b with grants := b.grants.filter fun x => x.gid != g.gid }))

/-- A grant that is left after grants were revoked was there before, under the identifier of none of them. -/
theorem State.mem_grants_revoked (d : Nat) (l : List Grant) (s : State) (x : Grant)
    (h : x ∈ ((l.foldl (fun s g => s.revoke d g) s).bk d).grants) : x ∈ (s.bk d).grants ∧ ∀ g ∈ l, x.gid ≠ g.gid := by
  induction l generalizing s with
  | nil => exact ⟨h, by simp⟩
  | cons g l ih =>
    obtain ⟨hx, hl⟩ := ih (s.revoke d g) h
    rw [State.revoke_grants, List.mem_filter] at hx
    refine ⟨hx.1, fun y hy => ?_⟩
    rcases List.mem_cons.mp hy with rfl | hy
    · simpa using hx.2
    · exact hl y hy

/-- Every grant of a district is revoked. -/
def State.grantsRevoked (s : State) (d : Nat) : State := (s.bk d).grants.foldl (fun s g => s.revoke d g) s

theorem State.grantsRevoked_none (s : State) (d : Nat) : ((s.grantsRevoked d).bk d).grants = [] := by
  refine List.eq_nil_iff_forall_not_mem.mpr fun x hx => ?_
  obtain ⟨hm, hg⟩ := State.mem_grants_revoked d _ s x hx
  exact hg x hm rfl

theorem State.grantsRevoked_flt (s : State) (d : Nat) : (s.grantsRevoked d).flt = s.flt :=
  State.foldl_const State.flt _ (fun t g => t.revoke_flt d g) _ s

/-! ### A district begins darkening -/

/-- DST_FO and the page's events show that a district darkens. -/
def State.darkShown (s : State) (d : Nat) : State :=
  ((s.set R.DST_FO_STAT_STATE d 2).set R.DST_FO_THR_THRQ d 0xFFF).raise R.DST_FLT_DARK d

/-- The test signal of a district stops, and its sequence and its wait end. -/
def State.darkIdle (s : State) (d : Nat) : State :=
  let s := if s.get R.LOOP_TST_CTL_DIST == d then s.tstStop 4 else s
  let s := (s.endWait d).updPw d fun x => { x with step := .idle, reqEntry := false }
  (s.set R.PWR_DSTAT_TPEND d 0).set R.PWR_DSTAT_STEP d 0

/-- A district begins darkening, up to its report. -/
def State.darkBegun (s : State) (d : Nat) : State :=
  ((((s.grantsRevoked d).darkShown d).darkIdle d).updFo d fun f =>
    { f with darkStep := 1, darkRun := s.computes d, revoked := (s.foS d).revNow + (s.bk d).grants.length, revNow := 0 }).actTarget
      d 0xFFF

/-- The words of the EVENT record of a darkening. -/
def State.darkEvent (s u : State) (d : Nat) : State :=
  u.event 0x0006 (d + 256 * u.get R.DST_FO_STAT_NAVAIL d + 65536 * u.get R.DST_FO_STAT_GOODPH d)
    (s.get R.DST_FO_STAT_CAP d + 65536 * (u.foS d).floor) ((s.foS d).revNow + (s.bk d).grants.length)

theorem State.darken_eq (s : State) (d : Nat) :
    s.darken d = s.darkEvent ((s.darkBegun d).report clsDark 0 (srcOf 2 d)) d := rfl

/-- The fields that the end of the sequence of a darkening district writes. -/
def darkIdleFlds : List Fld := R.PWR_DSTAT_TPEND :: endWaitFlds

theorem State.darkIdle_get {F : Fld} (h : F.apartAll darkIdleFlds) (s : State) (d i : Nat) :
    (s.darkIdle d).get F i = s.get F i := by
  have hw : F.apartAll endWaitFlds := fun G hG => h G (List.mem_cons_of_mem _ hG)
  unfold State.darkIdle
  dsimp only
  rw [State.get_set_apart (hw R.PWR_DSTAT_STEP (by simp [endWaitFlds])),
    State.get_set_apart (h R.PWR_DSTAT_TPEND (List.mem_cons_self ..)), State.updPw_get, State.endWait_get hw]
  split
  · exact s.tstStop_get _ _ _
  · rfl

theorem State.powerOnly.flt {s t : State} (h : s.powerOnly t) : t.flt = s.flt := by
  obtain ⟨r, p, f, o, rfl⟩ := h
  rfl

theorem State.powerOnly.book {s t : State} (h : s.powerOnly t) : t.book = s.book := by
  obtain ⟨r, p, f, o, rfl⟩ := h
  rfl

theorem State.powerOnly.updFo {s t : State} (h : s.powerOnly t) (d : Nat) (g : FoS → FoS) : s.powerOnly (t.updFo d g) := by
  obtain ⟨r, p, f, o, rfl⟩ := h
  exact ⟨r, p, f, _, rfl⟩

theorem State.powerOnly.actTarget {s t : State} (h : s.powerOnly t) (d r : Nat) : s.powerOnly (t.actTarget d r) :=
  (h.set R.BUD_DACT_RED d _).updFo d _

theorem State.powerOnly.trans {s t u : State} (h : s.powerOnly t) (h' : t.powerOnly u) : s.powerOnly u := by
  obtain ⟨r, p, f, o, rfl⟩ := h
  exact h'

theorem State.powerOnly.qualHold {s t : State} (h : s.powerOnly t) (d : Nat) : s.powerOnly (t.qualHold d) := .ite _ h (h.qualZero d)

theorem State.tstStop_form (s : State) (k : Nat) : s.tstStop k = { s with tst := (s.tstStop k).tst } := by
  unfold State.tstStop
  split <;> rfl

/-- The generator apart, the end of the sequence changes registers and the sequences of the districts alone. -/
theorem State.darkIdle_only (s : State) (d : Nat) : ∃ g, State.powerOnly { s with tst := g } (s.darkIdle d) := by
  have hstop : ∃ g, (if s.get R.LOOP_TST_CTL_DIST == d then s.tstStop 4 else s) = { s with tst := g } := by
    split
    · exact ⟨_, s.tstStop_form 4⟩
    · exact ⟨s.tst, rfl⟩
  obtain ⟨g, hg⟩ := hstop
  refine ⟨g, ?_⟩
  unfold State.darkIdle
  dsimp only
  rw [hg]
  exact ((((State.powerOnly_refl _).endWait d).updPw d _).set _ _ _).set _ _ _

/-- What the targets of the actuators are formed from leaves the step of a darkening. -/
theorem State.actTarget_darkStep (s : State) (d r : Nat) : ((s.actTarget d r).foS d).darkStep = (s.foS d).darkStep := by
  unfold State.actTarget
  dsimp only
  rw [State.foS_updFo_self]
  split
  · rfl
  · split
    · rfl
    · split
      · split <;> rfl
      · split
        · split <;> rfl
        · rfl

theorem State.actTarget_get {F : Fld} (h : R.BUD_DACT_RED.apart F) (s : State) (d r i : Nat) :
    (s.actTarget d r).get F i = s.get F i := State.get_set_apart h _ _ _ _

theorem State.actTarget_red (s : State) (d : Nat) {r : Nat} (h : r ≤ 0xFFF) : (s.actTarget d r).get R.BUD_DACT_RED d = r := by
  have hr : min 0xFFF r % 2 ^ 12 = r := by omega
  exact (State.get_set_self s R.BUD_DACT_RED d (min 0xFFF r) (by decide)).trans hr

theorem State.darkBegun_get {F : Fld} (h : F.apartAll (R.BUD_DACT_RED :: darkIdleFlds)) (s : State) (d i : Nat) :
    (s.darkBegun d).get F i = ((s.grantsRevoked d).darkShown d).get F i := by
  unfold State.darkBegun
  rw [State.actTarget_get (h R.BUD_DACT_RED (List.mem_cons_self ..)), State.updFo_get,
    State.darkIdle_get fun G hG => h G (List.mem_cons_of_mem _ hG)]

theorem State.darkBegun_darkStep (s : State) (d : Nat) : ((s.darkBegun d).foS d).darkStep = 1 := by
  unfold State.darkBegun
  rw [State.actTarget_darkStep, State.foS_updFo_self]

theorem State.darkBegun_only (s : State) (d : Nat) :
    ∃ g, State.powerOnly { s.grantsRevoked d with tst := g } (s.darkBegun d) := by
  obtain ⟨g, h⟩ := ((s.grantsRevoked d).darkShown d).darkIdle_only d
  have hshown : State.powerOnly { s.grantsRevoked d with tst := g } { (s.grantsRevoked d).darkShown d with tst := g } :=
    (((State.powerOnly_refl _).set R.DST_FO_STAT_STATE d 2).set R.DST_FO_THR_THRQ d 0xFFF).set R.DST_FLT_DARK d 1
  exact ⟨g, ((hshown.trans h).updFo d _).actTarget d 0xFFF⟩

theorem State.arcOnly.fo {s t : State} (h : s.arcOnly t) : t.fo = s.fo := by
  obtain ⟨r, a, rfl⟩ := h
  rfl

theorem State.arcOnly.book {s t : State} (h : s.arcOnly t) : t.book = s.book := by
  obtain ⟨r, a, rfl⟩ := h
  rfl

theorem State.report_fo (s : State) (cls cause src : Nat) : (s.report cls cause src).fo = s.fo := by
  rw [State.report_with]

theorem State.report_book (s : State) (cls cause src : Nat) : (s.report cls cause src).book = s.book := by
  rw [State.report_with]

theorem State.darkEvent_get {F : Fld} (h : F.apartAll stageFlds) (s u : State) (d i : Nat) :
    (s.darkEvent u d).get F i = u.get F i := State.stage_get h _ _ _ _

theorem State.darkEvent_arcOnly (s u : State) (d : Nat) : u.arcOnly (s.darkEvent u d) := State.stage_arcOnly _ _ _

/-- The record of a darkening and its report leave the other fields. -/
theorem State.darken_get {F : Fld} (h : F.apartAll stageFlds) (s : State) (d i : Nat) :
    (s.darken d).get F i = (s.darkBegun d).get F i := by
  rw [State.darken_eq, State.darkEvent_get h, State.report_get]

theorem State.darken_arcOnly (s : State) (d : Nat) : ((s.darkBegun d).report clsDark 0 (srcOf 2 d)).arcOnly (s.darken d) := by
  rw [State.darken_eq]
  exact State.darkEvent_arcOnly _ _ _

theorem State.darken_foS (s : State) (d : Nat) : (s.darken d).foS d = (s.darkBegun d).foS d :=
  congrArg (fun o => (tabAt o d : FoS)) ((s.darken_arcOnly d).fo.trans (State.report_fo _ _ _ _))

theorem State.darken_grants (s : State) (d : Nat) : ((s.darken d).bk d).grants = [] := by
  obtain ⟨g, hp⟩ := s.darkBegun_only d
  have hb : (s.darken d).book = (s.grantsRevoked d).book :=
    ((s.darken_arcOnly d).book.trans (State.report_book _ _ _ _)).trans hp.book
  exact (congrArg (fun b => (tabAt b d : BookS).grants) hb).trans (s.grantsRevoked_none d)

theorem State.darken_lines (s : State) (d : Nat) (hm : (srcOf 2 d, clsDark) ∉ s.flt.masked) :
    (s.darken d).flt.lines = s.flt.lines ++ [{ cls := clsDark, cause := 0, src := srcOf 2 d }] := by
  obtain ⟨g, hp⟩ := s.darkBegun_only d
  have hf : (s.darkBegun d).flt = s.flt := hp.flt.trans (s.grantsRevoked_flt d)
  rw [(s.darken_arcOnly d).flt, State.report_lines _ _ _ _ (by rwa [hf]), hf]

theorem State.qualHold_darkStep (s : State) (k d : Nat) : ((s.qualHold k).foS d).darkStep = (s.foS d).darkStep := by
  unfold State.qualHold
  split
  · rfl
  · refine State.each_const (fun t => (t.foS d).darkStep) _ _ State.qualClear fun t e => ?_
    exact (congrArg FoS.darkStep (t.foS_updFo e (fun x => { x with qual := 0 }) d)).trans (by split <;> rfl)

/-- A qualified district that stands alone in its group is the one that darkens. -/
theorem effDarkenBegin_alone (s : State) (d : Nat) (hq : s.qualified d = true) (hs : s.isSupply d = false) (hd : s.devSt ≠ devOff)
    (hg : s.inGroup d = [d]) (hk : s.darkens d = true) : effDarkenBegin s d = (s.darken d).qualHold d := by
  unfold effDarkenBegin
  rw [if_pos (by simp [hq, hs, hd]), hg, List.filter_cons_of_pos hk, List.filter_nil,
    State.each, List.foldl_cons, List.foldl_nil]

theorem darkeningBegin_idle (s : State) (d : Nat) (hn : d < s.cfg.n) (hq : s.qualified d = false) :
    exec (.darkeningBegin d) s = .next s :=
  (onDist_next hn _).trans (congrArg _ (if_neg (by simp [hq])))

theorem darkeningBegin_alone (s : State) (d : Nat) (hn : d < s.cfg.n) (hq : s.qualified d = true) (hs : s.isSupply d = false)
    (hd : s.devSt ≠ devOff) (hg : s.inGroup d = [d]) (hk : s.darkens d = true) (hm : (srcOf 2 d, clsDark) ∉ s.flt.masked) :
    ∃ t, exec (.darkeningBegin d) s = .next t ∧ t.get R.DST_FO_STAT_STATE d = 2 ∧ t.get R.DST_FO_THR_THRQ d = 0xFFF ∧
      t.get R.DST_FLT_DARK d = 1 ∧ t.get R.BUD_DACT_RED d = 0xFFF ∧ (t.bk d).grants = [] ∧ (t.foS d).darkStep = 1 ∧
      t.flt.lines = s.flt.lines ++ [{ cls := clsDark, cause := 0, src := srcOf 2 d }] ∧ t.kept = s.kept := by
  have he := effDarkenBegin_alone s d hq hs hd hg hk
  have hkept := effDarkenBegin_kept s d
  rw [he] at hkept
  have hp : (s.darken d).powerOnly ((s.darken d).qualHold d) := (State.powerOnly_refl _).qualHold d
  refine ⟨(s.darken d).qualHold d, (onDist_next hn _).trans (congrArg _ he), ?_, ?_, ?_, ?_, ?_, ?_, ?_, hkept⟩
  · rw [State.qualHold_get (by decide), State.darken_get (by decide), State.darkBegun_get (by decide), State.darkShown,
      State.raise_get (by decide), State.get_set_apart (by decide), State.get_set_self _ _ _ _ (by decide)]
    rfl
  · rw [State.qualHold_get (by decide), State.darken_get (by decide), State.darkBegun_get (by decide), State.darkShown,
      State.raise_get (by decide), State.get_set_self _ _ _ _ (by decide)]
    rfl
  · rw [State.qualHold_get (by decide), State.darken_get (by decide), State.darkBegun_get (by decide), State.darkShown,
      State.get_raise_self _ _ _ (by decide) (by decide)]
  · rw [State.qualHold_get (by decide), State.darken_get (by decide)]
    exact State.actTarget_red _ _ (by decide)
  · exact (congrArg (fun b => (tabAt b d : BookS).grants) hp.book).trans (s.darken_grants d)
  · rw [State.qualHold_darkStep, State.darken_foS, State.darkBegun_darkStep]
  · rw [hp.flt, s.darken_lines d hm]

end Sys2Proof.Machine

namespace Sys2Proof.Machine

/-! ### The steps of a darkening -/

/-- The clocks of a darkening district stop, its clamps are set, and its Forecaster elements are 0. -/
def State.darkIsolated (s : State) (d : Nat) : State :=
  (((s.set R.PWR_DSTAT_CSTOP d 1).set R.PWR_DSTAT_ISO d 1).updFc d fun x => { x with out := ⟨minExp, []⟩ }).updFo d fun f =>
    { f with darkStep := 2 }

theorem effDarkenIsolate_eq (s : State) (d : Nat) (hs : s.get R.DST_FO_STAT_STATE d = 2) (hk : (s.foS d).darkStep = 1) :
    effDarkenIsolate s d = s.darkIsolated d := if_pos (by simp [hs, hk])

theorem darkeningIsolate_isolates (s : State) (d : Nat) (hn : d < s.cfg.n) (hs : s.get R.DST_FO_STAT_STATE d = 2)
    (hk : (s.foS d).darkStep = 1) :
    ∃ t, exec (.darkeningIsolate d) s = .next t ∧ t.get R.PWR_DSTAT_CSTOP d = 1 ∧ t.get R.PWR_DSTAT_ISO d = 1 ∧
      (t.fc d).out = ⟨minExp, []⟩ ∧ (t.foS d).darkStep = 2 ∧
      t = { s with regs := t.regs, fcs := t.fcs, fo := t.fo } ∧ s.framed t [R.PWR_DSTAT_CSTOP.key d] := by
  refine ⟨s.darkIsolated d, (onDist_next hn _).trans (congrArg _ (effDarkenIsolate_eq s d hs hk)), ?_, ?_, ?_, ?_, rfl, ?_⟩
  · exact (State.get_set_apart (by decide) _ _ _ _).trans (State.get_set_self s R.PWR_DSTAT_CSTOP d 1 (by decide))
  · exact State.get_set_self _ R.PWR_DSTAT_ISO d 1 (by decide)
  · exact congrArg FcsS.out (State.fc_updFc_self _ d fun x => { x with out := ⟨minExp, []⟩ })
  · rw [State.darkIsolated, State.foS_updFo_self]
  · have h := State.framed_set _ _ _ R.PWR_DSTAT_CSTOP d 1 (s.framed_refl [R.PWR_DSTAT_CSTOP.key d]) (List.mem_singleton_self _)
    exact State.framed_congr _ _ _ _ (State.framed_set _ _ _ R.PWR_DSTAT_ISO d 1 h (List.mem_singleton_self _)) rfl

theorem State.setAnv_cells (s : State) (a st : Nat) : (s.setAnv a st).cells = s.cells := by
  rw [State.setAnv_with]

theorem State.anvilsOff_cells (s : State) (d : Nat) : (s.anvilsOff d).cells = s.cells :=
  State.each_const State.cells _ _ _ fun t a => by
    split
    · rfl
    · exact t.setAnv_cells a _

theorem State.thDisarm_cells (s : State) (d : Nat) : (s.thDisarm d).cells = s.cells :=
  (State.each_const State.cells s _ _ fun t a => by
    unfold State.anvRelEnd
    split
    · exact t.setAnv_cells a _
    · rfl : (s.endReleases d).cells = s.cells)

/-- The stop orders of a darkening district are sent, and its switches open. -/
def State.darkOpened (s : State) (d : Nat) : State := (((s.stopped d).thDisarm d).anvilsOff d).driveState d 0

/-- A darkening district stands in the OFF entry behind its isolation. -/
def State.darkStopped (s : State) (d : Nat) : State :=
  (((s.darkOpened d).pwrStep d .entCells 2).updPw d fun x => { x with toRetain := false }).updFo d fun f =>
    { f with darkStep := 3, darkRun := false }

theorem effDarkenStop_eq (s : State) (d : Nat) (hs : s.get R.DST_FO_STAT_STATE d = 2) (hk : (s.foS d).darkStep = 2) :
    effDarkenStop s d = s.darkStopped d := if_pos (by simp [hs, hk])

theorem State.darkOpened_cells (s : State) (d : Nat) : (s.darkOpened d).cells = (s.stopped d).cells :=
  (State.anvilsOff_cells _ d).trans (State.thDisarm_cells _ d)

/-- The fields that show a district's switches. -/
def driveFlds : List Fld := [R.PWR_DSTAT_PSW, R.PWR_DSTAT_BB, R.PWR_DSTAT_ASST]

theorem State.driveState_get {F : Fld} (h : F.apartAll driveFlds) (s : State) (d st i : Nat) :
    (s.driveState d st).get F i = s.get F i := by
  unfold State.driveState
  rw [State.get_set_apart (h R.PWR_DSTAT_ASST (by simp [driveFlds])), State.get_set_apart (h R.PWR_DSTAT_BB (by simp [driveFlds])),
    State.get_set_apart (h R.PWR_DSTAT_PSW (by simp [driveFlds]))]

theorem State.stopped_get (s : State) (d : Nat) (F : Fld) (i : Nat) : (s.stopped d).get F i = s.get F i :=
  State.each_const (State.get · F i) _ _ _ fun _ _ => rfl

theorem State.darkOpened_get {F : Fld} (h : F.apartAll (driveFlds ++ R.DST_TH_STAT_STATE :: anvilFlds)) (s : State) (d i : Nat) :
    (s.darkOpened d).get F i = s.get F i := by
  unfold State.darkOpened
  rw [State.driveState_get fun G hG => h G (List.mem_append_left _ hG),
    State.anvilsOff_get fun G hG => h G (List.mem_append_right _ (List.mem_cons_of_mem _ hG)),
    State.thDisarm_get fun G hG => h G (List.mem_append_right _ hG), State.stopped_get]

theorem State.updFo_pwr (s : State) (d : Nat) (f : FoS → FoS) : (s.updFo d f).pwr = s.pwr := rfl

theorem darkeningStop_stops (s : State) (d : Nat) (hn : d < s.cfg.n) (hs : s.get R.DST_FO_STAT_STATE d = 2)
    (hk : (s.foS d).darkStep = 2) :
    ∃ t, exec (.darkeningStop d) s = .next t ∧ (∀ c, c < 16 → (t.cell (cellIx d c)).stopSent = true) ∧
      t.get R.PWR_DSTAT_STEP d = 2 ∧ (t.pw d).step = .entCells ∧ (t.foS d).darkStep = 3 ∧
      t.get R.DST_FO_STAT_STATE d = 2 ∧ t.kept = s.kept := by
  have he := effDarkenStop_eq s d hs hk
  have hkept := effDarkenStop_kept s d
  rw [he] at hkept
  have hcell (c : Nat) : (s.darkStopped d).cell c = (s.stopped d).cell c :=
    congrArg (fun t => (tabAt t c : CellS)) (s.darkOpened_cells d)
  refine ⟨s.darkStopped d, (onDist_next hn _).trans (congrArg _ he), fun c hc => ?_, ?_, ?_, ?_, ?_, hkept⟩
  · rw [hcell]
    exact s.stopped_sent d _ (List.mem_map_of_mem (List.mem_range.mpr hc))
  · rw [State.darkStopped, State.updFo_get, State.updPw_get, State.pwrStep_code]
  · rw [State.darkStopped, State.pw_of_pwr (State.updFo_pwr ..), State.pw_updPw_self, State.pwrStep_pw]
  · rw [State.darkStopped, State.foS_updFo_self]
  · rw [State.darkStopped, State.updFo_get, State.updPw_get, State.pwrStep_get (by decide), State.darkOpened_get (by decide), hs]

/-- DST_FO shows a district as DARK, and its darkening has ended. -/
def State.darkNoted (s : State) (d : Nat) : State :=
  (((s.set R.DST_FO_STAT_STATE d 3).inc R.DST_FO_CNT_DARKS d).set R.DST_FO_THR_THRQ d 0).updFo d fun f => { f with darkStep := 0 }

theorem State.darkNoted_pwr (s : State) (d : Nat) : (s.darkNoted d).pwr = s.pwr := rfl

theorem State.darkNoted_fcs (s : State) (d : Nat) : (s.darkNoted d).fcs = s.fcs := rfl

/-- The OFF entry of a darkening district is complete, and the district is DARK. -/
def State.darkDone (s : State) (d : Nat) : State := (s.reached d 0).darkNoted d

theorem State.darkDone_powerOnly (s : State) (d : Nat) : s.powerOnly (s.darkDone d) :=
  ((((s.reached_powerOnly d 0).set R.DST_FO_STAT_STATE d 3).set R.DST_FO_CNT_DARKS d _).set R.DST_FO_THR_THRQ d 0).updFo d _

theorem State.offDone_eq (s : State) (d : Nat) : s.offDone d = s.reached d 0 := rfl

theorem effDarkenDone_eq (s : State) (d : Nat) (hs : s.get R.DST_FO_STAT_STATE d = 2) (hk : (s.foS d).darkStep = 3)
    (hz : s.dev.sleepStep = 0) : effDarkenDone s d = s.darkDone d := by
  have hd : (s.darkDone d).dev.sleepStep = 0 := (congrArg DevS.sleepStep (s.darkDone_powerOnly d).dev).trans hz
  unfold effDarkenDone
  rw [if_pos (by simp [hs, hk])]
  dsimp only
  rw [State.offDone_eq, ← State.darkNoted, ← State.darkDone, State.sleepProgress_of_zero _ _ hd]

theorem State.framed.inc {s t : State} {ks : List Nat} (h : s.framed t ks) {F : Fld} {i : Nat} (hk : F.key i ∈ ks) :
    s.framed (t.inc F i) ks := State.framed_set _ _ _ F i _ h hk

theorem State.darkDone_framed (s : State) (d : Nat) : s.framed (s.darkDone d)
    ([R.PWR_DSTAT_STATE.key d, R.DST_FO_STAT_STATE.key d, R.DST_FO_CNT_DARKS.key d, R.DST_FO_THR_THRQ.key d] ++
      (s.inGroup d).flatMap (fun e => [R.DST_FO_THR_QUALCNT.key e, R.DST_FO_STAT_QUAL.key e])) := by
  have h0 := State.framed_mono (s.reached_framed d 0) (ks' := [R.PWR_DSTAT_STATE.key d, R.DST_FO_STAT_STATE.key d,
    R.DST_FO_CNT_DARKS.key d, R.DST_FO_THR_THRQ.key d] ++
      (s.inGroup d).flatMap (fun e => [R.DST_FO_THR_QUALCNT.key e, R.DST_FO_STAT_QUAL.key e]))
    (List.append_subset.mpr ⟨by simp, List.subset_append_right _ _⟩)
  have h1 := State.framed_set _ _ _ R.DST_FO_STAT_STATE d 3 h0 (by simp)
  have h2 := h1.inc (F := R.DST_FO_CNT_DARKS) (i := d) (by simp)
  exact State.framed_congr _ _ _ _ (State.framed_set _ _ _ R.DST_FO_THR_THRQ d 0 h2 (by simp)) rfl

theorem darkeningComplete_dark (s : State) (d : Nat) (hn : d < s.cfg.n) (hs : s.get R.DST_FO_STAT_STATE d = 2)
    (hk : (s.foS d).darkStep = 3) (hz : s.dev.sleepStep = 0) :
    ∃ t, exec (.darkeningComplete d) s = .next t ∧ t.get R.DST_FO_STAT_STATE d = 3 ∧ t.dst d = 0 ∧
      t.get R.DST_FO_THR_THRQ d = 0 ∧
      t.get R.DST_FO_CNT_DARKS d = satU R.DST_FO_CNT_DARKS.w (s.get R.DST_FO_CNT_DARKS d + 1) ∧
      (t.foS d).darkStep = 0 ∧ (t.pw d).step = .idle ∧ t = { s with regs := t.regs, pwr := t.pwr, fo := t.fo } ∧
      s.framed t ([R.PWR_DSTAT_STATE.key d, R.DST_FO_STAT_STATE.key d, R.DST_FO_CNT_DARKS.key d, R.DST_FO_THR_THRQ.key d] ++
        (s.inGroup d).flatMap (fun e => [R.DST_FO_THR_QUALCNT.key e, R.DST_FO_STAT_QUAL.key e])) := by
  refine ⟨s.darkDone d, (onDist_next hn _).trans (congrArg _ (effDarkenDone_eq s d hs hk hz)), ?_, ?_, ?_, ?_, ?_,
    ?_, (s.darkDone_powerOnly d).eq_fo ((State.darkNoted_fcs _ d).trans (s.reached_fcs d 0)), s.darkDone_framed d⟩
  · rw [State.darkDone, State.darkNoted, State.updFo_get, State.get_set_apart (by decide), State.inc_get (by decide),
      State.get_set_self _ _ _ _ (by decide)]
    rfl
  · rw [State.dst, State.darkDone, State.darkNoted, State.updFo_get, State.get_set_apart (by decide), State.inc_get (by decide),
      State.get_set_apart (by decide)]
    exact s.reached_dst d 0 (by decide)
  · rw [State.darkDone, State.darkNoted, State.updFo_get, State.get_set_self _ _ _ _ (by decide)]
    rfl
  · rw [State.darkDone, State.darkNoted, State.updFo_get, State.get_set_apart (by decide), State.get_inc_self _ _ _ (by decide),
      State.get_set_apart (by decide), State.reached_get (by decide)]
  · rw [State.darkDone, State.darkNoted, State.foS_updFo_self]
  · rw [State.darkDone, State.pw_of_pwr (State.darkNoted_pwr _ d), State.reached_step]

/-! ### A DARK district is restarted -/

theorem State.setTgt_get {F : Fld} (hF : F.inst ≠ .cell) {d : Nat} (hd : d < 64)
    (hb : F.base % 0x1000 < 0x4C ∨ 0x5C ≤ F.base % 0x1000) (s : State) (v i : Nat) : (s.setTgt d v).get F i = s.get F i := by
  refine State.get_set_offset _ _ _ _ _ _ (by simp [tgtFld, R.PWR_DTGT0_TGT]) hF ?_
  simp only [tgtFld, R.PWR_DTGT0_TGT]
  omega

theorem State.setTgt_tgtOf (s : State) (d : Nat) {v : Nat} (hv : v < 4) : (s.setTgt d v).tgtOf d = v :=
  (State.get_set_self s { tgtFld (d / 16) with lo := 2 * (d % 16), w := 2 } 0 v (by dsimp only; omega)).trans (Nat.mod_eq_of_lt hv)

/-- The fields of the failover state of a district. -/
def foFlds : List Fld := [R.DST_FO_STAT_STATE, R.DST_FO_THR_THRQ, R.DST_FO_STAT_QUAL, R.DST_FO_THR_QUALCNT]

theorem State.foNormal_get {F : Fld} (h : F.apartAll foFlds) (s : State) (d i : Nat) : (s.foNormal d).get F i = s.get F i := by
  unfold State.foNormal
  dsimp only
  rw [State.get_with ((((s.set R.DST_FO_STAT_STATE d 0).set R.DST_FO_THR_THRQ d 0).set R.DST_FO_STAT_QUAL d 0).set
      R.DST_FO_THR_QUALCNT d 0),
    State.get_set_apart (h R.DST_FO_THR_QUALCNT (by simp [foFlds])), State.get_set_apart (h R.DST_FO_STAT_QUAL (by simp [foFlds])),
    State.get_set_apart (h R.DST_FO_THR_THRQ (by simp [foFlds])), State.get_set_apart (h R.DST_FO_STAT_STATE (by simp [foFlds]))]

theorem State.foNormal_normal (s : State) (d : Nat) : (s.foNormal d).get R.DST_FO_STAT_STATE d = 0 := by
  unfold State.foNormal
  dsimp only
  rw [State.get_with ((((s.set R.DST_FO_STAT_STATE d 0).set R.DST_FO_THR_THRQ d 0).set R.DST_FO_STAT_QUAL d 0).set
      R.DST_FO_THR_QUALCNT d 0),
    State.get_set_apart (by decide), State.get_set_apart (by decide), State.get_set_apart (by decide),
    State.get_set_self _ _ _ _ (by decide)]
  rfl

/-- A DARK district is NORMAL again, the count of its group stands at 0, and its restart is counted. -/
def State.darkLeft (s : State) (d : Nat) : State := ((s.foNormal d).qualZero d).inc R.DST_FO_CNT_RESTARTS d

/-- It is asked to be ON. -/
def State.darkAsked (s : State) (d : Nat) : State := ((s.darkLeft d).setTgt d 2).updPw d fun x => { x with failed := false }

/-- It pursues that target where the device does. -/
def State.darkRestarted (s : State) (d : Nat) : State :=
  if (s.darkAsked d).noPursuit then s.darkAsked d else (s.darkAsked d).pursue d

theorem effDarkRestart_dark (s : State) (d : Nat) (h : s.get R.DST_FO_STAT_STATE d = 3) : effDarkRestart s d = s.darkRestarted d :=
  if_pos (by simp [h])

theorem effDarkRestart_idle (s : State) (d : Nat) (h : s.get R.DST_FO_STAT_STATE d ≠ 3) : effDarkRestart s d = s :=
  if_neg (by simpa using h)

theorem State.darkAsked_get {F : Fld} (hF : F.inst ≠ .cell) {d : Nat} (hd : d < 64)
    (hb : F.base % 0x1000 < 0x4C ∨ 0x5C ≤ F.base % 0x1000) (s : State) (i : Nat) :
    (s.darkAsked d).get F i = (s.darkLeft d).get F i := by
  rw [State.darkAsked, State.updPw_get, State.setTgt_get hF hd hb]

theorem State.darkRestarted_get {F : Fld} (h : F.apartAll endWaitFlds) (s : State) (d i : Nat) :
    (s.darkRestarted d).get F i = (s.darkAsked d).get F i := by
  unfold State.darkRestarted
  split
  · rfl
  · exact State.pursue_get h _ d i

/-- The target of a district stands in a field that the end of a wait does not write. -/
theorem State.darkRestarted_tgtOf (s : State) {d : Nat} (hd : d < 64) : (s.darkRestarted d).tgtOf d = 2 := by
  have ha : (s.darkAsked d).tgtOf d = 2 := (s.darkLeft d).setTgt_tgtOf d (by decide)
  refine (State.darkRestarted_get (fun F hF => ?_) s d 0).trans ha
  simp only [endWaitFlds, List.mem_cons, List.not_mem_nil, or_false] at hF
  rcases hF with rfl | rfl
  · exact Or.inr (Or.inl ⟨by decide, by simp [tgtFld, R.PWR_DTGT0_TGT],
      by simp only [tgtFld, R.PWR_DTGT0_TGT, R.DST_FILL_STAT_SWWAIT]; omega⟩)
  · exact Or.inr (Or.inl ⟨by decide, by simp [tgtFld, R.PWR_DTGT0_TGT],
      by simp only [tgtFld, R.PWR_DTGT0_TGT, R.PWR_DSTAT_STEP]; omega⟩)

theorem State.darkLeft_powerOnly (s : State) (d : Nat) : s.powerOnly (s.darkLeft d) := by
  have hn : s.powerOnly (s.foNormal d) :=
    ((((s.powerOnly_refl.set R.DST_FO_STAT_STATE d 0).set R.DST_FO_THR_THRQ d 0).set R.DST_FO_STAT_QUAL d 0).set
      R.DST_FO_THR_QUALCNT d 0).updFo d _
  exact (hn.qualZero d).set R.DST_FO_CNT_RESTARTS d _

theorem State.darkAsked_noPursuit (s : State) {d : Nat} (hd : d < 64) : (s.darkAsked d).noPursuit = s.noPursuit := by
  have hdev : (s.darkAsked d).dev = s.dev := (s.darkLeft_powerOnly d).dev
  have hst : (s.darkAsked d).devSt = s.devSt := by
    rw [State.devSt, State.darkAsked_get (by decide) hd (by decide), State.darkLeft, State.inc_get (by decide),
      State.qualZero_get (by decide), State.foNormal_get (by decide), State.devSt]
  simp only [State.noPursuit, State.sleeping, hdev, hst]

theorem State.darkAsked_dst (s : State) {d : Nat} (hd : d < 64) : (s.darkAsked d).dst d = s.dst d := by
  rw [State.dst, State.darkAsked_get (by decide) hd (by decide), State.darkLeft, State.inc_get (by decide),
    State.qualZero_get (by decide), State.foNormal_get (by decide), State.dst]

/-- A district that is OFF and asked to be ON requests its switch-on. -/
theorem State.pursue_reqOn (s : State) (d : Nat) (h0 : s.dst d = 0) (ht : s.tgtOf d = 2) : ((s.pursue d).pw d).reqOn.isSome = true := by
  unfold State.pursue
  dsimp only
  rw [if_neg (by omega), if_pos ht, State.pw_updPw_self]
  rfl

theorem State.darkRestarted_reqOn (s : State) {d : Nat} (hd : d < 64) (hp : s.noPursuit = false) (h0 : s.dst d = 0) :
    ((s.darkRestarted d).pw d).reqOn.isSome = true := by
  unfold State.darkRestarted
  rw [if_neg (by simp [s.darkAsked_noPursuit hd, hp])]
  exact State.pursue_reqOn _ d ((s.darkAsked_dst hd).trans h0) ((s.darkLeft d).setTgt_tgtOf d (by decide))

theorem darkRestart_idle (s : State) (g : Gal) (d : Nat) (hn : d < s.cfg.n) (hp : s.rowPasses g R.DST_FO_CTL_RESTART d 1)
    (h : s.get R.DST_FO_STAT_STATE d ≠ 3) : exec (.darkRestart g d) s = .next (s.okRsp g) := by
  refine (onDist_next hn _).trans (congrArg Host.Outcome.next ((s.hostRow_passes g _ _ _ _ hp).trans ?_))
  rw [effDarkRestart_idle s.newAccess d h]
  rfl

theorem darkRestart_restarts (s : State) (g : Gal) (d : Nat) (hn : d < s.cfg.n) (hd : d < 64)
    (hp : s.rowPasses g R.DST_FO_CTL_RESTART d 1) (h : s.get R.DST_FO_STAT_STATE d = 3) :
    ∃ t, exec (.darkRestart g d) s = .next t ∧ t.get R.DST_FO_STAT_STATE d = 0 ∧ t.tgtOf d = 2 ∧
      t.get R.DST_FO_CNT_RESTARTS d = satU R.DST_FO_CNT_RESTARTS.w (s.get R.DST_FO_CNT_RESTARTS d + 1) ∧
      (∀ e ∈ s.inGroup d, t.get R.DST_FO_THR_QUALCNT e = 0) ∧
      (s.noPursuit = false → s.dst d = 0 → (t.pw d).reqOn.isSome = true) ∧ t.kept = s.kept := by
  have he := effDarkRestart_dark s.newAccess d h
  have hkept := effDarkRestart_kept s.newAccess d
  rw [he] at hkept
  refine ⟨(s.newAccess.darkRestarted d).respond g .ok 0,
    (onDist_next hn _).trans (congrArg Host.Outcome.next ((s.hostRow_passes g _ _ _ _ hp).trans (by rw [he]))), ?_, ?_, ?_,
    fun e hm => ?_, fun hq h0 => s.newAccess.darkRestarted_reqOn hd hq h0, hkept⟩
  · rw [State.respond_get, State.darkRestarted_get (by decide), State.darkAsked_get (by decide) hd (by decide), State.darkLeft,
      State.inc_get (by decide), State.qualZero_get (by decide), State.foNormal_normal]
  · exact s.newAccess.darkRestarted_tgtOf hd
  · rw [State.respond_get, State.darkRestarted_get (by decide), State.darkAsked_get (by decide) hd (by decide), State.darkLeft,
      State.get_inc_self _ _ _ (by decide), State.qualZero_get (by decide), State.foNormal_get (by decide), State.newAccess_get]
  · rw [State.respond_get, State.darkRestarted_get (by decide), State.darkAsked_get (by decide) hd (by decide), State.darkLeft,
      State.inc_get (by decide)]
    exact State.qualZero_count _ d e hm

/-- Settles O57: each of its commands by its own lemma. -/
theorem forecastersStopAndDistrictsDarken : Obligations.ForecastersStopAndDistrictsDarken :=
  ⟨forecasterDeadlineMiss_missed, forecasterDeadlineMiss_idle, forecasterDistrictDisable_lost, attributionPublish_idle,
    attributionPublish_publishes, fcsCntClr_clears,
    fun s d hn hd => ⟨darkeningBegin_idle s d hn, darkeningBegin_alone s d hn, darkeningIsolate_isolates s d hn,
      darkeningStop_stops s d hn, darkeningComplete_dark s d hn,
      fun g hp => ⟨darkRestart_idle s g d hn hp, darkRestart_restarts s g d hn hd hp⟩⟩,
    supcapFault_idle, supcapFault_reports⟩

end Sys2Proof.Machine

namespace Sys2Proof.Machine

/-! ### A read that passes -/

/-- A read that passes answers the word that stands at the address, where the read has no effect of its own. -/
theorem exec_regRead_passes (s : State) (g : Gal) (a : Nat) (h : s.reads g a) (h1 : a ≠ 0x304C) (h2 : a ≠ 0x3070) :
    exec (.regRead g a) s =
      .next (s.answered g (s.newAccess.readWord g false (s.newAccess.maskBits g) a).toNat) := by
  obtain ⟨hfence, hcheck⟩ := h
  refine congrArg Host.Outcome.next ?_
  unfold State.portRead State.readNow State.readWith State.effRead
  rw [show (tabAt s.newAccess.fence g).waiting = false from hfence, hcheck, if_neg h1, if_neg h2]
  rfl

/-! ### The reserved offsets of the ORR page -/

theorem findReg_orr_reserved {o : Nat} (h1 : 0x68 ≤ o) (h2 : o < 0x800) : findReg (0xB000 + o) = none := by
  have hp : (0xB000 + o) / 0x1000 = 0xB := by omega
  have ho : (0xB000 + o) % 0x1000 = o := by omega
  have hlist : listOff 0xB o = o := if_neg (by omega)
  unfold findReg
  dsimp only
  rw [hp, ho, if_neg (by omega), hlist]
  refine List.find?_eq_none.mpr fun r hr => ?_
  have hoff : r.off < 0x68 := (by decide : ∀ r ∈ R.orrRegs, r.off < 0x68) r hr
  simpa using show r.off ≠ o by omega

theorem State.readWord_orr_reserved (s : State) (g : Nat) (i3c : Bool) (m : Nat) {o : Nat} (h1 : 0x68 ≤ o) (h2 : o < 0x800) :
    s.readWord g i3c m (0xB000 + o) = 0 := by
  have hp : (0xB000 + o) / 0x1000 = 0xB := by omega
  have ho : (0xB000 + o) % 0x1000 = o := by omega
  unfold State.readWord
  dsimp only
  rw [hp, ho, if_neg (by omega), if_pos h2]
  unfold State.liveWord
  simp [findReg_orr_reserved h1 h2, isGalPage, show o ≠ 0x4C by omega, show o ≠ 0x50 by omega]

theorem regRead_orr_reserved (s : State) (g : Gal) (o : Nat) (h1 : 0x68 ≤ o) (h2 : o < 0x800) (h : s.reads g (0xB000 + o)) :
    exec (.regRead g (0xB000 + o)) s = .next (s.answered g 0) := by
  rw [exec_regRead_passes s g _ h (by omega) (by omega), State.readWord_orr_reserved _ _ _ _ h1 h2]
  rfl

theorem State.effWrite_orr_reserved (s : State) (g : Nat) (priv : Bool) (w : Word) {o : Nat} (h1 : 0x68 ≤ o) (h2 : o < 0x800) :
    s.effWrite g priv (0xB000 + o) w = s := by
  have hp : (0xB000 + o) / 0x1000 = 0xB := by omega
  have ho : (0xB000 + o) % 0x1000 = o := by omega
  have hpage : s.effWrite g priv (0xB000 + o) w = s.orrWrite priv (0xB000 + o) w := by
    simp [State.effWrite, State.pageWrite, hp, ho, show ¬o < 0x40 by omega, show ¬0x800 ≤ o by omega, isGalPage,
      show 0xB000 + o ≠ 0x2040 by omega]
  rw [hpage, State.orrWrite, ho, if_neg (by omega), State.storeReg, findReg_orr_reserved h1 h2]
  exact if_neg (by omega)

theorem regWrite_orr_reserved (s : State) (g : Gal) (o : Nat) (w : Word) (h1 : 0x68 ≤ o) (h2 : o < 0x800)
    (h : s.passes g (0xB000 + o) w) : exec (.regWrite g (0xB000 + o) w) s = .next (s.okRsp g) := by
  obtain ⟨hfence, hcheck⟩ := h
  have hp : (0xB000 + o) / 0x1000 = 0xB := by omega
  have hnf : fences (0xB000 + o) w = false := by
    unfold fences
    rw [hp, show isGalPage 0xB = false by decide, Bool.false_and, Bool.false_and]
  refine congrArg Host.Outcome.next ?_
  unfold State.portWrite State.writeOne
  rw [show (tabAt s.newAccess.fence g).waiting = false from hfence, hcheck, hnf]
  exact congrArg (State.respond · g .ok 0) (s.newAccess.effWrite_orr_reserved g _ w h1 h2)

/-! ### The copies of the Exhibit -/

theorem regRead_orr_copy (s : State) (g : Gal) (o : Nat) (ho : o < 0x68) (h : s.reads g (0xB800 + o)) :
    exec (.regRead g (0xB800 + o)) s = .next (s.answered g (tabAt s.exh.copies (0xB800 + o) : Word).toNat) := by
  have hw : s.newAccess.readWord g false (s.newAccess.maskBits g) (0xB800 + o) = tabAt s.exh.copies (0xB800 + o) := by
    unfold State.readWord
    dsimp only
    rw [if_neg (by omega), if_neg (by omega)]
    rfl
  rw [exec_regRead_passes s g _ h (by omega) (by omega), hw]

/-- Entries that say no other value of a key leave it. -/
theorem tabAt_foldl_tabPut {α : Type} [Inhabited α] {k : Nat} {v : α} (l : List (Nat × α)) (h : ∀ x ∈ l, x.1 = k → x.2 = v)
    (t : Tab α) (ht : tabAt t k = v) : tabAt (l.foldl (fun t x => tabPut t x.1 x.2) t) k = v := by
  induction l generalizing t with
  | nil => exact ht
  | cons x l ih =>
    refine ih (fun y hy => h y (List.mem_cons_of_mem _ hy)) _ ?_
    dsimp only
    by_cases hk : x.1 = k
    · rw [tabAt, hk, tabGet_put_self, Option.getD_some, h x (List.mem_cons_self ..) hk]
    · rw [tabAt, tabGet_put_ne _ _ _ _ hk, ← ht, tabAt]

/-- A key takes the one value that the entries put for it. -/
theorem tabAt_foldl_tabPut_mem {α : Type} [Inhabited α] {k : Nat} {v : α} (l : List (Nat × α)) (h : ∀ x ∈ l, x.1 = k → x.2 = v)
    (hm : (k, v) ∈ l) (t : Tab α) : tabAt (l.foldl (fun t x => tabPut t x.1 x.2) t) k = v := by
  induction l generalizing t with
  | nil => cases hm
  | cons x l ih =>
    have hl : ∀ y ∈ l, y.1 = k → y.2 = v := fun y hy => h y (List.mem_cons_of_mem _ hy)
    rcases List.mem_cons.mp hm with rfl | hm
    · exact tabAt_foldl_tabPut l hl _ (by rw [tabAt, tabGet_put_self, Option.getD_some])
    · exact ih hl hm _

/-- A filter of the keys drops a key or leaves it. -/
theorem tabGet_filter_keys {α : Type} (p : Nat → Bool) (k : Nat) (t : Tab α) :
    tabGet (t.filter fun x => p x.1) k = if p k then tabGet t k else none := by
  induction t with
  | nil => simp [tabGet]
  | cons x t ih =>
    rw [List.filter_cons]
    split
    · next hp =>
      rw [tabGet, tabGet, ih]
      split
      · next hk => rw [← hk, if_pos hp]
      · rfl
    · next hp =>
      rw [ih, tabGet]
      by_cases hk : x.1 = k
      · rw [← hk, if_neg hp, if_neg hp]
      · rw [if_neg hk]

/-- A bound of every element of a list bounds what is read at any index of it. -/
theorem getD_le_of_forall_mem {l : List Nat} {b : Nat} (h : ∀ x ∈ l, x ≤ b) (i : Nat) : l.getD i 0 ≤ b := by
  rw [List.getD_eq_getElem?_getD]
  cases hi : l[i]? with
  | none => exact Nat.zero_le b
  | some x => exact h x (List.mem_of_getElem? hi)

theorem pageKind_last_lt (p : Nat) : (pageKind p).2 < 0x200 := by
  unfold pageKind
  split
  · decide
  · split
    · decide
    · split
      · decide
      · exact Nat.lt_of_le_of_lt (getD_le_of_forall_mem (by decide) p) (by decide : 0xA0 < 0x200)

/-- An entry of a page's copies is one of its header, below 0x840, or that of a live offset. -/
theorem State.mem_pageCopy {s : State} {p sq : Nat} {x : Nat × Word} (h : x ∈ s.pageCopy p sq) :
    (0x1000 * p + 0x800 ≤ x.1 ∧ x.1 < 0x1000 * p + 0x840) ∨
    ∃ k, 4 * k ≤ (pageKind p).2 ∧ x = (0x1000 * p + 0x800 + 4 * k, s.liveWord 0 false (s.maskBits 0) p (4 * k)) := by
  unfold State.pageCopy at h
  dsimp only at h
  rcases List.mem_append.mp (List.mem_of_mem_filter h) with h | h
  · refine Or.inl ?_
    simp only [List.mem_cons, List.not_mem_nil, or_false] at h
    rcases h with rfl | rfl | rfl | rfl | rfl <;> dsimp only <;> omega
  · obtain ⟨k, hk, hx⟩ := List.mem_filterMap.mp h
    rw [List.mem_range] at hk
    split at hx
    · cases hx
    · exact Or.inr ⟨k, by omega, (Option.some.inj hx).symm⟩

/-- The copies of a page lie in it. -/
theorem State.pageCopy_page {s : State} {p sq : Nat} {x : Nat × Word} (h : x ∈ s.pageCopy p sq) : x.1 / 0x1000 = p := by
  have hlast := pageKind_last_lt p
  rcases State.mem_pageCopy h with h | ⟨k, hk, rfl⟩
  · omega
  · dsimp only
    omega

/-- The copy of a live offset is what gallery 0 would read there. -/
theorem State.pageCopy_live {s : State} {p sq o : Nat} {x : Nat × Word} (ho : 0x40 ≤ o) (h : x ∈ s.pageCopy p sq)
    (hx : x.1 = 0x1000 * p + 0x800 + o) : x.2 = s.liveWord 0 false (s.maskBits 0) p o := by
  rcases State.mem_pageCopy h with h | ⟨k, hk, rfl⟩
  · omega
  · have hk : 4 * k = o := by
      dsimp only at hx
      omega
    rw [hk]

theorem State.mem_pageCopy_live (s : State) (p sq : Nat) {k : Nat} (h1 : 0x40 ≤ 4 * k) (h2 : 4 * k ≤ (pageKind p).2)
    (hv : s.liveWord 0 false (s.maskBits 0) p (4 * k) ≠ 0) :
    (0x1000 * p + 0x800 + 4 * k, s.liveWord 0 false (s.maskBits 0) p (4 * k)) ∈ s.pageCopy p sq := by
  unfold State.pageCopy
  dsimp only
  refine List.mem_filter.mpr ⟨List.mem_append_right _ (List.mem_filterMap.mpr ⟨k, ?_, if_neg (by omega)⟩),
    by simp only [bne_iff_ne.mpr hv, Bool.true_or]⟩
  exact List.mem_range.mpr (by omega)

/-- The table of copies after those of a page have been replaced. -/
theorem State.copyPage_copies (s t : State) (sq p : Nat) :
    (State.copyPage s t sq p).exh.copies =
      (s.pageCopy p sq).foldl (fun t x => tabPut t x.1 x.2) (t.exh.copies.filter fun x => x.1 / 0x1000 != p) := rfl

/-- A page's copies replaced: each live offset shows what gallery 0 would read there. A word 0 has no entry. -/
theorem State.copyPage_live (s t : State) (sq p : Nat) {k : Nat} (h1 : 0x40 ≤ 4 * k) (h2 : 4 * k ≤ (pageKind p).2) :
    tabAt (State.copyPage s t sq p).exh.copies (0x1000 * p + 0x800 + 4 * k) = s.liveWord 0 false (s.maskBits 0) p (4 * k) := by
  have hlast := pageKind_last_lt p
  have honly : ∀ x ∈ s.pageCopy p sq, x.1 = 0x1000 * p + 0x800 + 4 * k → x.2 = s.liveWord 0 false (s.maskBits 0) p (4 * k) :=
    fun x hx => State.pageCopy_live h1 hx
  rw [State.copyPage_copies]
  by_cases hv : s.liveWord 0 false (s.maskBits 0) p (4 * k) = 0
  · refine tabAt_foldl_tabPut _ honly _ ?_
    rw [tabAt, tabGet_filter_keys (fun a => a / 0x1000 != p), if_neg (by simp; omega), hv]
    rfl
  · exact tabAt_foldl_tabPut_mem _ honly (s.mem_pageCopy_live p sq h1 h2 hv) _

/-- Another page's copies are left. -/
theorem State.copyPage_other (s t : State) (sq p : Nat) {a : Nat} (h : a / 0x1000 ≠ p) :
    tabAt (State.copyPage s t sq p).exh.copies a = tabAt t.exh.copies a := by
  rw [State.copyPage_copies]
  refine tabAt_foldl_tabPut _ (fun x hx ha => absurd (ha ▸ State.pageCopy_page hx) h) _ ?_
  rw [tabAt, tabGet_filter_keys (fun a => a / 0x1000 != p), if_pos (by simpa using h), tabAt]

/-- The pages that an Exhibit copies. -/
def State.exhPages (s : State) : List Nat := (List.range 256).filter s.participates

theorem State.mem_exhPages {s : State} {p : Nat} (hp : p < 256) (h : s.participates p = true) : p ∈ s.exhPages :=
  List.mem_filter.mpr ⟨List.mem_range.mpr hp, h⟩

/-- The copies of an Exhibit: those of its pages, with the trigger answered. -/
def State.exhCopied (s : State) : State :=
  { s with exh := { s.exh with trig := 0 } }.each s.exhPages fun x p => State.copyPage s x (nextExh (s.get R.EXH_SEQ_SEQ)) p

/-- After the copies of an Exhibit, each live offset of a page that participates shows what gallery 0 would read there. -/
theorem State.exhCopied_live (s : State) {p k : Nat} (hp : p ∈ s.exhPages) (h1 : 0x40 ≤ 4 * k) (h2 : 4 * k ≤ (pageKind p).2) :
    tabAt s.exhCopied.exh.copies (0x1000 * p + 0x800 + 4 * k) = s.liveWord 0 false (s.maskBits 0) p (4 * k) := by
  have hlast := pageKind_last_lt p
  refine State.each_reaches (fun _ => True)
    (fun t => tabAt t.exh.copies (0x1000 * p + 0x800 + 4 * k) = s.liveWord 0 false (s.maskBits 0) p (4 * k)) _ p
    (fun _ _ _ => trivial) (fun t _ => s.copyPage_live t _ p h1 h2) (fun t q ht => ?_) _ _ hp trivial
  by_cases hq : q = p
  · rw [hq]
    exact s.copyPage_live t _ p h1 h2
  · rw [State.copyPage_other _ _ _ _ (by omega), ht]

theorem State.arcOnly.exh {s t : State} (h : s.arcOnly t) : t.exh = s.exh := by
  obtain ⟨r, a, rfl⟩ := h
  rfl

theorem State.capTrig_exh (s : State) (c : Nat) : (s.capTrig c).exh = s.exh := by
  unfold State.capTrig
  split <;> rfl

/-- An Exhibit that is not held leaves the copies of its pages. -/
theorem effExhibit_exh (s : State) (hr : s.dev.released = true) (ht : s.exh.trig ≠ 0) (hh : s.get R.EXH_STAT_HELD = 0) :
    (effExhibit s).exh = s.exhCopied.exh := by
  unfold effExhibit
  dsimp only
  rw [if_neg (by simp [hr, ht]), if_neg (by simp [State.flag, hh]), State.capTrig_exh]
  split
  · rw [(State.stage_arcOnly _ _ _).exh]
    split <;> rfl
  · split <;> rfl

theorem exhibitEdge_orr_copy (s : State) (o : Nat) (h1 : 0x40 ≤ o) (h2 : o < 0x68) (ho : o % 4 = 0) (hr : s.dev.released = true)
    (ht : s.exh.trig ≠ 0) (hh : s.get R.EXH_STAT_HELD = 0) (hp : s.participates 0xB = true) :
    ∃ t, exec .exhibitEdge s = .next t ∧ tabAt t.exh.copies (0xB800 + o) = s.liveWord 0 false (s.maskBits 0) 0xB o := by
  obtain ⟨k, rfl⟩ := Nat.dvd_of_mod_eq_zero ho
  refine ⟨effExhibit s, rfl, ?_⟩
  rw [effExhibit_exh s hr ht hh]
  exact s.exhCopied_live (State.mem_exhPages (by decide) hp) h1 (show 4 * k ≤ 0x64 by omega)

/-- Settles O23: no register is listed at the reserved offsets of the ORR page, so that a read forms 0 and a write stores nothing;
an Exhibit replaces the copies of one page after another, each within its own page. -/
theorem reservedOrreryOffsetsReadZero : Obligations.ReservedOrreryOffsetsReadZero :=
  ⟨regRead_orr_reserved, regWrite_orr_reserved, fun s g o _ ho => regRead_orr_copy s g o ho, exhibitEdge_orr_copy⟩

end Sys2Proof.Machine

namespace Sys2Proof.Machine

/-! ### What a hub senses, beside what Thunderhead counts there -/

theorem State.hubOf_updHub_ne {d e : Nat} (h : e ≠ d) (s : State) (f : HubS → HubS) : (s.updHub d f).hubOf e = s.hubOf e :=
  (tabAt_tabUpd _ _ _ _).trans (if_neg h.symm)

/-- A hub without the minima and the counts that Thunderhead goes by. -/
def HubS.sensed (h : HubS) : HubS := { h with last4 := [], fireCnt := 0, recov := 0, storm := 0, taper := 0, taperTot := 0 }

/-- The hubs, that of district `d` without what Thunderhead counts there. -/
def State.sensing (s : State) (d e : Nat) : HubS := if e = d then (s.hubOf e).sensed else s.hubOf e

theorem State.sensing_self (s : State) (d : Nat) : s.sensing d d = (s.hubOf d).sensed := if_pos rfl

theorem State.sensing_ne {d e : Nat} (h : e ≠ d) (s : State) : s.sensing d e = s.hubOf e := if_neg h

theorem State.sensing_of_hub {s t : State} (h : t.hub = s.hub) (d : Nat) : t.sensing d = s.sensing d := by
  unfold State.sensing State.hubOf
  rw [h]

/-- A further change of what Thunderhead counts at the hub leaves what it senses. -/
theorem State.sensing_updHub {s t : State} {d : Nat} (h : t.sensing d = s.sensing d) (f : HubS → HubS)
    (hf : ∀ x, (f x).sensed = x.sensed) : (t.updHub d f).sensing d = s.sensing d := by
  refine Eq.trans (funext fun e => ?_) h
  by_cases he : e = d
  · rw [he, State.sensing_self, State.hubOf_updHub, hf, State.sensing_self]
  · rw [State.sensing_ne he, State.hubOf_updHub_ne he, State.sensing_ne he]

theorem State.sensing_ite {s t u : State} {d : Nat} (c : Prop) [Decidable c] (h : t.sensing d = s.sensing d)
    (h' : u.sensing d = s.sensing d) : (if c then t else u).sensing d = s.sensing d := by
  split
  · exact h
  · exact h'

/-! ### Thunderhead writes its own counts of the hub -/

theorem State.endReleases_hub (s : State) (d : Nat) : (s.endReleases d).hub = s.hub :=
  State.each_const State.hub s _ _ fun t a => by
    unfold State.anvRelEnd
    split
    · exact t.setAnv_hub a _
    · rfl

theorem State.thDisarm_sensing (s : State) (d : Nat) : (s.thDisarm d).sensing d = s.sensing d :=
  State.sensing_updHub (State.sensing_of_hub (s.endReleases_hub d) d) _ fun _ => rfl

theorem State.thTaperBegin_sensing (s : State) (d : Nat) : (s.thTaperBegin d).sensing d = s.sensing d := by
  have hexit : (s.each (s.availCells d) fun s c => s.updCell c fun x => { x with iexit := x.ends }).hub = s.hub :=
    State.each_const State.hub s _ _ fun _ _ => rfl
  exact State.sensing_updHub (State.sensing_of_hub ((State.endReleases_hub _ d).trans hexit) d) _ fun _ => rfl

theorem State.capTrig_hub (s : State) (c : Nat) : (s.capTrig c).hub = s.hub := by
  unfold State.capTrig
  split <;> rfl

theorem State.thShown_hub (s : State) (d src : Nat) : (s.thShown d src).hub = s.hub := by
  unfold State.thShown
  dsimp only
  split
  · exact State.capTrig_hub _ _
  · rfl

theorem State.anvOrdered_hub (s : State) (d k : Nat) : (s.anvOrdered d k).hub = s.hub := by
  unfold State.anvOrdered
  split
  · exact s.setAnv_hub _ _
  · rfl

theorem State.thFire_sensing (s : State) (d : Nat) (depth slope : Bool) : (s.thFire d depth slope).sensing d = s.sensing d := by
  have hforced (t : State) : (t.phasesForced d).hub = t.hub := State.each_const State.hub t _ _ fun _ _ => rfl
  have hordered (t : State) : (t.anvilsOrdered d).hub = t.hub := State.each_const State.hub t _ _ fun u k => u.anvOrdered_hub d k
  rw [State.thFire_eq]
  exact State.sensing_updHub (State.sensing_of_hub (by rw [hordered, hforced, State.thShown_hub]) d) _ fun _ => rfl

/-- Whatever Thunderhead does at a sample, what the hub senses stands, and every other hub. -/
theorem State.thSample_sensing (s : State) (d mn : Nat) : (s.thSample d mn).sensing d = s.sensing d := by
  unfold State.thSample
  dsimp only
  refine State.sensing_ite _ (State.sensing_ite _ rfl rfl) (State.sensing_ite _ (s.thDisarm_sensing d)
    (State.sensing_ite _ (State.sensing_ite _ ?_ ?_) (State.sensing_ite _ (s.thFire_sensing d _ _) rfl)))
  · refine State.sensing_updHub ((State.thTaperBegin_sensing _ d).trans ?_) _ fun _ => rfl
    exact State.sensing_updHub rfl _ fun _ => rfl
  · exact State.sensing_updHub rfl _ fun _ => rfl

/-! ### A hub sample -/

/-- The suspect tests write the counts of the suspect conditions alone. -/
theorem suspCounts_with (lo hi : Option Nat) (codes l : List Nat) (h : HubS) :
    ∃ fail low high, l.foldl (fun h k => suspCounts lo hi h k (codes.getD k 0)) h =
      { h with cntFail := fail, cntLow := low, cntHigh := high } := by
  induction l generalizing h with
  | nil => exact ⟨_, _, _, rfl⟩
  | cons k l ih => exact ih _

/-- A hub holds the minimum of its sample, and takes it into the statistics of the die period (R131, R132). -/
theorem State.hubMeasured_hubOf (s : State) (d : Nat) (codes : List Nat) :
    ∃ fail low high, (s.hubMeasured d codes).hubOf d =
      { s.hubOf d with
        cntFail := fail, cntLow := low, cntHigh := high, min := s.hubMin d codes, sum := (s.hubOf d).sum + s.hubMin d codes,
        cnt := (s.hubOf d).cnt + 1, low := Min.min (s.hubOf d).low (s.hubMin d codes), droop := codes,
        taper := (s.hubOf d).taper - 1 } := by
  rw [State.hubMeasured, State.hubOf_updHub, State.testSensors, State.hubOf_updHub]
  obtain ⟨fail, low, high, h⟩ := suspCounts_with _ _ codes (s.validSensors d) (s.hubOf d)
  exact ⟨fail, low, high, by rw [h]⟩

theorem State.hubMeasured_hubOf_ne {d e : Nat} (h : e ≠ d) (s : State) (codes : List Nat) :
    (s.hubMeasured d codes).hubOf e = s.hubOf e := by
  rw [State.hubMeasured, State.hubOf_updHub_ne h, State.testSensors, State.hubOf_updHub_ne h]

theorem State.hubSampled_hub (s : State) (d : Nat) (codes vst : List Nat) (vfeed : Nat) :
    (s.hubSampled d codes vst vfeed).hub = (s.hubMeasured d codes).hub :=
  State.each_const State.hub _ _ _ fun t _ => t.anvSample_hub _ _ _

/-- Behind the measurement, nothing of a sample alters what the hub senses. -/
theorem effHubSample_sensing (s : State) (d : Nat) (codes vst vloc : List Nat) (vfeed : Nat) :
    (effHubSample s d codes vst vloc vfeed).sensing d = (s.hubMeasured d codes).sensing d := by
  have hdeliv (t : State) : (t.delivered d vloc).hub = t.hub := State.each_const State.hub t _ _ fun _ _ => rfl
  rw [effHubSample_eq]
  refine State.sensing_updHub ?_ _ fun _ => rfl
  rw [State.sensing_of_hub (hdeliv _), State.thSample_sensing, State.sensing_of_hub (s.hubSampled_hub d codes vst vfeed)]

theorem hubSample_measures (s : State) (d : Nat) (codes vst vloc : List Nat) (vfeed : Nat) (hn : d < s.cfg.n) :
    ∃ t, exec (.hubSample d codes vst vloc vfeed) s = .next t ∧ (t.hubOf d).min = s.hubMin d codes ∧
      (t.hubOf d).sum = (s.hubOf d).sum + s.hubMin d codes ∧ (t.hubOf d).cnt = (s.hubOf d).cnt + 1 ∧
      (t.hubOf d).low = min (s.hubOf d).low (s.hubMin d codes) ∧ (t.hubOf d).droop = codes ∧
      (∀ e, e ≠ d → t.hubOf e = s.hubOf e) ∧ t.kept = s.kept := by
  have hs := effHubSample_sensing s d codes vst vloc vfeed
  obtain ⟨fail, low, high, hm⟩ := s.hubMeasured_hubOf d codes
  have hd : ((effHubSample s d codes vst vloc vfeed).hubOf d).sensed = ((s.hubMeasured d codes).hubOf d).sensed := by
    rw [← State.sensing_self, hs, State.sensing_self]
  rw [hm] at hd
  refine ⟨_, onDist_next hn _, congrArg HubS.min hd, congrArg HubS.sum hd, congrArg HubS.cnt hd,
    congrArg HubS.low hd, congrArg HubS.droop hd, fun e he => ?_, effHubSample_kept s d codes vst vloc vfeed⟩
  rw [← State.sensing_ne he, hs, State.sensing_ne he, State.hubMeasured_hubOf_ne he]

/-! ### The registers of the sensors -/

theorem suspFld_lo (j : Nat) : (suspFld j).lo = 0 := by unfold suspFld; split <;> rfl

theorem suspFld_w (j : Nat) : (suspFld j).w = 32 := by unfold suspFld; split <;> rfl

theorem suspFld_fits (j : Nat) : (suspFld j).lo + (suspFld j).w ≤ 32 := by rw [suspFld_lo, suspFld_w]

theorem suspFld_apart {i j : Nat} (hi : i < 2) (hj : j < 2) (h : i ≠ j) : (suspFld i).apart (suspFld j) := by
  obtain ⟨rfl, rfl⟩ | ⟨rfl, rfl⟩ : i = 0 ∧ j = 1 ∨ i = 1 ∧ j = 0 := by omega
  · decide
  · decide

/-- A write of one register of the pair decides its 32 marks, and leaves those of the other. -/
theorem State.suspect_set (s : State) {d j k : Nat} (hj : j < 2) (hk : k < 64) (v : Nat) :
    (s.set (suspFld j) d v).suspect d k = if k / 32 = j then v.testBit (k % 32) else s.suspect d k := by
  unfold State.suspect
  split
  · next h =>
    rw [h, State.get_set_self _ _ _ _ (suspFld_fits j), suspFld_w, Nat.testBit_mod_two_pow,
      decide_eq_true (Nat.mod_lt k (by decide)), Bool.true_and]
  · next h => rw [State.get_set_apart (suspFld_apart hj (by omega) (Ne.symm h))]

/-- The marks are read from their registers alone. -/
theorem State.suspect_congr {s t : State} {d : Nat} (h : ∀ j, t.get (suspFld j) d = s.get (suspFld j) d) (k : Nat) :
    t.suspect d k = s.suspect d k := by
  unfold State.suspect
  rw [h]

theorem State.suspect_mul_add (s : State) {d j k : Nat} (hk : k < 32) :
    s.suspect d (32 * j + k) = (s.get (suspFld j) d).testBit k := by
  rw [State.suspect, show (32 * j + k) / 32 = j by omega, show (32 * j + k) % 32 = k by omega]

/-! ### A sensor is marked suspect -/

/-- A sensor is marked, its counts restart, and SUSP of its district sets. -/
def State.sensorMarked (s : State) (d k : Nat) : State :=
  ((s.raiseBit (suspFld (k / 32)) d (k % 32)).updHub d fun h => h.dropCounts k).raise R.DST_FLT_SUSP d

/-- The mark joins those that stand. -/
theorem State.sensorMarked_suspect (s : State) {d k j : Nat} (hk : k < 64) (hj : j < 64) :
    (s.sensorMarked d k).suspect d j = (decide (j = k) || s.suspect d j) := by
  have hflt (i : Nat) : R.DST_FLT_SUSP.apart (suspFld i) := by unfold suspFld; split <;> decide
  have hreg : (s.sensorMarked d k).suspect d j = (s.raiseBit (suspFld (k / 32)) d (k % 32)).suspect d j :=
    State.suspect_congr (fun i => State.raise_get (hflt i) _ _ _) j
  rw [hreg, State.raiseBit, State.suspect_set s (by omega) hj]
  split
  · next h =>
    have hbit : k % 32 = j % 32 ↔ j = k := by omega
    rw [Nat.testBit_or, Nat.testBit_two_pow, State.suspect, h, Bool.or_comm]
    simp only [hbit]
  · next h =>
    have hne : j ≠ k := fun e => h (by rw [e])
    rw [decide_eq_false hne, Bool.false_or]

theorem State.sensorMarked_framed (s : State) (d k : Nat) :
    s.framed (s.sensorMarked d k) [R.DST_SSUSP0_SUSP.key d, R.DST_SSUSP1_SUSP.key d, R.DST_FLT_SUSP.key d] := by
  have hmark : (suspFld (k / 32)).key d ∈ [R.DST_SSUSP0_SUSP.key d, R.DST_SSUSP1_SUSP.key d, R.DST_FLT_SUSP.key d] := by
    unfold suspFld
    split <;> simp
  have hset := State.framed_set s s _ (suspFld (k / 32)) d (s.get (suspFld (k / 32)) d ||| 2 ^ (k % 32)) (s.framed_refl _) hmark
  exact State.framed_set s ((s.raiseBit _ d _).updHub d _) _ R.DST_FLT_SUSP d 1 hset (by simp)

theorem sensorSuspect_marks (s : State) (d k : Nat) (hn : d < s.cfg.n) (hk : k < 64) (hdue : (s.hubOf d).suspectDue k = true)
    (hret : s.retired d k = false) (hsus : s.suspect d k = false) (hm : (srcOf 2 d, clsSensor) ∉ s.flt.masked) :
    ∃ t, exec (.sensorSuspect d k) s = .next t ∧ t.suspect d k = true ∧ t.get R.DST_FLT_SUSP d = 1 ∧
      (∀ j, j ≠ k → j < 64 → t.suspect d j = s.suspect d j) ∧
      t = { s with regs := t.regs, hub := t.hub, flt := { s.flt with
        lines := s.flt.lines ++ [{ cls := clsSensor, cause := 0, src := srcOf 2 d }] } } ∧
      s.framed t [R.DST_SSUSP0_SUSP.key d, R.DST_SSUSP1_SUSP.key d, R.DST_FLT_SUSP.key d] := by
  have he : effSensorSuspect s d k = (s.sensorMarked d k).report clsSensor 0 (srcOf 2 d) := if_pos (by simp [hdue, hret, hsus])
  have hsusp {j : Nat} (hj : j < 64) :
      ((s.sensorMarked d k).report clsSensor 0 (srcOf 2 d)).suspect d j = (decide (j = k) || s.suspect d j) :=
    (State.suspect_congr (fun _ => State.report_get _ _ _ _ _ _) j).trans (s.sensorMarked_suspect hk hj)
  refine ⟨_, (onDist_next hn _).trans (congrArg Host.Outcome.next he), ?_, ?_, fun j hne hj => ?_, ?_, ?_⟩
  · rw [hsusp hk, decide_eq_true rfl, Bool.true_or]
  · rw [State.report_get]
    exact State.get_raise_self _ R.DST_FLT_SUSP d (by decide) (by decide)
  · rw [hsusp hj, decide_eq_false hne, Bool.false_or]
  · rw [State.report, if_neg (show (srcOf 2 d, clsSensor) ∉ (s.sensorMarked d k).flt.masked from hm)]
    rfl
  · exact State.framed_congr _ _ _ _ (s.sensorMarked_framed d k) (State.report_regs _ _ _ _)

theorem sensorSuspect_not_due (s : State) (d k : Nat) (hn : d < s.cfg.n) (h : (s.hubOf d).suspectDue k = false) :
    exec (.sensorSuspect d k) s = .next s :=
  (onDist_next hn _).trans (congrArg Host.Outcome.next (if_neg (by simp [h])))

/-! ### Writes of a host to the registers of the sensors -/

/-- A write that passes takes effect and is answered OK. -/
theorem State.hostWrite_passes (s : State) (g addr : Nat) (w : Word) (eff : State → State) (h : s.passes g addr w) :
    s.hostWrite g addr w eff = (eff s.newAccess).respond g .ok 0 := by
  obtain ⟨hfence, hcheck⟩ := h
  unfold State.hostWrite State.writeNow
  dsimp only
  rw [show (tabAt s.newAccess.fence g).waiting = false from hfence, hcheck]
  rfl

/-- The bits that a word leaves standing where it clears those written 1. -/
theorem testBit_and_cleared (x k : Nat) (w : Word) (hk : k < 32) :
    (x &&& (2 ^ 32 - 1 - w.toNat)).testBit k = (x.testBit k && !w.getLsbD k) := by
  have hw : 2 ^ 32 - 1 - w.toNat = 2 ^ 32 - (w.toNat + 1) := by omega
  rw [Nat.testBit_and, hw, Nat.testBit_two_pow_sub_succ w.isLt, decide_eq_true hk, Bool.true_and]
  rfl

/-- Of a word that names no suspect sensor, no count restarts. -/
theorem dropCounts_none (w : Word) (old j : Nat) (l : List Nat) (hl : ∀ k ∈ l, w.getLsbD k = true → old.testBit k = false)
    (h : HubS) : l.foldl (fun h k => if w.getLsbD k && old.testBit k then h.dropCounts (32 * j + k) else h) h = h := by
  induction l generalizing h with
  | nil => rfl
  | cons k l ih =>
    have hk : ¬(w.getLsbD k && old.testBit k) = true := by
      intro hb
      obtain ⟨hw, ho⟩ := Bool.and_eq_true_iff.mp hb
      rw [hl k (List.mem_cons_self ..) hw] at ho
      exact Bool.false_ne_true ho
    rw [List.foldl_cons, if_neg hk]
    exact ih (fun x hx => hl x (List.mem_cons_of_mem _ hx)) h

/-- A word clears the marks that it names in its register. -/
theorem effSsusp_suspect (s : State) {d j k : Nat} (hj : j < 2) (hk : k < 32) (w : Word) :
    (effSsusp s d j w).suspect d (32 * j + k) = (s.suspect d (32 * j + k) && !w.getLsbD k) := by
  refine (s.suspect_set hj (show 32 * j + k < 64 by omega) _).trans ?_
  rw [if_pos (by omega), show (32 * j + k) % 32 = k by omega, testBit_and_cleared _ k w hk, s.suspect_mul_add hk]

/-- Where it names no suspect sensor, no count restarts. -/
theorem effSsusp_hubOf (s : State) {d j : Nat} (w : Word)
    (h : ∀ k < 32, w.getLsbD k = true → s.suspect d (32 * j + k) = false) : (effSsusp s d j w).hubOf d = s.hubOf d := by
  refine (State.hubOf_updHub (s.set (suspFld j) d _) d _).trans (dropCounts_none w _ j _ (fun k hk hw => ?_) (s.hubOf d))
  have hk := List.mem_range.mp hk
  rw [← s.suspect_mul_add hk, h k hk hw]

theorem sensorReadmit_clears (s : State) (g : Gal) (d j : Nat) (w : Word) (hj : j < 2) (hp : s.passes g ((suspFld j).addr d) w) :
    ∃ t, exec (.sensorReadmit g d j w) s = .next t ∧
      (∀ k < 32, t.suspect d (32 * j + k) = (s.suspect d (32 * j + k) && !w.getLsbD k)) ∧
      ((∀ k < 32, w.getLsbD k = true → s.suspect d (32 * j + k) = false) → t.hubOf d = s.hubOf d) ∧
      t = { s.okRsp g with regs := t.regs, hub := t.hub } ∧ (s.okRsp g).framed t [(suspFld j).key d] :=
  ⟨_, congrArg Host.Outcome.next ((if_pos hj).trans (s.hostWrite_passes _ _ _ _ hp)),
    fun _ hk => effSsusp_suspect s.newAccess hj hk w, effSsusp_hubOf s.newAccess w, rfl,
    State.framed_set _ (s.okRsp g) _ _ _ _ (State.framed_refl _ _) (by simp)⟩

theorem sensorRetireWrite_stores (s : State) (g : Gal) (d j : Nat) (w : Word) (hj : j < 2)
    (hp : s.passes g ((retFld j).addr d) w) :
    ∃ t, exec (.sensorRetireWrite g d j w) s = .next t ∧ t.get (retFld j) d = w.toNat ∧
      (s.okRsp g).only t [(retFld j).key d] := by
  have hfld : (retFld j).lo = 0 ∧ (retFld j).w = 32 := by unfold retFld; split <;> decide
  obtain ⟨hlo, hw⟩ := hfld
  refine ⟨_, congrArg Host.Outcome.next ((if_pos hj).trans (s.hostWrite_passes _ _ _ _ hp)), ?_, rfl,
    State.framed_set _ (s.okRsp g) _ _ _ _ (State.framed_refl _ _) (by simp)⟩
  refine (State.get_set_self s.newAccess (retFld j) d _ (by rw [hlo, hw])).trans ?_
  rw [hw]
  exact Nat.mod_eq_of_lt w.isLt

/-- Beyond the configuration a command of a district changes nothing. -/
theorem onDist_beyond {s : State} {d : Nat} (h : s.cfg.n ≤ d) (t : State) : onDist s d t = .next s :=
  congrArg Host.Outcome.next (if_neg (Nat.not_lt.mpr h))

/-- The pair has two registers. -/
theorem onPair_beyond {j : Nat} (h : 2 ≤ j) (s t : State) : onPair s j t = .next s :=
  congrArg Host.Outcome.next (if_neg (Nat.not_lt.mpr h))

/-- Settles O51: at a hub sample nothing behind the measurement alters what the hub senses; the marks by the two writes of their
registers, one that joins a bit and one that clears those named. -/
theorem sensorsAreSampledMarkedAndRetired : Obligations.SensorsAreSampledMarkedAndRetired :=
  ⟨hubSample_measures, sensorSuspect_marks, sensorSuspect_not_due, fun s g d j w _ => sensorReadmit_clears s g d j w,
    fun s g d j w _ => sensorRetireWrite_stores s g d j w, fun s _ _ _ _ hj => ⟨onPair_beyond hj s _, onPair_beyond hj s _⟩,
    fun _ _ _ _ _ _ _ hd => ⟨onDist_beyond hd _, onDist_beyond hd _⟩⟩

end Sys2Proof.Machine

namespace Sys2Proof.Machine

/-! ### Thunderhead fires -/

/-- What a fire writes of the registers of its district: STATE, SRC, FIRES and THFIRE. -/
def State.fireNoted (s : State) (d src : Nat) : State :=
  (((s.set R.DST_TH_STAT_STATE d thFired).set R.DST_TH_STAT_SRC d src).inc R.DST_TH_CNT_FIRES d).raise R.DST_FLT_THFIRE d

theorem State.thShown_eq (s : State) (d src : Nat) :
    s.thShown d src =
      if (s.fireNoted d src).get R.CAP_TRIG_DIST == d then (s.fireNoted d src).capTrig 2 else s.fireNoted d src := rfl

theorem State.thShown_get_noted {F : Fld} (h : F.apartAll capTrigFlds) (s : State) (d src i : Nat) :
    (s.thShown d src).get F i = (s.fireNoted d src).get F i := by
  rw [State.thShown_eq]
  split
  · exact State.capTrig_get h _ _ _
  · rfl

theorem State.anvilsOrdered_get {F : Fld} (h : F.apartAll (R.ANV_CNT_RELEASES :: anvilFlds)) (s : State) (d i : Nat) :
    (s.anvilsOrdered d).get F i = s.get F i :=
  State.each_const (State.get · F i) s _ _ fun t k => t.anvOrdered_get h d k i

/-- Neither the orders to the anvil cells nor the capture trigger reach the registers that a fire writes. -/
theorem State.thFire_get_noted {F : Fld} (hc : F.apartAll capTrigFlds) (ha : F.apartAll (R.ANV_CNT_RELEASES :: anvilFlds))
    (s : State) (d : Nat) (depth slope : Bool) (i : Nat) :
    (s.thFire d depth slope).get F i =
      (s.fireNoted d ((if depth then 1 else 0) + (if slope then 2 else 0))).get F i := by
  rw [State.thFire_eq, State.updHub_get, State.anvilsOrdered_get ha, State.phasesForced_get, State.thShown_get_noted hc]

theorem State.thFire_thSt (s : State) (d : Nat) (depth slope : Bool) : (s.thFire d depth slope).thSt d = thFired := by
  rw [State.thSt, State.thFire_get_noted (by decide) (by decide), State.fireNoted, State.raise_get (by decide),
    State.inc_get (by decide), State.get_set_apart (by decide), State.get_set_self _ _ _ _ (by decide)]
  rfl

/-- The low bit of SRC is the cause of depth (R155). -/
theorem State.thFire_src_depth (s : State) (d : Nat) (depth slope : Bool) :
    ((s.thFire d depth slope).get R.DST_TH_STAT_SRC d).testBit 0 = depth := by
  rw [State.thFire_get_noted (by decide) (by decide), State.fireNoted, State.raise_get (by decide), State.inc_get (by decide),
    State.get_set_self _ _ _ _ (by decide)]
  cases depth <;> cases slope <;> rfl

theorem State.thFire_fires (s : State) (d : Nat) (depth slope : Bool) :
    (s.thFire d depth slope).get R.DST_TH_CNT_FIRES d = satU 16 (s.get R.DST_TH_CNT_FIRES d + 1) := by
  rw [State.thFire_get_noted (by decide) (by decide), State.fireNoted, State.raise_get (by decide),
    State.get_inc_self _ _ _ (by decide), State.get_set_apart (by decide), State.get_set_apart (by decide)]
  rfl

theorem State.thFire_event (s : State) (d : Nat) (depth slope : Bool) :
    (s.thFire d depth slope).get R.DST_FLT_THFIRE d = 1 := by
  rw [State.thFire_get_noted (by decide) (by decide), State.fireNoted, State.get_raise_self _ _ _ (by decide) (by decide)]

/-! ### Thunderhead arms and disarms -/

theorem State.thSample_arms (s : State) (d mn : Nat) (hst : s.thSt d = thDisarmed) (ha : s.armOk d = true) :
    s.thSample d mn = s.set R.DST_TH_STAT_STATE d thArmed :=
  (if_pos (by simp [hst])).trans (if_pos ha)

theorem State.thSample_disarms (s : State) (d mn : Nat) (hst : s.thSt d ≠ thDisarmed) (ha : s.armOk d = false) :
    s.thSample d mn = s.thDisarm d :=
  (if_neg (by simp [hst])).trans (if_pos (by simp [ha]))

theorem State.thDisarm_thSt (s : State) (d : Nat) : (s.thDisarm d).thSt d = thDisarmed := by
  unfold State.thDisarm
  dsimp only
  rw [State.thSt, State.updHub_get, State.get_set_self _ _ _ _ (by decide)]
  rfl

/-- A fire that ends so restarts the count of exits (R159). -/
theorem State.thDisarm_storm (s : State) (d : Nat) (h : s.thSt d = thFired) : ((s.thDisarm d).hubOf d).storm = 0 := by
  unfold State.thDisarm
  dsimp only
  rw [State.hubOf_updHub]
  exact if_pos (beq_iff_eq.mpr h)

/-! ### Behind Thunderhead, a sample forms the currents and keeps its minimum -/

theorem State.delivered_hub (s : State) (d : Nat) (vloc : List Nat) : (s.delivered d vloc).hub = s.hub :=
  State.each_const State.hub s _ _ fun _ _ => rfl

/-- In `u` a hub sample shows the registers and the count of exits that Thunderhead leaves in `t`. -/
structure State.ShownBy (t : State) (d : Nat) (u : State) : Prop where
  get : ∀ F i, u.get F i = t.get F i
  storm : (u.hubOf d).storm = (t.hubOf d).storm

theorem hubSample_shows (s : State) (d : Nat) (codes vst vloc : List Nat) (vfeed : Nat) (hn : d < s.cfg.n) (t : State)
    (ht : (s.hubSampled d codes vst vfeed).thSample d (s.hubMin d codes) = t) :
    ∃ u, exec (.hubSample d codes vst vloc vfeed) s = .next u ∧ t.ShownBy d u ∧ u.kept = s.kept := by
  refine ⟨_, onDist_next hn _, ⟨fun F i => ?_, ?_⟩, effHubSample_kept s d codes vst vloc vfeed⟩
  · rw [effHubSample_eq, State.updHub_get, State.delivered_get, ht]
  · have hhub : (t.delivered d vloc).hubOf d = t.hubOf d := congrArg (tabAt · d) (t.delivered_hub d vloc)
    rw [effHubSample_eq, State.hubOf_updHub, ht, hhub]

theorem hubSample_below_trip (s : State) (d : Nat) (codes vst vloc : List Nat) (vfeed : Nat) (hn : d < s.cfg.n)
    (hst : s.thSt d = thArmed ∨ s.thSt d = thTaper) (ha : s.armOk d = true) (hd : s.hubMin d codes < s.get R.DST_TH_STAT_TRIP d) :
    ∃ t, exec (.hubSample d codes vst vloc vfeed) s = .next t ∧ t.thSt d = thFired ∧
      (t.get R.DST_TH_STAT_SRC d).testBit 0 = true ∧ t.get R.DST_FLT_THFIRE d = 1 ∧
      t.get R.DST_TH_CNT_FIRES d = satU 16 (s.get R.DST_TH_CNT_FIRES d + 1) ∧ t.kept = s.kept := by
  obtain ⟨slope, hf⟩ := (s.hubSampled d codes vst vfeed).thSample_fires d (s.hubMin d codes)
    (by rwa [State.hubSampled_thSt]) ((s.hubSampled_armOk d codes vst vfeed).trans ha) (by rwa [State.hubSampled_trip])
  obtain ⟨u, hu, hshown, hkept⟩ := hubSample_shows s d codes vst vloc vfeed hn _ hf
  refine ⟨u, hu, ?_, ?_, ?_, ?_, hkept⟩
  · exact (hshown.get _ _).trans (State.thFire_thSt _ d true slope)
  · rw [hshown.get, State.thFire_src_depth]
  · rw [hshown.get, State.thFire_event]
  · rw [hshown.get, State.thFire_fires, s.hubSampled_get (by decide)]

theorem hubSample_arms (s : State) (d : Nat) (codes vst vloc : List Nat) (vfeed : Nat) (hn : d < s.cfg.n)
    (hst : s.thSt d = thDisarmed) (ha : s.armOk d = true) :
    ∃ t, exec (.hubSample d codes vst vloc vfeed) s = .next t ∧ t.thSt d = thArmed ∧ t.kept = s.kept := by
  have he := (s.hubSampled d codes vst vfeed).thSample_arms d (s.hubMin d codes)
    ((s.hubSampled_thSt d codes vst vfeed).trans hst) ((s.hubSampled_armOk d codes vst vfeed).trans ha)
  obtain ⟨u, hu, hshown, hkept⟩ := hubSample_shows s d codes vst vloc vfeed hn _ he
  exact ⟨u, hu, (hshown.get _ _).trans (State.get_set_self _ _ _ _ (by decide)), hkept⟩

theorem hubSample_disarms (s : State) (d : Nat) (codes vst vloc : List Nat) (vfeed : Nat) (hn : d < s.cfg.n)
    (hst : s.thSt d ≠ thDisarmed) (ha : s.armOk d = false) :
    ∃ t, exec (.hubSample d codes vst vloc vfeed) s = .next t ∧ t.thSt d = thDisarmed ∧
      (s.thSt d = thFired → (t.hubOf d).storm = 0) ∧ t.kept = s.kept := by
  have hst' := s.hubSampled_thSt d codes vst vfeed
  have he := (s.hubSampled d codes vst vfeed).thSample_disarms d (s.hubMin d codes) (by rwa [hst'])
    ((s.hubSampled_armOk d codes vst vfeed).trans ha)
  obtain ⟨u, hu, hshown, hkept⟩ := hubSample_shows s d codes vst vloc vfeed hn _ he
  exact ⟨u, hu, (hshown.get _ _).trans (State.thDisarm_thSt _ d),
    fun hf => hshown.storm.trans (State.thDisarm_storm _ d (hst'.trans hf)), hkept⟩

/-! ### The taper begins, and ends -/

/-- The currents of the available cells are captured as I_exit (R158). -/
def State.exitsCaptured (s : State) (d : Nat) : State :=
  s.each (s.availCells d) fun s c => s.updCell c fun x => { x with iexit := x.ends }

theorem State.exitsCaptured_get (s : State) (d : Nat) (F : Fld) (i : Nat) : (s.exitsCaptured d).get F i = s.get F i :=
  State.each_const (State.get · F i) s _ _ fun _ _ => rfl

theorem State.thTaperBegin_eq (s : State) (d : Nat) :
    s.thTaperBegin d = ((s.exitsCaptured d).endReleases d).updHub d fun h =>
      { h with taper := (s.exitsCaptured d).get R.DST_TH_TIME_TAPER d, taperTot := (s.exitsCaptured d).get R.DST_TH_TIME_TAPER d,
               recov := 0 } := rfl

theorem State.thTaperBegin_get {F : Fld} (h : F.apartAll anvilFlds) (s : State) (d i : Nat) :
    (s.thTaperBegin d).get F i = s.get F i := by
  rw [State.thTaperBegin_eq, State.updHub_get, State.endReleases_get h, State.exitsCaptured_get]

theorem State.thTaperBegin_hubOf (s : State) (d : Nat) :
    (s.thTaperBegin d).hubOf d =
      { s.hubOf d with taper := s.get R.DST_TH_TIME_TAPER d, taperTot := s.get R.DST_TH_TIME_TAPER d, recov := 0 } := by
  have hexit : (s.exitsCaptured d).hub = s.hub := State.each_const State.hub s _ _ fun _ _ => rfl
  have hhub : ((s.exitsCaptured d).endReleases d).hubOf d = s.hubOf d :=
    congrArg (tabAt · d) ((State.endReleases_hub _ d).trans hexit)
  rw [State.thTaperBegin_eq, State.hubOf_updHub, hhub, State.exitsCaptured_get]

theorem State.endReleases_flt (s : State) (d : Nat) : (s.endReleases d).flt = s.flt :=
  State.each_const State.flt s _ _ fun t a => by
    unfold State.anvRelEnd
    split
    · exact t.setAnv_flt a _
    · rfl

theorem State.thTaperBegin_flt (s : State) (d : Nat) : (s.thTaperBegin d).flt = s.flt :=
  (State.endReleases_flt _ d).trans (State.each_const State.flt s _ _ fun _ _ => rfl)

theorem State.updHub_flt (s : State) (d : Nat) (f : HubS → HubS) : (s.updHub d f).flt = s.flt := rfl

/-- FIRED has reached MAXHOLD: the taper begins, and the exit is counted (R158, R159). -/
def State.maxExit (s : State) (d : Nat) : State :=
  (((s.thTaperBegin d).inc R.DST_TH_CNT_MAXEXIT d).raise R.DST_FLT_THMAX d).updHub d fun h => { h with storm := h.storm + 1 }

theorem State.maxExit_get {F : Fld} (h : F.apartAll (R.DST_TH_CNT_MAXEXIT :: R.DST_FLT_THMAX :: anvilFlds)) (s : State)
    (d i : Nat) : (s.maxExit d).get F i = s.get F i := by
  have hc := h R.DST_TH_CNT_MAXEXIT (by simp)
  have he := h R.DST_FLT_THMAX (by simp)
  rw [State.maxExit, State.updHub_get, State.raise_get he, State.inc_get hc,
    State.thTaperBegin_get fun G hG => h G (by simp [hG])]

theorem State.maxExit_event (s : State) (d : Nat) : (s.maxExit d).get R.DST_FLT_THMAX d = 1 := by
  rw [State.maxExit, State.updHub_get, State.get_raise_self _ _ _ (by decide) (by decide)]

theorem State.maxExit_count (s : State) (d : Nat) :
    (s.maxExit d).get R.DST_TH_CNT_MAXEXIT d = satU 16 (s.get R.DST_TH_CNT_MAXEXIT d + 1) := by
  rw [State.maxExit, State.updHub_get, State.raise_get (by decide), State.get_inc_self _ _ _ (by decide),
    State.thTaperBegin_get (by decide)]
  rfl

theorem State.maxExit_hubOf (s : State) (d : Nat) :
    (s.maxExit d).hubOf d =
      { s.hubOf d with taper := s.get R.DST_TH_TIME_TAPER d, taperTot := s.get R.DST_TH_TIME_TAPER d, recov := 0,
                       storm := (s.hubOf d).storm + 1 } := by
  have hhub : (((s.thTaperBegin d).inc R.DST_TH_CNT_MAXEXIT d).raise R.DST_FLT_THMAX d).hubOf d = (s.thTaperBegin d).hubOf d := rfl
  rw [State.maxExit, State.hubOf_updHub, hhub, State.thTaperBegin_hubOf]

theorem State.maxExit_flt (s : State) (d : Nat) : (s.maxExit d).flt = s.flt := by
  rw [State.maxExit, State.updHub_flt, State.raise, State.set_flt, State.inc, State.setSat, State.set_flt, State.thTaperBegin_flt]

/-- A storm disarms Thunderhead (R159). -/
def State.stormed (s : State) (d : Nat) : State :=
  ((s.set R.DST_TH_STAT_STATE d thDisarmed).set R.DST_TH_STAT_STORMD d 1).updHub d fun h => { h with storm := 0 }

theorem State.stormed_flt (s : State) (d : Nat) : (s.stormed d).flt = s.flt := rfl

theorem effMaxhold_eq (s : State) (d : Nat) (hst : s.thSt d = thFired)
    (hmax : 2 * s.get R.DST_TH_TIME_MAXHOLD d ≤ (s.hubOf d).fireCnt) :
    effMaxhold s d =
      if s.get R.DST_TH_TIME_STORM d ≤ (s.hubOf d).storm + 1 then ((s.maxExit d).stormed d).report clsStorm 0 (srcOf 2 d)
      else (s.maxExit d).set R.DST_TH_STAT_STATE d thTaper := by
  have hstorm : ((s.maxExit d).hubOf d).storm = (s.hubOf d).storm + 1 := by rw [State.maxExit_hubOf]
  rw [← hstorm, ← s.maxExit_get (F := R.DST_TH_TIME_STORM) (by decide) d d]
  exact if_pos (by simp [hst, hmax])

theorem thunderheadMaxhold_tapers (s : State) (d : Nat) (hn : d < s.cfg.n) (hst : s.thSt d = thFired)
    (hmax : 2 * s.get R.DST_TH_TIME_MAXHOLD d ≤ (s.hubOf d).fireCnt)
    (hstorm : (s.hubOf d).storm + 1 < s.get R.DST_TH_TIME_STORM d) :
    ∃ t, exec (.thunderheadMaxhold d) s = .next t ∧ t.thSt d = thTaper ∧ t.get R.DST_FLT_THMAX d = 1 ∧
      t.get R.DST_TH_CNT_MAXEXIT d = satU 16 (s.get R.DST_TH_CNT_MAXEXIT d + 1) ∧
      (t.hubOf d).taper = s.get R.DST_TH_TIME_TAPER d ∧ (t.hubOf d).storm = (s.hubOf d).storm + 1 ∧ t.kept = s.kept := by
  have he : effMaxhold s d = (s.maxExit d).set R.DST_TH_STAT_STATE d thTaper :=
    (effMaxhold_eq s d hst hmax).trans (if_neg (by omega))
  have hkept := effMaxhold_kept s d
  have hhub : ((s.maxExit d).set R.DST_TH_STAT_STATE d thTaper).hubOf d = (s.maxExit d).hubOf d := rfl
  rw [he] at hkept
  refine ⟨_, (onDist_next hn _).trans (congrArg Host.Outcome.next he), State.get_set_self _ _ _ _ (by decide), ?_, ?_, ?_, ?_,
    hkept⟩
  · rw [State.get_set_apart (by decide), State.maxExit_event]
  · rw [State.get_set_apart (by decide), State.maxExit_count]
  · rw [hhub, State.maxExit_hubOf]
  · rw [hhub, State.maxExit_hubOf]

theorem thunderheadMaxhold_storms (s : State) (d : Nat) (hn : d < s.cfg.n) (hst : s.thSt d = thFired)
    (hmax : 2 * s.get R.DST_TH_TIME_MAXHOLD d ≤ (s.hubOf d).fireCnt)
    (hstorm : s.get R.DST_TH_TIME_STORM d ≤ (s.hubOf d).storm + 1) (hm : (srcOf 2 d, clsStorm) ∉ s.flt.masked) :
    ∃ t, exec (.thunderheadMaxhold d) s = .next t ∧ t.thSt d = thDisarmed ∧ t.get R.DST_TH_STAT_STORMD d = 1 ∧
      t.flt.lines = s.flt.lines ++ [{ cls := clsStorm, cause := 0, src := srcOf 2 d }] ∧ t.kept = s.kept := by
  have he : effMaxhold s d = ((s.maxExit d).stormed d).report clsStorm 0 (srcOf 2 d) :=
    (effMaxhold_eq s d hst hmax).trans (if_pos hstorm)
  have hkept := effMaxhold_kept s d
  have hflt : ((s.maxExit d).stormed d).flt = s.flt := (State.stormed_flt _ d).trans (s.maxExit_flt d)
  rw [he] at hkept
  refine ⟨_, (onDist_next hn _).trans (congrArg Host.Outcome.next he), ?_, ?_, ?_, hkept⟩
  · rw [State.thSt, State.report_get, State.stormed, State.updHub_get, State.get_set_apart (by decide),
      State.get_set_self _ _ _ _ (by decide)]
    rfl
  · rw [State.report_get, State.stormed, State.updHub_get, State.get_set_self _ _ _ _ (by decide)]
    rfl
  · rw [State.report_lines _ _ _ _ (by rwa [hflt]), hflt]

theorem thunderheadMaxhold_not_fired (s : State) (d : Nat) (hn : d < s.cfg.n) (hst : s.thSt d ≠ thFired) :
    exec (.thunderheadMaxhold d) s = .next s :=
  (onDist_next hn _).trans (congrArg Host.Outcome.next (if_neg (by simp [hst])))

theorem taperEnd_arms (s : State) (d : Nat) (hn : d < s.cfg.n) (hst : s.thSt d = thTaper) (ht : (s.hubOf d).taper = 0) :
    ∃ t, exec (.taperEnd d) s = .next t ∧ t.thSt d = thArmed ∧ s.only t [R.DST_TH_STAT_STATE.key d] := by
  have he : effTaperEnd s d = s.set R.DST_TH_STAT_STATE d thArmed := if_pos (by simp [hst, ht])
  exact ⟨_, (onDist_next hn _).trans (congrArg Host.Outcome.next he), State.get_set_self _ _ _ _ (by decide), rfl,
    State.framed_set _ _ _ _ _ _ (s.framed_refl _) (by simp)⟩

/-- Settles O52: at a hub sample Thunderhead finds the state, the conditions of R156 and TRIP as they were, and what follows it
writes no register; the exit of MAXHOLD is counted ahead of the storm count that decides between the taper and a storm. -/
theorem thunderheadFiresAndReturns : Obligations.ThunderheadFiresAndReturns :=
  ⟨hubSample_below_trip, hubSample_arms, hubSample_disarms, thunderheadMaxhold_tapers, thunderheadMaxhold_storms,
    thunderheadMaxhold_not_fired, taperEnd_arms⟩

end Sys2Proof.Machine

namespace Sys2Proof.Machine

/-! ### A switch-on begins -/

/-- A district begins its switch-on, ahead of its cells and its anvil cells: its sequence, and its start reference. -/
def State.switchOnTaken (s : State) (d vs : Nat) : State :=
  let u := (s.endWait d).updPw d fun x => { x with fromRetain := s.dst d == 1, vs := vs, failed := false, reqEntry := false }
  ((u.pwrStep d .onBegun 4).set R.DST_REF_VREF d vs).updLaw d fun l =>
    { l with vref := vs, appliedV := vs, vNext := vs, tgtNext := l.tgt }

theorem State.switchOnTaken_pw (s : State) (d vs : Nat) :
    (s.switchOnTaken d vs).pw d =
      { s.pw d with reqOn := none, fromRetain := s.dst d == 1, vs := vs, failed := false, reqEntry := false,
                    step := .onBegun } := by
  have hlaw (u : State) (f : LawS → LawS) : (u.updLaw d f).pw d = u.pw d := rfl
  rw [State.switchOnTaken, hlaw, State.pw_set, State.pwrStep_pw, State.pw_updPw_self, State.endWait_pw]

theorem State.anvilsCharge_pwr (s : State) (d : Nat) : (s.anvilsCharge d).pwr = s.pwr :=
  State.each_const State.pwr s _ _ fun t a => by
    split
    · exact t.setAnv_pwr a _
    · rfl

/-- The orders to the cells and to the anvil cells leave the sequence of the district. -/
theorem State.switchOn_pwr (s : State) (d vs : Nat) : (s.switchOn d vs).pwr = (s.switchOnTaken d vs).pwr := by
  have hramp (u : State) (l : List Nat) : (u.each l fun s c => s.rampCell c vs).pwr = u.pwr :=
    State.each_const State.pwr u l _ fun t c => t.rampCell_pwr c vs
  have hstart (u : State) (l : List Nat) : (u.each l fun s c =>
      if s.cst c == cFused || s.cst c == cFailed || s.flag R.CEL_CTL_CELL_DIS c then s else s.sendStart c vs).pwr = u.pwr :=
    State.each_const State.pwr u l _ fun t c => by split <;> rfl
  unfold State.switchOn
  dsimp only
  rw [State.anvilsCharge_pwr]
  split
  · exact hramp _ _
  · exact hstart _ _

theorem State.switchOn_pw (s : State) (d vs : Nat) : (s.switchOn d vs).pw d = (s.switchOnTaken d vs).pw d :=
  State.pw_of_pwr (s.switchOn_pwr d vs) d

theorem switchOnBegin_admitted (s : State) (d : Nat) (hn : d < s.cfg.n) (hs : s.switchOns = true) (hdie : s.atDie = true)
    (hw : (s.waiters (s.zoneOf d)).head? = some d ∨ (d ∈ s.waiters (s.zoneOf d) ∧ s.swon d = 0)) (hf : s.swFits d = true) :
    ∃ t, exec (.switchOnBegin d) s = .next t ∧ (t.pw d).step = .onBegun ∧ (t.pw d).vs = s.startRef d ∧ t.kept = s.kept := by
  have he : effSwitchOnBegin s d = s.switchOn d (s.startRef d) := if_pos (by simpa [hs, hdie, hf] using hw)
  refine ⟨_, (onDist_next hn _).trans (congrArg Host.Outcome.next he), ?_, ?_, s.switchOn_kept d _⟩
  · rw [State.switchOn_pw, State.switchOnTaken_pw]
  · rw [State.switchOn_pw, State.switchOnTaken_pw]

theorem switchOnBegin_idle (s : State) (d : Nat) (h : s.atDie = false ∨ s.swFits d = false) :
    exec (.switchOnBegin d) s = .next s := by
  have he : effSwitchOnBegin s d = s := if_neg (by rcases h with h | h <;> simp [h])
  have hexec : exec (.switchOnBegin d) s = onDist s d (effSwitchOnBegin s d) := rfl
  rw [hexec, he, onDist, ite_self]

/-! ### The rail, and the power switches -/

theorem State.clearLaw_pw (s : State) (k d : Nat) : (s.clearLaw k).pw d = s.pw d := rfl

theorem railok_closes_weak (s : State) (d : Nat) (hn : d < s.cfg.n) (hs : (s.pw d).step = .onBegun) (hr : s.railOk d = true) :
    ∃ t, exec (.railok d) s = .next t ∧ t.get R.PWR_DSTAT_PSW d = 2 ∧ (t.pw d).step = .onRail ∧ t.kept = s.kept := by
  have he : effRailok s d = ((s.pwrStep d .onRail 5).clearLaw d).set R.PWR_DSTAT_PSW d 2 := if_pos (by simp [hs, hr])
  have hkept := effRailok_kept s d
  rw [he] at hkept
  refine ⟨_, (onDist_next hn _).trans (congrArg Host.Outcome.next he), State.get_set_self _ _ _ _ (by decide), ?_, hkept⟩
  rw [State.pw_set, State.clearLaw_pw, State.pwrStep_pw]

theorem State.driveState_framed {u s : State} {ks : List Nat} (h : u.framed s ks) (d st : Nat) (hk : R.PWR_DSTAT_PSW.key d ∈ ks) :
    u.framed (s.driveState d st) ks :=
  State.framed_set _ _ _ _ _ _ (State.framed_set _ _ _ _ _ _ (State.framed_set _ _ _ _ _ _ h hk) hk) hk

theorem State.driveState_pw (s : State) (k st d : Nat) : (s.driveState k st).pw d = s.pw d := rfl

theorem switchOnPower_closes (s : State) (d : Nat) (hn : d < s.cfg.n) (hs : (s.pw d).step = .onRail) :
    ∃ t, exec (.switchOnPower d) s = .next t ∧ t.get R.PWR_DSTAT_PSW d = 3 ∧ (t.pw d).step = .onPower ∧
      t = { s with regs := t.regs, pwr := t.pwr } ∧ s.framed t [R.PWR_DSTAT_PSW.key d] := by
  have he : effOnPower s d = (s.updPw d fun x => { x with step := .onPower }).driveState d 2 := if_pos (by simp [hs])
  refine ⟨_, (onDist_next hn _).trans (congrArg Host.Outcome.next he), State.driveState_psw _ d 2, ?_, rfl,
    State.driveState_framed (State.framed_congr _ _ _ _ (s.framed_refl _) rfl) d 2 (by simp)⟩
  rw [State.driveState_pw, State.pw_updPw_self]

/-! ### COMPLETE, and the clock -/

/-- A district is ON, and its clamps are released. -/
def State.onShown (s : State) (d : Nat) : State :=
  (((s.pwrStep d .onIso 0).set R.PWR_DSTAT_STATE d 2).set R.PWR_DSTAT_ISO d 0).inc R.PWR_DSTAT_SWONS d

/-- The control complex is powered once every supply district is complete (R315, R329). -/
def State.supplyPowered (s : State) : State :=
  if s.supply.all fun e => s.isOn e && (s.pw e).step != .onPower then
    { s with dev := { s.dev with powered := true, supStayed := false } }
  else s

theorem effOnComplete_eq (s : State) (d : Nat) (hs : (s.pw d).step = .onPower) (ha : s.anvilsSet d = true)
    (hh : s.devSt ≠ devHold) (hsup : s.dev.supStayed = false ∨ s.dev.returned = true) (hfo : s.get R.DST_FO_STAT_STATE d < 2) :
    effOnComplete s d = ((s.onShown d).pursueLatched d).supplyPowered :=
  if_pos (by simpa [hs, ha, hh, hfo] using hsup)

theorem State.supplyPowered_form (s : State) : s.supplyPowered = { s with dev := s.supplyPowered.dev } := by
  unfold State.supplyPowered
  split <;> rfl

theorem State.supplyPowered_get (s : State) (F : Fld) (i : Nat) : s.supplyPowered.get F i = s.get F i := by
  rw [State.supplyPowered_form]
  rfl

theorem State.supplyPowered_pw (s : State) (d : Nat) : s.supplyPowered.pw d = s.pw d := by
  rw [State.supplyPowered_form]
  rfl

theorem State.supplyPowered_regs (s : State) : s.supplyPowered.regs = s.regs := by
  rw [State.supplyPowered_form]

theorem State.onShown_dst (s : State) (d : Nat) : (s.onShown d).dst d = 2 := by
  rw [State.dst, State.onShown, State.inc_get (by decide), State.get_set_apart (by decide), State.get_set_self _ _ _ _ (by decide)]
  rfl

theorem State.onShown_iso (s : State) (d : Nat) : (s.onShown d).get R.PWR_DSTAT_ISO d = 0 := by
  rw [State.onShown, State.inc_get (by decide), State.get_set_self _ _ _ _ (by decide)]
  rfl

theorem State.onShown_pending (s : State) (d : Nat) : (s.onShown d).get R.PWR_DSTAT_TPEND d = s.get R.PWR_DSTAT_TPEND d := by
  rw [State.onShown, State.inc_get (by decide), State.get_set_apart (by decide), State.get_set_apart (by decide),
    State.pwrStep_get (by decide)]

theorem State.onShown_step (s : State) (d : Nat) : ((s.onShown d).pw d).step = .onIso :=
  congrArg PwrS.step (s.pwrStep_pw d .onIso 0)

theorem State.onShown_framed (s : State) (d : Nat) : s.framed (s.onShown d) [R.PWR_DSTAT_STATE.key d] := by
  have hstep := State.pwrStep_framed (s.framed_refl [R.PWR_DSTAT_STATE.key d]) d .onIso 0 (List.mem_singleton_self _)
  have hstate := State.framed_set _ _ _ R.PWR_DSTAT_STATE d 2 hstep (List.mem_singleton_self _)
  have hiso := State.framed_set _ _ _ R.PWR_DSTAT_ISO d 0 hstate (List.mem_singleton_self _)
  exact State.framed_set _ _ _ R.PWR_DSTAT_SWONS d _ hiso (List.mem_singleton_self _)

theorem switchOnComplete_on (s : State) (d : Nat) (hn : d < s.cfg.n) (hs : (s.pw d).step = .onPower) (ha : s.anvilsSet d = true)
    (hh : s.devSt ≠ devHold) (hsup : s.dev.supStayed = false ∨ s.dev.returned = true) (hfo : s.get R.DST_FO_STAT_STATE d < 2) :
    ∃ t, exec (.switchOnComplete d) s = .next t ∧ t.dst d = 2 ∧ t.get R.PWR_DSTAT_ISO d = 0 ∧ (t.pw d).step = .onIso ∧
      t.kept = s.kept ∧ (s.get R.PWR_DSTAT_TPEND d = 0 → t = { s with regs := t.regs, pwr := t.pwr, dev := t.dev } ∧
        s.framed t [R.PWR_DSTAT_STATE.key d]) := by
  have he := effOnComplete_eq s d hs ha hh hsup hfo
  have hkept := effOnComplete_kept s d
  rw [he] at hkept
  refine ⟨_, (onDist_next hn _).trans (congrArg Host.Outcome.next he), ?_, ?_, ?_, hkept, fun ht => ?_⟩
  · rw [State.dst, State.supplyPowered_get, State.pursueLatched_get (by decide)]
    exact s.onShown_dst d
  · rw [State.supplyPowered_get, State.pursueLatched_get (by decide), State.onShown_iso]
  · rw [State.supplyPowered_pw, State.pursueLatched_step, State.onShown_step]
  · rw [State.pursueLatched_of_not _ d ((s.onShown_pending d).trans ht)]
    refine ⟨?_, State.framed_congr _ _ _ _ (s.onShown_framed d) (State.supplyPowered_regs _)⟩
    rw [State.supplyPowered_form]
    rfl

theorem clockStart_runs (s : State) (d : Nat) (hn : d < s.cfg.n) (hs : (s.pw d).step = .onIso) :
    ∃ t, exec (.clockStart d) s = .next t ∧ t.get R.PWR_DSTAT_CSTOP d = 0 ∧ (t.pw d).step = .idle ∧
      t = { s with regs := t.regs, pwr := t.pwr } ∧ s.framed t [R.PWR_DSTAT_CSTOP.key d] := by
  have he : effClockStart s d = (s.updPw d fun x => { x with step := .idle }).set R.PWR_DSTAT_CSTOP d 0 := if_pos (by simp [hs])
  refine ⟨_, (onDist_next hn _).trans (congrArg Host.Outcome.next he), State.get_set_self _ _ _ _ (by decide), ?_, rfl,
    State.framed_set _ _ _ _ _ _ (State.framed_congr _ _ _ _ (s.framed_refl _) rfl) (by simp)⟩
  rw [State.pw_set, State.pw_updPw_self]

/-! ### A switch-on fails -/

/-- A district whose switch-on has failed goes back to OFF, and SWFAIL sets (R310). -/
def State.onFailed (s : State) (d : Nat) : State :=
  ((s.pwrStep d .entIso 2).updPw d fun x => { x with toRetain := false, failed := true }).raise R.PWR_FLT_SWFAIL

theorem State.onFailed_pw (s : State) (d : Nat) :
    (s.onFailed d).pw d = { s.pw d with step := .entIso, toRetain := false, failed := true } := by
  rw [State.onFailed, State.raise, State.pw_set, State.pw_updPw_self, State.pwrStep_pw]

theorem State.report_pw (s : State) (cls cause src d : Nat) : (s.report cls cause src).pw d = s.pw d := by
  rw [State.report_with]
  rfl

theorem switchOnFail_fails (s : State) (d : Nat) (hn : d < s.cfg.n) (hs : (s.pw d).step = .onBegun) :
    ∃ t, exec (.switchOnFail d) s = .next t ∧ t.get R.PWR_FLT_SWFAIL = 1 ∧ (t.pw d).step = .entIso ∧ (t.pw d).failed = true ∧
      t = { s with regs := t.regs, pwr := t.pwr, flt := t.flt } ∧
      ((srcOf 2 d, clsSwfail) ∉ s.flt.masked →
        t.flt.lines = s.flt.lines ++ [{ cls := clsSwfail, cause := 0, src := srcOf 2 d }]) ∧
      s.framed t [R.PWR_FLT_SWFAIL.key 0, R.PWR_DSTAT_STEP.key d] := by
  have he : effOnFail s d = (s.onFailed d).report clsSwfail 0 (srcOf 2 d) := if_pos (by simp [hs])
  refine ⟨_, (onDist_next hn _).trans (congrArg Host.Outcome.next he), ?_, ?_, ?_, ?_,
    fun hm => (s.onFailed d).report_lines _ _ _ hm, ?_⟩
  · rw [State.report_get]
    exact State.get_raise_self _ R.PWR_FLT_SWFAIL 0 (by decide) (by decide)
  · rw [State.report_pw, State.onFailed_pw]
  · rw [State.report_pw, State.onFailed_pw]
  · rw [State.report_with]
    rfl
  · have hstep : s.framed (s.pwrStep d .entIso 2) [R.PWR_FLT_SWFAIL.key 0, R.PWR_DSTAT_STEP.key d] :=
      State.pwrStep_framed (s.framed_refl _) d _ _ (by simp)
    have hset : s.framed (s.onFailed d) [R.PWR_FLT_SWFAIL.key 0, R.PWR_DSTAT_STEP.key d] :=
      State.framed_set _ _ _ _ _ _ (State.framed_congr _ _ _ _ hstep rfl) (by simp)
    exact State.framed_congr _ _ _ _ hset (State.report_regs _ _ _ _)

/-- Settles O13: each step of a switch-on by its own lemma. What a switch-on orders of the cells leaves the district's
sequence; what follows COMPLETE, the pursuit of a latched target and the power of the control complex, leaves its state, its
clamps and its step. -/
theorem districtsSwitchOnStepByStep : Obligations.DistrictsSwitchOnStepByStep :=
  ⟨switchOnBegin_admitted, switchOnBegin_idle, railok_closes_weak, switchOnPower_closes, switchOnComplete_on, clockStart_runs,
    switchOnFail_fails⟩

end Sys2Proof.Machine

namespace Sys2Proof.Machine

/-! ### Queues, books and barrier records -/

theorem State.q_updQ (s : State) (k : Nat) (f : QueueS → QueueS) (r : Nat) :
    (s.updQ k f).q r = if k = r then f (s.q r) else s.q r := tabAt_tabUpd s.queues k f r

theorem State.q_updQ_self (s : State) (q : Nat) (f : QueueS → QueueS) : (s.updQ q f).q q = f (s.q q) := by
  rw [State.q_updQ, if_pos rfl]

theorem State.q_updQ_ne {q r : Nat} (h : r ≠ q) (s : State) (f : QueueS → QueueS) : (s.updQ q f).q r = s.q r := by
  rw [State.q_updQ, if_neg h.symm]

/-- A queue with its pending entries changed. -/
def QueueS.onEnts (f : List Ent → List Ent) (x : QueueS) : QueueS := { x with ents := f x.ents }

/-- The pending entries of a queue are changed, and nothing else. -/
def State.onEnts (s : State) (q : Nat) (f : List Ent → List Ent) : State := s.updQ q (QueueS.onEnts f)

theorem State.onEnts_q (s : State) (q : Nat) (f : List Ent → List Ent) : (s.onEnts q f).q q = (s.q q).onEnts f :=
  s.q_updQ_self q _

theorem State.onEnts_ents (s : State) (q : Nat) (f : List Ent → List Ent) : ((s.onEnts q f).q q).ents = f (s.q q).ents :=
  congrArg QueueS.ents (s.onEnts_q q f)

theorem State.onEnts_out (s : State) (q : Nat) (f : List Ent → List Ent) : ((s.onEnts q f).q q).out = (s.q q).out :=
  (congrArg QueueS.out (s.onEnts_q q f)).trans rfl

theorem State.bar_updBar_self (s : State) (b : Nat) (f : Barrier → Barrier) : (s.updBar b f).bar b = f (s.bar b) :=
  (tabAt_tabUpd s.adm.bars b f b).trans (if_pos rfl)

theorem onQueue_next {s : State} {q : Nat} (hq : q < 256 * s.cfg.n) (t : State) : onQueue s q t = .next t :=
  congrArg Host.Outcome.next (if_pos hq)

theorem onBar_next {s : State} {b : Nat} (hb : b < 64) (t : State) : onBar s b t = .next t :=
  congrArg Host.Outcome.next (if_pos hb)

/-- Keys of indexed and single registers at different offsets of the register space differ. -/
theorem Fld.key_ne_of_bank {F G : Fld} (hF : F.inst ∈ [Inst.one, .bank]) (hG : G.inst ∈ [Inst.one, .bank])
    (h : F.base % 0x100000 ≠ G.base % 0x100000) (i j : Nat) : F.key i ≠ G.key j :=
  fun e => h (by rw [← Fld.key_mod_bank hF i, e, Fld.key_mod_bank hG])

/-! ### Answered entries are emitted -/

/-- The words that an answered entry sends to the fabric: its response, and the notices behind it. -/
def Ent.words (e : Ent) (w : BitVec 32) : List (BitVec 32 × Option Nat) := (w, some e.edge) :: e.after.map fun v => (v, none)

/-- Whether a response word refuses. -/
def refuses (w : BitVec 32) : Bool := w.toNat / 2 ^ 29 == stRefused

theorem refuseWord_refuses (f why : Nat) (h : why < 8) : refuses (refuseWord f why) = true := by
  have hseq : fcSeq f < 2 ^ 8 := Nat.mod_lt _ (by decide)
  simp only [refuses, refuseWord, rspWord, stRefused, BitVec.toNat_ofNat, beq_iff_eq]
  omega

/-- A queue whose head has been emitted with its word; `r` is what stood behind it. -/
def QueueS.emit (e : Ent) (r : List Ent) (w : BitVec 32) (x : QueueS) : QueueS :=
  { x with ents := r, out := x.out ++ e.words w, refu := if refuses w then bump x.refu (fcClass e.fc) else x.refu }

/-- The head of a queue is emitted with its word, and counted. -/
def State.emitHead (s : State) (q : Nat) (e : Ent) (r : List Ent) (w : BitVec 32) : State :=
  (s.updQ q (QueueS.emit e r w)).inc (if refuses w then R.GQ_QCNT0_REFUSED else R.GQ_QCNT0_GRANTED) q

theorem State.emitHeads_nil {s : State} {q : Nat} (h : (s.q q).ents = []) (n : Nat) : s.emitHeads q n = s := by
  cases n with
  | zero => rfl
  | succ n => rw [State.emitHeads, h]

theorem State.emitHeads_cons {s : State} {q : Nat} {e : Ent} {r : List Ent} {w : BitVec 32} (h : (s.q q).ents = e :: r)
    (hw : e.decided = some w) (n : Nat) : s.emitHeads q (n + 1) = (s.emitHead q e r w).emitHeads q n := by
  rw [State.emitHeads, h]
  dsimp only
  rw [hw]
  unfold State.emitHead QueueS.emit refuses
  dsimp only
  split <;> rfl

theorem State.emitHead_framed (s : State) (q : Nat) (e : Ent) (r : List Ent) (w : BitVec 32) :
    s.framed (s.emitHead q e r w) [R.GQ_QCNT0_REFUSED.key q] :=
  State.framed_set s (s.updQ q _) _ _ _ _ (s.framed_refl _) (by split <;> exact List.mem_singleton_self _)

theorem State.emitHead_q (s : State) (q : Nat) (e : Ent) (r : List Ent) (w : BitVec 32) :
    (s.emitHead q e r w).q q = (s.q q).emit e r w := s.q_updQ_self q _

theorem State.emitHead_refused (s : State) (q : Nat) (e : Ent) (r : List Ent) {w : BitVec 32} (hw : refuses w = true) :
    (s.emitHead q e r w).get R.GQ_QCNT0_REFUSED q = satU R.GQ_QCNT0_REFUSED.w (s.get R.GQ_QCNT0_REFUSED q + 1) := by
  unfold State.emitHead
  rw [if_pos hw]
  exact State.get_inc_self _ _ _ (by decide)

/-- `t` is `s` with a queue emptied: its entries are emitted as `words`, and no register but the counts of the queue changes. -/
structure State.Emitted (s : State) (q : Nat) (words : List (BitVec 32 × Option Nat)) (t : State) : Prop where
  form : t = { s with regs := t.regs, queues := t.queues }
  framed : s.framed t [R.GQ_QCNT0_REFUSED.key q]
  ents : (t.q q).ents = []
  out : (t.q q).out = (s.q q).out ++ words
  initDue : (t.q q).initDue = (s.q q).initDue

/-- A queue all of whose entries are answered is emptied, entry by entry. -/
theorem State.emitHeads_emitted (f : Ent → BitVec 32) (l : List Ent) (s : State) (q n : Nat) (hl : (s.q q).ents = l)
    (hn : l.length ≤ n) (hw : ∀ e ∈ l, e.decided = some (f e)) :
    s.Emitted q (l.flatMap fun e => e.words (f e)) (s.emitHeads q n) := by
  induction l generalizing s n with
  | nil =>
    rw [State.emitHeads_nil hl]
    exact ⟨rfl, s.framed_refl _, hl, by simp, rfl⟩
  | cons e r ih =>
    obtain ⟨m, rfl⟩ : ∃ m, n = m + 1 := ⟨n - 1, by simp at hn; omega⟩
    rw [State.emitHeads_cons hl (hw e (List.mem_cons_self ..))]
    have hq := s.emitHead_q q e r (f e)
    have h := ih (s.emitHead q e r (f e)) m (by rw [hq]; rfl) (by simpa using hn) fun x hx => hw x (List.mem_cons_of_mem _ hx)
    refine ⟨h.form.trans rfl, fun k v hk => (h.framed k v hk).trans (s.emitHead_framed q e r (f e) k v hk), h.ents, ?_, ?_⟩
    · rw [h.out, hq, QueueS.emit, List.flatMap_cons, List.append_assoc]
    · rw [h.initDue, hq]
      rfl

/-- A queue whose only entry is answered is emptied. -/
theorem State.emitHeads_single {s : State} {q : Nat} {e : Ent} {w : BitVec 32} (h : (s.q q).ents = [e]) (hw : e.decided = some w)
    (n : Nat) : s.Emitted q (e.words w) (s.emitHeads q (n + 1)) := by
  simpa using State.emitHeads_emitted (fun _ => w) [e] s q (n + 1) h (by simp) (by simpa using hw)

theorem State.emitHeads_single_refused {s : State} {q : Nat} {e : Ent} {w : BitVec 32} (h : (s.q q).ents = [e])
    (hw : e.decided = some w) (hr : refuses w = true) (n : Nat) :
    (s.emitHeads q (n + 1)).get R.GQ_QCNT0_REFUSED q = satU R.GQ_QCNT0_REFUSED.w (s.get R.GQ_QCNT0_REFUSED q + 1) := by
  rw [State.emitHeads_cons h hw, State.emitHeads_nil (by rw [State.emitHead_q]; rfl), State.emitHead_refused _ _ _ _ hr]

end Sys2Proof.Machine

namespace Sys2Proof.Machine

/-! ### The decision of the only entry of a queue -/

/-- ADMISSION_DECISION meets the only entry of the queue whose scan is next; `r` are the scans behind it. -/
structure State.DecisionDue (s : State) (q : Nat) (e : Ent) (r : List Nat) : Prop where
  queue : q < 256 * s.cfg.n
  inflight : s.adm.inflight = q :: r
  awake : s.devSt ≠ devDoze
  ents : (s.q q).ents = [e]
  head : isHead e = true

/-- The answer `w` enters the queue; `u` is the state that the decision leaves. -/
def State.decidedWith (u : State) (q : Nat) (e : Ent) (r : List Nat) (w : BitVec 32) : State :=
  { u with adm := { u.adm with inflight := r } }.onEnts q
    (updFirst e.st fun e => { e with st := .answered, decided := some w })

theorem effDecision_eq {s u : State} {q : Nat} {e : Ent} {r : List Nat} (h : s.DecisionDue q e r) {edge : Nat} {w : BitVec 32}
    (hd : s.decideFc q e edge = (w, u)) : effDecision s q edge = (u.decidedWith q e r w).emitHeads q 8 := by
  unfold effDecision
  rw [h.inflight, h.ents, List.find?_cons_of_pos h.head]
  dsimp only
  rw [if_pos ⟨rfl, h.awake⟩, hd]
  rfl

theorem State.decidedWith_ents {u : State} {q : Nat} {e : Ent} (h : (u.q q).ents = [e]) (r : List Nat) (w : BitVec 32) :
    ((u.decidedWith q e r w).q q).ents = [{ e with st := .answered, decided := some w }] := by
  refine (State.onEnts_ents { u with adm := { u.adm with inflight := r } } q _).trans ?_
  show updFirst e.st _ (u.q q).ents = _
  rw [h, updFirst, if_pos (beq_self_eq_true _)]

theorem State.decidedWith_out (u : State) (q : Nat) (e : Ent) (r : List Nat) (w : BitVec 32) :
    ((u.decidedWith q e r w).q q).out = (u.q q).out :=
  State.onEnts_out { u with adm := { u.adm with inflight := r } } q _

/-- The answer of the decision, and what the queue sends. -/
theorem admissionDecision_emits {s u : State} {q : Nat} {e : Ent} {r : List Nat} (h : s.DecisionDue q e r) {edge : Nat}
    {w : BitVec 32} (hd : s.decideFc q e edge = (w, u)) (hu : u.queues = s.queues) :
    ∃ t, exec (.admissionDecision q edge) s = .next t ∧ (t.q q).ents = [] ∧ (t.q q).out = (s.q q).out ++ e.words w ∧
      t = { u with regs := t.regs, queues := t.queues, adm := { u.adm with inflight := r } } ∧
      u.framed t [R.GQ_QCNT0_REFUSED.key q] ∧
      (refuses w = true → t.get R.GQ_QCNT0_REFUSED q = satU R.GQ_QCNT0_REFUSED.w (u.get R.GQ_QCNT0_REFUSED q + 1)) ∧
      t.kept = s.kept := by
  have huq : u.q q = s.q q := congrArg (tabAt · q) hu
  have hents := State.decidedWith_ents (u := u) (e := e) (huq ▸ h.ents) r w
  have hem := State.emitHeads_single hents rfl 7
  refine ⟨_, (onQueue_next h.queue _).trans (congrArg Host.Outcome.next (effDecision_eq h hd)), hem.ents, ?_,
    hem.form.trans rfl, hem.framed, fun hr => State.emitHeads_single_refused hents rfl hr 7, ?_⟩
  · rw [hem.out, State.decidedWith_out, huq]
    rfl
  · rw [← effDecision_eq h hd, effDecision_kept]

/-! ### Refusals ahead of the books (R179, R195) -/

/-- The reason for which a forecast is refused before its current is looked at, in the order of the causes. -/
def State.whyNot (s : State) (q : Nat) (e : Ent) (why : Nat) : Prop :=
  (e.pre = some whyFormat ∧ why = whyFormat) ∨
  (e.pre ≠ some whyFormat ∧ (s.admits (q / 256) = false ∨ (s.q q).inited = false ∨ e.pre = some whyState) ∧ why = whyState) ∨
  (e.pre = some whyBarrier ∧ s.admits (q / 256) = true ∧ (s.q q).inited = true ∧ why = whyBarrier) ∨
  (e.pre = none ∧ s.admits (q / 256) = true ∧ (s.q q).inited = true ∧ 1024 ≤ (s.bk (q / 256)).grants.length ∧ why = whyTable) ∨
  (e.pre = none ∧ s.admits (q / 256) = true ∧ (s.q q).inited = true ∧ (s.bk (q / 256)).grants.length < 1024 ∧
    e.st = .failed ∧ why = whyCheck)

/-- Such a refusal leaves the state but for the event bits FMT and BARMIS. -/
theorem State.decideFc_refuses {s : State} {q : Nat} {e : Ent} {why : Nat} (h : s.whyNot q e why) (edge : Nat) :
    ∃ u, s.decideFc q e edge = (refuseWord e.fc why, u) ∧ why < 8 ∧
      (u = s ∨ ∃ F ∈ [R.GQ_FLT_FMT, R.GQ_FLT_BARMIS], u = s.raise F) := by
  unfold State.decideFc
  rcases h with ⟨hp, rfl⟩ | ⟨hp, hs, rfl⟩ | ⟨hp, ha, hi, rfl⟩ | ⟨hp, ha, hi, hg, rfl⟩ | ⟨hp, ha, hi, hg, hst, rfl⟩
  · exact ⟨_, by simp [hp], by decide, .inr ⟨R.GQ_FLT_FMT, by simp, rfl⟩⟩
  · exact ⟨_, by rcases hs with hs | hs | hs <;> simp [hp, hs], by decide, .inl rfl⟩
  · exact ⟨_, by simp [hp, ha, hi], by decide, .inr ⟨R.GQ_FLT_BARMIS, by simp, rfl⟩⟩
  · exact ⟨_, by simp [hp, ha, hi, hg], by decide, .inl rfl⟩
  · exact ⟨_, by simp [hp, ha, hi, hst, Nat.not_le.mpr hg], by decide, .inl rfl⟩

theorem admissionDecision_refuses {s : State} {q : Nat} {e : Ent} {r : List Nat} (h : s.DecisionDue q e r) (edge : Nat) {why : Nat}
    (hw : s.whyNot q e why) :
    ∃ t, exec (.admissionDecision q edge) s = .next t ∧ t.adm = { s.adm with inflight := r } ∧ (t.q q).ents = [] ∧
      (t.q q).out = (s.q q).out ++ e.words (refuseWord e.fc why) ∧
      t.get R.GQ_QCNT0_REFUSED q = satU R.GQ_QCNT0_REFUSED.w (s.get R.GQ_QCNT0_REFUSED q + 1) ∧
      t = { s with regs := t.regs, queues := t.queues, adm := t.adm } ∧
      s.framed t [R.GQ_QCNT0_REFUSED.key q, R.GQ_FLT_FMT.key 0] := by
  obtain ⟨u, hd, hlt, hu⟩ := State.decideFc_refuses hw edge
  have hform : u = { s with regs := u.regs } := by
    rcases hu with rfl | ⟨F, -, rfl⟩ <;> rfl
  have hcnt : u.get R.GQ_QCNT0_REFUSED q = s.get R.GQ_QCNT0_REFUSED q := by
    rcases hu with rfl | ⟨F, hF, rfl⟩
    · rfl
    · exact State.raise_get ((by decide : R.GQ_QCNT0_REFUSED.apartAll [R.GQ_FLT_FMT, R.GQ_FLT_BARMIS]) F hF) s 0 q
  have hfr : s.framed u [R.GQ_FLT_FMT.key 0] := by
    rcases hu with rfl | ⟨F, hF, rfl⟩
    · exact State.framed_refl _ _
    · exact State.framed_set s s _ F 0 1 (s.framed_refl _) (by fin_cases hF <;> exact List.mem_singleton_self _)
  obtain ⟨t, hex, hents, hout, ht, htf, href, -⟩ := admissionDecision_emits h hd (by rw [hform])
  have hadm : t.adm = { s.adm with inflight := r } := by rw [ht, hform]
  refine ⟨t, hex, hadm, hents, hout, ?_, ?_, fun k v hk => ?_⟩
  · rw [href (refuseWord_refuses _ _ hlt), hcnt]
  · rw [hadm, ht, hform]
  · simp only [List.mem_cons, List.not_mem_nil, or_false, not_or] at hk
    exact (htf k v (by simpa using hk.1)).trans (hfr k v (by simpa using hk.2))

end Sys2Proof.Machine

namespace Sys2Proof.Machine

/-! ### A booking (R195) -/

/-- The record of a booking. -/
def State.newGrant (s : State) (d q start dur : Nat) (dc : Int) (cls : Nat) (iref : Option Int) : Grant :=
  { gid := (s.bk d).freeGid, start := start, dur := dur, d := dc, gal := s.get R.GQ_QCTL_GAL q, queue := q, cls := cls,
    capAdm := (s.bk d).admCap, rsvAdm := (s.bk d).admRsv, age := s.adm.age, booked := dc.toNat * dur, iref := iref }

theorem State.newGrant_gid (s : State) (d q start dur : Nat) (dc : Int) (cls : Nat) (iref : Option Int) :
    (s.newGrant d q start dur dc cls iref).gid = (s.bk d).freeGid := by
  rw [State.newGrant]

/-- Books with a further grant. -/
def BookS.withGrant (g : Grant) (b : BookS) : BookS := { b with grants := b.grants ++ [g] }

/-- A grant enters the books of a district, and the count of its gallery. -/
def State.withGrant (s : State) (d : Nat) (g : Grant) : State :=
  { (s.updBk d (BookS.withGrant g)).setSat R.BUD_GCNT_COUNT g.gal (s.get R.BUD_GCNT_COUNT g.gal + g.booked) with
    adm := { s.adm with age := s.adm.age + 1 } }

theorem State.granted_eq (s : State) (d q start dur tref : Nat) (dc : Int) (f status : Nat) (iref : Option Int) :
    s.granted d q start dur tref dc f status iref = (rspWord status 0 (fcSeq f) (s.bk d).freeGid (start - tref),
      s.withGrant d (s.newGrant d q start dur dc (fcClass f) iref)) := rfl

theorem State.withGrant_bk (s : State) (d : Nat) (g : Grant) : (s.withGrant d g).bk d = (s.bk d).withGrant g :=
  s.bk_updBk_self d _

theorem State.withGrant_count (s : State) (d : Nat) (g : Grant) :
    (s.withGrant d g).get R.BUD_GCNT_COUNT g.gal = satU 32 (s.get R.BUD_GCNT_COUNT g.gal + g.booked) :=
  State.get_setSat_self (s.updBk d _) R.BUD_GCNT_COUNT _ _ (by decide)

/-- An announced fall books nothing (R181). -/
theorem bookSum_append_fall (gs : List Grant) {g : Grant} (hg : g.d ≤ 0) (p : Grant → Bool) (t : Nat) :
    bookSum (gs ++ [g]) p t = bookSum gs p t := by
  have hc : g.covers t = false := by simp [Grant.covers, Int.not_lt.mpr hg]
  rw [bookSum, List.foldl_append, List.foldl_cons, List.foldl_nil, hc]
  rfl

theorem State.withGrant_fall_bookAt (s : State) (d : Nat) {g : Grant} (hg : g.d ≤ 0) (t : Nat) :
    (s.withGrant d g).bookAt d t = s.bookAt d t := by
  rw [State.bookAt, State.bookAt, State.withGrant_bk]
  unfold ledgerAt BookS.withGrant
  rw [bookSum_append_fall _ hg]

/-- A decision that grants: the queue sends the response, and the books hold the grant. -/
theorem admissionDecision_grants {s : State} {q : Nat} {e : Ent} {r : List Nat} (h : s.DecisionDue q e r)
    {edge start dur status : Nat} {dc : Int} {iref : Option Int}
    (hd : s.decideFc q e edge = s.granted (q / 256) q start dur e.tref dc e.fc status iref) :
    ∃ t, exec (.admissionDecision q edge) s = .next t ∧ (t.q q).ents = [] ∧
      (t.q q).out = (s.q q).out ++ e.words (rspWord status 0 (fcSeq e.fc) (s.bk (q / 256)).freeGid (start - e.tref)) ∧
      t.book = (s.withGrant (q / 256) (s.newGrant (q / 256) q start dur dc (fcClass e.fc) iref)).book ∧
      t.get R.BUD_GCNT_COUNT (s.get R.GQ_QCTL_GAL q) =
        satU 32 (s.get R.BUD_GCNT_COUNT (s.get R.GQ_QCTL_GAL q) + dc.toNat * dur) ∧ t.kept = s.kept := by
  obtain ⟨t, hex, hents, hout, ht, hfr, -, hkept⟩ := admissionDecision_emits h (hd.trans (State.granted_eq ..)) rfl
  refine ⟨t, hex, hents, hout, by rw [ht], ?_, hkept⟩
  exact (hfr.get (by simpa using Fld.key_ne_of_bank (by decide) (by decide) (by decide) _ _)).trans
    (s.withGrant_count (q / 256) (s.newGrant (q / 256) q start dur dc (fcClass e.fc) iref))

/-! ### A forecast whose books are looked at -/

/-- No cause of refusal stands ahead of the books, and the scan has passed. -/
structure State.Considered (s : State) (q : Nat) (e : Ent) : Prop where
  pre : e.pre = none
  admits : s.admits (q / 256) = true
  inited : (s.q q).inited = true
  room : (s.bk (q / 256)).grants.length < 1024
  scanned : e.st = .scanned

theorem State.decideFc_considered {s : State} {q : Nat} {e : Ent} (h : s.Considered q e) (edge : Nat) :
    s.decideFc q e edge =
      if fcDelta e.fc < 0 then
        s.granted (q / 256) q (e.tref + fcLead e.fc) 1 e.tref (fcDelta e.fc) e.fc stGranted e.iref
      else s.admitRise q e edge := by
  simp [State.decideFc, h.pre, h.admits, h.inited, h.scanned, Nat.not_le.mpr h.room]

end Sys2Proof.Machine

namespace Sys2Proof.Machine

/-! ### The decision of a rise (R194, R195) -/

/-- Whether a start fits a rise, on the prefixes of its scan. -/
def State.riseFits (s : State) (q g : Nat) (e : Ent) (edge k : Nat) : Bool :=
  s.fitsIn (s.prefixes (q / 256) g (fcDelta e.fc).toNat e.ups) (q / 256) g (fcDelta e.fc).toNat (Machine.slotAt (edge + 60)) k
    (fcDur e.fc)

/-- The current that a rise books, in CU slots. -/
def Ent.demand (e : Ent) : Nat := (fcDelta e.fc).toNat * fcDur e.fc

/-- A start that fits meets the quota of its gallery. -/
theorem State.quotaOk_of_riseFits {s : State} {q g : Nat} {e : Ent} {edge k : Nat} (h : s.riseFits q g e edge k = true) :
    s.quotaOk g e.demand = true := by
  simp only [State.riseFits, State.fitsIn, State.capsFit, Bool.and_eq_true] at h
  exact h.2.1

theorem State.quotaOk_raise (s : State) (g cu : Nat) : (s.raise R.BUD_FLT_QUOTA).quotaOk g cu = s.quotaOk g cu := by
  have hlat : (s.raise R.BUD_FLT_QUOTA).budLat.quota = s.budLat.quota := by
    unfold State.budLat
    show (s.bud.lat.getD _).quota = _
    cases s.bud.lat with
    | some l => rfl
    | none => exact List.map_congr_left fun k _ => State.raise_get (by decide) s 0 k
  unfold State.quotaOk
  rw [hlat, State.raise_get (by decide)]

/-- The state in which a rise is decided: QUOTA shows where the quota of its gallery has no room for it. -/
def State.quotaShown (s : State) (g : Nat) (e : Ent) : State :=
  if s.quotaOk g e.demand then s else s.raise R.BUD_FLT_QUOTA

theorem State.quotaShown_eq_self {s : State} {g : Nat} {e : Ent} (h : s.quotaOk g e.demand = true) : s.quotaShown g e = s :=
  if_pos h

theorem State.quotaShown_form (s : State) (g : Nat) (e : Ent) :
    s.quotaShown g e = { s with regs := (s.quotaShown g e).regs } := by
  unfold State.quotaShown
  split <;> rfl

/-- The flag makes no start fit, and takes none away. -/
theorem State.quotaShown_riseFits (s : State) (q g : Nat) (e : Ent) (edge k : Nat) :
    (s.quotaShown g e).riseFits q g e edge k = s.riseFits q g e edge k := by
  unfold State.quotaShown
  split
  · rfl
  · next h =>
    rw [Bool.eq_false_iff.mpr fun hf => h (State.quotaOk_of_riseFits hf),
      Bool.eq_false_iff.mpr fun hf => h (s.quotaOk_raise g e.demand ▸ State.quotaOk_of_riseFits hf)]

/-- The requested start, the first that R195 tries, and the last. -/
abbrev Ent.sReq (e : Ent) : Nat := e.tref + fcLead e.fc
abbrev Ent.sLow (e : Ent) (edge : Nat) : Nat := max (e.sReq - fcEarly e.fc) (Machine.slotAt (edge + 60))
abbrev State.sHigh (s : State) (e : Ent) : Nat := min (s.dev.slot + 255) (e.tref + 255)

/-- The starts that R195 tries, in their order. -/
def State.starts (s : State) (e : Ent) (edge : Nat) : List Nat :=
  (List.range (s.sHigh e + 1 - e.sLow edge)).map (e.sLow edge + ·)

theorem State.mem_starts {s : State} {e : Ent} {edge k : Nat} : k ∈ s.starts e edge ↔ e.sLow edge ≤ k ∧ k ≤ s.sHigh e := by
  simp only [State.starts, List.mem_map, List.mem_range]
  constructor
  · rintro ⟨i, hi, rfl⟩
    omega
  · rintro ⟨hl, hh⟩
    exact ⟨k - e.sLow edge, by omega, by omega⟩

/-- The first start that fits is found. -/
theorem State.starts_find {s : State} {e : Ent} {edge k : Nat} {p : Nat → Bool} (hlo : e.sLow edge ≤ k) (hhi : k ≤ s.sHigh e)
    (hk : p k = true) (hmin : ∀ j < k, e.sLow edge ≤ j → p j = false) : (s.starts e edge).find? p = some k := by
  unfold State.starts
  have hfind : (List.range (s.sHigh e + 1 - e.sLow edge)).find? (p ∘ (e.sLow edge + ·)) = some (k - e.sLow edge) := by
    refine List.find?_range_eq_some.mpr ⟨?_, List.mem_range.mpr (by omega), fun j hj => ?_⟩
    · rw [Function.comp, Nat.add_sub_cancel' hlo]
      exact hk
    · rw [Function.comp, hmin _ (by omega) (by omega)]
      rfl
  rw [List.find?_map, hfind]
  exact congrArg some (Nat.add_sub_cancel' hlo)

/-- The reason for which a rise that fits nowhere is refused. -/
def State.riseWhy (s : State) (q g : Nat) (e : Ent) (edge : Nat) : Nat :=
  let dc := (fcDelta e.fc).toNat
  let s0 := max e.sReq (Machine.slotAt (edge + 60))
  if s.sHigh e < s0 || !s.ledgerFits (s.prefixes (q / 256) g dc e.ups) (q / 256) g dc s0 (fcDur e.fc) then whyCapacity
  else if !s.zoneFits (q / 256) dc then whyZone else whyCap

/-- The grant of a rise from a slot. -/
def State.riseGrant (s : State) (q : Nat) (e : Ent) (start status : Nat) : BitVec 32 × State :=
  s.granted (q / 256) q start (fcDur e.fc) e.tref (fcDelta e.fc).toNat e.fc status

/-- The starts that stand for a rise once the requested one has failed. -/
def State.laterFits (s : State) (q g : Nat) (e : Ent) (edge k : Nat) : Bool := k != e.sReq && s.riseFits q g e edge k

/-- The decision of a rise: at the requested start, at the first that fits, or a refusal. -/
theorem State.admitRise_eq {s u : State} {q g : Nat} {e : Ent} (hg : s.get R.GQ_QCTL_GAL q = g) (hu : s.quotaShown g e = u)
    (edge : Nat) :
    s.admitRise q e edge =
      if u.riseFits q g e edge e.sReq then u.riseGrant q e e.sReq stGranted
      else ((u.starts e edge).find? (u.laterFits q g e edge)).elim (refuseWord e.fc (u.riseWhy q g e edge), u)
        fun k => u.riseGrant q e k stDeferred := by
  subst hg hu
  change (if (s.quotaShown _ e).riseFits q _ e edge e.sReq then _ else _) = _
  split
  · rfl
  · change (match ((s.quotaShown _ e).starts e edge).find? ((s.quotaShown _ e).laterFits q _ e edge) with
      | some k => (s.quotaShown _ e).riseGrant q e k stDeferred
      | none => (refuseWord e.fc ((s.quotaShown _ e).riseWhy q _ e edge), s.quotaShown _ e)) = _
    cases ((s.quotaShown _ e).starts e edge).find? ((s.quotaShown _ e).laterFits q _ e edge) <;> rfl

theorem State.admitRise_requested {s : State} {q g : Nat} {e : Ent} {edge : Nat} (hg : s.get R.GQ_QCTL_GAL q = g)
    (hf : s.riseFits q g e edge e.sReq = true) : s.admitRise q e edge = s.riseGrant q e e.sReq stGranted := by
  rw [State.admitRise_eq hg (State.quotaShown_eq_self (State.quotaOk_of_riseFits hf)), if_pos hf]

theorem State.admitRise_deferred {s : State} {q g : Nat} {e : Ent} {edge k : Nat} (hg : s.get R.GQ_QCTL_GAL q = g)
    (hreq : s.riseFits q g e edge e.sReq = false) (hlo : e.sLow edge ≤ k) (hhi : k ≤ s.sHigh e)
    (hk : s.riseFits q g e edge k = true) (hmin : ∀ j < k, e.sLow edge ≤ j → s.riseFits q g e edge j = false) :
    s.admitRise q e edge = s.riseGrant q e k stDeferred := by
  have hne : k ≠ e.sReq := fun h => by rw [h, hreq] at hk; cases hk
  have hfind : (s.starts e edge).find? (s.laterFits q g e edge) = some k :=
    State.starts_find hlo hhi (by simp [State.laterFits, hne, hk]) fun j hj hl => by simp [State.laterFits, hmin j hj hl]
  rw [State.admitRise_eq hg (State.quotaShown_eq_self (State.quotaOk_of_riseFits hk)), if_neg (by simp [hreq]), hfind]
  rfl

/-- Where no start fits, the rise is refused, with QUOTA shown where its quota has no room for it. -/
theorem State.admitRise_refused {s : State} {q g : Nat} {e : Ent} {edge : Nat} (hg : s.get R.GQ_QCTL_GAL q = g)
    (hreq : s.riseFits q g e edge e.sReq = false)
    (hall : ∀ k ≤ s.sHigh e, e.sLow edge ≤ k → s.riseFits q g e edge k = false) :
    s.admitRise q e edge = (refuseWord e.fc ((s.quotaShown g e).riseWhy q g e edge), s.quotaShown g e) := by
  have hslot : (s.quotaShown g e).sHigh e = s.sHigh e := by rw [State.quotaShown_form]
  have hfind : ((s.quotaShown g e).starts e edge).find? ((s.quotaShown g e).laterFits q g e edge) = none := by
    refine List.find?_eq_none.mpr fun k hk => ?_
    obtain ⟨hl, hh⟩ := State.mem_starts.mp hk
    simp [State.laterFits, State.quotaShown_riseFits, hall k (hslot ▸ hh) hl]
  rw [State.admitRise_eq hg rfl, if_neg (by simp [State.quotaShown_riseFits, hreq]), hfind]
  rfl

theorem State.riseWhy_mem (s : State) (q g : Nat) (e : Ent) (edge : Nat) :
    s.riseWhy q g e edge ∈ [whyCapacity, whyZone, whyCap] := by
  unfold State.riseWhy
  dsimp only
  split
  · simp
  · split <;> simp

/-! ### What ADMISSION_DECISION answers -/

/-- An announced fall is granted at once (R181). -/
theorem admissionDecision_fall {s : State} {q : Nat} {e : Ent} {r : List Nat} (h : s.DecisionDue q e r) (hc : s.Considered q e)
    (edge : Nat) (hd : fcDelta e.fc < 0) :
    ∃ t g, exec (.admissionDecision q edge) s = .next t ∧ (t.q q).ents = [] ∧
      (t.q q).out = (s.q q).out ++ e.words (rspWord stGranted 0 (fcSeq e.fc) (s.bk (q / 256)).freeGid (fcLead e.fc)) ∧
      (t.bk (q / 256)).grants = (s.bk (q / 256)).grants ++ [g] ∧
      g.gid = (s.bk (q / 256)).freeGid ∧ g.start = e.tref + fcLead e.fc ∧ g.dur = 1 ∧ g.d = fcDelta e.fc ∧
      (∀ k, t.bookAt (q / 256) k = s.bookAt (q / 256) k) ∧ t.kept = s.kept := by
  have hdec : s.decideFc q e edge =
      s.granted (q / 256) q (e.tref + fcLead e.fc) 1 e.tref (fcDelta e.fc) e.fc stGranted e.iref := by
    rw [State.decideFc_considered hc, if_pos hd]
  obtain ⟨t, hex, hents, hout, hbook, -, hkept⟩ := admissionDecision_grants h hdec
  rw [Nat.add_sub_cancel_left] at hout
  refine ⟨t, s.newGrant (q / 256) q (e.tref + fcLead e.fc) 1 (fcDelta e.fc) (fcClass e.fc) e.iref, hex, hents, hout, ?_,
    s.newGrant_gid .., rfl, rfl, rfl, fun k => ?_, hkept⟩
  · rw [State.bk, hbook]
    exact congrArg BookS.grants (s.withGrant_bk _ _)
  · rw [State.bookAt, State.bk, hbook]
    exact s.withGrant_fall_bookAt _ hd.le k

/-- A rise is granted where a start has been found for it. -/
theorem admissionDecision_rise {s : State} {q : Nat} {e : Ent} {r : List Nat} (h : s.DecisionDue q e r) (hc : s.Considered q e)
    {edge start status : Nat} (hd : 0 < fcDelta e.fc) (hr : s.admitRise q e edge = s.riseGrant q e start status) :
    ∃ t g, exec (.admissionDecision q edge) s = .next t ∧ (t.q q).ents = [] ∧
      (t.q q).out = (s.q q).out ++ e.words (rspWord status 0 (fcSeq e.fc) (s.bk (q / 256)).freeGid (start - e.tref)) ∧
      (t.bk (q / 256)).grants = (s.bk (q / 256)).grants ++ [g] ∧
      g.gid = (s.bk (q / 256)).freeGid ∧ g.start = start ∧ g.dur = fcDur e.fc ∧ g.d = fcDelta e.fc ∧
      g.gal = s.get R.GQ_QCTL_GAL q ∧
      t.get R.BUD_GCNT_COUNT (s.get R.GQ_QCTL_GAL q) =
        satU 32 (s.get R.BUD_GCNT_COUNT (s.get R.GQ_QCTL_GAL q) + (fcDelta e.fc).toNat * fcDur e.fc) ∧ t.kept = s.kept := by
  have hdec : s.decideFc q e edge = s.riseGrant q e start status := by
    rw [State.decideFc_considered hc, if_neg (Int.not_lt.mpr hd.le), hr]
  obtain ⟨t, hex, hents, hout, hbook, hcnt, hkept⟩ := admissionDecision_grants h hdec
  refine ⟨t, s.newGrant (q / 256) q start (fcDur e.fc) (fcDelta e.fc).toNat (fcClass e.fc) none, hex, hents, hout, ?_,
    s.newGrant_gid .., rfl, rfl, Int.toNat_of_nonneg hd.le, rfl, hcnt, hkept⟩
  rw [State.bk, hbook]
  exact congrArg BookS.grants (s.withGrant_bk _ _)

/-- A rise that no start fits is refused. -/
theorem admissionDecision_noRise {s : State} {q : Nat} {e : Ent} {r : List Nat} (h : s.DecisionDue q e r) (hc : s.Considered q e)
    {edge g : Nat} (hd : 0 < fcDelta e.fc) (hg : s.get R.GQ_QCTL_GAL q = g) (hreq : s.riseFits q g e edge e.sReq = false)
    (hall : ∀ k ≤ s.sHigh e, e.sLow edge ≤ k → s.riseFits q g e edge k = false) :
    ∃ t why, exec (.admissionDecision q edge) s = .next t ∧ why ∈ [whyCapacity, whyZone, whyCap] ∧ (t.q q).ents = [] ∧
      (t.q q).out = (s.q q).out ++ e.words (refuseWord e.fc why) ∧ t.book = s.book ∧ t.kept = s.kept := by
  have hdec : s.decideFc q e edge = (refuseWord e.fc ((s.quotaShown g e).riseWhy q g e edge), s.quotaShown g e) := by
    rw [State.decideFc_considered hc, if_neg (Int.not_lt.mpr hd.le), State.admitRise_refused hg hreq hall]
  obtain ⟨t, hex, hents, hout, ht, -, -, hkept⟩ := admissionDecision_emits h hdec (by rw [State.quotaShown_form])
  refine ⟨t, _, hex, State.riseWhy_mem _ q g e edge, hents, hout, ?_, hkept⟩
  rw [ht, State.quotaShown_form]

end Sys2Proof.Machine

namespace Sys2Proof.Machine

/-! ### Responses and INIT (R182, R184) -/

/-- The next word of a queue stands at the fabric; `r` are the words behind it. -/
def QueueS.delivered (w : BitVec 32) (r : List (BitVec 32 × Option Nat)) (x : QueueS) : QueueS :=
  { x with out := r, rsp := some w }

theorem responseDelivery_notice {s : State} {q : Nat} {w : BitVec 32} {r : List (BitVec 32 × Option Nat)} (edge : Nat)
    (hq : q < 256 * s.cfg.n) (h : (s.q q).out = (w, none) :: r) :
    ∃ t, exec (.responseDelivery q edge) s = .next t ∧ (t.q q).out = r ∧ (t.q q).rsp = some w ∧
      (t.q q).ents = (s.q q).ents ∧ t = { s with queues := t.queues } := by
  have heff : effResponse s q edge = s.updQ q (QueueS.delivered w r) := by
    unfold effResponse
    rw [h]
    rfl
  refine ⟨_, (onQueue_next hq _).trans (congrArg Host.Outcome.next heff), ?_, ?_, ?_, rfl⟩ <;> rw [State.q_updQ_self] <;> rfl

theorem satU_eight (n : Nat) : satU 8 n = min 255 n := by
  unfold satU
  split <;> omega

theorem responseDelivery_response {s : State} {q : Nat} {w : BitVec 32} {e : Nat} {r : List (BitVec 32 × Option Nat)} (edge : Nat)
    (hq : q < 256 * s.cfg.n) (h : (s.q q).out = (w, some e) :: r) :
    ∃ t, exec (.responseDelivery q edge) s = .next t ∧ (t.q q).out = r ∧ (t.q q).rsp = some w ∧
      t.get R.GQ_LAT_LAST = min 255 (edge - e) ∧ t.get R.GQ_LAT_MAX = max (min 255 (edge - e)) (s.get R.GQ_LAT_MAX) ∧
      t = { s with regs := t.regs, queues := t.queues } ∧ s.framed t [R.GQ_LAT_LAST.key 0, R.GQ_LAT_MAX.key 0] := by
  have heff : effResponse s q edge = ((s.updQ q (QueueS.delivered w r)).set R.GQ_LAT_LAST 0 (satU 8 (edge - e))).set R.GQ_LAT_MAX 0
      (max (satU 8 (edge - e)) (s.get R.GQ_LAT_MAX)) := by
    unfold effResponse
    rw [h]
    rfl
  have hq' := s.q_updQ_self q (QueueS.delivered w r)
  have hlat : satU 8 (edge - e) < 2 ^ 8 := satU_lt _ _
  have hmax : s.get R.GQ_LAT_MAX < 2 ^ 8 := bitsOf_lt _ _ _
  refine ⟨_, (onQueue_next hq _).trans (congrArg Host.Outcome.next heff), congrArg QueueS.out hq', congrArg QueueS.rsp hq', ?_,
    ?_, rfl, ?_⟩
  · rw [State.get_set_apart (by decide), State.get_set_self _ _ _ _ (by decide), ← satU_eight]
    exact Nat.mod_eq_of_lt hlat
  · rw [State.get_set_self _ _ _ _ (by decide), ← satU_eight]
    exact Nat.mod_eq_of_lt (max_lt hlat hmax)
  · exact State.framed_set _ _ _ _ _ _ (State.framed_set _ _ _ _ _ _ (s.framed_refl _) (by simp)) (by simp)

/-- INIT stands behind the words of a queue. -/
def QueueS.initSent (x : QueueS) : QueueS :=
  { x with out := x.out ++ [(rspWord stInit 0 0 0 0, none)], nextSeq := 0, inited := true, initDue := false }

theorem initNotice_sends {s : State} {q : Nat} (hq : q < 256 * s.cfg.n) (hs : s.storeRuns = true)
    (hd : (s.q q).initDue = true ∨ (s.dev.booted = true ∧ (s.q q).inited = false)) (he : (s.q q).ents = [])
    (hi : (s.q q).infl = 0) :
    ∃ t, exec (.initNotice q) s = .next t ∧ (t.q q).out = (s.q q).out ++ [(rspWord stInit 0 0 0 0, none)] ∧
      (t.q q).nextSeq = 0 ∧ (t.q q).inited = true ∧ (t.q q).initDue = false ∧ t = { s with queues := t.queues } := by
  have heff : effInit s q = s.updQ q QueueS.initSent := by
    refine if_pos ?_
    rcases hd with h | ⟨hb, hn⟩
    · simp [hs, he, hi, h]
    · simp [hs, he, hi, hb, hn]
  refine ⟨_, (onQueue_next hq _).trans (congrArg Host.Outcome.next heff), ?_, ?_, ?_, ?_, rfl⟩ <;> rw [State.q_updQ_self] <;>
    rfl

/-! ### GRANT_EXPIRY (R201, R202) -/

theorem grantExpiry_idle {s : State} {d gid : Nat} {g : Grant} (hd : d < s.cfg.n)
    (hg : (s.bk d).grants.find? (fun x => x.gid == gid) = some g)
    (h : g.consumed = true ∨ slotEdge (s.dev.slot + 1) < g.expiry ∨ 20 * s.dev.dper ≤ g.expiry) :
    exec (.grantExpiry d gid) s = .next s := by
  refine (onDist_next hd _).trans (congrArg Host.Outcome.next ?_)
  unfold effExpiry
  rw [hg]
  refine if_neg ?_
  rcases h with h | h | h
  · simp [h]
  · simp [Nat.not_le.mpr h]
  · simp [Nat.not_lt.mpr h]

/-- Books without the grants of an identifier. -/
def BookS.without (gid : Nat) (b : BookS) : BookS := { b with grants := b.grants.filter fun x => x.gid != gid }

/-- A grant has left the books of its district and the count of its gallery, and has been counted as expired. -/
def State.expired (s : State) (d gid : Nat) (g : Grant) : State :=
  (((s.updBk d (BookS.without gid)).set R.BUD_GCNT_COUNT g.gal (s.get R.BUD_GCNT_COUNT g.gal - g.booked)).inc
    R.GQ_QCNT1_EXPIRED g.queue).raise R.DST_FLT_UNOBS d

theorem State.expired_bk (s : State) (d gid : Nat) (g : Grant) : (s.expired d gid g).bk d = (s.bk d).without gid :=
  s.bk_updBk_self d _

theorem State.expired_framed (s : State) (d gid : Nat) (g : Grant) : s.framed (s.expired d gid g)
    [R.BUD_GCNT_COUNT.key g.gal, R.GQ_QCNT1_EXPIRED.key g.queue, R.DST_FLT_UNOBS.key d] :=
  State.framed_set _ _ _ _ _ _ (State.framed.inc (State.framed_set s (s.updBk d _) _ _ _ _ (s.framed_refl _) (by simp)) (by simp))
    (by simp)

theorem State.expired_count (s : State) (d gid : Nat) (g : Grant) :
    (s.expired d gid g).get R.BUD_GCNT_COUNT g.gal = s.get R.BUD_GCNT_COUNT g.gal - g.booked := by
  unfold State.expired
  rw [State.raise_get (by decide), State.inc, State.setSat, State.get_set_apart (by decide), State.get_set_self _ _ _ _ (by decide)]
  exact Nat.mod_eq_of_lt (lt_of_le_of_lt (Nat.sub_le _ _) (bitsOf_lt _ _ _))

theorem State.expired_expiries (s : State) (d gid : Nat) (g : Grant) :
    (s.expired d gid g).get R.GQ_QCNT1_EXPIRED g.queue = satU 16 (s.get R.GQ_QCNT1_EXPIRED g.queue + 1) := by
  unfold State.expired
  rw [State.raise_get (by decide), State.get_inc_self _ _ _ (by decide), State.get_set_apart (by decide)]
  rfl

theorem grantExpiry_expires {s : State} {d gid : Nat} {g : Grant} (hd : d < s.cfg.n)
    (hg : (s.bk d).grants.find? (fun x => x.gid == gid) = some g) (hc : g.consumed = false)
    (hdue : g.expiry ≤ slotEdge (s.dev.slot + 1)) (hobs : g.expiry < 20 * s.dev.dper) :
    exec (.grantExpiry d gid) s = .next (s.expired d gid g) := by
  refine (onDist_next hd _).trans (congrArg Host.Outcome.next ?_)
  unfold effExpiry
  rw [hg]
  exact if_pos (by simp [hc, hdue, hobs])

end Sys2Proof.Machine

namespace Sys2Proof.Machine

/-! ### GQ_FLUSH (R185) -/

/-- What a flush makes of an entry: one whose booking instant has not passed is refused. -/
def Ent.flushed (e : Ent) : Ent :=
  if e.decided == none && !isHead e then { e with st := .answered, decided := some (refuseWord e.fc whyState) } else e

theorem Ent.flushed_waiting {e : Ent} (hs : e.st = .waiting) (hd : e.decided = none) :
    e.flushed = { e with st := .answered, decided := some (refuseWord e.fc whyState) } :=
  if_pos (by simp [hd, isHead, hs])

/-- The forecasts of a queue have left admission order; `i` are the scans in flight. -/
def State.leftOrder (s : State) (q : Nat) (i : List Nat) : State :=
  { s with adm := { s.adm with order := s.adm.order.filter (fun x => x.2 != q), inflight := i } }

theorem State.refusePending_eq (s : State) (q : Nat) :
    ∃ i, s.refusePending q = ((s.leftOrder q i).onEnts q (List.map Ent.flushed)).emitHeads q 8 := ⟨_, rfl⟩

/-- An INIT is due. -/
def QueueS.dueInit (x : QueueS) : QueueS := { x with initDue := true }

theorem effFlush_eq (s : State) (q : Nat) : effFlush s q = (s.updQ q QueueS.dueInit).refusePending q := rfl

/-- A flush of a queue whose entries all wait: each is refused, in the order of entry. -/
theorem effFlush_waiting (s : State) (q : Nat) (hl : (s.q q).ents.length ≤ 8)
    (hw : ∀ e ∈ (s.q q).ents, e.st = .waiting ∧ e.decided = none) :
    ((effFlush s q).q q).ents = [] ∧ ((effFlush s q).q q).initDue = true ∧
      ((effFlush s q).q q).out = (s.q q).out ++ (s.q q).ents.flatMap (fun e => e.words (refuseWord e.fc whyState)) ∧
      (effFlush s q).adm.order = s.adm.order.filter (fun x => x.2 != q) ∧
      effFlush s q = { s with regs := (effFlush s q).regs, queues := (effFlush s q).queues, adm := (effFlush s q).adm } ∧
      s.framed (effFlush s q) [R.GQ_QCNT0_REFUSED.key q] := by
  obtain ⟨i, hi⟩ := (s.updQ q QueueS.dueInit).refusePending_eq q
  rw [effFlush_eq, hi]
  have hq : ((s.updQ q QueueS.dueInit).leftOrder q i).q q = (s.q q).dueInit := s.q_updQ_self q _
  have hents : ((((s.updQ q QueueS.dueInit).leftOrder q i).onEnts q (List.map Ent.flushed)).q q).ents =
      (s.q q).ents.map Ent.flushed := by
    rw [State.onEnts_ents, hq, QueueS.dueInit]
  have hem := State.emitHeads_emitted (fun e => refuseWord e.fc whyState) _ _ q 8 hents (by simpa using hl) (by
    simp only [List.mem_map]
    rintro _ ⟨e, he, rfl⟩
    rw [Ent.flushed_waiting (hw e he).1 (hw e he).2])
  have hwords : ((s.q q).ents.map Ent.flushed).flatMap (fun e => e.words (refuseWord e.fc whyState)) =
      (s.q q).ents.flatMap (fun e => e.words (refuseWord e.fc whyState)) := by
    rw [List.flatMap_map]
    refine List.flatMap_congr fun e he => ?_
    rw [Ent.flushed_waiting (hw e he).1 (hw e he).2]
    rfl
  refine ⟨hem.ents, ?_, ?_, ?_, ?_, hem.framed⟩
  · rw [hem.initDue, State.onEnts_q, hq]
    rfl
  · rw [hem.out, State.onEnts_out, hq, hwords]
    rfl
  · rw [hem.form]
    rfl
  · rw [hem.form]
    rfl

theorem gqFlush_refuses (s : State) (g : Gal) (q : Nat) (hq : s.get R.GQ_QSEL_QUEUE = q) (hp : s.rowPasses g R.GQ_QCTL_FLUSH q 1)
    (hl : (s.q q).ents.length ≤ 8) (hw : ∀ e ∈ (s.q q).ents, e.st = .waiting ∧ e.decided = none) :
    ∃ t, exec (.gqFlush g) s = .next t ∧ (t.q q).ents = [] ∧ (t.q q).initDue = true ∧
      (t.q q).out = (s.q q).out ++ (s.q q).ents.flatMap (fun e => e.words (refuseWord e.fc whyState)) ∧
      t.adm.order = s.adm.order.filter (fun x => x.2 != q) ∧ t.book = s.book ∧
      t = { s.okRsp g with regs := t.regs, queues := t.queues, adm := t.adm } ∧
      s.framed t [R.GQ_QCNT0_REFUSED.key q] := by
  subst hq
  obtain ⟨hents, hinit, hout, horder, hform, hfr⟩ := effFlush_waiting s.newAccess _ hl hw
  refine ⟨_, congrArg Host.Outcome.next (s.hostRow_passes g _ _ _ _ hp), hents, hinit, hout, horder, ?_, ?_, hfr⟩
  · rw [hform]
    rfl
  · rw [hform]
    rfl

/-! ### GQ_CNT_CLR (R212) -/

theorem tabGet_map_keys {α : Type} (p : Nat → Bool) (v : α) (k : Nat) (t : Tab α) :
    tabGet (t.map fun r => if p r.1 then (r.1, v) else r) k = if p k then (tabGet t k).map fun _ => v else tabGet t k := by
  induction t with
  | nil => simp [tabGet]
  | cons x t ih =>
    have hkey : (if p x.1 then (x.1, v) else x).1 = x.1 := by split <;> rfl
    have hval : (if p x.1 then (x.1, v) else x).2 = if p x.1 then v else x.2 := by split <;> rfl
    rw [List.map_cons, tabGet, hkey, hval, ih, tabGet]
    by_cases hx : x.1 = k
    · subst hx
      rw [if_pos rfl, if_pos rfl]
      split <;> rfl
    · rw [if_neg hx, if_neg hx]

/-- Whether a key names a selection of an indexed register. -/
def Fld.inBank (F : Fld) (k : Nat) : Bool := k % 0x100000 == F.base && decide (0x100000 ≤ k)

theorem State.clearBank_word (s : State) (F : Fld) (k r : Nat) :
    (s.clearBank F).word k r =
      (if F.inBank k then (tabGet s.regs k).map fun _ => BitVec.ofNat 32 F.rst else tabGet s.regs k).getD (BitVec.ofNat 32 r) :=
  congrArg (Option.getD · _) (tabGet_map_keys F.inBank _ k s.regs)

/-- Every selection of a cleared register reads its reset word. -/
theorem State.clearBank_get_self {F G : Fld} (hG : G.inst = .bank ∧ G.base = F.base ∧ F.base < 0x100000 ∧ G.rst = F.rst)
    (s : State) (i : Nat) : (s.clearBank F).get G i = bitsOf (BitVec.ofNat 32 F.rst) G.lo G.w := by
  obtain ⟨hinst, hbase, hlt, hrst⟩ := hG
  have hin : F.inBank (G.key i) = true := by
    simp only [Fld.inBank, Fld.key, hinst, hbase, Bool.and_eq_true, beq_iff_eq, decide_eq_true_eq]
    omega
  rw [State.get, State.clearBank_word, if_pos hin, hrst]
  cases tabGet s.regs (G.key i) <;> rfl

theorem State.clearBank_get_ne {F G : Fld} (hG : G.inst ∈ [Inst.one, .bank] ∧ G.base % 0x100000 ≠ F.base) (s : State)
    (i : Nat) : (s.clearBank F).get G i = s.get G i := by
  have hin : F.inBank (G.key i) = false := by
    rw [Fld.inBank, Fld.key_mod_bank hG.1, beq_false_of_ne hG.2, Bool.false_and]
  rw [State.get, State.clearBank_word, hin]
  rfl

/-- The counts of the queues are cleared. -/
def State.countsCleared (s : State) : State := (s.clearBank R.GQ_QCNT0_GRANTED).clearBank R.GQ_QCNT1_EXPIRED

theorem State.countsCleared_zero {G : Fld}
    (hG : G ∈ [R.GQ_QCNT0_GRANTED, R.GQ_QCNT0_REFUSED, R.GQ_QCNT1_EXPIRED, R.GQ_QCNT1_REVOKED]) (s : State) (q : Nat) :
    s.countsCleared.get G q = 0 := by
  unfold State.countsCleared
  fin_cases hG
  · rw [State.clearBank_get_ne (by decide), State.clearBank_get_self (by decide)]
    rfl
  · rw [State.clearBank_get_ne (by decide), State.clearBank_get_self (by decide)]
    rfl
  · exact State.clearBank_get_self (by decide) _ q
  · exact State.clearBank_get_self (by decide) _ q

theorem gqCntClr_clears (s : State) (g : Gal) (hp : s.rowPasses g R.GQ_CTL_CNT_CLR 0 1) :
    ∃ t, exec (.gqCntClr g) s = .next t ∧ t.get R.GQ_LAT_MAX = 0 ∧
      (∀ q, t.get R.GQ_QCNT0_GRANTED q = 0 ∧ t.get R.GQ_QCNT0_REFUSED q = 0 ∧ t.get R.GQ_QCNT1_EXPIRED q = 0 ∧
        t.get R.GQ_QCNT1_REVOKED q = 0) ∧
      t = { s.okRsp g with regs := t.regs } ∧ (∀ q, t.get R.GQ_QCTL_GAL q = s.get R.GQ_QCTL_GAL q) := by
  have hcount {G : Fld} (ha : R.GQ_LAT_MAX.apart G)
      (hG : G ∈ [R.GQ_QCNT0_GRANTED, R.GQ_QCNT0_REFUSED, R.GQ_QCNT1_EXPIRED, R.GQ_QCNT1_REVOKED]) (q : Nat) :
      ((effGqClr s.newAccess).respond g .ok 0).get G q = 0 :=
    (State.get_set_apart ha s.newAccess.countsCleared 0 0 q).trans (State.countsCleared_zero hG s.newAccess q)
  refine ⟨_, congrArg Host.Outcome.next (s.hostRow_passes g _ _ _ _ hp), ?_, fun q => ⟨?_, ?_, ?_, ?_⟩, rfl, fun q => ?_⟩
  · exact State.get_set_self s.newAccess.countsCleared R.GQ_LAT_MAX 0 0 (by decide)
  · exact hcount (by decide) (by simp) q
  · exact hcount (by decide) (by simp) q
  · exact hcount (by decide) (by simp) q
  · exact hcount (by decide) (by simp) q
  · refine (State.get_set_apart (by decide) s.newAccess.countsCleared 0 0 q).trans ?_
    unfold State.countsCleared
    rw [State.clearBank_get_ne (by decide), State.clearBank_get_ne (by decide), State.newAccess_get]

/-- Settles O55: each command by its own lemmas. The decision of the queue's only entry is emitted at once; a start that fits meets
its quota, so that the event bit QUOTA bears on no start that R195 takes. -/
theorem forecastsAreDecidedAndAnswered : Obligations.ForecastsAreDecidedAndAnswered := by
  refine ⟨fun s q edge e r hq hin hz hents hhead => ?_, fun s q edge w r hq => ?_, fun s q hq hs hd he hi => ?_, ?_, ?_, ?_⟩
  · have h : s.DecisionDue q e r := ⟨hq, hin, hz, hents, hhead⟩
    refine ⟨fun why hw => admissionDecision_refuses h edge hw, fun hpre hadm hini hroom hst => ?_⟩
    have hc : s.Considered q e := ⟨hpre, hadm, hini, hroom, hst⟩
    refine ⟨admissionDecision_fall h hc edge, fun hd hf => ?_, fun fit lo hi hd hfit hlo hhi hreq => ?_⟩
    · obtain ⟨t, g, hex, hents, hout, hgr, hgid, hstart, hdur, hdc, hgal, hcnt, hkept⟩ :=
        admissionDecision_rise h hc hd (State.admitRise_requested rfl hf)
      rw [Nat.add_sub_cancel_left] at hout
      exact ⟨t, g, hex, hents, hout, hgr, hgid, hstart, hdur, hdc, hgal, hcnt, hkept⟩
    · have hfit' : ∀ k, fit k = s.riseFits q (s.get R.GQ_QCTL_GAL q) e edge k := hfit
      subst hlo hhi
      refine ⟨fun k hl hh hk hmin => ?_, fun hall => ?_⟩
      · obtain ⟨t, g, hex, hents, hout, hgr, -, hstart, hdur, hdc, -, -, hkept⟩ := admissionDecision_rise h hc hd
          (State.admitRise_deferred rfl (hfit' _ ▸ hreq) hl hh (hfit' _ ▸ hk) fun j hj hlj => hfit' _ ▸ hmin j hj hlj)
        exact ⟨t, g, hex, hents, hout, hgr, hstart, hdur, hdc, hkept⟩
      · exact admissionDecision_noRise h hc hd rfl (hfit' _ ▸ hreq) fun k hk hl => hfit' _ ▸ hall k hk hl
  · exact ⟨responseDelivery_notice edge hq, fun e => responseDelivery_response edge hq⟩
  · exact initNotice_sends hq hs hd he hi
  · exact gqFlush_refuses
  · exact gqCntClr_clears
  · intro s d gid g hd hg
    refine ⟨grantExpiry_idle hd hg, fun hc _ hdue hobs => ?_⟩
    exact ⟨_, grantExpiry_expires hd hg hc hdue hobs, congrArg BookS.grants (s.expired_bk d gid g), s.expired_count d gid g,
      s.expired_expiries d gid g, State.get_raise_self _ _ _ (by decide) (by decide), rfl, s.expired_framed d gid g⟩

end Sys2Proof.Machine

namespace Sys2Proof.Machine

/-! ### The registration of a forecast (R179 to R182, R206) -/

/-- Whether the queue and the state take a barrier forecast, and whether it meets a record that it can open or join. -/
def State.takesBar (s : State) (q : Nat) : Bool := (s.admits (q / 256) || s.devSt == devDoze) && (s.q q).inited
def State.barFits (s : State) (f : Nat) : Bool :=
  (s.bar (fcBid f)).st == .free || ((s.bar (fcBid f)).st == .opened && (s.bar (fcBid f)).bcnt == fcBcnt f)

/-- Whether a forecast is marked FORMAT: for its number, or for its fields (R179). -/
def State.badForecast (s : State) (q f : Nat) : Bool := fcSeq f != (s.q q).nextSeq || fcBadFormat f

/-- Whether a forecast joins a barrier record. -/
def State.joins (s : State) (q f : Nat) : Bool :=
  fcBar f && !(fcSeq f != (s.q q).nextSeq) && !fcBadFormat f && s.takesBar q && s.barFits f

/-- The entry of a forecast as it is registered. -/
def State.entryOf (s : State) (q f edge : Nat) : Ent :=
  { fc := f, edge := edge, tref := Machine.slotAt edge, st := if s.joins q f then .barrier else .waiting,
    pre := if s.badForecast q f then some whyFormat
      else if fcBar f && s.takesBar q && !s.barFits f then some whyBarrier
      else if fcBar f && !s.joins q f then some whyState else none }

/-- A queue with a forecast behind its entries. -/
def QueueS.post (e : Ent) (x : QueueS) : QueueS :=
  { x with ents := x.ents ++ [e], nextSeq := (fcSeq e.fc + 1) % 256, fcnt := bump x.fcnt (fcClass e.fc) }

/-- A forecast takes its place in admission order. -/
def State.ordered (s : State) (edge q : Nat) : State := { s with adm := { s.adm with order := putInOrder edge q s.adm.order } }

theorem State.register_eq (s : State) (q f edge : Nat) :
    s.register q f edge =
      if s.joins q f then
        (s.updQ q (QueueS.post (s.entryOf q f edge))).joinBar (q / 256) (fcBid f) (fcBcnt f) edge (Machine.slotAt edge)
      else (s.updQ q (QueueS.post (s.entryOf q f edge))).ordered edge q := rfl

/-- A barrier record that a forecast opens or joins. -/
def Barrier.joined (bcnt edge tref : Nat) (x : Barrier) : Barrier :=
  let x := if x.st == .free then { st := .opened, bcnt := bcnt, firstSlot := tref } else x
  let x := { x with arrived := x.arrived + 1 }
  if x.bcnt ≤ x.arrived then { x with st := .closed, closeEdge := edge } else x

theorem Barrier.joined_free {x : Barrier} (hx : x.st = .free) {bcnt : Nat} (hb : 1 ≤ bcnt) (edge tref : Nat) :
    (x.joined bcnt edge tref).st = (if bcnt = 1 then BarSt.closed else BarSt.opened) ∧ (x.joined bcnt edge tref).arrived = 1 ∧
      (x.joined bcnt edge tref).firstSlot = tref ∧ (x.joined bcnt edge tref).bcnt = bcnt := by
  unfold Barrier.joined
  rw [hx]
  by_cases h : bcnt = 1
  · simp [h]
  · simp [h, show ¬bcnt ≤ 1 by omega]

/-- A district is lifted for a barrier, unless it is already (R207). -/
def State.lift (s : State) (b d : Nat) : State :=
  if s.adm.lifts.any fun l => l.1 == b && l.2.1 == d && l.2.2 == none then s
  else { s with adm := { s.adm with lifts := s.adm.lifts ++ [(b, d, none)] } }

theorem State.joinBar_eq (s : State) (d b bcnt edge tref : Nat) :
    s.joinBar d b bcnt edge tref = (s.updBar b fun _ => (s.bar b).joined bcnt edge tref).lift b d := rfl

/-- A lift leaves the state but for the list of lifts. -/
theorem State.lift_form (s : State) (b d : Nat) :
    s.lift b d = { s with adm := { s.adm with lifts := (s.lift b d).adm.lifts } } := by
  unfold State.lift
  split <;> rfl

theorem State.joinBar_bar (s : State) (d b bcnt edge tref : Nat) :
    (s.joinBar d b bcnt edge tref).bar b = (s.bar b).joined bcnt edge tref := by
  rw [State.joinBar_eq, State.lift_form]
  exact s.bar_updBar_self b _

theorem State.joinBar_form (s : State) (d b bcnt edge tref : Nat) :
    s.joinBar d b bcnt edge tref = { s with adm := (s.joinBar d b bcnt edge tref).adm } := by
  rw [State.joinBar_eq, State.lift_form]
  rfl

theorem State.joinBar_order (s : State) (d b bcnt edge tref : Nat) : (s.joinBar d b bcnt edge tref).adm.order = s.adm.order := by
  rw [State.joinBar_eq, State.lift_form]
  rfl

theorem State.register_form (s : State) (q f edge : Nat) :
    s.register q f edge =
      { s with queues := (s.updQ q (QueueS.post (s.entryOf q f edge))).queues, adm := (s.register q f edge).adm } := by
  rw [State.register_eq]
  split
  · exact State.joinBar_form ..
  · rfl

/-- In RUN with no entry in progress a wake has no effect (R316). -/
theorem State.wake_run {s : State} (he : s.dev.entry = 0) (hr : s.devSt = devRun) (src lnk : Nat) : s.wake src lnk = s := by
  unfold State.wake
  rw [if_neg (by simp [he]), if_neg (by simp [hr])]

theorem forecastPost_noCredit {s : State} {q : Nat} (f : BitVec 64) (e : Nat) (hq : q < 256 * s.cfg.n) (hs : s.storeRuns = true)
    (hc : (s.q q).ents.length + (s.q q).infl = 8) :
    ∃ t, exec (.forecastPost q f e) s = .next t ∧ t.get R.GQ_FLT_NOCRED = 1 ∧ s.only t [R.GQ_FLT_NOCRED.key 0] := by
  have heff : effForecastPost s q f e = s.raise R.GQ_FLT_NOCRED := by simp [effForecastPost, hs, hc]
  exact ⟨_, (onQueue_next hq _).trans (congrArg Host.Outcome.next heff), State.get_raise_self _ _ _ (by decide) (by decide), rfl,
    State.framed_set _ _ _ _ _ _ (s.framed_refl _) (by simp)⟩

theorem effForecastPost_registers {s : State} {q : Nat} (f : BitVec 64) (e : Nat) (hs : s.storeRuns = true)
    (hc : (s.q q).ents.length + (s.q q).infl ≠ 8) (hw : s.get R.PWR_WAKE_FCW_EN = 0 ∨ (s.dev.entry = 0 ∧ s.devSt = devRun)) :
    effForecastPost s q f e = s.register q f.toNat e := by
  have hget (F : Fld) (i : Nat) : (s.register q f.toNat e).get F i = s.get F i :=
    State.get_of_regs (by rw [State.register_form]) F i
  unfold effForecastPost
  dsimp only
  rw [if_neg (by simp [hs]), if_neg (by simp [hc])]
  rcases hw with hw | ⟨he, hr⟩
  · exact if_neg (by simp [State.flag, hget, hw])
  · split
    · exact State.wake_run (by rw [State.register_form]; exact he) ((hget _ _).trans hr) _ _
    · rfl

theorem State.register_q (s : State) (q f edge r : Nat) :
    (s.register q f edge).q r = (s.updQ q (QueueS.post (s.entryOf q f edge))).q r := by
  rw [State.register_form]
  rfl

/-- A forecast that joins no record waits, in its place in admission order. -/
theorem State.register_waits {s : State} {q f : Nat} (h : s.joins q f = false) (edge : Nat) :
    (s.entryOf q f edge).st = .waiting ∧
      (s.register q f edge).adm = { s.adm with order := putInOrder edge q s.adm.order } := by
  rw [State.register_eq, h]
  exact ⟨by rw [State.entryOf, h]; rfl, rfl⟩

theorem fcBcnt_pos {f : Nat} (hb : fcBar f = true) (hf : fcBadFormat f = false) : 1 ≤ fcBcnt f := by
  simp only [fcBadFormat, hb, Bool.or_eq_false_iff, Bool.true_and, beq_eq_false_iff_ne] at hf
  exact Nat.pos_of_ne_zero hf.2.1

theorem forecastPost_registers {s : State} {q : Nat} (f : BitVec 64) (e : Nat) (hq : q < 256 * s.cfg.n) (hs : s.storeRuns = true)
    (hc : (s.q q).ents.length + (s.q q).infl ≠ 8) (hw : s.get R.PWR_WAKE_FCW_EN = 0 ∨ (s.dev.entry = 0 ∧ s.devSt = devRun)) :
    ∃ t x, exec (.forecastPost q f e) s = .next t ∧ (t.q q).ents = (s.q q).ents ++ [x] ∧ x.fc = f.toNat ∧ x.edge = e ∧
      x.tref = slotAt e ∧ x.decided = none ∧ (t.q q).nextSeq = (fcSeq f.toNat + 1) % 256 ∧ (t.q q).out = (s.q q).out ∧
      (∀ r, r ≠ q → t.q r = s.q r) ∧ t = { s with queues := t.queues, adm := t.adm } ∧
      (fcSeq f.toNat ≠ (s.q q).nextSeq ∨ fcBadFormat f.toNat = true →
        x.pre = some whyFormat ∧ x.st = .waiting ∧ t.adm = { s.adm with order := putInOrder e q s.adm.order }) ∧
      (fcSeq f.toNat = (s.q q).nextSeq → fcBadFormat f.toNat = false → fcBar f.toNat = false →
        x.pre = none ∧ x.st = .waiting ∧ t.adm = { s.adm with order := putInOrder e q s.adm.order }) ∧
      (fcSeq f.toNat = (s.q q).nextSeq → fcBadFormat f.toNat = false → fcBar f.toNat = true → s.admits (q / 256) = true →
        (s.q q).inited = true → (s.bar (fcBid f.toNat)).st = .free →
        x.pre = none ∧ x.st = .barrier ∧ t.adm.order = s.adm.order ∧
        (t.bar (fcBid f.toNat)).st = (if fcBcnt f.toNat = 1 then BarSt.closed else BarSt.opened) ∧
        (t.bar (fcBid f.toNat)).arrived = 1 ∧ (t.bar (fcBid f.toNat)).firstSlot = slotAt e ∧
        (t.bar (fcBid f.toNat)).bcnt = fcBcnt f.toNat) := by
  have hself := (s.register_q q f.toNat e q).trans (s.q_updQ_self q _)
  refine ⟨s.register q f.toNat e, s.entryOf q f.toNat e,
    (onQueue_next hq _).trans (congrArg Host.Outcome.next (effForecastPost_registers f e hs hc hw)), by rw [hself]; rfl, rfl, rfl,
    rfl, rfl, by rw [hself]; rfl, by rw [hself]; rfl, fun r hr => (s.register_q q _ e r).trans (State.q_updQ_ne hr s _),
    by rw [State.register_form], fun hbad => ?_, fun hseq hfmt hbar => ?_, fun hseq hfmt hbar hadm hini hfree => ?_⟩
  · have hb : s.badForecast q f.toNat = true := by
      rcases hbad with h | h <;> simp [State.badForecast, h]
    have hj : s.joins q f.toNat = false := by
      rcases hbad with h | h <;> simp [State.joins, h]
    exact ⟨by rw [State.entryOf, hb]; rfl, State.register_waits hj e⟩
  · have hb : s.badForecast q f.toNat = false := by simp [State.badForecast, hseq, hfmt]
    have hj : s.joins q f.toNat = false := by simp [State.joins, hbar]
    exact ⟨by simp [State.entryOf, hb, hbar], State.register_waits hj e⟩
  · have hb : s.badForecast q f.toNat = false := by simp [State.badForecast, hseq, hfmt]
    have ht : s.takesBar q = true := by simp [State.takesBar, hadm, hini]
    have hfit : s.barFits f.toNat = true := by simp [State.barFits, hfree]
    have hj : s.joins q f.toNat = true := by simp [State.joins, hbar, hseq, hfmt, ht, hfit]
    rw [State.register_eq, if_pos hj, State.joinBar_order, State.joinBar_bar]
    exact ⟨by simp [State.entryOf, hb, hfit, hj], by rw [State.entryOf, hj]; rfl, rfl,
      Barrier.joined_free hfree (fcBcnt_pos hbar hfmt) e _⟩

/-! ### ADMISSION_ISSUE (R192, ORR_INJ) -/

theorem admissionIssue_outOfTurn {s : State} {q : Nat} (hq : q < 256 * s.cfg.n) (h : s.nextIssue ≠ some q) :
    exec (.admissionIssue q) s = .next s := by
  refine (onQueue_next hq _).trans (congrArg Host.Outcome.next ?_)
  unfold effIssue
  cases hn : s.nextTurn with
  | none => rfl
  | some x => exact if_neg fun hx => h (by rw [State.nextIssue, hn, ← hx.1]; rfl)

/-- Whether the armed injection names a stage of a district. -/
def State.injNames (s : State) (stage d : Nat) : Bool :=
  s.flag R.ORR_INJ_ARM && s.get R.ORR_INJ_STAGE == stage && s.get R.ORR_INJ_DIST == d

theorem State.takeInj_eq (s : State) (stage d : Nat) :
    s.takeInj stage d = if s.injNames stage d then (s.get R.ORR_INJ_KIND, s.set R.ORR_INJ_ARM 0 0) else (0, s) := rfl

theorem State.injNames_iff (s : State) (stage d : Nat) :
    s.injNames stage d = true ↔ s.get R.ORR_INJ_ARM = 1 ∧ s.get R.ORR_INJ_STAGE = stage ∧ s.get R.ORR_INJ_DIST = d := by
  have hlt : s.get R.ORR_INJ_ARM < 2 := bitsOf_lt _ _ _
  simp only [State.injNames, State.flag, Bool.and_eq_true, bne_iff_ne, ne_eq, beq_iff_eq, and_assoc]
  omega

/-- An injection that is not armed strikes nothing. -/
theorem State.takeInj_unarmed {s : State} (h : s.get R.ORR_INJ_ARM = 0) (stage d : Nat) : s.takeInj stage d = (0, s) := by
  rw [State.takeInj_eq, if_neg]
  rw [State.injNames_iff, h]
  exact fun hx => absurd hx.1 (by decide)

theorem State.takeInj_form (s : State) (stage d : Nat) : (s.takeInj stage d).2 = { s with regs := (s.takeInj stage d).2.regs } := by
  rw [State.takeInj_eq]
  split <;> rfl

theorem State.takeInj_framed (s : State) (stage d : Nat) : s.framed (s.takeInj stage d).2 [R.ORR_INJ_ARM.key 0] := by
  rw [State.takeInj_eq]
  split
  · exact State.framed_set _ _ _ _ _ _ (s.framed_refl _) (by simp)
  · exact s.framed_refl _

/-- What strikes has a KIND, and is armed no longer. -/
theorem State.takeInj_hits (s : State) (stage d : Nat) :
    ((s.takeInj stage d).1 ≠ 0 ↔ s.injNames stage d = true ∧ s.get R.ORR_INJ_KIND ≠ 0) ∧
      ((s.takeInj stage d).1 ≠ 0 → (s.takeInj stage d).2.get R.ORR_INJ_ARM = 0) := by
  rw [State.takeInj_eq]
  split
  · next h => exact ⟨by simp [h], fun _ => State.get_set_self _ _ _ _ (by decide)⟩
  · next h => simp [h]

/-- The scan of the first waiting entry of a queue is in flight. -/
def Ent.issued (hit : Bool) (e : Ent) : Ent := { e with st := .issued, retry := false, inj := hit }

theorem effIssue_eq {s : State} {p q : Nat} (ht : s.nextTurn = some (p, q)) (hl : s.adm.inflight.length < 12)
    (hz : s.devSt ≠ devDoze) :
    effIssue s q = { (s.takeInj 0xC (q / 256)).2.onEnts q (updFirst .waiting (Ent.issued ((s.takeInj 0xC (q / 256)).1 != 0))) with
      adm := (s.takeInj 0xC (q / 256)).2.adm.issue (p, q) } := by
  unfold effIssue
  rw [ht]
  exact if_pos ⟨rfl, hl, hz⟩

theorem admissionIssue_issues {s : State} {p q : Nat} (hq : q < 256 * s.cfg.n) (ht : s.nextTurn = some (p, q))
    (hl : s.adm.inflight.length < 12) (hz : s.devSt ≠ devDoze) :
    ∃ t hit, exec (.admissionIssue q) s = .next t ∧
      (hit = true ↔ s.get R.ORR_INJ_ARM = 1 ∧ s.get R.ORR_INJ_STAGE = 0xC ∧ s.get R.ORR_INJ_DIST = q / 256 ∧
        s.get R.ORR_INJ_KIND ≠ 0) ∧
      (hit = true → t.get R.ORR_INJ_ARM = 0) ∧
      (t.q q).ents = updFirst .waiting (fun x => { x with st := .issued, retry := false, inj := hit }) (s.q q).ents ∧
      t.adm = { s.adm with order := s.adm.order.erase (p, q), inflight := s.adm.inflight ++ [q] } ∧
      (∀ r, r ≠ q → t.q r = s.q r) ∧ t = { s with regs := t.regs, queues := t.queues, adm := t.adm } ∧
      s.framed t [R.ORR_INJ_ARM.key 0] ∧ (s.get R.ORR_INJ_ARM = 0 → t.regs = s.regs) := by
  obtain ⟨hhit, harm⟩ := s.takeInj_hits 0xC (q / 256)
  have hform := s.takeInj_form 0xC (q / 256)
  have hqq (r : Nat) : (s.takeInj 0xC (q / 256)).2.q r = s.q r := by
    rw [hform]
    rfl
  refine ⟨_, (s.takeInj 0xC (q / 256)).1 != 0, (onQueue_next hq _).trans (congrArg Host.Outcome.next (effIssue_eq ht hl hz)), ?_,
    fun h => harm (bne_iff_ne.mp h), ?_, ?_, fun r hr => ?_, ?_, s.takeInj_framed 0xC (q / 256), fun h => ?_⟩
  · rw [bne_iff_ne, hhit, State.injNames_iff, and_assoc, and_assoc]
  · exact (State.onEnts_ents _ _ _).trans (by rw [hqq]; rfl)
  · rw [hform]
    rfl
  · exact (State.q_updQ_ne hr _ _).trans (hqq r)
  · rw [hform]
    rfl
  · rw [State.takeInj_unarmed h]
    rfl

end Sys2Proof.Machine

namespace Sys2Proof.Machine

/-! ### Residues of a scan (R117) -/

theorem res7_add_multiple {x delta : Int} (h : delta % 7 = 0) : res7 (x + delta) = res7 x := by
  unfold res7
  omega

theorem res7_add_ne {x delta : Int} (h : delta % 7 ≠ 0) : res7 (x + delta) ≠ res7 x := by
  unfold res7
  omega

/-- The residue that the adder of an element carries is that of its sum. -/
theorem res7_scanned (f : Bool) (acc v : Int) :
    res7 (if f then v else acc + v) = if f then res7 v else addRes (res7 acc) (res7 v) := by
  split
  · rfl
  · exact res7_add acc v

/-- A change by a multiple of 7 passes every check. -/
theorem scanFrom_ok {delta : Int} (h : delta % 7 = 0) (thr : Int) (k : Nat) (l : List (Int × Bool)) (i : Nat) (acc : Int)
    (seg : Seg) : (scanFrom thr k delta i acc seg l).ok = true := by
  induction l generalizing i acc seg with
  | nil => rfl
  | cons x r ih =>
    obtain ⟨v, f⟩ := x
    have hd : (if i = k then delta else 0) % 7 = 0 := by split <;> simp [h]
    simp only [scanFrom, ih, Bool.true_and, res7_add_multiple hd, res7_scanned, beq_self_eq_true]

/-- A change by no multiple of 7 fails the check of its element. -/
theorem scanFrom_struck {delta : Int} (h : delta % 7 ≠ 0) (thr : Int) (k : Nat) (l : List (Int × Bool)) (i : Nat) (acc : Int)
    (seg : Seg) (hk : i ≤ k) (hl : k < i + l.length) : (scanFrom thr k delta i acc seg l).ok = false := by
  induction l generalizing i acc seg with
  | nil => simp at hl; omega
  | cons x r ih =>
    obtain ⟨v, f⟩ := x
    by_cases hi : i = k
    · simp only [scanFrom, if_pos hi, ← res7_scanned, beq_false_of_ne (res7_add_ne h), Bool.and_false]
    · rw [List.length_cons] at hl
      simp only [scanFrom, ih (i + 1) _ _ (by omega) (by omega), Bool.false_and]

theorem scan_ok {delta : Int} (h : delta % 7 = 0) (thr : Int) (k : Nat) (l : List (Int × Bool)) :
    (scan thr k delta l).ok = true := by
  cases l with
  | nil => rfl
  | cons x r => exact scanFrom_ok h ..

theorem scan_struck {delta : Int} (h : delta % 7 ≠ 0) (thr : Int) {k : Nat} {l : List (Int × Bool)} (hk : k < l.length) :
    (scan thr k delta l).ok = false := by
  cases l with
  | nil => simp at hk
  | cons x r => exact scanFrom_struck h _ _ _ _ _ _ (Nat.zero_le _) (by simpa using hk)

theorem State.ledgerDiff_length (s : State) (b : Nat → Nat) : (s.ledgerDiff b).length = 256 := by
  simp [State.ledgerDiff, State.ledger, ledgerLen]

/-- The checks of both vectors of an admission. -/
def State.admOk (s : State) (d g dc : Nat) (u : Nat × Int) : Bool := (s.admScan d g dc u).1.ok && (s.admScan d g dc u).2.ok

theorem State.admOk_of_multiple (s : State) (d g dc k : Nat) {delta : Int} (h : delta % 7 = 0) :
    s.admOk d g dc (k, delta) = true := by
  simp only [State.admOk, State.admScan, Bool.and_eq_true]
  exact ⟨scan_ok (by split <;> simp [h]) .., scan_ok (by split <;> simp [h]) ..⟩

theorem State.admOk_of_struck (s : State) (d g dc : Nat) {k : Nat} {delta : Int} (h : delta % 7 ≠ 0) (hk : k < 512) :
    s.admOk d g dc (k, delta) = false := by
  simp only [State.admOk, State.admScan]
  by_cases hl : k < 256
  · rw [if_pos hl, scan_struck h _ (by rwa [State.ledgerDiff_length]), Bool.false_and]
  · rw [if_neg hl, if_neg hl, scan_struck h (k := k - 256) _ (by rw [State.ledgerDiff_length]; omega), Bool.and_false]

/-! ### SCAN_COMPLETE (R114, R117, R121) -/

/-- Whether a sum in an admission's scan was saturated. -/
def State.admSat (s : State) (d g dc : Nat) (u : Nat × Int) : Bool := (s.admScan d g dc u).1.sat || (s.admScan d g dc u).2.sat

/-- The state in which a scan of a queue delivers: SCANFLT shows a saturated sum. -/
def State.scanShown (s : State) (q : Nat) (e : Ent) (u : Nat × Int) : State :=
  s.raiseIf (s.admSat (q / 256) (s.get R.GQ_QCTL_GAL q) (fcDelta e.fc).toNat u) R.ORR_FLT_SCANFLT

/-- What a failed check makes of the entry: its scan is issued again, once. -/
def Ent.scanAgain (retry : Bool) (e : Ent) : Ent :=
  if retry then { e with st := .failed } else { e with retry := true, inj := false }

theorem effScan_eq {s : State} {q : Nat} {e : Ent} (h : (s.q q).ents.find? (fun x => x.st == .issued) = some e) (k : Nat)
    (delta : Int) :
    effScan s q k delta =
      if s.admOk (q / 256) (s.get R.GQ_QCTL_GAL q) (fcDelta e.fc).toNat (k, delta) && !e.inj then
        (s.scanShown q e (k, delta)).onEnts q (updFirst .issued fun x => { x with st := .scanned, ups := (k, delta) })
      else ((s.scanShown q e (k, delta)).scanFault (q / 256)).onEnts q (updFirst .issued (Ent.scanAgain e.retry)) := by
  unfold effScan
  rw [h]
  rfl

theorem State.scanShown_form (s : State) (q : Nat) (e : Ent) (u : Nat × Int) :
    s.scanShown q e u = { s with regs := (s.scanShown q e u).regs } := State.raiseIf_with ..

theorem State.scanShown_framed (s : State) (q : Nat) (e : Ent) (u : Nat × Int) {ks : List Nat}
    (h : R.ORR_FLT_SCANFLT.key 0 ∈ ks) : s.framed (s.scanShown q e u) ks := (s.framed_refl ks).raiseIf _ _ _ h

theorem scanComplete_passes {s : State} {q : Nat} {e : Ent} (hq : q < 256 * s.cfg.n)
    (h : (s.q q).ents.find? (fun x => x.st == .issued) = some e) (k : Nat) {delta : Int} (hi : e.inj = false) (hd : delta % 7 = 0) :
    ∃ t, exec (.scanComplete q k delta) s = .next t ∧
      (t.q q).ents = updFirst .issued (fun x => { x with st := .scanned, ups := (k, delta) }) (s.q q).ents ∧
      t = { s with regs := t.regs, queues := t.queues } ∧ s.framed t [R.ORR_FLT_SCANFLT.key 0] := by
  have hok := (s.admOk_of_multiple (q / 256) (s.get R.GQ_QCTL_GAL q) (fcDelta e.fc).toNat k hd)
  have heff := (effScan_eq h k delta).trans (if_pos (by simp [hok, hi]))
  have hfr := s.scanShown_framed q e (k, delta) (List.mem_singleton_self (R.ORR_FLT_SCANFLT.key 0))
  obtain ⟨r, hr⟩ : ∃ r, s.scanShown q e (k, delta) = { s with regs := r } := ⟨_, s.scanShown_form q e _⟩
  rw [hr] at heff hfr
  refine ⟨_, (onQueue_next hq _).trans (congrArg Host.Outcome.next heff), State.onEnts_ents .., rfl, hfr⟩

/-- A failed scan flags SCANFLT and RES, counts RES and loads ORR_ERRLOC where it is free. -/
theorem State.scanFault_framed {s u : State} {ks : List Nat} (h : s.framed u ks)
    (hk : [R.ORR_FLT_SCANFLT.key 0, R.ORR_CNT1_RES.key 0, R.ORR_ERRLOC_VALID.key 0] ⊆ ks) (d : Nat) :
    s.framed (u.scanFault d) ks := by
  have h1 : s.framed (u.raise R.ORR_FLT_SCANFLT) ks := State.framed_set _ _ _ _ _ _ h (hk (by simp))
  have h2 : s.framed (u.raise R.ORR_FLT_SCANFLT).resFlag ks :=
    State.framed.inc (State.framed_set _ _ _ R.ORR_FLT_RES 0 1 h1 (hk (by simp [R.ORR_FLT_RES, R.ORR_FLT_SCANFLT, Fld.key])))
      (hk (by simp))
  exact State.framed_congr _ _ _ _ (h2.errLoc 0 0xC d (hk (by simp))) (State.report_regs ..)

theorem State.scanFault_get {F : Fld} (h : F.apartAll (R.ORR_CNT1_RES :: errLocFlds)) (u : State) (d i : Nat) :
    (u.scanFault d).get F i = ((u.raise R.ORR_FLT_SCANFLT).raise R.ORR_FLT_RES).get F i := by
  rw [State.scanFault, State.report_get, State.errLoc_get fun G hG => h G (List.mem_cons_of_mem _ hG), State.resFlag, State.inc,
    State.setSat, State.get_set_apart (h _ (List.mem_cons_self ..))]

theorem State.scanFault_form (u : State) (d : Nat) :
    u.scanFault d = { u with regs := (u.scanFault d).regs, flt := (u.scanFault d).flt } := by
  unfold State.scanFault
  rw [State.report_with, State.errLoc_regs]
  rfl

theorem scanComplete_fails {s : State} {q : Nat} {e : Ent} (hq : q < 256 * s.cfg.n)
    (h : (s.q q).ents.find? (fun x => x.st == .issued) = some e) (k : Nat) (delta : Int)
    (hf : e.inj = true ∨ (delta % 7 ≠ 0 ∧ k < 512)) :
    ∃ t, exec (.scanComplete q k delta) s = .next t ∧ t.get R.ORR_FLT_SCANFLT = 1 ∧ t.get R.ORR_FLT_RES = 1 ∧
      (e.retry = false → (t.q q).ents = updFirst .issued (fun x => { x with retry := true, inj := false }) (s.q q).ents) ∧
      (e.retry = true → (t.q q).ents = updFirst .issued (fun x => { x with st := .failed }) (s.q q).ents) ∧
      t.adm = s.adm ∧ t.kept = s.kept ∧
      s.framed t [R.ORR_FLT_SCANFLT.key 0, R.ORR_CNT1_RES.key 0, R.ORR_ERRLOC_VALID.key 0] := by
  have hno : ¬(s.admOk (q / 256) (s.get R.GQ_QCTL_GAL q) (fcDelta e.fc).toNat (k, delta) && !e.inj) = true := by
    rcases hf with hi | ⟨hd, hk⟩
    · simp [hi]
    · simp [s.admOk_of_struck _ _ _ hd hk]
  have heff := (effScan_eq h k delta).trans (if_neg hno)
  have hents : ((effScan s q k delta).q q).ents = updFirst .issued (Ent.scanAgain e.retry) (s.q q).ents := by
    rw [heff, State.onEnts_ents, State.scanFault_form, State.scanShown_form]
    rfl
  refine ⟨_, onQueue_next hq _, ?_, ?_, fun hr => ?_, fun hr => ?_, ?_, effScan_kept .., ?_⟩
  · rw [heff]
    refine (State.scanFault_get (by decide) _ _ 0).trans ?_
    rw [State.raise_get (by decide), State.get_raise_self _ _ _ (by decide) (by decide)]
  · rw [heff]
    refine (State.scanFault_get (by decide) _ _ 0).trans ?_
    rw [State.get_raise_self _ _ _ (by decide) (by decide)]
  · rw [hents, hr]
    rfl
  · rw [hents, hr]
    rfl
  · rw [heff, State.scanFault_form, State.scanShown_form]
    rfl
  · rw [heff]
    exact State.scanFault_framed (s.scanShown_framed q e _ (by simp)) (List.Subset.refl _) _

end Sys2Proof.Machine

namespace Sys2Proof.Machine

/-! ### Participants of a barrier -/

theorem tabPut_filter_keys {α : Type} (p : Nat → Bool) {k : Nat} (hk : p k = false) (v : α) (t : Tab α) :
    (tabPut t k v).filter (fun x => p x.1) = t.filter fun x => p x.1 := by
  induction t with
  | nil => simp [tabPut, hk]
  | cons x r ih =>
    rcases Nat.lt_trichotomy x.1 k with h | h | h
    · simp [tabPut, h, List.filter_cons, ih]
    · simp [tabPut, h, hk]
    · simp [tabPut, show ¬x.1 < k by omega, show x.1 ≠ k by omega, List.filter_cons, hk]

/-- A change of a queue leaves the participants of the other districts. -/
theorem State.participants_updQ_ne (s : State) {q k : Nat} (h : q / 256 ≠ k) (f : QueueS → QueueS) (b : Nat) :
    (s.updQ q f).participants b k = s.participants b k := by
  unfold State.participants State.updQ tabUpd
  rw [tabPut_filter_keys (fun x => x / 256 == k) (by simpa using h)]

/-- Whether an entry takes part in a barrier, unanswered. -/
def Ent.takesPart (b : Nat) (e : Ent) : Bool := e.st == .barrier && e.decided == none && fcBid e.fc == b

/-- The only participant of a barrier: the only entry of its queue. -/
structure State.OneTakesPart (s : State) (b d q : Nat) (e : Ent) : Prop where
  district : d < s.cfg.n
  queue : q / 256 = d
  ents : (s.q q).ents = [e]
  parts : s.participants b d = [(q, e)]
  others : ∀ k < s.cfg.n, k ≠ d → s.participants b k = []

theorem State.OneTakesPart.takesPart {s : State} {b d q : Nat} {e : Ent} (h : s.OneTakesPart b d q e) : e.takesPart b = true := by
  have hm : (q, e) ∈ s.participants b d := by rw [h.parts]; exact List.mem_singleton_self _
  simp only [State.participants, List.mem_flatMap, List.mem_map, List.mem_filter] at hm
  obtain ⟨x, -, y, ⟨-, hy⟩, hxy⟩ := hm
  cases hxy
  exact hy

/-! ### A participant is answered (R209) -/

/-- An answered participant; its latency counts from the close of the barrier. -/
def Ent.answeredAt (close : Nat) (w : BitVec 32) (e : Ent) : Ent := { e with st := .answered, decided := some w, edge := close }

/-- The words of a participant: its response counts from an edge of its own. -/
def Ent.wordsAt (close : Nat) (w : BitVec 32) (e : Ent) : List (BitVec 32 × Option Nat) :=
  (w, some close) :: e.after.map fun v => (v, none)

theorem State.answer_eq (s : State) (b close q : Nat) (w : BitVec 32) :
    s.answer b close q w = (s.onEnts q (State.answer.go close w (Ent.takesPart b))).emitHeads q 8 := rfl

theorem State.answer_go_single {b : Nat} {e : Ent} (h : e.takesPart b = true) (close : Nat) (w : BitVec 32) :
    State.answer.go close w (Ent.takesPart b) [e] = [e.answeredAt close w] := by
  rw [State.answer.go, if_pos h]
  rfl

/-- `t` is `s` with the only entry of a queue answered and emitted. -/
structure State.AnswersOne (s : State) (q close : Nat) (e : Ent) (w : BitVec 32) (t : State) : Prop where
  form : t = { s with regs := t.regs, queues := t.queues }
  ents : (t.q q).ents = []
  out : (t.q q).out = (s.q q).out ++ e.wordsAt close w
  others : ∀ b k, q / 256 ≠ k → t.participants b k = s.participants b k

theorem State.AnswersOne.book {s t : State} {q close : Nat} {e : Ent} {w : BitVec 32} (h : s.AnswersOne q close e w t) :
    t.book = s.book := by
  rw [h.form]

theorem State.answer_one {s : State} {b q : Nat} {e : Ent} (hents : (s.q q).ents = [e]) (h : e.takesPart b = true) (close : Nat)
    (w : BitVec 32) : s.AnswersOne q close e w (s.answer b close q w) := by
  have hgo : ((s.onEnts q (State.answer.go close w (Ent.takesPart b))).q q).ents = [e.answeredAt close w] := by
    rw [State.onEnts_ents, hents, State.answer_go_single h]
  have hem := State.emitHeads_single hgo rfl 7
  rw [State.answer_eq]
  refine ⟨hem.form, hem.ents, ?_, fun b' k hk => ?_⟩
  · rw [hem.out, State.onEnts_out]
    rfl
  · rw [State.emitHeads_cons hgo rfl, State.emitHeads_nil (by rw [State.emitHead_q]; rfl)]
    exact ((s.onEnts q _).participants_updQ_ne hk _ _).trans (s.participants_updQ_ne hk _ _)

theorem State.refuseAll_one (s : State) (b close why q : Nat) (e : Ent) :
    s.refuseAll b close why [(q, e)] = s.answer b close q (refuseWord e.fc why) := rfl

theorem State.refuseAll_none (s : State) (b close why : Nat) : s.refuseAll b close why [] = s := rfl

/-! ### BARRIER_TIMEOUT (R209) -/

/-- A fold in which only one element of the list acts. -/
theorem foldl_acts_once {α β : Type} (f : β → α → β) {l : List α} {d : α} (hd : d ∈ l) (hn : l.Nodup) (s : β)
    (hbefore : ∀ k ∈ l, k ≠ d → f s k = s) (hafter : ∀ k ∈ l, k ≠ d → f (f s d) k = f s d) :
    l.foldl f s = f s d := by
  have idle (u : β) (l : List α) (h : ∀ k ∈ l, f u k = u) : l.foldl f u = u := by
    induction l with
    | nil => rfl
    | cons x r ih => rw [List.foldl_cons, h x (List.mem_cons_self ..), ih fun k hk => h k (List.mem_cons_of_mem _ hk)]
  obtain ⟨l₁, l₂, rfl⟩ := List.append_of_mem hd
  obtain ⟨-, hn₂, hdisj⟩ := List.nodup_append.mp hn
  have h₁ : ∀ k ∈ l₁, k ≠ d := fun k hk => hdisj k hk d (List.mem_cons_self ..)
  have h₂ : ∀ k ∈ l₂, k ≠ d := fun k hk e => (List.nodup_cons.mp hn₂).1 (e ▸ hk)
  rw [List.foldl_append, idle s l₁ fun k hk => hbefore k (by simp [hk]) (h₁ k hk), List.foldl_cons,
    idle _ l₂ fun k hk => hafter k (by simp [hk]) (h₂ k hk)]

/-- The refusals of a barrier with one participant, at the present slot. -/
theorem State.OneTakesPart.refuseEach {s : State} {b d q : Nat} {e : Ent} (h : s.OneTakesPart b d q e) (why : Nat) :
    s.districts.foldl (fun s d => s.refuseAll b (slotEdge s.dev.slot) why (s.participants b d)) s =
      s.answer b (slotEdge s.dev.slot) q (refuseWord e.fc why) := by
  have hans := State.answer_one h.ents h.takesPart (slotEdge s.dev.slot) (refuseWord e.fc why)
  have hstep : s.refuseAll b (slotEdge s.dev.slot) why (s.participants b d) =
      s.answer b (slotEdge s.dev.slot) q (refuseWord e.fc why) := by rw [h.parts, State.refuseAll_one]
  refine (foldl_acts_once _ (List.mem_range.mpr h.district) List.nodup_range s (fun k hk hne => ?_) fun k hk hne => ?_).trans hstep
  · rw [h.others k (List.mem_range.mp hk) hne, State.refuseAll_none]
  · rw [hstep, hans.others b k (by rw [h.queue]; exact hne.symm), h.others k (List.mem_range.mp hk) hne, State.refuseAll_none]

theorem barrierTimeout_early {s : State} {b : Nat} (hb : b < 64) (h : s.dev.slot < (s.bar b).firstSlot + s.get R.GQ_SUN_TMO) :
    exec (.barrierTimeout b) s = .next s :=
  (onBar_next hb _).trans (congrArg Host.Outcome.next (if_neg (by simp [Nat.not_le.mpr h])))

/-- A barrier record is free again, and its lifts end. -/
def State.barFreed (s : State) (b : Nat) : State :=
  { s.endLifts b 0 with adm := { (s.endLifts b 0).adm with bars := tabDel s.adm.bars b } }

theorem State.barFreed_bar (s : State) (b : Nat) : ((s.barFreed b).bar b).st = .free := by
  show (tabAt (tabDel s.adm.bars b) b : Barrier).st = .free
  rw [tabAt, tabDel, tabGet_filter_keys (fun k => k != b), if_neg (by simp)]
  rfl

theorem effBarTimeout_eq {s : State} {b d q : Nat} {e : Ent} (hst : (s.bar b).st = .opened)
    (hdue : (s.bar b).firstSlot + s.get R.GQ_SUN_TMO ≤ s.dev.slot) (h : s.OneTakesPart b d q e) :
    effBarTimeout s b = (((s.answer b (slotEdge s.dev.slot) q (refuseWord e.fc whyBarrier)).barFreed b).raise
      R.GQ_FLT_BARTMO).exhGq R.EXH_GQ_BARTMO := by
  have hc : ((s.bar b).st == .opened && decide ((s.bar b).firstSlot + s.get R.GQ_SUN_TMO ≤ s.dev.slot)) = true := by
    simp [hst, hdue]
  rw [← h.refuseEach]
  exact if_pos hc

theorem State.exhGq_form (s : State) (F : Fld) : s.exhGq F = { s with exh := (s.exhGq F).exh } := by
  unfold State.exhGq
  split <;> rfl

theorem barrierTimeout_refuses {s : State} {b d q : Nat} {e : Ent} (hb : b < 64) (hst : (s.bar b).st = .opened)
    (hdue : (s.bar b).firstSlot + s.get R.GQ_SUN_TMO ≤ s.dev.slot) (h : s.OneTakesPart b d q e) :
    ∃ t, exec (.barrierTimeout b) s = .next t ∧ (t.bar b).st = .free ∧ t.get R.GQ_FLT_BARTMO = 1 ∧ (t.q q).ents = [] ∧
      (t.q q).out = (s.q q).out ++ e.wordsAt (slotEdge s.dev.slot) (refuseWord e.fc whyBarrier) ∧ t.book = s.book ∧
      t.kept = s.kept := by
  have hans := State.answer_one h.ents h.takesPart (slotEdge s.dev.slot) (refuseWord e.fc whyBarrier)
  have heff := effBarTimeout_eq hst hdue h
  rw [State.exhGq_form] at heff
  generalize s.answer b (slotEdge s.dev.slot) q (refuseWord e.fc whyBarrier) = u at hans heff
  refine ⟨_, onBar_next hb _, ?_, ?_, ?_, ?_, ?_, effBarTimeout_kept ..⟩ <;> rw [heff]
  · exact State.barFreed_bar u b
  · exact State.get_raise_self (u.barFreed b) R.GQ_FLT_BARTMO 0 (by decide) (by decide)
  · exact hans.ents
  · exact hans.out
  · exact hans.book

end Sys2Proof.Machine

namespace Sys2Proof.Machine

/-! ### The scans of Sunrise without an upset (R115, R208) -/

theorem scanFrom_zero_at (thr : Int) (j k : Nat) (l : List (Int × Bool)) (i : Nat) (acc : Int) (seg : Seg) :
    scanFrom thr j 0 i acc seg l = scanFrom thr k 0 i acc seg l := by
  induction l generalizing i acc seg with
  | nil => rfl
  | cons x r ih => simp only [scanFrom, ite_self, ih]

/-- A change of 0 strikes nothing, wherever it falls. -/
theorem scan_zero_at (thr : Int) (k : Nat) (l : List (Int × Bool)) : scan thr k 0 l = scan thr 0 0 l := by
  cases l with
  | nil => rfl
  | cons x r => exact scanFrom_zero_at ..

/-- The prefixes of a scan that nothing strikes. -/
def cleanPrefixes (v : List (Int × Bool)) : List Int := (scan 0 0 0 v).prefixes

/-- SCANFLT shows a saturated sum of a scan. -/
def State.scanSatShown (s : State) (v : List (Int × Bool)) : State := s.raiseIf (scan 0 0 0 v).sat R.ORR_FLT_SCANFLT

theorem State.sunScan_clean {s : State} (hi : s.get R.ORR_INJ_ARM = 0) {ups : List ScanUp} (hu : ∀ u ∈ ups, u.delta = 0)
    (d k : Nat) (v : List (Int × Bool)) : s.sunScan ups d k v = (some (cleanPrefixes v), s.scanSatShown v) := by
  have hrun : ∀ u : ScanUp, u = (ups.find? fun u => u.dist == d && u.req == k && u.again == false).getD { dist := d } →
      scan 0 u.at_ u.delta v = scan 0 0 0 v := by
    rintro u rfl
    rw [show ScanUp.delta _ = 0 from ?_, scan_zero_at]
    cases hf : ups.find? fun u => u.dist == d && u.req == k && u.again == false with
    | none => rfl
    | some u => exact hu u (List.mem_of_find?_eq_some hf)
  unfold State.sunScan
  simp only [State.takeInj_unarmed hi, hrun _ rfl]
  exact if_pos ⟨trivial, scan_ok (by decide) ..⟩

theorem fcDelta_bounds (f : Nat) : -(2 : Int) ^ 13 ≤ fcDelta f ∧ fcDelta f < 2 ^ 13 := by
  have h : f / 2 ^ 50 % 2 ^ 14 < 2 ^ 14 := Nat.mod_lt _ (by decide)
  unfold fcDelta signedOf
  split <;> constructor <;> omega

theorem sat32_fcDelta (f : Nat) : sat32 (fcDelta f) = fcDelta f := by
  obtain ⟨hl, hh⟩ := fcDelta_bounds f
  unfold sat32 clampTo
  rw [if_neg (by omega), if_neg (by omega)]

/-- The scan over one participant gives its DELTA. -/
theorem scan_single (f : Nat) :
    cleanPrefixes [(fcDelta f, false)] = [fcDelta f] ∧ (scan 0 0 0 [(fcDelta f, false)]).sat = false := by
  simp [cleanPrefixes, scan, scanFrom, sat32_fcDelta]

/-! ### What the trials of a staircase read -/

/-- The fields that a trial reads. -/
def trialFlds : List Fld :=
  [R.GQ_QCTL_GAL, R.BUD_GCNT_COUNT, R.BUD_CCAP0_CCAP, R.BUD_CCAP0_MCAP, R.BUD_CCAP1_LCAP, R.BUD_DCAP_DCAP, R.BUD_CTL_ADMCAP_EN,
    R.BUD_GQUOTA_QUOTA, R.BUD_CTL_COOL_SRC, R.BUD_ACT_SKIP_MAX, R.GRP_CTL_EXC_T, R.ORR_INJ_ARM]

/-- `t` is `s` but for registers that no trial reads. -/
structure State.TrialSame (s t : State) : Prop where
  form : t = { s with regs := t.regs }
  get : ∀ F ∈ trialFlds, ∀ i, t.get F i = s.get F i

theorem State.TrialSame.refl (s : State) : s.TrialSame s := ⟨rfl, fun _ _ _ => rfl⟩

theorem State.TrialSame.raiseIf {s t : State} (h : s.TrialSame t) (c : Bool) {G : Fld} (hG : ∀ F ∈ trialFlds, G.apart F) :
    s.TrialSame (t.raiseIf c G) := by
  unfold State.raiseIf
  split
  · exact ⟨by rw [h.form]; rfl, fun F hF i => (State.raise_get (hG F hF) t 0 i).trans (h.get F hF i)⟩
  · exact h

theorem State.TrialSame.scanSatShown {s t : State} (h : s.TrialSame t) (v : List (Int × Bool)) : s.TrialSame (t.scanSatShown v) :=
  h.raiseIf (G := R.ORR_FLT_SCANFLT) _ (by decide)

theorem State.TrialSame.budLat {s t : State} (h : s.TrialSame t) : t.budLat = s.budLat := by
  have hnow : t.budNow = s.budNow := by
    unfold State.budNow State.flag
    rw [h.get R.BUD_CCAP0_CCAP (by simp [trialFlds]), h.get R.BUD_CCAP0_MCAP (by simp [trialFlds]),
      h.get R.BUD_CCAP1_LCAP (by simp [trialFlds]), h.get R.BUD_DCAP_DCAP (by simp [trialFlds]),
      h.get R.BUD_CTL_ADMCAP_EN (by simp [trialFlds]), h.get R.BUD_CTL_COOL_SRC (by simp [trialFlds]),
      h.get R.BUD_ACT_SKIP_MAX (by simp [trialFlds]), h.get R.GRP_CTL_EXC_T (by simp [trialFlds])]
    simp only [h.get R.BUD_GQUOTA_QUOTA (by simp [trialFlds])]
  have hbud : t.bud = s.bud := by rw [h.form]
  rw [State.budLat, State.budLat, hnow, hbud]

theorem State.TrialSame.quotaOk {s t : State} (h : s.TrialSame t) : t.quotaOk = s.quotaOk := by
  funext g cu
  rw [State.quotaOk, State.quotaOk, h.budLat, h.get R.BUD_GCNT_COUNT (by simp [trialFlds])]

theorem State.TrialSame.stairAdd {s t : State} (h : s.TrialSame t) : t.stairAdd = s.stairAdd := by
  funext ps g k
  simp only [State.stairAdd, h.get R.GQ_QCTL_GAL (by simp [trialFlds])]

theorem State.TrialSame.stairQuota {s t : State} (h : s.TrialSame t) : t.stairQuota = s.stairQuota := by
  funext ps
  simp only [State.stairQuota, h.quotaOk, h.get R.GQ_QCTL_GAL (by simp [trialFlds])]

theorem State.TrialSame.capsAt {s t : State} (h : s.TrialSame t) : t.capsAt = s.capsAt := by
  have hlc : t.lc = s.lc := by rw [h.form]; rfl
  have hld : t.ld = s.ld := by rw [h.form]; rfl
  have hhb : t.holdback = s.holdback := by rw [h.form]; rfl
  have hhd : t.holdbackD = s.holdbackD := by rw [h.form]; rfl
  funext c dc k
  unfold State.capsAt State.classCap State.dieCap
  rw [h.budLat, hlc, hld, hhb, hhd]

theorem State.TrialSame.trialVec {s t : State} (h : s.TrialSame t) : t.trialVec = s.trialVec := by
  have hbook : t.bookAt = s.bookAt := by rw [h.form]; rfl
  have hdiff : t.ledgerDiff = s.ledgerDiff := by rw [h.form]; rfl
  funext d ps
  simp only [State.trialVec, h.stairAdd, hbook, hdiff]

theorem State.TrialSame.bk {s t : State} (h : s.TrialSame t) : t.bk = s.bk := by
  rw [h.form]
  rfl

theorem State.TrialSame.trialFits {s t : State} (h : s.TrialSame t) : t.trialFits = s.trialFits := by
  have hdev : t.dev = s.dev := by rw [h.form]
  have hled : t.ledger = s.ledger := by rw [h.form]; rfl
  have hcls : t.classOf = s.classOf := by rw [h.form]; rfl
  funext d ps v
  simp only [State.trialFits, h.stairQuota, h.stairAdd, h.capsAt, h.bk, hdev, hled, hcls]

theorem State.trial_eq (s : State) (d : Nat) (ps : Stair) : s.trial d ps = s.trialFits d ps (cleanPrefixes (s.trialVec d ps)) := rfl

/-! ### The three trials of a district (R208) -/

theorem State.takeTrial_books {s : State} {d : Nat} {st : Stair} {v : List Int} (h : s.trialFits d st v = true) (seen : Bool)
    (r : List (Stair × Option (List Int))) : s.takeTrial d true seen ((st, some v) :: r) = .inl st := by
  rw [State.takeTrial, h]
  rfl

/-- Where the zone has no room, staircases that fit else are refused with ZONE. -/
theorem State.takeTrial_noRoom {s : State} {d : Nat} (l : List (Stair × List Int))
    (h : ∀ x ∈ l, s.trialFits d x.1 x.2 = true) : s.takeTrial d false true (l.map fun x => (x.1, some x.2)) = .inr whyZone := by
  induction l with
  | nil => rfl
  | cons x r ih =>
    rw [List.map_cons, State.takeTrial, h x (List.mem_cons_self ..)]
    exact ih fun y hy => h y (List.mem_cons_of_mem _ hy)

/-- The staircase of one participant, and the ramps of the three trials. -/
def oneStair (q : Nat) (e : Ent) (t0 r : Nat) : Stair := [((q, e), t0 + min 63 (((fcDelta e.fc).toNat + r - 1) / r - 1))]
def State.ramps (s : State) : List Nat :=
  [s.get R.GQ_SUN_RAMP, max 1 (s.get R.GQ_SUN_RAMP / 2), max 1 (s.get R.GQ_SUN_RAMP / 4)]

/-- The grants of a staircase, each with its answer. -/
def State.bookStair (s : State) (b close d : Nat) (st : Stair) : State :=
  st.foldl (fun s p =>
    let (w, s) := s.granted d p.1.1 p.2 (fcDur p.1.2.fc) p.1.2.tref (fcDelta p.1.2.fc) p.1.2.fc stGranted
    s.answer b close p.1.1 w) s

/-- The end of Sunrise in a district, once the trials have been taken. -/
def State.sunriseEnd (s : State) (b close d left total : Nat) (ps : List (Nat × Ent)) : Sum Stair Nat → Nat × State
  | .inl st => (left - total, s.bookStair b close d st)
  | .inr why => (left, s.refuseAll b close why ps)

theorem State.sunriseEnd_books (s : State) (b close d left total q start : Nat) (e : Ent) (ps : List (Nat × Ent)) :
    (s.sunriseEnd b close d left total ps (.inl [((q, e), start)])).2 =
      (s.withGrant d (s.newGrant d q start (fcDur e.fc) (fcDelta e.fc) (fcClass e.fc) none)).answer b close q
        (rspWord stGranted 0 (fcSeq e.fc) (s.bk d).freeGid (start - e.tref)) := rfl

theorem State.sunriseEnd_refuses (s : State) (b close d left total q why : Nat) (e : Ent) :
    (s.sunriseEnd b close d left total [(q, e)] (.inr why)).2 = s.answer b close q (refuseWord e.fc why) := rfl

/-- The state behind the three trials of a staircase. -/
def State.trialsShown (s : State) (d q : Nat) (e : Ent) (t0 : Nat) : State :=
  s.ramps.foldl (fun u r => u.scanSatShown (s.trialVec d (oneStair q e t0 r))) (s.raiseIf (!s.stairQuota [(q, e)]) R.BUD_FLT_QUOTA)

theorem State.trialsShown_same (s : State) (d q : Nat) (e : Ent) (t0 : Nat) : s.TrialSame (s.trialsShown d q e t0) := by
  unfold State.trialsShown State.ramps
  simp only [List.foldl_cons, List.foldl_nil]
  exact ((((State.TrialSame.refl s).raiseIf (G := R.BUD_FLT_QUOTA) _ (by decide)).scanSatShown _).scanSatShown _).scanSatShown _

theorem State.OneTakesPart.sunriseDist_eq {s : State} {b d q : Nat} {e : Ent} (h : s.OneTakesPart b d q e)
    (ha : s.admits d = true) (hr : (s.bk d).grants.length < 1024) (hi : s.get R.ORR_INJ_ARM = 0) {ups : List ScanUp}
    (hu : ∀ u ∈ ups, u.delta = 0) (t0 close left : Nat) :
    s.sunriseDist ups b t0 close d (some [fcDelta e.fc]) left =
      (s.trialsShown d q e t0).sunriseEnd b close d left (fcDelta e.fc).toNat [(q, e)]
        ((s.trialsShown d q e t0).takeTrial d (decide ((fcDelta e.fc).toNat ≤ left)) true
          (s.ramps.map fun r => (oneStair q e t0 r, some (cleanPrefixes (s.trialVec d (oneStair q e t0 r)))))) := by
  have h0 := (State.TrialSame.refl s).raiseIf (!s.stairQuota [(q, e)]) (G := R.BUD_FLT_QUOTA) (by decide)
  have harm {u : State} (hu : s.TrialSame u) : u.get R.ORR_INJ_ARM = 0 := (hu.get _ (by simp [trialFlds]) 0).trans hi
  have hstair (r : Nat) : [(q, e)].zip ((offsets r [fcDelta e.fc]).map (t0 + ·)) = oneStair q e t0 r := rfl
  have hscan {u : State} (hu' : s.TrialSame u) (k r : Nat) : u.sunScan ups d k (u.trialVec d (oneStair q e t0 r)) =
      (some (cleanPrefixes (s.trialVec d (oneStair q e t0 r))), u.scanSatShown (s.trialVec d (oneStair q e t0 r))) := by
    rw [State.sunScan_clean (harm hu') hu, hu'.trialVec]
  simp only [State.sunriseDist, h.parts, ha, Bool.not_true, Bool.false_eq_true, if_false, List.length_singleton,
    if_neg (show ¬1024 < (s.bk d).grants.length + 1 by omega), hstair, hscan h0, hscan (h0.scanSatShown _),
    hscan ((h0.scanSatShown _).scanSatShown _)]
  simp only [State.trialsShown, State.ramps, List.foldl_cons, List.foldl_nil, List.map_cons, List.map_nil,
    show [fcDelta e.fc].getLastD 0 = fcDelta e.fc from rfl]
  split
  · next st hst => rw [hst]; rfl
  · next why hwhy => rw [hwhy]; rfl

/-! ### Sunrise with one participant (R208, R209, R210) -/

theorem State.OneTakesPart.of_same {s u : State} {b d q : Nat} {e : Ent} (h : s.OneTakesPart b d q e) (hc : u.cfg = s.cfg)
    (hq : u.queues = s.queues) : u.OneTakesPart b d q e := by
  have hp (k : Nat) : u.participants b k = s.participants b k := by unfold State.participants; rw [hq]
  refine ⟨hc ▸ h.district, h.queue, ?_, (hp d).trans h.parts, fun k hk hne => (hp k).trans (h.others k (hc ▸ hk) hne)⟩
  rw [State.q, hq]
  exact h.ents

theorem State.prefixScans_skip (s : State) (ups : List ScanUp) (b : Nat) {l : List Nat} (hl : ∀ k ∈ l, s.participants b k = [])
    (r : List Nat) : s.prefixScans ups b (l ++ r) = s.prefixScans ups b r := by
  induction l with
  | nil => rfl
  | cons k l ih =>
    rw [List.cons_append, State.prefixScans, hl k (List.mem_cons_self ..)]
    exact ih fun k hk => hl k (List.mem_cons_of_mem _ hk)

/-- One participant: the scan over its district gives its DELTA, and nothing saturates. -/
theorem State.OneTakesPart.prefixScans {s : State} {b d q : Nat} {e : Ent} (h : s.OneTakesPart b d q e)
    (hi : s.get R.ORR_INJ_ARM = 0) {ups : List ScanUp} (hu : ∀ u ∈ ups, u.delta = 0) :
    s.prefixScans ups b s.districts = ([(d, some [fcDelta e.fc])], s) := by
  obtain ⟨hpre, hsat⟩ := scan_single e.fc
  obtain ⟨l₁, l₂, hl⟩ := List.append_of_mem (List.mem_range.mpr h.district)
  obtain ⟨-, hn₂, hdisj⟩ := List.nodup_append.mp (hl ▸ List.nodup_range : (l₁ ++ d :: l₂).Nodup)
  have hlt {k : Nat} (hk : k ∈ l₁ ++ d :: l₂) : k < s.cfg.n := List.mem_range.mp (hl ▸ hk)
  have h₁ : ∀ k ∈ l₁, s.participants b k = [] := fun k hk =>
    h.others k (hlt (by simp [hk])) (hdisj k hk d (List.mem_cons_self ..))
  have h₂ : ∀ k ∈ l₂, s.participants b k = [] := fun k hk =>
    h.others k (hlt (by simp [hk])) fun he => (List.nodup_cons.mp hn₂).1 (he ▸ hk)
  have hscan : s.sunScan ups d 0 [(fcDelta e.fc, false)] = (some [fcDelta e.fc], s) := by
    rw [State.sunScan_clean hi hu, hpre, State.scanSatShown, hsat]
    rfl
  have hrest : s.prefixScans ups b l₂ = ([], s) := by
    simpa [State.prefixScans] using s.prefixScans_skip ups b h₂ []
  rw [State.districts, hl, s.prefixScans_skip ups b h₁, State.prefixScans, h.parts]
  simp only [List.map_cons, List.map_nil, List.isEmpty_cons, Bool.false_eq_true, if_false, hscan, hrest]

/-- T0 of a barrier that closed at an edge (R208, R210). -/
def State.tZero (s : State) (b : Nat) : Nat := max (Machine.slotAt ((s.bar b).closeEdge + 200)) (Machine.slotAt (s.adm.back + 60))

/-- A booked record. -/
def Barrier.book (t0 : Nat) (x : Barrier) : Barrier := { x with st := .booked, t0 := t0 }

/-- SUNRISE_SLOTTING of a closed barrier meets one participant, room in the books of its district, and scans that nothing
strikes. -/
structure State.SunriseDue (s : State) (b d q : Nat) (e : Ent) (ups : List ScanUp) : Prop extends s.OneTakesPart b d q e where
  record : b < 64
  closed : (s.bar b).st = .closed
  awake : s.devSt ≠ devDoze
  zone : s.zoneOf d < 4
  room : (s.bk d).grants.length < 1024
  unarmed : s.get R.ORR_INJ_ARM = 0
  clean : ∀ u ∈ ups, u.delta = 0

/-- What Sunrise makes of the district of the only participant. -/
def State.sunriseOne (s : State) (ups : List ScanUp) (b d : Nat) (e : Ent) : State :=
  (s.sunriseDist ups b (s.tZero b) (s.bar b).closeEdge d (some [fcDelta e.fc]) (s.zoneLeft b (s.zoneOf d))).2

theorem State.SunriseDue.effSunrise_eq {s : State} {b d q : Nat} {e : Ent} {ups : List ScanUp} (h : s.SunriseDue b d q e ups) :
    effSunrise s b ups = ((s.sunriseOne ups b d e).updBar b (Barrier.book (s.tZero b))).endLifts b (s.tZero b + 64) := by
  have hc : ((s.bar b).st == .closed && s.devSt != devDoze) = true := by simp [h.closed, h.awake]
  have hleft : ((List.range 4).map fun z => s.zoneLeft b z).getD (s.zoneOf d) 0 = s.zoneLeft b (s.zoneOf d) := by
    rw [List.getD_eq_getElem _ _ (by simpa using h.zone)]
    simp
  unfold effSunrise
  simp only [hc, if_true, h.prefixScans h.unarmed h.clean, State.sunriseAll, hleft]
  rfl

/-- What SUNRISE_SLOTTING answers, once it is known which word it sends. -/
theorem State.SunriseDue.sends {s v : State} {b d q : Nat} {e : Ent} {ups : List ScanUp} (h : s.SunriseDue b d q e ups)
    {w : BitVec 32} (hc : v.cfg = s.cfg) (hq : v.queues = s.queues)
    (hone : s.sunriseOne ups b d e = v.answer b (s.bar b).closeEdge q w) :
    ∃ t, exec (.sunriseSlotting b ups) s = .next t ∧ (t.bar b).st = .booked ∧ (t.bar b).t0 = s.tZero b ∧
      (t.q q).ents = [] ∧ (t.q q).out = (s.q q).out ++ e.wordsAt (s.bar b).closeEdge w ∧ t.book = v.book ∧ t.kept = s.kept := by
  have hv := h.toOneTakesPart.of_same hc hq
  have hans := State.answer_one hv.ents hv.takesPart (s.bar b).closeEdge w
  have heff := h.effSunrise_eq
  rw [hone] at heff
  generalize v.answer b (s.bar b).closeEdge q w = u at hans heff
  have hbar : (effSunrise s b ups).bar b = (u.bar b).book (s.tZero b) := by
    rw [heff]
    exact u.bar_updBar_self b _
  have hout : (v.q q).out = (s.q q).out := by rw [State.q, hq]; rfl
  refine ⟨_, onBar_next h.record _, by rw [hbar]; rfl, by rw [hbar]; rfl, ?_, ?_, ?_, effSunrise_kept ..⟩
  · rw [heff]
    exact hans.ents
  · rw [heff, ← hout]
    exact hans.out
  · rw [heff]
    exact hans.book

theorem State.SunriseDue.refusesState {s : State} {b d q : Nat} {e : Ent} {ups : List ScanUp} (h : s.SunriseDue b d q e ups)
    (ha : s.admits d = false) : s.sunriseOne ups b d e = s.answer b (s.bar b).closeEdge q (refuseWord e.fc whyState) := by
  unfold State.sunriseOne State.sunriseDist
  simp only [ha, Bool.not_false, if_true, h.parts, State.refuseAll_one]

theorem State.SunriseDue.trials_eq {s : State} {b d q : Nat} {e : Ent} {ups : List ScanUp} (h : s.SunriseDue b d q e ups)
    (ha : s.admits d = true) :
    s.sunriseOne ups b d e =
      ((s.trialsShown d q e (s.tZero b)).sunriseEnd b (s.bar b).closeEdge d (s.zoneLeft b (s.zoneOf d)) (fcDelta e.fc).toNat
        [(q, e)] ((s.trialsShown d q e (s.tZero b)).takeTrial d (decide ((fcDelta e.fc).toNat ≤ s.zoneLeft b (s.zoneOf d))) true
          (s.ramps.map fun r => (oneStair q e (s.tZero b) r,
            some (cleanPrefixes (s.trialVec d (oneStair q e (s.tZero b) r))))))).2 :=
  congrArg Prod.snd (h.sunriseDist_eq ha h.room h.unarmed h.clean ..)

/-- A staircase that passes its trial on the books as they stand passes it behind the scans. -/
theorem State.trialsShown_fits {s : State} {d q : Nat} {e : Ent} {t0 r : Nat} (h : s.trial d (oneStair q e t0 r) = true) :
    (s.trialsShown d q e t0).trialFits d (oneStair q e t0 r) (cleanPrefixes (s.trialVec d (oneStair q e t0 r))) = true := by
  rwa [(s.trialsShown_same d q e t0).trialFits, ← State.trial_eq]

theorem State.SunriseDue.books {s : State} {b d q : Nat} {e : Ent} {ups : List ScanUp} (h : s.SunriseDue b d q e ups)
    (ha : s.admits d = true) {start : Nat} (hs : oneStair q e (s.tZero b) (s.get R.GQ_SUN_RAMP) = [((q, e), start)])
    (ht : s.trial d [((q, e), start)] = true) (hz : (fcDelta e.fc).toNat ≤ s.zoneLeft b (s.zoneOf d)) :
    s.sunriseOne ups b d e =
      ((s.trialsShown d q e (s.tZero b)).withGrant d ((s.trialsShown d q e (s.tZero b)).newGrant d q start (fcDur e.fc)
        (fcDelta e.fc) (fcClass e.fc) none)).answer b (s.bar b).closeEdge q
        (rspWord stGranted 0 (fcSeq e.fc) (s.bk d).freeGid (start - e.tref)) := by
  have hfit := State.trialsShown_fits (hs ▸ ht)
  rw [h.trials_eq ha, decide_eq_true hz, State.ramps, List.map_cons, State.takeTrial_books hfit, hs, State.sunriseEnd_books,
    (s.trialsShown_same ..).bk]

theorem State.SunriseDue.refusesZone {s : State} {b d q : Nat} {e : Ent} {ups : List ScanUp} (h : s.SunriseDue b d q e ups)
    (ha : s.admits d = true) (ht : ∀ r ∈ s.ramps, s.trial d (oneStair q e (s.tZero b) r) = true)
    (hz : s.zoneLeft b (s.zoneOf d) < (fcDelta e.fc).toNat) :
    s.sunriseOne ups b d e =
      (s.trialsShown d q e (s.tZero b)).answer b (s.bar b).closeEdge q (refuseWord e.fc whyZone) := by
  have hno := State.takeTrial_noRoom (s := s.trialsShown d q e (s.tZero b)) (d := d)
    (s.ramps.map fun r => (oneStair q e (s.tZero b) r, cleanPrefixes (s.trialVec d (oneStair q e (s.tZero b) r)))) (by
      simp only [List.mem_map]
      rintro _ ⟨r, hr, rfl⟩
      exact State.trialsShown_fits (ht r hr))
  rw [List.map_map, Function.comp_def] at hno
  rw [h.trials_eq ha, decide_eq_false (Nat.not_le.mpr hz), hno, State.sunriseEnd_refuses]

end Sys2Proof.Machine

namespace Sys2Proof.Machine

/-! ### SUNRISE_SLOTTING answers -/

theorem sunriseSlotting_refusesState {s : State} {b d q : Nat} {e : Ent} {ups : List ScanUp} (h : s.SunriseDue b d q e ups)
    (ha : s.admits d = false) :
    ∃ t, exec (.sunriseSlotting b ups) s = .next t ∧ (t.bar b).st = .booked ∧ (t.q q).ents = [] ∧
      (t.q q).out = (s.q q).out ++ e.wordsAt (s.bar b).closeEdge (refuseWord e.fc whyState) ∧ t.book = s.book ∧
      t.kept = s.kept := by
  obtain ⟨t, hex, hst, -, hents, hout, hbook, hkept⟩ := h.sends rfl rfl (h.refusesState ha)
  exact ⟨t, hex, hst, hents, hout, hbook, hkept⟩

theorem sunriseSlotting_refusesZone {s : State} {b d q : Nat} {e : Ent} {ups : List ScanUp} (h : s.SunriseDue b d q e ups)
    (ha : s.admits d = true) (ht : ∀ r ∈ s.ramps, s.trial d (oneStair q e (s.tZero b) r) = true)
    (hz : s.zoneLeft b (s.zoneOf d) < (fcDelta e.fc).toNat) :
    ∃ t, exec (.sunriseSlotting b ups) s = .next t ∧ (t.bar b).st = .booked ∧ (t.q q).ents = [] ∧
      (t.q q).out = (s.q q).out ++ e.wordsAt (s.bar b).closeEdge (refuseWord e.fc whyZone) ∧ t.book = s.book ∧
      t.kept = s.kept := by
  have hsame := s.trialsShown_same d q e (s.tZero b)
  obtain ⟨t, hex, hst, -, hents, hout, hbook, hkept⟩ :=
    h.sends (by rw [hsame.form]) (by rw [hsame.form]) (h.refusesZone ha ht hz)
  exact ⟨t, hex, hst, hents, hout, hbook.trans (by rw [hsame.form]), hkept⟩

theorem sunriseSlotting_books {s : State} {b d q : Nat} {e : Ent} {ups : List ScanUp} (h : s.SunriseDue b d q e ups)
    (ha : s.admits d = true) {start : Nat} (hs : oneStair q e (s.tZero b) (s.get R.GQ_SUN_RAMP) = [((q, e), start)])
    (ht : s.trial d [((q, e), start)] = true) (hz : (fcDelta e.fc).toNat ≤ s.zoneLeft b (s.zoneOf d)) :
    ∃ t g, exec (.sunriseSlotting b ups) s = .next t ∧ (t.bar b).st = .booked ∧ (t.bar b).t0 = s.tZero b ∧
      (t.q q).ents = [] ∧ (t.q q).out = (s.q q).out ++ e.wordsAt (s.bar b).closeEdge
        (rspWord stGranted 0 (fcSeq e.fc) (s.bk d).freeGid (start - e.tref)) ∧
      (t.bk d).grants = (s.bk d).grants ++ [g] ∧ g.start = start ∧ g.dur = fcDur e.fc ∧ g.d = fcDelta e.fc ∧ g.queue = q ∧
      t.kept = s.kept := by
  have hsame := s.trialsShown_same d q e (s.tZero b)
  have hone := h.books ha hs ht hz
  generalize s.trialsShown d q e (s.tZero b) = u at hsame hone
  obtain ⟨t, hex, hst, ht0, hents, hout, hbook, hkept⟩ := h.sends (by rw [hsame.form]; rfl) (by rw [hsame.form]; rfl) hone
  refine ⟨t, u.newGrant d q start (fcDur e.fc) (fcDelta e.fc) (fcClass e.fc) none, hex, hst, ht0, hents, hout, ?_, rfl,
    rfl, rfl, rfl, hkept⟩
  rw [State.bk, hbook]
  refine (congrArg BookS.grants (u.withGrant_bk _ _)).trans ?_
  rw [hsame.bk]
  rfl

/-- Settles O54: each command by its own lemmas. With one participant the scans of Sunrise leave everything that its trials read,
so that the trials may be taken on the books as they stand. -/
theorem forecastsAreRegisteredScannedAndSlotted : Obligations.ForecastsAreRegisteredScannedAndSlotted := by
  refine ⟨fun s q f e => forecastPost_noCredit f e, fun s q f e => forecastPost_registers f e,
    fun s q => admissionIssue_outOfTurn, fun s q p => admissionIssue_issues,
    fun s q k delta e hq h => ⟨scanComplete_passes hq h k, scanComplete_fails hq h k delta⟩,
    ?_, fun s b => barrierTimeout_early, ?_⟩
  · intro s b d q e hb hst hz hd hqd hzone hents hparts hothers hroom harm ups t0 off hups ht0 hoff
    have h : s.SunriseDue b d q e ups := ⟨⟨hd, hqd, hents, hparts, hothers⟩, hb, hst, hz, hzone, hroom, harm, hups⟩
    subst ht0
    have hstair (r : Nat) : oneStair q e (s.tZero b) r = [((q, e), off r)] := by rw [hoff]; rfl
    refine ⟨sunriseSlotting_refusesState h, fun ha ht => ?_, fun ha ht => ?_⟩
    · exact sunriseSlotting_books h ha (hstair _) ht
    · exact sunriseSlotting_refusesZone h ha fun r hr => (hstair r).symm ▸ ht r hr
  · intro s b d q e hb hst hdue hd hqd hents hparts hothers
    exact barrierTimeout_refuses hb hst hdue ⟨hd, hqd, hents, hparts, hothers⟩

end Sys2Proof.Machine

namespace Sys2Proof.Machine

/-! ### Excursions of group mode (R264) -/

theorem State.irqAll_bud (s : State) (b p : Nat) : (s.irqAll b p).bud = s.bud := by
  refine State.each_const State.bud s _ _ fun t g => ?_
  split
  · unfold State.irq State.ibiCheck
    dsimp only
    split
    · rfl
    · split <;> rfl
  · rfl

theorem State.arcOnly.bud {s t : State} (h : s.arcOnly t) : t.bud = s.bud := by
  obtain ⟨r, a, rfl⟩ := h
  rfl

/-- The registers in which an excursion shows. -/
def State.excursionShown (s : State) : State :=
  ((s.set R.GRP_STAT_EXC 0 1).raise R.GRP_FLT_GEXC).inc R.GRP_CNT_EXCURSIONS

/-- An excursion with its record in the Archive and its interrupt. -/
def State.excursionTold (s : State) : State :=
  (s.excursionShown.event 0x0008 (s.excursionShown.get R.GRP_STAT_RESID)).irqAll 2 0x0E

/-- The record and the interrupt leave the fields in which the excursion shows. -/
theorem State.excursionTold_get {F : Fld} (hi : R.GAL_ISTAT_IRQ.apart F) (hs : F.apartAll stageFlds) (s : State) (i : Nat) :
    s.excursionTold.get F i = s.excursionShown.get F i :=
  (State.irqAll_get hi _ _ _ _).trans (State.stage_get hs _ _ _ _)

theorem State.excursionTold_bud (s : State) : s.excursionTold.bud = s.bud :=
  (State.irqAll_bud _ _ _).trans (State.stage_arcOnly s.excursionShown _ _).bud

theorem effExcursion_begins {s : State} (hg : s.bud.gmode = true) (he : s.get R.GRP_STAT_EXC = 0)
    (hn : s.budLat.excT ≤ s.bud.excOn) :
    effExcursion s = { s.excursionTold with bud := { s.bud with excEpoch := true } } := by
  have hf : s.flag R.GRP_STAT_EXC = false := by rw [State.flag, he]; rfl
  rw [← State.excursionTold_bud]
  exact if_pos (by rw [hg, hf, decide_eq_true hn]; rfl)

theorem groupExcursion_early {s : State} (h : s.bud.excOn < s.budLat.excT) : exec .groupExcursion s = .next s :=
  congrArg Host.Outcome.next (if_neg (by simp [h]))

theorem groupExcursion_begins {s : State} (hg : s.bud.gmode = true) (he : s.get R.GRP_STAT_EXC = 0)
    (hn : s.budLat.excT ≤ s.bud.excOn) :
    ∃ t, exec .groupExcursion s = .next t ∧ t.get R.GRP_STAT_EXC = 1 ∧ t.get R.GRP_FLT_GEXC = 1 ∧
      t.get R.GRP_CNT_EXCURSIONS = satU 16 (s.get R.GRP_CNT_EXCURSIONS + 1) ∧
      t.bud = { s.bud with excEpoch := true } ∧ t.kept = s.kept := by
  have heff := effExcursion_begins hg he hn
  refine ⟨_, congrArg Host.Outcome.next heff, ?_, ?_, ?_, rfl, heff ▸ effExcursion_kept s⟩
  · rw [State.get_with s.excursionTold, State.excursionTold_get (by decide) (by decide), State.excursionShown,
      State.inc_get (by decide), State.raise_get (by decide), State.get_set_self _ _ _ _ (by decide)]
    rfl
  · rw [State.get_with s.excursionTold, State.excursionTold_get (by decide) (by decide), State.excursionShown,
      State.inc_get (by decide), State.get_raise_self _ _ _ (by decide) (by decide)]
  · rw [State.get_with s.excursionTold, State.excursionTold_get (by decide) (by decide), State.excursionShown,
      State.get_inc_self _ _ _ (by decide), State.raise_get (by decide), State.get_set_apart (by decide)]
    rfl

theorem groupExcursionEnd_early {s : State} (h : s.bud.excOff < s.budLat.excT) : exec .groupExcursionEnd s = .next s :=
  congrArg Host.Outcome.next (if_neg (by simp [h]))

theorem groupExcursionEnd_ends {s : State} (he : s.get R.GRP_STAT_EXC = 1) (hn : s.budLat.excT ≤ s.bud.excOff) :
    ∃ t, exec .groupExcursionEnd s = .next t ∧ t.get R.GRP_STAT_EXC = 0 ∧ s.only t [R.GRP_STAT_EXC.key 0] := by
  have hf : s.flag R.GRP_STAT_EXC = true := by rw [State.flag, he]; rfl
  refine ⟨s.set R.GRP_STAT_EXC 0 0, congrArg Host.Outcome.next (if_pos (by rw [hf, decide_eq_true hn]; rfl)),
    State.get_set_self _ _ _ _ (by decide), rfl, ?_⟩
  exact State.framed_set _ _ _ _ _ _ (s.framed_refl _) (List.mem_singleton_self _)

theorem budCntClr_clears (s : State) (g : Gal) (hp : s.rowPasses g R.BUD_CTL_CNT_CLR 0 1) :
    ∃ t, exec (.budCntClr g) s = .next t ∧ t.get R.GRP_CNT_EXCURSIONS = 0 ∧ t.get R.GRP_CNT_NTF = 0 ∧
      (s.okRsp g).only t [R.GRP_CNT_EXCURSIONS.key 0] := by
  refine ⟨_, congrArg Host.Outcome.next (s.hostRow_passes g _ _ _ _ hp), ?_, ?_, rfl, ?_⟩
  · rw [State.respond_get, effBudClr, State.get_set_apart (by decide), State.get_set_self _ _ _ _ (by decide)]
    rfl
  · rw [State.respond_get, effBudClr, State.get_set_self _ _ _ _ (by decide)]
    rfl
  · have hexc := State.framed_set (s.okRsp g) s.newAccess _ R.GRP_CNT_EXCURSIONS 0 0 (State.framed_refl _ _)
      (List.mem_singleton_self _)
    exact State.framed_set _ _ _ R.GRP_CNT_NTF 0 0 hexc (List.mem_singleton_self _)

end Sys2Proof.Machine

namespace Sys2Proof.Machine

/-! ### Gallery shares (R260) -/

/-- The shares of galleries 1 to 4 as BUD_SHR0 holds them. -/
def State.shr0Held (s : State) : List Nat :=
  [s.get R.BUD_SHR0_SH1, s.get R.BUD_SHR0_SH2, s.get R.BUD_SHR0_SH3, s.get R.BUD_SHR0_SH4]

/-- The shares of galleries 1 to 4 that a word carries for BUD_SHR0. -/
def shr0Of (w : Word) : List Nat := [bitsOf w 0 8, bitsOf w 8 8, bitsOf w 16 8, bitsOf w 24 8]

/-- The shares of galleries 1 to 7 with those that a word carries for BUD_SHR0. -/
def State.shr0With (s : State) (w : Word) : List Nat := shr0Of w ++ s.sharesHeld.drop 5

/-- Their sum. -/
def State.shr0Sum (s : State) (w : Word) : Nat := (s.shr0With w).foldl (· + ·) 0

theorem State.shr0Sum_eq (s : State) (w : Word) :
    s.shr0Sum w = bitsOf w 0 8 + bitsOf w 8 8 + bitsOf w 16 8 + bitsOf w 24 8 + s.get R.BUD_SHR1_SH5 +
      s.get R.BUD_SHR1_SH6 + s.get R.BUD_SHR1_SH7 := by
  refine Eq.trans ?_ (congrArg (· + _ + _ + _ + _ + _ + _) (Nat.zero_add (bitsOf w 0 8)))
  rfl

/-- All shares, gallery 0 first, with those that a word carries for BUD_SHR0. -/
def State.shr0All (s : State) (w : Word) : List Nat := (256 - s.shr0Sum w) :: s.shr0With w

theorem State.newAccess_shr0Sum (s : State) (w : Word) : s.newAccess.shr0Sum w = s.shr0Sum w := rfl

theorem State.newAccess_shr0All (s : State) (w : Word) : s.newAccess.shr0All w = s.shr0All w := rfl

/-- The budget with shares that wait for the next epoch, or behind the change that waits. -/
def State.budHolding (s : State) (all : List Nat) : BudS :=
  if s.get R.BUD_SHR2_PEND = 0 then { s.bud with pend := some all } else { s.bud with heldW := some all }

/-- The word changes a share only where it differs from BUD_SHR0. -/
theorem State.shr0With_same (s : State) (w : Word) : s.shr0With w = s.sharesHeld.drop 1 ↔ shr0Of w = s.shr0Held :=
  List.append_left_inj (s₂ := s.shr0Held) (s.sharesHeld.drop 5)

/-- The shares of a word stand in BUD_SHR0, and the remainder of gallery 0 in BUD_SHR2. -/
def State.shr0Set (s : State) (w : Word) : State :=
  ((((s.set R.BUD_SHR2_SH0 0 (256 - s.shr0Sum w)).set R.BUD_SHR0_SH1 0 (bitsOf w 0 8)).set R.BUD_SHR0_SH2 0
    (bitsOf w 8 8)).set R.BUD_SHR0_SH3 0 (bitsOf w 16 8)).set R.BUD_SHR0_SH4 0 (bitsOf w 24 8)

/-- The fields so written. -/
def shr0Flds : List Fld := [R.BUD_SHR2_SH0, R.BUD_SHR0_SH1, R.BUD_SHR0_SH2, R.BUD_SHR0_SH3, R.BUD_SHR0_SH4]

theorem State.shr0Set_get {F : Fld} (h : F.apartAll shr0Flds) (s : State) (w : Word) (i : Nat) :
    (s.shr0Set w).get F i = s.get F i := by
  simp only [shr0Flds, Fld.apartAll, List.forall_mem_cons] at h
  obtain ⟨h0, h1, h2, h3, h4, -⟩ := h
  rw [State.shr0Set, State.get_set_apart h4, State.get_set_apart h3, State.get_set_apart h2, State.get_set_apart h1,
    State.get_set_apart h0]

theorem State.shr0Set_framed (s : State) (w : Word) : s.framed (s.shr0Set w) [R.BUD_SHR0_SH1.key 0, R.BUD_SHR2_SH0.key 0] := by
  unfold State.shr0Set
  iterate 5 refine State.framed_set _ _ _ _ _ _ ?_ (by decide)
  exact s.framed_refl _

/-- The shares that a word carries for BUD_SHR0 show, with the remainder of gallery 0. -/
structure State.ShowsShr0 (t : State) (w : Word) (rem : Nat) : Prop where
  sh1 : t.get R.BUD_SHR0_SH1 = bitsOf w 0 8
  sh2 : t.get R.BUD_SHR0_SH2 = bitsOf w 8 8
  sh3 : t.get R.BUD_SHR0_SH3 = bitsOf w 16 8
  sh4 : t.get R.BUD_SHR0_SH4 = bitsOf w 24 8
  sh0 : t.get R.BUD_SHR2_SH0 = rem

theorem State.shr0Set_shows (s : State) (w : Word) : (s.shr0Set w).ShowsShr0 w (256 - s.shr0Sum w) where
  sh1 := by
    rw [State.shr0Set, State.get_set_apart (by decide), State.get_set_apart (by decide), State.get_set_apart (by decide),
      State.get_set_self _ _ _ _ (by decide)]
    exact Nat.mod_mod _ _
  sh2 := by
    rw [State.shr0Set, State.get_set_apart (by decide), State.get_set_apart (by decide),
      State.get_set_self _ _ _ _ (by decide)]
    exact Nat.mod_mod _ _
  sh3 := by
    rw [State.shr0Set, State.get_set_apart (by decide), State.get_set_self _ _ _ _ (by decide)]
    exact Nat.mod_mod _ _
  sh4 := by
    rw [State.shr0Set, State.get_set_self _ _ _ _ (by decide)]
    exact Nat.mod_mod _ _
  sh0 := by
    rw [State.shr0Set, State.get_set_apart (by decide), State.get_set_apart (by decide), State.get_set_apart (by decide),
      State.get_set_apart (by decide), State.get_set_self _ _ _ _ (by decide)]
    exact Nat.mod_eq_of_lt (show 256 - s.shr0Sum w < 512 by omega)

/-- The mark of a change that waits leaves them. -/
theorem State.ShowsShr0.pending {t : State} {w : Word} {rem : Nat} (h : t.ShowsShr0 w rem) :
    (t.set R.BUD_SHR2_PEND 0 1).ShowsShr0 w rem where
  sh1 := (State.get_set_apart (by decide) _ _ _ _).trans h.sh1
  sh2 := (State.get_set_apart (by decide) _ _ _ _).trans h.sh2
  sh3 := (State.get_set_apart (by decide) _ _ _ _).trans h.sh3
  sh4 := (State.get_set_apart (by decide) _ _ _ _).trans h.sh4
  sh0 := (State.get_set_apart (by decide) _ _ _ _).trans h.sh0

theorem effShare_over {s : State} {w : Word} (h : 256 < s.shr0Sum w) : effShare s 0 w = s.raise R.BUD_FLT_SHRBAD := if_pos h

/-- The registers after a change of BUD_SHR0: PEND marks it, unless it stands for a change that waits already. -/
def State.shr0Pending (s : State) (w : Word) : State :=
  if s.get R.BUD_SHR2_PEND = 0 then (s.shr0Set w).set R.BUD_SHR2_PEND 0 1 else s.shr0Set w

theorem State.shr0Pending_form (s : State) (w : Word) : s.shr0Pending w = { s with regs := (s.shr0Pending w).regs } := by
  unfold State.shr0Pending
  split <;> rfl

theorem State.shr0Pending_shows (s : State) (w : Word) : (s.shr0Pending w).ShowsShr0 w (256 - s.shr0Sum w) := by
  unfold State.shr0Pending
  split
  · exact (s.shr0Set_shows w).pending
  · exact s.shr0Set_shows w

theorem State.shr0Pending_pend (s : State) (w : Word) : (s.shr0Pending w).get R.BUD_SHR2_PEND = 1 := by
  unfold State.shr0Pending
  split
  · exact State.get_set_self _ _ _ _ (by decide)
  · have hlt : s.get R.BUD_SHR2_PEND < 2 := Nat.mod_lt _ (by decide)
    rw [State.shr0Set_get (by decide)]
    omega

theorem State.shr0Pending_framed (s : State) (w : Word) :
    s.framed (s.shr0Pending w) [R.BUD_SHR0_SH1.key 0, R.BUD_SHR2_SH0.key 0] := by
  unfold State.shr0Pending
  split
  · exact State.framed_set _ _ _ R.BUD_SHR2_PEND 0 1 (s.shr0Set_framed w) (by decide)
  · exact s.shr0Set_framed w

theorem effShare_changes {s : State} {w : Word} (hs : s.shr0Sum w ≤ 256) (hw : shr0Of w ≠ s.shr0Held) :
    effShare s 0 w = { s.shr0Pending w with bud := s.budHolding (s.shr0All w) } := by
  have hpend : (s.shr0Set w).flag R.BUD_SHR2_PEND = (s.get R.BUD_SHR2_PEND != 0) := by
    rw [State.flag, State.shr0Set_get (by decide)]
  have heff : effShare s 0 w = if (s.shr0Set w).flag R.BUD_SHR2_PEND then
        { s.shr0Set w with bud := { s.bud with heldW := some (s.shr0All w) } }
      else { (s.shr0Set w).set R.BUD_SHR2_PEND 0 1 with bud := { s.bud with pend := some (s.shr0All w) } } :=
    (if_neg (Nat.not_lt.mpr hs)).trans (if_neg fun h => hw ((s.shr0With_same w).mp h))
  rw [heff, hpend, State.shr0Pending, State.budHolding]
  by_cases hp : s.get R.BUD_SHR2_PEND = 0
  · rw [if_neg (by simp [hp]), if_pos hp, if_pos hp]
  · rw [if_pos (by simp [hp]), if_neg hp, if_neg hp]

theorem shareWrite_next {s : State} {g : Gal} {w : Word} (h : s.passes g R.BUD_SHR0_SH1.base w) :
    exec (.shareWrite g 0 w) s = .next ((s.newAccess.ifPriv g 0x0D (effShare · 0 w)).respond g .ok 0) :=
  congrArg Host.Outcome.next (s.hostWrite_passes g _ w _ h)

theorem shareWrite_unprivileged {s : State} {g : Gal} {w : Word} (h : s.passes g R.BUD_SHR0_SH1.base w)
    (hp : s.priv g 0xD = false) : exec (.shareWrite g 0 w) s = .next (s.okRsp g) := by
  rw [shareWrite_next h, State.ifPriv, if_neg (by rw [show s.newAccess.priv g 0xD = false from hp]; decide)]
  rfl

theorem shareWrite_privileged {s : State} {g : Gal} {w : Word} (h : s.passes g R.BUD_SHR0_SH1.base w)
    (hp : s.priv g 0xD = true) : exec (.shareWrite g 0 w) s = .next ((effShare s.newAccess 0 w).respond g .ok 0) :=
  (shareWrite_next h).trans (congrArg (fun t : State => Host.Outcome.next (t.respond g .ok 0)) (if_pos hp))

theorem shareWrite_rejects {s : State} {g : Gal} {w : Word} (h : s.passes g R.BUD_SHR0_SH1.base w)
    (hp : s.priv g 0xD = true) (hs : 256 < s.shr0Sum w) :
    ∃ t, exec (.shareWrite g 0 w) s = .next t ∧ t.get R.BUD_FLT_SHRBAD = 1 ∧ (s.okRsp g).only t [R.BUD_FLT_SHRBAD.key 0] := by
  have hex := shareWrite_privileged h hp
  rw [effShare_over (s := s.newAccess) hs] at hex
  refine ⟨_, hex, State.get_raise_self _ _ _ (by decide) (by decide), rfl, ?_⟩
  exact State.framed_set _ (s.okRsp g) _ _ _ _ (State.framed_refl _ _) (List.mem_singleton_self _)

theorem shareWrite_holds {s : State} {g : Gal} {w : Word} (h : s.passes g R.BUD_SHR0_SH1.base w)
    (hp : s.priv g 0xD = true) (hs : s.shr0Sum w ≤ 256) (hw : shr0Of w ≠ s.shr0Held) :
    ∃ t, exec (.shareWrite g 0 w) s = .next t ∧ t.ShowsShr0 w (256 - s.shr0Sum w) ∧ t.get R.BUD_SHR2_PEND = 1 ∧
      t = { s.okRsp g with regs := t.regs, bud := s.budHolding (s.shr0All w) } ∧
      s.framed t [R.BUD_SHR0_SH1.key 0, R.BUD_SHR2_SH0.key 0] := by
  have hex := shareWrite_privileged h hp
  rw [effShare_changes (s := s.newAccess) hs hw, State.shr0Pending_form, State.newAccess_shr0All] at hex
  obtain ⟨h1, h2, h3, h4, h0⟩ := s.newAccess.shr0Pending_shows w
  exact ⟨_, hex, ⟨h1, h2, h3, h4, h0⟩, s.newAccess.shr0Pending_pend w, rfl, s.newAccess.shr0Pending_framed w⟩

theorem shareWrite_beyond {j : Nat} (h : 2 ≤ j) (s : State) (g : Gal) (w : Word) : exec (.shareWrite g j w) s = .next s :=
  congrArg Host.Outcome.next (if_neg (Nat.not_lt.mpr h))

end Sys2Proof.Machine

namespace Sys2Proof.Machine

/-! ### The coolant latch (R268, R269) -/

/-- COOLANT_OK is seen low. -/
def State.coolantLow (s : State) : State :=
  { s with bud := { s.bud with coolPin := false }, flt := { s.flt with relOk := s.flt.relOk.erase clsCoolant } }

/-- The registers in which a loss of coolant shows, COOLANT_OK seen low. -/
def State.coolantShown (s : State) : State := (s.coolantLow.raise R.GRP_STAT_COOLLOSS).raise R.BUD_FLT_COOL

theorem State.coolantShown_framed (s : State) :
    s.framed s.coolantShown [R.GRP_STAT_COOLLOSS.key 0, R.BUD_FLT_COOL.key 0] := by
  have hlatch := State.framed_set s s.coolantLow [R.GRP_STAT_COOLLOSS.key 0, R.BUD_FLT_COOL.key 0] R.GRP_STAT_COOLLOSS 0 1
    (s.framed_refl _) (by decide)
  exact State.framed_set _ _ _ R.BUD_FLT_COOL 0 1 hlatch (by decide)

theorem coolantLoss_latches {s : State} (hp : s.coolPinSel = true) (hr : s.dev.released = true)
    (hm : (srcOf 8 0, clsCoolant) ∉ s.flt.masked) :
    ∃ t, exec .coolantLoss s = .next t ∧ t.get R.GRP_STAT_COOLLOSS = 1 ∧ t.get R.BUD_FLT_COOL = 1 ∧
      t = { s with regs := t.regs, bud := { s.bud with coolPin := false }, flt := { s.flt with
        relOk := s.flt.relOk.erase clsCoolant,
        lines := s.flt.lines ++ [{ cls := clsCoolant, cause := 0, src := srcOf 8 0 }] } } ∧
      s.framed t [R.GRP_STAT_COOLLOSS.key 0, R.BUD_FLT_COOL.key 0] := by
  have hsel : (s.coolPinSel && s.dev.released) = true := by rw [hp, hr]; rfl
  have heff : effCoolant s = s.coolantShown.report clsCoolant 0 (srcOf 8 0) := if_pos hsel
  refine ⟨_, congrArg Host.Outcome.next heff, ?_, ?_, ?_, ?_⟩
  · rw [State.report_get, State.coolantShown, State.raise_get (by decide), State.get_raise_self _ _ _ (by decide) (by decide)]
  · rw [State.report_get, State.coolantShown, State.get_raise_self _ _ _ (by decide) (by decide)]
  · rw [State.report, if_neg (show _ ∉ s.coolantShown.flt.masked from hm)]
    rfl
  · exact State.framed_congr _ _ _ _ s.coolantShown_framed (State.report_regs _ _ _ _)

theorem coolantLoss_unselected {s : State} (h : s.coolPinSel = false) : exec .coolantLoss s = .next s.coolantLow := by
  have hsel : ¬(s.coolPinSel && s.dev.released) = true := by simp [h]
  exact congrArg Host.Outcome.next (if_neg hsel)

theorem State.clearOff_stands (s : State) (c : Nat) : (s.clearOff c).stands c = false := by
  unfold State.clearOff
  split
  · exact State.testBit_clearBit s R.FLT_CAUSE_CAUSE 0 c (by decide)
  · next h => exact Bool.eq_false_iff.mpr h

theorem State.clearOff_get {F : Fld} (h : R.FLT_CAUSE_CAUSE.apart F) (s : State) (c i : Nat) :
    (s.clearOff c).get F i = s.get F i := by
  unfold State.clearOff
  split
  · exact State.clearBit_get h _ _ _ _
  · rfl

theorem State.clearOff_bud (s : State) (c : Nat) : (s.clearOff c).bud = s.bud := by
  unfold State.clearOff State.clearCause State.clearBit
  split
  · split <;> rfl
  · rfl

/-- Outside SAFE_OFF the device waits for no cause of the OFF reaction to clear. -/
theorem State.offCheck_of_ne {s : State} (h : s.devSt ≠ devOff) : s.offCheck = s := if_neg (by simp [h])

/-- The level of COOLANT_OK is seen. -/
def State.coolSeen (s : State) (pinHigh : Bool) : State := { s with bud := { s.bud with coolPin := pinHigh } }

/-- The latch is cleared, and with it the cause of a loss that was not injected. -/
def State.coolCleared (s : State) : State :=
  if clsCoolant ∈ s.flt.injected then s.set R.GRP_STAT_COOLLOSS 0 0
  else (s.set R.GRP_STAT_COOLLOSS 0 0).clearOff clsCoolant

theorem State.coolCleared_get {F : Fld} (h : R.FLT_CAUSE_CAUSE.apart F) (s : State) (i : Nat) :
    s.coolCleared.get F i = (s.set R.GRP_STAT_COOLLOSS 0 0).get F i := by
  unfold State.coolCleared
  split
  · rfl
  · exact State.clearOff_get h _ _ _

theorem State.coolCleared_bud (s : State) : s.coolCleared.bud = s.bud := by
  unfold State.coolCleared
  split
  · rfl
  · exact State.clearOff_bud _ _

/-- The cause of an injected loss stands as it stood (R417). -/
theorem State.coolCleared_stands (s : State) :
    s.coolCleared.stands clsCoolant = (s.stands clsCoolant && decide (clsCoolant ∈ s.flt.injected)) := by
  unfold State.coolCleared
  split
  · next h =>
    rw [decide_eq_true h, Bool.and_true, State.stands, State.get_set_apart (by decide), State.stands]
  · next h => rw [State.clearOff_stands, decide_eq_false h, Bool.and_false]

theorem effCoolClear_low {s : State} (hp : s.coolPinSel = true) : effCoolClear s false = s.coolSeen false := by
  have hsel : ¬((!s.coolPinSel || false) && (!s.coolAlertSel || s.alertGood)) = true := by simp [hp]
  exact if_neg hsel

theorem effCoolClear_clears {s : State} (hd : s.devSt ≠ devOff) (ha : s.coolAlertSel = false ∨ s.alertGood = true) :
    effCoolClear s true = (s.coolSeen true).coolCleared := by
  have hgood : ((!s.coolPinSel || true) && (!s.coolAlertSel || s.alertGood)) = true := by
    rcases ha with ha | ha <;> simp [ha]
  have hdev : (s.coolSeen true).coolCleared.devSt ≠ devOff := by
    rw [State.devSt, State.coolCleared_get (by decide), State.get_set_apart (by decide)]
    exact hd
  rw [← State.offCheck_of_ne hdev]
  simp only [State.coolCleared, ← List.contains_iff_mem]
  exact if_pos hgood

theorem coollossClear_low {s : State} {g : Gal} (h : s.rowPasses g R.GRP_STAT_COOLLOSS 0 1) (hp : s.coolPinSel = true) :
    exec (.coollossClear g false) s = .next { s.okRsp g with bud := { s.bud with coolPin := false } } := by
  refine congrArg Host.Outcome.next ((s.hostRow_passes g _ _ _ _ h).trans ?_)
  rw [effCoolClear_low (s := s.newAccess) hp]
  rfl

theorem coollossClear_clears {s : State} {g : Gal} (h : s.rowPasses g R.GRP_STAT_COOLLOSS 0 1) (hd : s.devSt ≠ devOff)
    (ha : s.coolAlertSel = false ∨ s.alertGood = true) :
    ∃ t, exec (.coollossClear g true) s = .next t ∧ t.get R.GRP_STAT_COOLLOSS = 0 ∧
      t.bud = { s.bud with coolPin := true } ∧
      t.stands clsCoolant = (s.stands clsCoolant && decide (clsCoolant ∈ s.flt.injected)) ∧ t.kept = s.kept := by
  have heff : effCoolClear s.newAccess true = (s.newAccess.coolSeen true).coolCleared := effCoolClear_clears hd ha
  refine ⟨_, congrArg Host.Outcome.next (s.hostRow_passes g _ _ _ _ h), ?_, ?_, ?_, ?_⟩
  · rw [State.respond_get, heff, State.coolCleared_get (by decide), State.get_set_self _ _ _ _ (by decide)]
    rfl
  · exact (congrArg State.bud heff).trans (State.coolCleared_bud _)
  · exact (congrArg (State.stands · clsCoolant) heff).trans (State.coolCleared_stands _)
  · rw [State.respond_kept, effCoolClear_kept, State.newAccess_kept]

/-- Settles O58: each command by its own lemmas. The statement's sum is the one that the write is checked against, and what shows of
a change of the shares is the same whether it waits alone or behind another; only the part of the budget that holds it differs. -/
theorem groupsSharesAndCoolant : Obligations.GroupsSharesAndCoolant := by
  refine ⟨fun s hg he => ⟨groupExcursion_early, groupExcursion_begins hg he⟩,
    fun s he => ⟨groupExcursionEnd_early, groupExcursionEnd_ends he⟩, budCntClr_clears, ?_,
    fun s g j w hj => shareWrite_beyond hj s g w, fun s hp hr hm => coolantLoss_latches hp hr hm,
    fun s hp => ⟨_, coolantLoss_unselected hp, rfl, rfl, rfl⟩,
    fun s g h hd => ⟨coollossClear_low h, coollossClear_clears h hd⟩⟩
  intro s g w sum h hsum
  rw [← s.shr0Sum_eq w] at hsum
  subst hsum
  refine ⟨shareWrite_unprivileged h, fun hp hs => shareWrite_rejects h hp hs, fun hp hs hw => ?_⟩
  obtain ⟨t, hex, ⟨h1, h2, h3, h4, h0⟩, hpend, hform, hframe⟩ := shareWrite_holds h hp hs hw
  exact ⟨t, s.shr0All w, hex, h1, h2, h3, h4, h0, hpend, rfl, hform, hframe⟩

end Sys2Proof.Machine

namespace Sys2Proof.Machine

/-! ### The secrets are gone -/

/-- No key, no session and no open delivery is left (R450). -/
def SecS.gone (x : SecS) : Prop := x.key = none ∧ x.sess = none ∧ x.deliv.opened = false

theorem SecS.gone.of_kept {s t : State} (h : s.sec.gone) (hk : t.kept = s.kept) : t.sec.gone := by
  simp only [State.kept, Prod.mk.injEq] at hk
  obtain ⟨-, ⟨hkey, hsess, hopen, -⟩, -⟩ := hk
  exact ⟨hkey.trans h.1, hsess.trans h.2.1, hopen.trans h.2.2⟩

theorem State.endSession_gone (s : State) : s.endSession.sec.gone := by
  refine ⟨endSession_key s, ?_, ?_⟩
  · rfl
  · refine Eq.trans ?_ (failDelivery_closed s 6)
    unfold State.endSession State.dropKey
    dsimp only
    split <;> rfl

/-- The fields that the end of a session writes. -/
def sessionFlds : List Fld :=
  [R.SEC_KEY_HELD, R.FCS_STAT_STATE, R.FCS_STAT_CAUSE, R.SEC_WSTAT_STATE, R.SEC_WSTAT_RESULT, R.SEC_FLT_WFAIL,
    R.SEC_SESS_RSPSID, R.SEC_SESS_CONN]

/-- What the end of a session leaves, whatever it reads of the state. -/
theorem State.endSession_const {β : Type} (φ : State → β) (hset : ∀ t, ∀ F ∈ sessionFlds, ∀ v, φ (State.set t F 0 v) = φ t)
    (hsec : ∀ (t : State) (x : SecS), φ { t with sec := x } = φ t)
    (hdrop : ∀ (t : State) (w : Tab WeightSet) (x : SecS) (f : Tab FcsS), φ { t with weights := w, sec := x, fcs := f } = φ t)
    (s : State) : φ s.endSession = φ s := by
  have hset (t : State) {F : Fld} (hF : F ∈ sessionFlds) (v : Nat) : φ (t.set F 0 v) = φ t := hset t F hF v
  have hkey (t : State) : φ t.dropKey = φ t := (hsec _ _).trans (hset _ (by simp [sessionFlds]) _)
  have hweights (t : State) : φ (t.dropWeights 0 0) = φ t :=
    (hdrop _ _ _ _).trans ((hset _ (by simp [sessionFlds]) _).trans (hset _ (by simp [sessionFlds]) _))
  have hfail : φ (s.failDelivery 6) = φ s := by
    unfold State.failDelivery
    split
    · rw [hweights, hkey, hsec, State.raise, hset _ (by simp [sessionFlds]), hset _ (by simp [sessionFlds]),
        hset _ (by simp [sessionFlds])]
    · rfl
  unfold State.endSession
  dsimp only
  rw [hsec]
  split
  · rw [hset _ (by simp [sessionFlds]), hset _ (by simp [sessionFlds]), hkey, hfail]
  · rw [hset _ (by simp [sessionFlds]), hkey, hfail]

theorem State.endSession_get {F : Fld} (h : F.apartAll sessionFlds) (s : State) (i : Nat) : s.endSession.get F i = s.get F i :=
  State.endSession_const (State.get · F i) (fun t G hG v => State.get_set_apart (h G hG) t 0 v i) (fun _ _ => rfl)
    (fun _ _ _ _ => rfl) s

theorem State.endSession_cfg (s : State) : s.endSession.cfg = s.cfg :=
  State.endSession_const State.cfg (fun _ _ _ _ => rfl) (fun _ _ => rfl) (fun _ _ _ _ => rfl) s

theorem State.endSession_dev (s : State) : s.endSession.dev = s.dev :=
  State.endSession_const State.dev (fun _ _ _ _ => rfl) (fun _ _ => rfl) (fun _ _ _ _ => rfl) s

theorem State.endSession_pwr (s : State) : s.endSession.pwr = s.pwr :=
  State.endSession_const State.pwr (fun _ _ _ _ => rfl) (fun _ _ => rfl) (fun _ _ _ _ => rfl) s

/-! ### What neither a session nor the flash reaches -/

/-- The integration data, the fuse map, operating time and the queue. -/
def State.fixed (s : State) : Integ × Option FuseMap × Nat × List Instr := (s.cfg, s.fuse, s.ticks, s.pending)

theorem State.fixed_of_kept {s t : State} (h : t.kept = s.kept) : t.fixed = s.fixed := by
  simp only [State.kept, Prod.mk.injEq] at h
  obtain ⟨⟨hcfg, hfuse, -, -⟩, -, -, hticks, hpending⟩ := h
  rw [State.fixed, hcfg, hfuse, hticks, hpending]
  rfl

theorem State.flash_of_kept {s t : State} (h : t.kept = s.kept) : t.flash = s.flash := by
  simp only [State.kept, Prod.mk.injEq] at h
  obtain ⟨⟨-, -, -, hflash⟩, -⟩ := h
  exact hflash

theorem State.fixed_iff (s t : State) :
    t.fixed = s.fixed ↔ t.cfg = s.cfg ∧ t.fuse = s.fuse ∧ t.ticks = s.ticks ∧ t.pending = s.pending := by
  simp only [State.fixed, Prod.mk.injEq]

theorem State.endSession_fixed (s : State) : s.endSession.fixed = s.fixed :=
  State.endSession_const State.fixed (fun _ _ _ _ => rfl) (fun _ _ => rfl) (fun _ _ _ _ => rfl) s

theorem State.endSession_flash (s : State) : s.endSession.flash = s.flash :=
  State.endSession_const State.flash (fun _ _ _ _ => rfl) (fun _ _ => rfl) (fun _ _ _ _ => rfl) s

/-! ### A command on the flash that is interrupted (R351), and a record that is torn (R435) -/

/-- With no command on the flash in progress there is nothing to interrupt. -/
theorem State.stopFlash_idle {s : State} (hc : s.cal.commit = false) (hp : s.dev.pgm = none) : s.stopFlash = s := by
  unfold State.stopFlash
  simp only [hc, Bool.false_eq_true, if_false, hp]

/-- What an interrupted command on the flash leaves, whatever it reads of the state. -/
theorem State.stopFlash_const {β : Type} (φ : State → β) (hset : ∀ t F v, φ (State.set t F 0 v) = φ t)
    (harc : ∀ t u, State.arcOnly t u → φ u = φ t) (hfree : ∀ (t : State) n, φ { t with free := n } = φ t)
    (hcal : ∀ (t : State) c f, φ { t with cal := c, flash := f } = φ t)
    (hpgm : ∀ (t : State) f, φ { t with dev := { t.dev with pgm := none }, flash := f } = φ t) (s : State) :
    φ s.stopFlash = φ s := by
  have hcommit : φ (if s.cal.commit then
      let (v, s) := s.freeBits (8 * 0x10000)
      { ((s.set R.CAL_CSTAT_BUSY 0 0).calRefuse 4).commitRec with
        cal := { s.cal with commit := false }, flash := commitLeft s.flash v (s.fuse.getD default).dieId }
    else s) = φ s := by
    split
    · refine (hcal _ _ _).trans ((harc _ _ (State.stage_arcOnly _ _ _)).trans ?_)
      exact (hset _ _ _).trans ((hset _ _ _).trans ((hset _ _ _).trans (hfree s _)))
    · rfl
  unfold State.stopFlash
  dsimp only at hcommit ⊢
  generalize (if s.cal.commit = true then _ else s) = t at hcommit ⊢
  split
  · exact hcommit
  · exact (hpgm _ _).trans ((hset _ _ _).trans ((hfree _ _).trans hcommit))

theorem State.stopFlash_fixed (s : State) : s.stopFlash.fixed = s.fixed :=
  State.stopFlash_const State.fixed (fun _ _ _ => rfl) (fun _ _ ⟨_, _, h⟩ => by rw [h]; rfl) (fun _ _ => rfl)
    (fun _ _ _ => rfl) (fun _ _ => rfl) s

/-- With no record being programmed none is torn: the staging is empty, or the Archive programs nothing. -/
theorem State.tearRecord_flushed {s : State} (h : s.flushed = true) : s.tearRecord = s := by
  unfold State.tearRecord
  cases hs : s.arc.staged with
  | nil => rfl
  | cons r l =>
    have hm : s.get R.ARC_STAT_MODE = 3 := by simpa [State.flushed, hs] using h
    exact if_pos (by simp [hm])

/-! ### The reset and the power-down of the control complex -/

/-- The clocks and clamps of the darkened districts as the reset releases them. -/
def State.undarkened (s : State) : State := s.each s.districts State.undarken

theorem State.undarkened_regs (s : State) : s.undarkened = { s with regs := s.undarkened.regs } :=
  State.each_regs _ _ _ fun t d => by
    unfold State.undarken
    dsimp only
    split <;> rfl

theorem State.ccReset_fixed (s : State) : s.ccReset.fixed = s.fixed := by
  refine Eq.trans (b := s.undarkened.stopFlash.fixed) rfl ?_
  rw [State.stopFlash_fixed, s.undarkened_regs]
  rfl

theorem State.ccReset_flash {s : State} (hc : s.cal.commit = false) (hp : s.dev.pgm = none) : s.ccReset.flash = s.flash := by
  refine Eq.trans (b := s.undarkened.stopFlash.flash) rfl ?_
  have hu := s.undarkened_regs
  rw [State.stopFlash_idle (by rw [hu]; exact hc) (by rw [hu]; exact hp), hu]

theorem State.ccDown_gone (s : State) : s.ccDown.sec.gone := ⟨rfl, rfl, rfl⟩

theorem State.ccDown_eq {s : State} (h : s.flushed = true) : s.ccDown =
    { s.ccReset.set R.ARC_STAT_STGB 0 0 with
      dev := { s.ccReset.dev with powered := false, released := false, entry := s.dev.entry, sleepStep := s.dev.sleepStep },
      arc := { s.ccReset.arc with staged := [], lost := s.arc.staged.length } } := by
  unfold State.ccDown
  rw [State.tearRecord_flushed h]
  rfl

/-! ### Folds in which each unit has its turn once -/

/-- What the turn of one unit brings about, where the turns of the others neither touch it before nor undo it behind. -/
theorem State.each_turn {P Q : State → Prop} {f : State → Nat → State} {x : Nat} {l : List Nat} (hn : l.Nodup) (hl : x ∈ l)
    (hbefore : ∀ t y, y ≠ x → P t → P (f t y)) (hturn : ∀ t, P t → Q (f t x)) (hafter : ∀ t y, y ≠ x → Q t → Q (f t y))
    {s : State} (hs : P s) : Q (s.each l f) := by
  obtain ⟨l₁, l₂, rfl⟩ := List.append_of_mem hl
  obtain ⟨-, hn₂, hdisj⟩ := List.nodup_append.mp hn
  have h₁ : P (s.each l₁ f) :=
    State.each_induct P f l₁ (fun t y hy => hbefore t y (hdisj y hy x (List.mem_cons_self ..))) s hs
  have h₂ : Q ((f (s.each l₁ f) x).each l₂ f) :=
    State.each_induct Q f l₂ (fun t y hy => hafter t y fun e => (List.nodup_cons.mp hn₂).1 (e ▸ hy)) _ (hturn _ h₁)
  simpa only [State.each, List.foldl_append, List.foldl_cons] using h₂

theorem State.districts_nodup (s : State) : s.districts.Nodup := List.nodup_range

theorem State.supply_nodup (s : State) : s.supply.Nodup := s.districts_nodup.filter _

/-! ### The turns of the other districts -/

/-- `t` has the sequence of a district, its state, its failover state and its clock as `s` has them. -/
structure State.SameDistrict (s : State) (d : Nat) (t : State) : Prop where
  cfg : t.cfg = s.cfg
  pw : t.pw d = s.pw d
  dst : t.dst d = s.dst d
  failover : t.get R.DST_FO_STAT_STATE d = s.get R.DST_FO_STAT_STATE d
  clock : t.get R.PWR_DSTAT_CSTOP d = s.get R.PWR_DSTAT_CSTOP d

namespace State.SameDistrict
variable {s t u : State} {d k : Nat}

theorem refl (s : State) (d : Nat) : s.SameDistrict d s := ⟨rfl, rfl, rfl, rfl, rfl⟩

theorem trans (h : s.SameDistrict d t) (h' : t.SameDistrict d u) : s.SameDistrict d u :=
  ⟨h'.cfg.trans h.cfg, h'.pw.trans h.pw, h'.dst.trans h.dst, h'.failover.trans h.failover, h'.clock.trans h.clock⟩

/-- A change of neither the registers, the sequences nor the integration data. -/
theorem congr (h : s.SameDistrict d t) (hc : u.cfg = t.cfg) (hr : u.regs = t.regs) (hp : u.pwr = t.pwr) : s.SameDistrict d u :=
  have hg (F : Fld) (i : Nat) : u.get F i = t.get F i := State.get_of_regs hr F i
  h.trans ⟨hc, State.pw_of_pwr hp d, hg _ _, hg _ _, hg _ _⟩

/-- The fields that `SameDistrict` reads. -/
def flds : List Fld := [R.PWR_DSTAT_STATE, R.DST_FO_STAT_STATE, R.PWR_DSTAT_CSTOP]

/-- A change that leaves those fields and the sequences. -/
theorem of_get (hc : t.cfg = s.cfg) (hp : t.pwr = s.pwr) (hg : ∀ F ∈ flds, t.get F d = s.get F d) : s.SameDistrict d t :=
  ⟨hc, State.pw_of_pwr hp d, hg _ (by simp [flds]), hg _ (by simp [flds]), hg _ (by simp [flds])⟩

theorem updPw (h : s.SameDistrict d t) (hk : k ≠ d) (f : PwrS → PwrS) : s.SameDistrict d (t.updPw k f) :=
  h.trans ⟨rfl, by rw [State.pw_updPw, if_neg hk], rfl, rfl, rfl⟩

/-- A write of a field apart from those. -/
theorem set (h : s.SameDistrict d t) {G : Fld} (hG : ∀ F ∈ flds, G.apart F) (i v : Nat) : s.SameDistrict d (t.set G i v) :=
  h.trans (of_get rfl rfl fun F hF => State.get_set_apart (hG F hF) t i v d)

/-- The clock of another district. -/
theorem setClock (h : s.SameDistrict d t) (hk : k ≠ d) (v : Nat) : s.SameDistrict d (t.set R.PWR_DSTAT_CSTOP k v) :=
  h.trans ⟨rfl, rfl, State.get_set_apart (by decide) _ _ _ _, State.get_set_apart (by decide) _ _ _ _,
    State.get_set_bank_ne (by decide) (by decide) hk _ _⟩

theorem ite {c : Prop} [Decidable c] (h : s.SameDistrict d t) (h' : s.SameDistrict d u) :
    s.SameDistrict d (if c then t else u) := by
  split <;> assumption

theorem tstStop (h : s.SameDistrict d t) (v : Nat) : s.SameDistrict d (t.tstStop v) :=
  .ite (h.congr rfl rfl rfl) h

theorem endWait (h : s.SameDistrict d t) (hk : k ≠ d) : s.SameDistrict d (t.endWait k) :=
  have h' := (h.updPw hk fun x => { x with reqOn := none }).set (G := R.DST_FILL_STAT_SWWAIT) (by decide) k 0
  .ite h' (h'.set (by decide) k 0)

theorem pwrStep (h : s.SameDistrict d t) (hk : k ≠ d) (st : PwrStep) (code : Nat) : s.SameDistrict d (t.pwrStep k st code) :=
  (h.updPw hk _).set (by decide) _ _

theorem driveState (h : s.SameDistrict d t) (k st : Nat) : s.SameDistrict d (t.driveState k st) :=
  ((h.set (by decide) _ _).set (by decide) _ _).set (by decide) _ _

/-- The entry of another district begins. -/
theorem entryStart (h : s.SameDistrict d t) (hk : k ≠ d) (r : Bool) : s.SameDistrict d (t.entryStart k r) := by
  have htaken : s.SameDistrict d (t.entryTaken k r) :=
    ((h.endWait hk).updPw hk fun x => { x with reqEntry := false, toRetain := r }).congr rfl rfl rfl
  exact .ite (htaken.pwrStep hk _ _)
    (((State.SameDistrict.ite (htaken.tstStop 4) htaken).pwrStep hk _ _).setClock hk 1)

/-- The entry of another district goes on to OFF. -/
theorem turnOff (h : s.SameDistrict d t) (hk : k ≠ d) : s.SameDistrict d (t.turnOff k) := by
  have hoff := (h.updPw hk fun x => { x with toRetain := false }).set (G := R.PWR_DSTAT_STEP) (by decide) k 2
  unfold State.turnOff
  refine .ite h ?_
  dsimp only
  split
  · exact hoff.driveState k 0
  · exact (hoff.pwrStep hk _ _).driveState k 0
  · exact hoff

end State.SameDistrict
end Sys2Proof.Machine

namespace Sys2Proof.Machine

/-! ### The begin of the SLEEP entry (R314) -/

/-- The turn of a district at the begin of the SLEEP entry. -/
def State.sleepEntry (s : State) (d : Nat) : State :=
  if s.isSupply d || s.get R.DST_FO_STAT_STATE d == 2 || (s.dst d == 0 && !s.seqBusy d) then s.endWait d
  else match (s.pw d).step with
    | .entBegun | .entIso | .entSw | .entCells => s.turnOff d
    | _ => s.entryStart d false

theorem State.sleepEntries_eq (s : State) : s.sleepEntries =
    (s.each s.districts State.sleepEntry).each [0, 1, 2, 3] fun s z => if s.zoneUsed z then s.sleepProgress z else s := rfl

theorem State.entryStart_dev (s : State) (d : Nat) (r : Bool) : (s.entryStart d r).dev = s.dev := by
  have htaken : (s.entryTaken d r).dev = s.dev := (s.entryTaken_powerOnly d r).dev
  refine Eq.trans ?_ htaken
  unfold State.entryStart
  dsimp only
  split
  · rfl
  · split
    · exact (s.entryTaken d r).tstStop_dev 4
    · rfl

theorem State.turnOff_dev (s : State) (d : Nat) : (s.turnOff d).dev = s.dev := by
  unfold State.turnOff
  dsimp only
  split
  · rfl
  · split <;> rfl

/-- At its turn a district ends its wait, goes on to OFF from its entry to RETAIN, or begins its OFF entry. -/
theorem State.sleepEntry_cases (s : State) (d : Nat) :
    s.sleepEntry d = s.endWait d ∨ s.sleepEntry d = s.turnOff d ∨ s.sleepEntry d = s.entryStart d false := by
  unfold State.sleepEntry
  split
  · exact .inl rfl
  · split
    · exact .inr (.inl rfl)
    · exact .inr (.inl rfl)
    · exact .inr (.inl rfl)
    · exact .inr (.inl rfl)
    · exact .inr (.inr rfl)

theorem State.sleepEntry_dev (s : State) (d : Nat) : (s.sleepEntry d).dev = s.dev := by
  rcases s.sleepEntry_cases d with h | h | h
  · exact h ▸ (s.powerOnly_refl.endWait d).dev
  · exact h ▸ s.turnOff_dev d
  · exact h ▸ s.entryStart_dev d false

/-- The turns of the other districts at the begin of the SLEEP entry. -/
theorem State.SameDistrict.sleepEntry {s t : State} {d k : Nat} (h : s.SameDistrict d t) (hk : k ≠ d) :
    s.SameDistrict d (t.sleepEntry k) := by
  rcases t.sleepEntry_cases k with e | e | e
  · exact e ▸ h.endWait hk
  · exact e ▸ h.turnOff hk
  · exact e ▸ h.entryStart hk false

/-- What the begin of the SLEEP entry asks of a district whose OFF entry it begins. -/
def State.entersOff (s : State) (d : Nat) : Prop :=
  (s.pw d).step = .entBegun ∧ (s.pw d).toRetain = false ∧ s.get R.PWR_DSTAT_CSTOP d = 1

theorem State.SameDistrict.entersOff {s t : State} {d : Nat} (h : s.SameDistrict d t) (hs : s.entersOff d) : t.entersOff d := by
  obtain ⟨hstep, hretain, hclock⟩ := hs
  exact ⟨(congrArg PwrS.step h.pw).trans hstep, (congrArg PwrS.toRetain h.pw).trans hretain, h.clock.trans hclock⟩

/-- An OFF entry from ON begins, and the clock stops. -/
theorem State.entryStart_entersOff {s : State} {d : Nat} (hd : s.dst d = 2) : (s.entryStart d false).entersOff d := by
  have hpw (t : State) (v : Nat) : ((t.tstStop v).pw d) = t.pw d := by unfold State.tstStop; split <;> rfl
  have hretain : (if ((s.entryTaken d false).get R.LOOP_TST_CTL_DIST == d) = true then (s.entryTaken d false).tstStop 4
      else s.entryTaken d false).pw d = (s.entryTaken d false).pw d := by
    split
    · exact hpw _ 4
    · rfl
  rw [State.entryStart_on s d false hd]
  refine ⟨?_, ?_, ?_⟩
  · rw [State.pw_set, State.pwrStep_pw]
  · rw [State.pw_set, State.pwrStep_pw, hretain, State.entryTaken_pw]
  · rw [State.get_set_self _ _ _ _ (by decide)]
    rfl

/-- A district outside the supply group that is ON in no sequence and not darkening has its OFF entry begun. -/
theorem State.sleepEntry_entersOff {s : State} {d : Nat} (hs : s.isSupply d = false) (hd : s.dst d = 2)
    (hstep : (s.pw d).step = .idle) (hfo : s.get R.DST_FO_STAT_STATE d ≠ 2) : (s.sleepEntry d).entersOff d := by
  have heq : s.sleepEntry d = s.entryStart d false := by
    unfold State.sleepEntry
    rw [if_neg (by simp [hs, hd, hfo]), hstep]
  exact heq ▸ State.entryStart_entersOff hd

/-- After the turns of the districts each such district is in its OFF entry. -/
theorem State.sleepEntry_each_entersOff {s t : State} {d : Nat} (h : s.SameDistrict d t) (hn : d < s.cfg.n)
    (hs : s.isSupply d = false) (hd : s.dst d = 2) (hstep : (s.pw d).step = .idle) (hfo : s.get R.DST_FO_STAT_STATE d ≠ 2) :
    (t.each t.districts State.sleepEntry).entersOff d := by
  have hl : d ∈ t.districts := by
    rw [State.districts, h.cfg]
    exact List.mem_range.mpr hn
  refine State.each_turn t.districts_nodup hl (P := fun t => s.SameDistrict d t) (Q := fun t => t.entersOff d)
    (fun t y hy ht => ht.sleepEntry hy) (fun t ht => ?_)
    (fun t y hy ht => ((State.SameDistrict.refl t d).sleepEntry hy).entersOff ht) h
  refine State.sleepEntry_entersOff ?_ (ht.dst.trans hd) ((congrArg PwrS.step ht.pw).trans hstep) (ht.failover ▸ hfo)
  rw [State.isSupply, State.groupOf, State.groupOf, ht.cfg]
  exact hs

theorem State.byeSleep_linkOnly (s : State) (p : Nat) : s.linkOnly (s.byeSleep p) := by
  have hsent : s.linkOnly (s.sendBye p 0) := ((s.linkOnly_refl.updPort p _).set _ _ _).updPort p _
  unfold State.byeSleep
  split
  · exact ((hsent.updPort p fun x => { x.close with aligned := false }).set _ _ _).set _ _ _
  · exact s.linkOnly_refl

/-- The progress of the OFF entries outside the supply group changes neither a sequence nor a clock. -/
theorem State.sleepProgress_sleeping {s : State} (z : Nat) (h : s.dev.sleepStep = 1 ∨ s.dev.sleepStep = 2) :
    ((s.sleepProgress z).dev.sleepStep = 1 ∨ (s.sleepProgress z).dev.sleepStep = 2) ∧
      ∀ d, s.entersOff d → (s.sleepProgress z).entersOff d := by
  rcases h with h | h
  · have hbye (c : Bool) : (if c = true then s.byeSleep z else s).dev = s.dev ∧
        ∀ d, s.entersOff d → (if c = true then s.byeSleep z else s).entersOff d := by
      split
      · obtain ⟨r, q, e⟩ := s.byeSleep_linkOnly z
        have hpw (d : Nat) : (s.byeSleep z).pw d = s.pw d := by rw [e]; rfl
        refine ⟨by rw [e], fun d ⟨hstep, hretain, hclock⟩ => ?_⟩
        exact ⟨hpw d ▸ hstep, hpw d ▸ hretain, (s.byeSleep_get (by decide) z d).trans hclock⟩
      · exact ⟨rfl, fun _ hd => hd⟩
    unfold State.sleepProgress
    dsimp only
    rw [if_pos h]
    obtain ⟨hdev, hoff⟩ := hbye (s.allOff fun d => !s.isSupply d && s.zoneOf d == z)
    generalize (if (s.allOff fun d => !s.isSupply d && s.zoneOf d == z) = true then s.byeSleep z else s) = u at hdev hoff ⊢
    split
    · exact ⟨.inr rfl, hoff⟩
    · exact ⟨.inl (hdev ▸ h), hoff⟩
  · have heq : s.sleepProgress z = s := by
      unfold State.sleepProgress
      dsimp only
      rw [if_neg (by omega), if_neg (by omega)]
    rw [heq]
    exact ⟨.inr h, fun _ hd => hd⟩

/-- The OFF entries of SLEEP leave the step of the SLEEP entry ahead of the power-down, and each district that enters OFF in
its OFF entry. -/
theorem State.sleepEntries_sleeping {s : State} (h : s.dev.sleepStep = 1) :
    (s.sleepEntries.dev.sleepStep = 1 ∨ s.sleepEntries.dev.sleepStep = 2) ∧
      ∀ d, (s.each s.districts State.sleepEntry).entersOff d → s.sleepEntries.entersOff d := by
  have hdev : (s.each s.districts State.sleepEntry).dev = s.dev := State.each_const State.dev s _ _ State.sleepEntry_dev
  rw [State.sleepEntries_eq]
  refine State.each_induct (fun t => (t.dev.sleepStep = 1 ∨ t.dev.sleepStep = 2) ∧
    ∀ d, (s.each s.districts State.sleepEntry).entersOff d → t.entersOff d) _ _ (fun t z _ ⟨hstep, hoff⟩ => ?_) _
    ⟨.inl (hdev ▸ h), fun _ hd => hd⟩
  split
  · obtain ⟨hstep', hoff'⟩ := State.sleepProgress_sleeping z hstep
    exact ⟨hstep', fun d hd => hoff' d (hoff d hd)⟩
  · exact ⟨hstep, hoff⟩

/-- The SLEEP entry as it begins: the test signal stops, and the ageing record falls due (R299). -/
def State.sleepBegun (s : State) : State :=
  { s.tstStop 4 with dev := { s.dev with sleepStep := 1 }, age := { s.age with due := s.dev.flashUsable } }

theorem effSleepBegin_eq {s : State} (he : s.dev.entry = 2) (hs : s.dev.sleepStep = 0) (hl : s.ledgersEmpty = true) :
    effSleepBegin s = s.sleepBegun.endSession.sleepEntries :=
  if_pos (by simp [he, hs, hl])

/-- What the test signal, the session and the ageing record do not reach. -/
theorem State.sleepBegun_same (s : State) (d : Nat) : s.SameDistrict d s.sleepBegun.endSession := by
  have hbegun : s.SameDistrict d s.sleepBegun := ((State.SameDistrict.refl s d).tstStop 4).congr rfl rfl rfl
  exact hbegun.trans ⟨State.endSession_cfg _, State.pw_of_pwr (State.endSession_pwr _) d,
    State.endSession_get (by decide) _ d, State.endSession_get (by decide) _ d, State.endSession_get (by decide) _ d⟩

theorem State.tstStop_fixed (s : State) (v : Nat) : (s.tstStop v).fixed = s.fixed ∧ (s.tstStop v).flash = s.flash := by
  unfold State.tstStop
  split <;> exact ⟨rfl, rfl⟩

/-- SLEEP_ENTRY_BEGIN empties the device. -/
theorem sleepEntryBegin_empties (s : State) (he : s.dev.entry = 2) (hs : s.dev.sleepStep = 0) (hl : s.ledgersEmpty = true) :
    ∃ t, exec .sleepEntryBegin s = .next t ∧ t.dev.sleepStep ≠ 0 ∧ t.sec.key = none ∧ t.sec.sess = none ∧
      t.sec.deliv.opened = false ∧ t.cfg = s.cfg ∧ t.fuse = s.fuse ∧ t.flash = s.flash ∧ t.pending = s.pending ∧
      t.ticks = s.ticks ∧
      ∀ d < s.cfg.n, s.isSupply d = false → s.dst d = 2 → (s.pw d).step = .idle → s.get R.DST_FO_STAT_STATE d ≠ 2 →
        (t.pw d).step = .entBegun ∧ (t.pw d).toRetain = false ∧ t.get R.PWR_DSTAT_CSTOP d = 1 := by
  let u := s.sleepBegun.endSession
  have hkept : u.sleepEntries.kept = u.kept := u.sleepEntries_kept
  have hfixed : u.sleepEntries.fixed = s.fixed :=
    (State.fixed_of_kept hkept).trans ((State.endSession_fixed _).trans (s.tstStop_fixed 4).1)
  have hflash : u.sleepEntries.flash = s.flash :=
    (State.flash_of_kept hkept).trans ((State.endSession_flash _).trans (s.tstStop_fixed 4).2)
  obtain ⟨hkey, hsess, hopen⟩ := s.sleepBegun.endSession_gone.of_kept hkept
  obtain ⟨hcfg, hfuse, hticks, hpending⟩ := (State.fixed_iff _ _).mp hfixed
  have hstep : u.dev.sleepStep = 1 := congrArg DevS.sleepStep (State.endSession_dev s.sleepBegun)
  obtain ⟨hsleep, hoff⟩ := State.sleepEntries_sleeping hstep
  refine ⟨u.sleepEntries, congrArg Host.Outcome.next (effSleepBegin_eq he hs hl), by omega, hkey, hsess, hopen, hcfg, hfuse,
    hflash, hpending, hticks, fun d hn hout hd hidle hfo => ?_⟩
  exact hoff d (State.sleepEntry_each_entersOff (s.sleepBegun_same d) hn hout hd hidle hfo)

/-! ### The power-down of the control complex in SLEEP (R314) -/

/-- The closing ports leave the Archive and its mode. -/
theorem State.byeSleep_flushed (s : State) (l : List Nat) :
    s.linkOnly (s.each l fun s z => s.byeSleep z) ∧ (s.each l fun s z => s.byeSleep z).flushed = s.flushed := by
  refine State.each_induct (fun t => s.linkOnly t ∧ t.flushed = s.flushed) _ l (fun t z _ ⟨⟨r, q, e⟩, hf⟩ => ?_) s
    ⟨s.linkOnly_refl, rfl⟩
  obtain ⟨r', q', e'⟩ := t.byeSleep_linkOnly z
  have harc : (t.byeSleep z).arc = t.arc := by rw [e']
  refine ⟨⟨r', q', by rw [e', e]⟩, Eq.trans ?_ hf⟩
  rw [State.flushed, State.flushed, harc, t.byeSleep_get (by decide)]

/-- SLEEP_POWER_DOWN: the ports close, the control complex goes down, and the supply group takes its OFF entries. -/
theorem effSleepDown_eq {s : State} (he : s.dev.entry = 2) (hs : s.dev.sleepStep = 2) (ha : s.age.due = false)
    (hf : s.flushed = true) :
    ∃ v : State, s.linkOnly v ∧ v.flushed = true ∧
      effSleepDown s = ({ v with dev := { v.dev with sleepStep := 3 } } : State).ccDown.each
        ({ v with dev := { v.dev with sleepStep := 3 } } : State).ccDown.supply fun s d => s.entryStart d false := by
  obtain ⟨hlink, hflushed⟩ := s.byeSleep_flushed [0, 1, 2, 3]
  exact ⟨_, hlink, hflushed.trans hf, if_pos (by simp [he, hs, ha, hf])⟩

theorem sleepPowerDown_powersDown (s : State) (he : s.dev.entry = 2) (hs : s.dev.sleepStep = 2) (ha : s.age.due = false)
    (hf : s.flushed = true) :
    ∃ t, exec .sleepPowerDown s = .next t ∧ t.dev.powered = false ∧ t.dev.released = false ∧ t.dev.sleepStep = 3 ∧
      t.sec.key = none ∧ t.sec.sess = none ∧ t.sec.deliv.opened = false ∧ t.cfg = s.cfg ∧ t.fuse = s.fuse ∧
      (s.cal.commit = false → s.dev.pgm = none → t.flash = s.flash) ∧ t.pending = s.pending := by
  obtain ⟨w, ⟨r, q, rfl⟩, hw, heff⟩ := effSleepDown_eq he hs ha hf
  let v : State := { s with regs := r, ports := q, dev := { s.dev with sleepStep := 3 } }
  have hv : v.flushed = true := hw
  have hkept : (v.ccDown.each v.ccDown.supply fun s d => s.entryStart d false).kept = v.ccDown.kept :=
    State.each_kept _ _ _ fun t d => t.entryStart_kept d false
  have hdev : (v.ccDown.each v.ccDown.supply fun s d => s.entryStart d false).dev = v.ccDown.dev :=
    State.each_const State.dev _ _ _ fun t d => t.entryStart_dev d false
  have hdown := State.ccDown_eq hv
  have hfixed : v.ccDown.fixed = s.fixed := by
    rw [hdown]
    exact v.ccReset_fixed
  obtain ⟨hkey, hsess, hopen⟩ := v.ccDown_gone.of_kept hkept
  obtain ⟨hcfg, hfuse, -, hpending⟩ := (State.fixed_iff _ _).mp ((State.fixed_of_kept hkept).trans hfixed)
  refine ⟨_, congrArg Host.Outcome.next heff, ?_, ?_, ?_, hkey, hsess, hopen, hcfg, hfuse, fun hc hp => ?_, hpending⟩
  · rw [hdev]
    rfl
  · rw [hdev]
    rfl
  · rw [hdev]
    rfl
  · rw [State.flash_of_kept hkept, hdown]
    exact v.ccReset_flash hc hp
/-- SLEEP_POWER_DOWN waits for the ageing record. -/
theorem sleepPowerDown_waits (s : State) (h : s.age.due = true) : exec .sleepPowerDown s = .next s :=
  congrArg Host.Outcome.next (if_neg (by simp [h]))

/-! ### The wake from SLEEP (R315) -/

/-- The turn of a district of the supply group as it switches on. -/
def State.supplyTurn (s : State) (d : Nat) : State :=
  if s.canSwitchOn d then s.switchOn d (s.get R.PWR_VREF_VBOOT) else s

theorem State.supplyOn_eq (s : State) : s.supplyOn = s.each s.supply State.supplyTurn := rfl

theorem State.pw_switchOn_ne (s : State) {d k : Nat} (hk : k ≠ d) (vs : Nat) : (s.switchOn k vs).pw d = s.pw d := by
  have hwait : (s.endWait k).pw d = s.pw d := ((State.SameDistrict.refl s d).endWait hk).pw
  have hlaw (u : State) (f : LawS → LawS) : (u.updLaw k f).pw d = u.pw d := rfl
  rw [State.pw_of_pwr (s.switchOn_pwr k vs) d, State.switchOnTaken, hlaw, State.pw_set, State.pwrStep, State.pw_set,
    State.pw_updPw, if_neg hk, State.pw_updPw, if_neg hk, hwait]

/-- The switch-on of another district. -/
theorem State.SameDistrict.switchOn {s t : State} {d k : Nat} (h : s.SameDistrict d t) (hk : k ≠ d) (vs : Nat) :
    s.SameDistrict d (t.switchOn k vs) :=
  h.trans ⟨congrArg (fun x => x.1.1) (t.switchOn_kept k vs), t.pw_switchOn_ne hk vs, t.switchOn_get (by decide) k vs d,
    t.switchOn_get (by decide) k vs d, t.switchOn_get (by decide) k vs d⟩

/-- A cell's register stands above those of the power page. -/
theorem State.rampCell_vboot (s : State) (c v : Nat) : (s.rampCell c v).get R.PWR_VREF_VBOOT = s.get R.PWR_VREF_VBOOT := by
  unfold State.rampCell
  dsimp only
  rw [State.get_set_apart (by decide),
    State.get_set_ne _ _ _ _ _ _ (by simp only [Fld.key, R.CEL_STAT_LOCAL, R.PWR_VREF_VBOOT]; omega), State.updCell_get]

/-- A switch-on leaves VBOOT. -/
theorem State.switchOn_vboot (s : State) (d vs : Nat) : (s.switchOn d vs).get R.PWR_VREF_VBOOT = s.get R.PWR_VREF_VBOOT := by
  have htaken : (s.switchOnTaken d vs).get R.PWR_VREF_VBOOT = s.get R.PWR_VREF_VBOOT := by
    rw [State.switchOnTaken, State.updLaw_get, State.get_set_apart (by decide), State.pwrStep_get (by decide), State.updPw_get,
      State.endWait_get (by decide)]
  refine (State.anvilsCharge_get (by decide) _ d 0).trans (Eq.trans ?_ htaken)
  split
  · exact State.each_const (State.get · R.PWR_VREF_VBOOT) _ _ _ fun t c => t.rampCell_vboot c vs
  · refine State.each_const (State.get · R.PWR_VREF_VBOOT) _ _ _ fun t c => ?_
    split
    · rfl
    · exact t.updCell_get c _ _ 0

theorem State.supplyTurn_vboot (s : State) (k : Nat) : (s.supplyTurn k).get R.PWR_VREF_VBOOT = s.get R.PWR_VREF_VBOOT := by
  unfold State.supplyTurn
  split
  · exact s.switchOn_vboot k _
  · rfl

theorem State.SameDistrict.supplyTurn {s t : State} {d k : Nat} (h : s.SameDistrict d t) (hk : k ≠ d) :
    s.SameDistrict d (t.supplyTurn k) := .ite (h.switchOn hk _) h

theorem State.SameDistrict.canSwitchOn {s t : State} {d : Nat} (h : s.SameDistrict d t) : t.canSwitchOn d = s.canSwitchOn d := by
  rw [State.canSwitchOn, State.canSwitchOn, State.seqBusy, State.seqBusy, h.dst, h.pw, h.failover]

/-- The switch-on of the supply group begins that of each of its districts that can, at VBOOT. -/
theorem State.supplyOn_begins {s : State} {d : Nat} (hd : d ∈ s.supply) (hc : s.canSwitchOn d = true) :
    (s.supplyOn.pw d).step = .onBegun ∧ (s.supplyOn.pw d).vs = s.get R.PWR_VREF_VBOOT := by
  rw [State.supplyOn_eq]
  refine State.each_turn s.supply_nodup hd
    (P := fun t => s.SameDistrict d t ∧ t.get R.PWR_VREF_VBOOT = s.get R.PWR_VREF_VBOOT)
    (Q := fun t => (t.pw d).step = .onBegun ∧ (t.pw d).vs = s.get R.PWR_VREF_VBOOT)
    (fun t k hk ⟨ht, hv⟩ => ⟨ht.supplyTurn hk, (t.supplyTurn_vboot k).trans hv⟩) (fun t ⟨ht, hv⟩ => ?_)
    (fun t k hk ⟨hstep, hvs⟩ => ?_) ⟨.refl s d, rfl⟩
  · rw [State.supplyTurn, if_pos (ht.canSwitchOn.trans hc), State.switchOn_pw, State.switchOnTaken_pw]
    exact ⟨rfl, hv⟩
  · have hpw := ((State.SameDistrict.refl t d).supplyTurn hk).pw
    exact ⟨hpw ▸ hstep, hpw ▸ hvs⟩

/-- SLEEP_WAKE begins the switch-on of the supply group. -/
theorem sleepWake_switchesOn (s : State) (hw : s.dev.wakeDue = true) (hb : s.devSt = devBoot) :
    ∃ t, exec .sleepWake s = .next t ∧ t.dev.wakeDue = false ∧ t.kept = s.kept ∧
      ∀ d ∈ s.supply, s.canSwitchOn d = true → (t.pw d).step = .onBegun ∧ (t.pw d).vs = s.get R.PWR_VREF_VBOOT := by
  let u : State := { s with dev := { s.dev with wakeDue := false } }
  have hdev : u.supplyOn.dev = u.dev := congrArg Prod.fst (u.supplyOn_tests 0)
  refine ⟨u.supplyOn, congrArg Host.Outcome.next (if_pos (by simp [hw, hb])), by rw [hdev], u.supplyOn_kept, fun d hd hc => ?_⟩
  exact State.supplyOn_begins (s := u) hd hc

/-- Settles O16: the device empties into SLEEP, its control complex goes down, and a wake switches the supply group on. -/
theorem sleepPowersTheComplexDown : Obligations.SleepPowersTheComplexDown :=
  ⟨sleepEntryBegin_empties, sleepPowerDown_powersDown, sleepPowerDown_waits, sleepWake_switchesOn⟩

end Sys2Proof.Machine

namespace Sys2Proof.Machine

theorem State.get_ite {c : Prop} [Decidable c] {s t : State} {F : Fld} {i v : Nat} (hs : s.get F i = v) (ht : t.get F i = v) :
    (if c then s else t).get F i = v := by
  split <;> assumption

/-! ### Conversions dealt to the slices of the ADC (R280, R282, R283) -/

/-- The slices of a list, each with its part of what is dealt out. -/
def State.dealOut (s : State) (out : List Nat) (f : Nat → SliceS → SliceS) : State :=
  s.each (List.range out.length) fun s k => s.updSlice (out.getD k 0) (f k)

/-- Only the slices of the ADC change as conversions are dealt to them. -/
theorem State.dealOut_eq (s : State) (out : List Nat) (f : Nat → SliceS → SliceS) :
    s.dealOut out f = { s with adc := { s.adc with slices := (s.dealOut out f).adc.slices } } :=
  State.each_induct (fun t => t = { s with adc := { s.adc with slices := t.adc.slices } }) _ _
    (fun t k _ ht => by rw [ht]; rfl) s rfl

theorem State.dealOut_get (s : State) (out : List Nat) (f : Nat → SliceS → SliceS) (F : Fld) (i : Nat) :
    (s.dealOut out f).get F i = s.get F i := by
  rw [State.dealOut_eq]
  rfl

/-- The injected sequence is in progress: with a regular round in progress it counts among its interruptions (R282). -/
def State.injBegun (s : State) : State :=
  let u := (s.set R.ADC_STAT_INJ_PEND 0 0).set R.ADC_STAT_INJ_BUSY 0 1
  { u with adc := { s.adc with injRound := s.adc.injRound + (if u.flag R.ADC_STAT_BUSY then 1 else 0) } }

theorem State.injStart_eq (s : State) : s.injStart =
    if s.get R.ADC_INJCFG_LEN = 0 then (s.set R.ADC_STAT_INJ_PEND 0 0).set R.ADC_STAT_INJ_DONE 0 1
    else s.injBegun.dealOut s.inService fun k x =>
      { x with inj := dealt s.inService.length k 0 (List.range (s.get R.ADC_INJCFG_LEN)) }.wakeUp := rfl

theorem State.injStart_get {F : Fld} (h : F.apartAll [R.ADC_STAT_INJ_PEND, R.ADC_STAT_INJ_DONE, R.ADC_STAT_INJ_BUSY]) (s : State)
    (i : Nat) : s.injStart.get F i = s.get F i := by
  simp only [Fld.apartAll, List.forall_mem_cons] at h
  obtain ⟨hpend, hdone, hbusy, -⟩ := h
  rw [State.injStart_eq]
  refine State.get_ite ?_ ?_
  · rw [State.get_set_apart hdone, State.get_set_apart hpend]
  · rw [State.dealOut_get]
    exact (State.get_set_apart hbusy _ _ _ _).trans (State.get_set_apart hpend _ _ _ _)

theorem State.injTrigger_get {F : Fld}
    (h : F.apartAll [R.ADC_STAT_INJ_PEND, R.ADC_STAT_INJ_DONE, R.ADC_STAT_INJ_BUSY, R.ADC_FLT_INJMRG]) (s : State) (i : Nat) :
    s.injTrigger.get F i = s.get F i := by
  have hstart := s.injStart_get (F := F) (fun G hG => h G (List.mem_append_left [R.ADC_FLT_INJMRG] hG)) i
  simp only [Fld.apartAll, List.forall_mem_cons] at h
  obtain ⟨hpend, hdone, -, hmerge, -⟩ := h
  unfold State.injTrigger
  split
  · rfl
  · split
    · exact State.get_set_apart hdone _ _ _ _
    · split
      · exact State.get_ite (State.raise_get hmerge _ _ _) (State.get_set_apart hpend _ _ _ _)
      · exact hstart

end Sys2Proof.Machine

namespace Sys2Proof.Machine

/-! ### What the OFF entries of SAFE_OFF leave of the registers -/

/-- The fields that an entry to RETAIN or OFF writes as it begins or goes on. -/
def entryFlds : List Fld := R.PWR_DSTAT_CSTOP :: (endWaitFlds ++ driveFlds)

theorem State.entryStart_get {F : Fld} (h : F.apartAll entryFlds) (s : State) (d : Nat) (r : Bool) (i : Nat) :
    (s.entryStart d r).get F i = s.get F i := by
  have hw : F.apartAll endWaitFlds := fun G hG => h G (by simp [entryFlds, hG])
  have hs : R.PWR_DSTAT_STEP.apart F := hw _ (by simp [endWaitFlds])
  refine Eq.trans ?_ (s.entryTaken_get hw d r i)
  unfold State.entryStart
  dsimp only
  split
  · exact State.pwrStep_get hs (s.entryTaken d r) _ _ _ _
  · rw [State.get_set_apart (h _ (by simp [entryFlds])), State.pwrStep_get hs]
    split
    · exact State.tstStop_get (s.entryTaken d r) _ _ _
    · rfl

theorem State.turnOff_get {F : Fld} (h : F.apartAll entryFlds) (s : State) (d i : Nat) : (s.turnOff d).get F i = s.get F i := by
  have hs : R.PWR_DSTAT_STEP.apart F := h _ (by simp [entryFlds, endWaitFlds])
  have hdrive : F.apartAll driveFlds := fun G hG => h G (by simp [entryFlds, hG])
  unfold State.turnOff
  dsimp only
  split
  · rfl
  · split
    · rw [State.driveState_get hdrive, State.get_set_apart hs, State.updPw_get]
    · rw [State.driveState_get hdrive, State.pwrStep_get hs, State.get_set_apart hs, State.updPw_get]
    · rw [State.get_set_apart hs, State.updPw_get]

theorem State.offNow_get {F : Fld} (h : F.apartAll (R.PWR_DSTAT_TPEND :: entryFlds)) (s : State) (d i : Nat) :
    (s.offNow d).get F i = s.get F i := by
  have he : F.apartAll entryFlds := fun G hG => h G (by simp [hG])
  have hw : F.apartAll endWaitFlds := fun G hG => he G (by simp [entryFlds, hG])
  have hwait : ((s.endWait d).set R.PWR_DSTAT_TPEND d 0).get F i = s.get F i := by
    rw [State.get_set_apart (h _ (List.mem_cons_self ..)), State.endWait_get hw]
  unfold State.offNow
  dsimp only
  split
  · exact hwait
  · split
    · exact (State.turnOff_get he _ _ _).trans hwait
    · exact (State.turnOff_get he _ _ _).trans hwait
    · exact (State.turnOff_get he _ _ _).trans hwait
    · exact (State.turnOff_get he _ _ _).trans hwait
    · exact (State.entryStart_get he _ _ _ _).trans hwait

/-- The fields that a district of the supply group writes as it stays ON through a thermal trip (R293). -/
def stayFlds : List Fld :=
  [R.PWR_DSTAT_STEP, R.PWR_DSTAT_CSTOP, R.PWR_DSTAT_ISO, R.DST_REF_VREF, R.CEL_STAT_LOCAL, R.CEL_CUR_I_CMD] ++
    (R.DST_TH_STAT_STATE :: anvilFlds)

theorem State.stayOn_get {F : Fld} (h : F.apartAll stayFlds) (s : State) (d i : Nat) : (s.stayOn d).get F i = s.get F i := by
  have hth : F.apartAll (R.DST_TH_STAT_STATE :: anvilFlds) := fun G hG => h G (List.mem_append_right _ hG)
  have ha : F.apartAll anvilFlds := fun G hG => hth G (List.mem_cons_of_mem _ hG)
  refine (State.each_const (State.get · F i) _ _ _ fun t c => ?_).trans ?_
  · unfold State.cellLocal
    rw [State.get_set_apart (h _ (by simp [stayFlds])), State.get_set_apart (h _ (by simp [stayFlds])), State.updCell_get]
  · rw [State.updLaw_get, State.get_set_apart (h _ (by simp [stayFlds])), State.anvilsOff_get ha, State.thDisarm_get hth,
      State.get_set_apart (h _ (by simp [stayFlds])), State.get_set_apart (h _ (by simp [stayFlds])),
      State.pwrStep_get (h _ (by simp [stayFlds]))]

/-! ### SAFE_OFF is forced (R417, R450) -/

/-- Whether the supply group stays ON as SAFE_OFF is forced (R293). -/
def State.supplyStays (s : State) (thermal : Bool) : Bool :=
  (thermal || s.dev.supStayed && s.devSt == devOff && s.flt.offPhase == .down) && s.isOn s.cfg.ccsup &&
    !(s.pw s.cfg.ccsup).entering

/-- The device as SAFE_OFF shows, ahead of its session, its weights and its districts. -/
def State.offShown (s : State) : State :=
  let s := (((s.tstStop 4).endDoze).byeAll 1).stopFlash
  let s := ((s.dropBooks.set R.PWR_STAT_DEV 0 devOff).set R.FLT_STAT_STATE 0 2).set R.ORR_STAT_NODIST 0 0
  (((s.raise R.FLT_FLT_OFF).set R.PWR_WAKE_LNK_EN 0 1).irqAll 1 0x07).capTrig 3

/-- The device in SAFE_OFF ahead of the OFF entries of its districts. -/
def State.offForced (s : State) (stay : Bool) : State :=
  let s := (s.offShown.endSession.dropWeights 0 0).raiseIf s.offShown.bud.gmode R.GRP_FLT_OVR
  { s with bud := { s.bud with ivNoGrp := true, ivSafe := true },
           flt := { s.flt with offPhase := .down, pin := false, released := 0 },
           dev := { s.dev with supStayed := stay, before := devRun } }

/-- The turn of a district as SAFE_OFF is forced. -/
def State.offTurn (stay : Bool) (s : State) (d : Nat) : State := if stay && s.isSupply d then s.stayOn d else s.offNow d

theorem State.forceOff_eq (s : State) (thermal : Bool) : s.forceOff thermal =
    let b := s.supplyStays thermal
    let u := (s.offForced b).each (s.offForced b).districts (State.offTurn b)
    u.each u.districts State.foNormal := rfl

theorem State.offForced_devSt (s : State) (stay : Bool) : (s.offForced stay).devSt = devOff := by
  have hshown : s.offShown.devSt = devOff := by
    rw [State.devSt, State.offShown, State.capTrig_get (by decide), State.irqAll_get (by decide), State.get_set_apart (by decide),
      State.raise_get (by decide), State.get_set_apart (by decide), State.get_set_apart (by decide),
      State.get_set_self _ _ _ _ (by decide)]
    rfl
  have hdropped : (s.offShown.endSession.dropWeights 0 0).devSt = devOff :=
    (State.get_set_apart (by decide) _ _ _ _).trans ((State.get_set_apart (by decide) _ _ _ _).trans
      ((State.endSession_get (by decide) _ _).trans hshown))
  refine Eq.trans (b := ((s.offShown.endSession.dropWeights 0 0).raiseIf s.offShown.bud.gmode R.GRP_FLT_OVR).devSt) rfl ?_
  unfold State.raiseIf
  split
  · exact (State.raise_get (by decide) _ _ _).trans hdropped
  · exact hdropped

theorem State.offTurn_devSt (stay : Bool) (s : State) (d : Nat) : (s.offTurn stay d).devSt = s.devSt := by
  unfold State.offTurn
  split
  · exact s.stayOn_get (by decide) d 0
  · exact s.offNow_get (by decide) d 0

theorem State.forceOff_devSt (s : State) (thermal : Bool) : (s.forceOff thermal).devSt = devOff := by
  rw [State.forceOff_eq]
  refine (State.each_const State.devSt _ _ _ fun t d => t.foNormal_get (by decide) d 0).trans ?_
  exact (State.each_const State.devSt _ _ _ fun t d => t.offTurn_devSt _ d).trans (s.offForced_devSt _)

theorem State.offTurn_kept (stay : Bool) (s : State) (d : Nat) : (s.offTurn stay d).kept = s.kept := by
  unfold State.offTurn
  split
  · exact s.stayOn_kept d
  · exact s.offNow_kept d

theorem State.forceOff_kept (s : State) (thermal : Bool) :
    (s.forceOff thermal).kept = (s.offForced (s.supplyStays thermal)).kept := by
  rw [State.forceOff_eq]
  exact (State.each_kept _ _ _ fun t d => t.foNormal_kept d).trans (State.each_kept _ _ _ fun t d => t.offTurn_kept _ d)

/-- As SAFE_OFF is forced the session, the released key and an open delivery end (R450). -/
theorem State.offForced_gone (s : State) (stay : Bool) : (s.offForced stay).sec.gone := by
  have hdropped : (s.offShown.endSession.dropWeights 0 0).sec.gone := s.offShown.endSession_gone
  refine hdropped.of_kept (t := s.offForced stay) ?_
  exact (State.raiseIf_kept (s.offShown.endSession.dropWeights 0 0) s.offShown.bud.gmode R.GRP_FLT_OVR 0)

/-- As SAFE_OFF is forced the integration data, the fuse map, operating time and the queue stand. -/
theorem State.offForced_fixed (s : State) (stay : Bool) : (s.offForced stay).fixed = s.fixed := by
  have hbefore : (((s.tstStop 4).endDoze).byeAll 1).stopFlash.fixed = s.fixed := by
    rw [State.stopFlash_fixed]
    exact State.fixed_of_kept (by simp)
  have hshown : s.offShown.fixed = s.fixed := by
    refine (State.fixed_of_kept ?_).trans hbefore
    unfold State.offShown
    simp
  have hdropped : (s.offShown.endSession.dropWeights 0 0).fixed = s.fixed := (State.endSession_fixed _).trans hshown
  refine Eq.trans ?_ hdropped
  exact State.fixed_of_kept (State.raiseIf_kept (s.offShown.endSession.dropWeights 0 0) s.offShown.bud.gmode R.GRP_FLT_OVR 0)

theorem State.forceOff_gone (s : State) (thermal : Bool) : (s.forceOff thermal).sec.gone :=
  (s.offForced_gone _).of_kept (s.forceOff_kept thermal)

theorem State.forceOff_fixed (s : State) (thermal : Bool) : (s.forceOff thermal).fixed = s.fixed :=
  (State.fixed_of_kept (s.forceOff_kept thermal)).trans (s.offForced_fixed _)

/-! ### What the registration of a report leaves of the standing causes (R414) -/

/-- A report as it is entered, ahead of the history: it is counted, and shown and staged where its class says so. -/
def State.entered (s : State) (r : Report) (e : Entry) : State :=
  let s := s.inc R.FLT_STAT_EVENTS
  let s := if !s.repeats r ∧ e.react ≥ 1 then s.irqAll 1 0x07 else s
  if !s.repeats r ∧ (e.react ≥ 1 ∨ (r.cls = clsCell ∧ (r.cause / 16 = 1 ∨ r.cause / 16 = 3))) then s.stageFault e else s

theorem State.enter_eq (s : State) (r : Report) : (s.enter r).2 =
    { s.entered r (s.enter r).1 with
      flt := { (s.entered r (s.enter r).1).flt with hist := ((s.enter r).1 :: (s.entered r (s.enter r).1).flt.hist).take 32 },
      bud := { (s.entered r (s.enter r).1).bud with flts := satU 32 ((s.entered r (s.enter r).1).bud.flts + 1) } } := rfl

theorem State.enter_cause (s : State) (r : Report) : (s.enter r).2.get R.FLT_CAUSE_CAUSE = s.get R.FLT_CAUSE_CAUSE := by
  have hcount := State.inc_get (F := R.FLT_STAT_EVENTS) (G := R.FLT_CAUSE_CAUSE) (by decide) s 0 1 0
  have hirq {c : Prop} [Decidable c] := State.get_ite (c := c) ((State.irqAll_get (by decide) _ 1 0x07 0).trans hcount) hcount
  rw [State.enter_eq, State.get_with (s.entered r (s.enter r).1)]
  exact State.get_ite ((State.stage_get (by decide) _ _ _ 0).trans hirq) hirq

theorem State.latchFirst_cause (s : State) (e : Entry) : (s.latchFirst e).get R.FLT_CAUSE_CAUSE = s.get R.FLT_CAUSE_CAUSE := by
  unfold State.latchFirst
  dsimp only
  rw [State.get_with (State.irqAll _ 1 0x07), State.irqAll_get (by decide), State.raise_get (by decide),
    State.raise_get (by decide),
    State.get_set_apart (by decide), State.get_set_apart (by decide), State.get_set_apart (by decide)]

theorem State.copyPage_cause (s u : State) (sq p : Nat) :
    (State.copyPage s u sq p).get R.FLT_CAUSE_CAUSE = u.get R.FLT_CAUSE_CAUSE := State.get_set_apart (by decide) u p sq 0

/-- The Exhibit with its copies: its number, its trigger and its time. -/
def State.exhStamped (s u : State) : State :=
  let u := (u.set R.EXH_SEQ_SEQ 0 (nextExh (s.get R.EXH_SEQ_SEQ))).set R.EXH_STAT_SRC 0 s.exh.trig
  (u.set R.EXH_TIME0_OPSEC 0 s.opsec).set R.EXH_TIME1_TICKS 0 s.tick

theorem effExhibit_eq (s : State) (h : ¬(s.exh.trig = 0 ∨ (!s.dev.released) = true)) (hh : s.flag R.EXH_STAT_HELD = false) :
    effExhibit s =
      let u := s.exhStamped s.exhCopied
      let u := if s.flag R.EXH_CTL_HOLD_EN then u.set R.EXH_STAT_HELD 0 1 else u
      (if s.exh.trig.testBit 1 then u.stage 0x06 (leBytes 4 (nextExh (s.get R.EXH_SEQ_SEQ)) ++ leBytes 4 s.exh.trig ++
        leBytes 2 s.exhPages.length) else u).capTrig 4 :=
  (if_neg h).trans (if_neg (Bool.not_eq_true _ ▸ hh))

theorem effExhibit_cause (s : State) : (effExhibit s).get R.FLT_CAUSE_CAUSE = s.get R.FLT_CAUSE_CAUSE := by
  by_cases h : s.exh.trig = 0 ∨ (!s.dev.released) = true
  · exact congrArg (State.get · R.FLT_CAUSE_CAUSE) (if_pos h)
  cases hh : s.flag R.EXH_STAT_HELD with
  | true =>
    refine (congrArg (State.get · R.FLT_CAUSE_CAUSE) ((if_neg h).trans (if_pos hh))).trans ?_
    rw [State.capTrig_get (by decide), State.raise_get (by decide), State.inc_get (by decide)]
    rfl
  | false =>
    have hcopied : s.exhCopied.get R.FLT_CAUSE_CAUSE = s.get R.FLT_CAUSE_CAUSE :=
      State.each_const (State.get · R.FLT_CAUSE_CAUSE) _ _ _ fun u p => State.copyPage_cause s u _ p
    have hstamped : (s.exhStamped s.exhCopied).get R.FLT_CAUSE_CAUSE = s.get R.FLT_CAUSE_CAUSE := by
      rw [State.exhStamped, State.get_set_apart (by decide), State.get_set_apart (by decide), State.get_set_apart (by decide),
        State.get_set_apart (by decide), hcopied]
    have hheld := State.get_ite (c := s.flag R.EXH_CTL_HOLD_EN = true)
      ((State.get_set_apart (F := R.EXH_STAT_HELD) (by decide) _ 0 1 0).trans hstamped) hstamped
    rw [effExhibit_eq s h hh, State.capTrig_get (by decide)]
    exact State.get_ite ((State.stage_get (by decide) _ _ _ _).trans hheld) hheld

/-! ### The report of an OFF class whose cause does not stand (R410, R412, R414, R417) -/

/-- The latch and the Exhibit of an entry of reaction ALM or above. -/
def State.faultShown (s : State) (e : Entry) : State :=
  let s := if s.flag R.FLT_STAT_FVALID then s else s.latchFirst e
  if s.flag R.EXH_CTL_FLT_EN then effExhibit (s.exhTrig 1) else s

theorem State.latched_cause (s : State) (e : Entry) :
    (if s.flag R.FLT_STAT_FVALID = true then s else s.latchFirst e).get R.FLT_CAUSE_CAUSE = s.get R.FLT_CAUSE_CAUSE :=
  State.get_ite rfl (s.latchFirst_cause e)

theorem State.faultShown_cause (s : State) (e : Entry) : (s.faultShown e).get R.FLT_CAUSE_CAUSE = s.get R.FLT_CAUSE_CAUSE :=
  State.get_ite ((effExhibit_cause _).trans (s.latched_cause e)) (s.latched_cause e)

theorem State.faultShown_kept (s : State) (e : Entry) : (s.faultShown e).kept = s.kept := by
  unfold State.faultShown
  simp

/-- One report of reaction OFF whose cause does not stand is entered, latched and exhibited, and SAFE_OFF follows. -/
theorem State.registerReports_off (s : State) (r : Report) (hx : s.reactNow r = 3) (hc : s.stands r.cls = false) :
    ∃ u : State, u.kept = s.kept ∧ u.stands r.cls = false ∧ s.registerReports [r] = u.react r 3 := by
  have hfresh : (s.enter r).2.repeats r = false := by
    have hstands : (s.enter r).2.stands r.cls = false := (congrArg (Nat.testBit · r.cls) (s.enter_cause r)).trans hc
    rw [State.repeats, hstands, Bool.and_false]
  have hreact : (s.enter r).1.react = 3 := hx
  let v := (s.enter r).2.faultShown (s.enter r).1
  have hv : v.kept = s.kept := (State.faultShown_kept _ _).trans (s.enter_kept r)
  have hvc : v.get R.FLT_CAUSE_CAUSE = s.get R.FLT_CAUSE_CAUSE := (State.faultShown_cause _ _).trans (s.enter_cause r)
  refine ⟨if adcOf r.cls then v.injTrigger else v, ?_, ?_, ?_⟩
  · split
    · rw [State.injTrigger_kept, hv]
    · exact hv
  · refine (congrArg (Nat.testBit · r.cls) (State.get_ite ?_ hvc)).trans hc
    exact (v.injTrigger_get (by decide) 0).trans hvc
  · unfold State.registerReports
    simp [insertReport, hfresh, worst, hreact, v, State.faultShown] <;> rfl

/-- The cause of a report stands, as one that was injected or not. -/
def State.caused (s : State) (r : Report) : State :=
  let u := s.raiseBit R.FLT_CAUSE_CAUSE 0 r.cls
  let inj := s.flt.injected.erase r.cls
  { u with flt := { s.flt with injected := if r.injected then inj ++ [r.cls] else inj } }

theorem State.caused_kept (s : State) (r : Report) : (s.caused r).kept = s.kept := s.raiseBit_kept R.FLT_CAUSE_CAUSE 0 r.cls

theorem State.react_off (s : State) (r : Report) (hc : s.stands r.cls = false) (hw : r.cls ≠ clsWiring) :
    s.react r 3 = (s.caused r).forceOff (r.cls == clsThermal && !r.injected) := by
  have hfresh : s.repeats r = false := by rw [State.repeats, hc, Bool.and_false]
  unfold State.react State.caused
  simp only [hfresh, if_neg hw]
  rfl

/-- The report of SAFESTOP forces SAFE_OFF, and the session, the released key and an open delivery end. -/
theorem faultReport_safestop (s : State) (hr : s.dev.released = true) (hc : s.stands clsSafestop = false)
    (hl : s.flt.lines = [{ cls := clsSafestop, cause := 0, src := srcOf 8 1 }]) :
    ∃ t, exec .faultReport s = .next t ∧ t.devSt = devOff ∧ t.sec.key = none ∧ t.sec.sess = none ∧
      t.sec.deliv.opened = false ∧ t.cfg = s.cfg ∧ t.fuse = s.fuse ∧ t.pending = s.pending := by
  let r : Report := { cls := clsSafestop, cause := 0, src := srcOf 8 1 }
  let v : State := { s with flt := { s.flt with lines := [] } }
  obtain ⟨u, hukept, hustands, hregister⟩ := v.registerReports_off r rfl hc
  let w := u.caused r
  have hforce : u.react r 3 = w.forceOff false := u.react_off r hustands (by decide)
  have heff : effFaultReport s = w.forceOff false := by
    unfold effFaultReport
    rw [hl]
    exact (if_pos (by simp [hr])).trans (hregister.trans hforce)
  have hfixed : (w.forceOff false).fixed = s.fixed :=
    (w.forceOff_fixed false).trans (State.fixed_of_kept ((u.caused_kept r).trans hukept))
  obtain ⟨hkey, hsess, hopen⟩ := w.forceOff_gone false
  obtain ⟨hcfg, hfuse, -, hpending⟩ := (State.fixed_iff _ _).mp hfixed
  exact ⟨_, congrArg Host.Outcome.next heff, w.forceOff_devSt false, hkey, hsess, hopen, hcfg, hfuse, hpending⟩

/-! ### The safe stop and the releases of OFF causes (R408, R415, R417) -/

/-- SAFE_STOP with the complex released drives its report line. -/
theorem safeStop_reports (s : State) (hr : s.dev.released = true) :
    ∃ t, exec .safeStop s = .next t ∧
      t = { s with flt := { s.flt with safeStopLow := true, relOk := s.flt.relOk.erase clsSafestop, lines := t.flt.lines } } ∧
      ((srcOf 8 1, clsSafestop) ∉ s.flt.masked →
        t.flt.lines = s.flt.lines ++ [{ cls := clsSafestop, cause := 0, src := srcOf 8 1 }]) := by
  let u : State := { s with flt := { s.flt with safeStopLow := true, relOk := s.flt.relOk.erase clsSafestop } }
  refine ⟨u.report clsSafestop 0 (srcOf 8 1), congrArg Host.Outcome.next (if_pos hr), ?_, fun hm => u.report_lines _ _ _ hm⟩
  unfold State.report
  split <;> rfl

/-- The restart condition of a standing OFF class that nothing holds lets its release hold. -/
theorem offCauseRestartRelease_releases (s : State) (cls : Nat) (h3 : reactOf cls = 3) (hs : s.stands cls = true)
    (hh : s.thermHeld cls = false) (hr : cls ∉ s.flt.relOk) :
    exec (.offCauseRestartRelease cls) s = .next { s with
      flt := { s.flt with relOk := s.flt.relOk ++ [cls],
                          safeStopLow := if cls = clsSafestop then false else s.flt.safeStopLow },
      bud := { s.bud with coolPin := if cls = clsCoolant then true else s.bud.coolPin } } := by
  have hok : (reactOf cls == 3 && s.stands cls && !s.thermHeld cls && !s.flt.relOk.contains cls) = true := by
    simp [h3, hs, hh, hr]
  refine congrArg Host.Outcome.next ?_
  unfold effRestartRelease
  by_cases h1 : cls = clsSafestop
  · have h2 : cls ≠ clsCoolant := by rw [h1]; decide
    simp only [if_pos h1, if_neg h2]
    exact if_pos hok
  · by_cases h2 : cls = clsCoolant
    · simp only [if_neg h1, if_pos h2]
      exact if_pos hok
    · simp only [if_neg h1, if_neg h2]
      exact if_pos hok

/-- A thermal state holds class THERMAL alone, whose restart condition then changes nothing (R294). -/
theorem offCauseRestartRelease_held (s : State) (cls : Nat) (hh : s.thermHeld cls = true) :
    exec (.offCauseRestartRelease cls) s = .next s := by
  have hcls : cls = clsThermal := by
    simp only [State.thermHeld, Bool.and_eq_true, beq_iff_eq] at hh
    exact hh.1
  subst hcls
  exact congrArg Host.Outcome.next (if_neg (by simp [hh]))

/-! ### The restart from SAFE_OFF (R335, R417) -/

/-- What the restart path keeps of the phase of SAFE_OFF and of the cause of the BOOT that follows. -/
def State.restarting (s : State) : OffPhase × Nat := (s.flt.offPhase, s.dev.bootCause)

theorem State.clearOff_restarting (s : State) (c : Nat) : (s.clearOff c).restarting = s.restarting := by
  unfold State.clearOff State.clearCause State.clearBit
  split
  · split <;> rfl
  · rfl

theorem State.stopFlash_restarting (s : State) : s.stopFlash.restarting = s.restarting :=
  State.stopFlash_const State.restarting (fun _ _ _ => rfl) (fun _ _ ⟨_, _, h⟩ => by rw [h]; rfl) (fun _ _ => rfl)
    (fun _ _ _ => rfl) (fun _ _ => rfl) s

theorem State.ccReset_restarting (s : State) : s.ccReset.restarting = s.restarting := by
  refine Eq.trans (b := s.undarkened.stopFlash.restarting) rfl ?_
  rw [State.stopFlash_restarting, s.undarkened_regs]
  rfl

theorem State.anvilsCharge_flt (s : State) (d : Nat) : (s.anvilsCharge d).flt = s.flt :=
  State.each_const State.flt s _ _ fun t a => by
    split
    · exact t.setAnv_flt a _
    · rfl

theorem State.switchOn_flt (s : State) (d vs : Nat) : (s.switchOn d vs).flt = s.flt := by
  have hlaw (u : State) (f : LawS → LawS) : (u.updLaw d f).flt = u.flt := rfl
  have htaken : (s.switchOnTaken d vs).flt = s.flt :=
    (hlaw _ _).trans ((((s.powerOnly_refl.endWait d).updPw d _).pwrStep d _ _).set _ _ _).flt
  have hramp (u : State) (l : List Nat) : (u.each l fun s c => s.rampCell c vs).flt = u.flt :=
    State.each_const State.flt u l _ fun _ _ => rfl
  have hstart (u : State) (l : List Nat) : (u.each l fun s c =>
      if s.cst c == cFused || s.cst c == cFailed || s.flag R.CEL_CTL_CELL_DIS c then s else s.sendStart c vs).flt = u.flt :=
    State.each_const State.flt u l _ fun t c => by split <;> rfl
  rw [← htaken]
  unfold State.switchOn
  dsimp only
  rw [State.anvilsCharge_flt]
  split
  · exact hramp _ _
  · exact hstart _ _

theorem State.supplyOn_flt (s : State) : s.supplyOn.flt = s.flt :=
  State.each_const State.flt s _ _ fun t d => by
    split
    · exact t.switchOn_flt d _
    · rfl

theorem State.supplyOn_restarting (s : State) : s.supplyOn.restarting = s.restarting :=
  Prod.ext (congrArg FltS.offPhase s.supplyOn_flt) (congrArg (DevS.bootCause ∘ Prod.fst) (s.supplyOn_tests 0))

/-- In HELD the device waits on, or stands in BOOT. -/
theorem State.offCheck_held {s : State} {k : Nat} (h : s.restarting = (.heldOff, k)) :
    s.offCheck.flt.offPhase ≠ .down ∧ s.offCheck.dev.bootCause = k := by
  obtain ⟨hphase, hcause⟩ := Prod.mk.inj h
  unfold State.offCheck
  split
  · exact ⟨by simp, hcause⟩
  · exact ⟨by simp [hphase], hcause⟩

/-- The device in HELD: the causes that a restart clears are cleared. -/
def State.offHeld (s : State) : State :=
  let u : State := { s with flt := { s.flt with offPhase := .heldOff }, dev := { s.dev with bootCause := 4 } }
  u.each [clsPll, clsVfeed, clsThermal] fun s c => if s.flt.injected.contains c then s else s.clearOff c

theorem State.offHeld_restarting (s : State) : s.offHeld.restarting = (.heldOff, 4) :=
  State.each_const State.restarting _ _ _ fun t c => by
    split
    · rfl
    · exact t.clearOff_restarting c

theorem State.offHeld_kept (s : State) : s.offHeld.kept = s.kept :=
  State.each_kept _ _ _ fun t c => by
    split
    · rfl
    · exact t.clearOff_kept c

/-- The control complex is reset with the supply group ON (R293, R335). -/
def State.heldReset (s : State) : State := { s.ccReset with dev := { s.ccReset.dev with released := false, powered := true } }

theorem State.heldReset_restarting (s : State) : s.heldReset.restarting = s.restarting :=
  Eq.trans (b := s.ccReset.restarting) rfl s.ccReset_restarting

theorem State.heldReset_fixed (s : State) : s.heldReset.fixed = s.fixed := Eq.trans (b := s.ccReset.fixed) rfl s.ccReset_fixed

/-- From HELD the control complex is reset where its supply stayed ON, and its supply begins its switch-on elsewhere. -/
def State.heldOn (s : State) (stay : Bool) : State := if stay then s.heldReset else s.supplyOn

theorem State.heldOn_restarting (s : State) (stay : Bool) : (s.heldOn stay).restarting = s.restarting := by
  cases stay with
  | true => exact s.heldReset_restarting
  | false => exact s.supplyOn_restarting

theorem State.heldOn_fixed (s : State) (stay : Bool) : (s.heldOn stay).fixed = s.fixed := by
  cases stay with
  | true => exact s.heldReset_fixed
  | false => exact State.fixed_of_kept s.supplyOn_kept

theorem effRestartPath_eq {s : State} (hd : s.devSt = devOff) (hp : s.flt.offPhase = .down) (hw : s.flt.wireOff = false)
    (ha : s.allOff (fun d => !(s.dev.supStayed && s.isSupply d)) = true) (hr : ∀ c ∈ s.offStanding, s.released c = true) :
    effRestartPath s = (s.offHeld.heldOn s.dev.supStayed).offCheck := by
  have hall : (s.offStanding.all fun c => s.released c) = true := List.all_eq_true.mpr hr
  exact if_pos (by rw [hd, hp, hw, ha, hall]; rfl)

/-- RESTART_PATH begins the restart with the cause SAFE_OFF. -/
theorem restartPath_restarts (s : State) (hd : s.devSt = devOff) (hp : s.flt.offPhase = .down) (hw : s.flt.wireOff = false)
    (ha : s.allOff (fun d => !(s.dev.supStayed && s.isSupply d)) = true) (hr : ∀ c ∈ s.offStanding, s.released c = true) :
    ∃ t, exec .restartPath s = .next t ∧ t.dev.bootCause = 4 ∧ t.flt.offPhase ≠ .down ∧ t.cfg = s.cfg ∧ t.fuse = s.fuse ∧
      t.pending = s.pending ∧ (s.dev.supStayed = false → t.kept = s.kept) := by
  have hheld : (s.offHeld.heldOn s.dev.supStayed).restarting = (.heldOff, 4) :=
    (State.heldOn_restarting _ _).trans s.offHeld_restarting
  have hfixed : (s.offHeld.heldOn s.dev.supStayed).offCheck.fixed = s.fixed :=
    (State.fixed_of_kept (State.offCheck_kept _)).trans ((State.heldOn_fixed _ _).trans (State.fixed_of_kept s.offHeld_kept))
  obtain ⟨hphase, hcause⟩ := State.offCheck_held hheld
  obtain ⟨hcfg, hfuse, -, hpending⟩ := (State.fixed_iff _ _).mp hfixed
  refine ⟨_, congrArg Host.Outcome.next (effRestartPath_eq hd hp hw ha hr), hcause, hphase, hcfg, hfuse, hpending,
    fun hstay => ?_⟩
  rw [State.offCheck_kept, hstay]
  exact s.offHeld.supplyOn_kept.trans s.offHeld_kept

/-! ### HREL and OREL (R415, R417) -/

theorem State.clearCause_stands (s : State) (c : Nat) : (s.clearCause c).stands c = false :=
  State.testBit_clearBit s R.FLT_CAUSE_CAUSE 0 c (by decide)

/-- Taking away a bit that is set leaves the other bits. -/
theorem testBit_sub_two_pow_ne {n i k : Nat} (h : n.testBit k = true) (hi : i ≠ k) : (n - 2 ^ k).testBit i = n.testBit i := by
  obtain ⟨q, r, hr, hn⟩ : ∃ q r, r < 2 ^ k ∧ n = 2 ^ (k + 1) * q + (2 ^ k * 1 + r) := by
    rw [Nat.testBit_eq_decide_div_mod_eq, decide_eq_true_eq] at h
    refine ⟨n / 2 ^ k / 2, n % 2 ^ k, Nat.mod_lt _ (Nat.two_pow_pos k), ?_⟩
    have h1 := Nat.div_add_mod n (2 ^ k)
    have h2 := Nat.div_add_mod (n / 2 ^ k) 2
    rw [h] at h2
    rw [pow_succ, Nat.mul_assoc, ← Nat.add_assoc, ← Nat.mul_add, h2, h1]
  have hlow : 2 ^ k * 1 + r < 2 ^ (k + 1) := by rw [pow_succ]; omega
  have hsub : n - 2 ^ k = 2 ^ (k + 1) * q + r := by omega
  rw [hsub, hn, Nat.testBit_two_pow_mul_add _ hlow, Nat.testBit_two_pow_mul_add _ (hr.trans (by omega)),
    Nat.testBit_two_pow_mul_add _ hr]
  split
  · rw [if_pos (by omega)]
  · rfl

/-- A bit that is not set in a field is not set as another clears. -/
theorem State.clearBit_testBit {s : State} {F : Fld} {i c : Nat} (h : (s.get F i).testBit c = false) (hw : F.lo + F.w ≤ 32)
    (k : Nat) : ((s.clearBit F i k).get F i).testBit c = false := by
  unfold State.clearBit
  split
  · next hk =>
    have hne : c ≠ k := fun e => by simp [e ▸ hk] at h
    rw [State.get_set_self _ _ _ _ hw, Nat.testBit_mod_two_pow, testBit_sub_two_pow_ne hk hne, h, Bool.and_false]
  · exact h

/-- A cause that does not stand stands no more as another clears. -/
theorem State.clearCause_idle {s : State} {c : Nat} (h : s.stands c = false) (k : Nat) : (s.clearCause k).stands c = false :=
  State.clearBit_testBit h (by decide) k

theorem State.clearOff_idle {s : State} {c : Nat} (h : s.stands c = false) (k : Nat) : (s.clearOff k).stands c = false := by
  unfold State.clearOff
  split
  · exact State.clearCause_idle h k
  · exact h

/-- The turn of a HOLD class at HREL. -/
def State.holdTurn (s : State) (c : Nat) : State :=
  if c ∈ [clsArithp, clsLedger, clsSupcap] ∨ s.flt.injected.contains c then
    { s.clearCause c with flt := { s.flt with injected := s.flt.injected.erase c } } else s

theorem effHrel_eq (s : State) : effHrel s = s.each ((List.range 0x17).filter fun c => reactOf c == 2) State.holdTurn := rfl

theorem State.holdTurn_stands {s : State} {c : Nat} (h : c ∈ [clsArithp, clsLedger, clsSupcap]) :
    (s.holdTurn c).stands c = false := by
  rw [State.holdTurn, if_pos (.inl h)]
  exact s.clearCause_stands c

theorem State.holdTurn_idle {s : State} {c : Nat} (h : s.stands c = false) (k : Nat) : (s.holdTurn k).stands c = false := by
  unfold State.holdTurn
  split
  · exact State.clearCause_idle h k
  · exact h

theorem State.holdTurn_rsps (s : State) (c : Nat) : (s.holdTurn c).rsps = s.rsps := by
  unfold State.holdTurn State.clearCause State.clearBit
  split
  · split <;> rfl
  · rfl

/-- HREL clears the HOLD causes of the owner. -/
theorem effHrel_stands (s : State) {c : Nat} (h : c ∈ [clsArithp, clsLedger, clsSupcap]) : (effHrel s).stands c = false := by
  have hl : c ∈ (List.range 0x17).filter fun c => reactOf c == 2 := by
    revert c
    decide
  rw [effHrel_eq]
  exact State.each_reaches (fun _ => True) (fun t => t.stands c = false) State.holdTurn c (fun _ _ _ => trivial)
    (fun t _ => State.holdTurn_stands h) (fun t k ht => State.holdTurn_idle ht k) s _ hl trivial

theorem holdRelease_clears (s : State) (g : Gal) (h : s.rowPasses g R.FLT_CTL_HREL 0 1) :
    ∃ t, exec (.holdRelease g) s = .next t ∧ t.kept = s.kept ∧ t.rsps = [{ gal := g, code := .ok, data := 0 }] ∧
      ∀ c ∈ [clsArithp, clsLedger, clsSupcap], t.stands c = false := by
  have hrsps : (effHrel s.newAccess).rsps = [] := State.each_const State.rsps _ _ _ fun t c => t.holdTurn_rsps c
  refine ⟨_, congrArg Host.Outcome.next (s.hostRow_passes g _ _ _ _ h), ?_, ?_, fun c hc => effHrel_stands s.newAccess hc⟩
  · rw [State.respond_kept, effHrel_kept, State.newAccess_kept]
  · rw [State.respond, hrsps]
    rfl

/-- The turn of a standing OFF class at OREL. -/
def State.offReleaseTurn (s : State) (c : Nat) : State :=
  if (c = clsSafestop ∨ s.flt.injected.contains c) ∧ !s.thermHeld c then s.clearOff c else s

theorem State.offReleaseTurn_idle {s : State} {c : Nat} (h : s.stands c = false) (k : Nat) :
    (s.offReleaseTurn k).stands c = false := by
  unfold State.offReleaseTurn
  split
  · exact State.clearOff_idle h k
  · exact h

theorem effOrel_eq (s : State) : effOrel s true = (s.each s.offStanding State.offReleaseTurn).offCheck := if_pos rfl

theorem State.offCheck_stands (s : State) (c : Nat) : s.offCheck.stands c = s.stands c := by
  refine congrArg (Nat.testBit · c) ?_
  unfold State.offCheck
  split
  · exact (State.get_set_apart (by decide) _ _ _ _).trans (State.get_set_apart (by decide) _ _ _ _)
  · rfl

/-- OREL with SAFE_STOP_N high clears the cause SAFESTOP. -/
theorem effOrel_stands (s : State) : (effOrel s true).stands clsSafestop = false := by
  rw [effOrel_eq, State.offCheck_stands]
  cases hs : s.stands clsSafestop with
  | true =>
    have hl : clsSafestop ∈ s.offStanding := List.mem_filter.mpr ⟨by decide, by rw [hs]; rfl⟩
    refine State.each_reaches (fun _ => True) (fun t => t.stands clsSafestop = false) State.offReleaseTurn clsSafestop
      (fun _ _ _ => trivial) (fun t _ => ?_) (fun t k ht => State.offReleaseTurn_idle ht k) s _ hl trivial
    rw [State.offReleaseTurn, if_pos ⟨.inl rfl, rfl⟩]
    exact t.clearOff_stands clsSafestop
  | false =>
    exact State.each_induct (fun t => t.stands clsSafestop = false) _ _ (fun t k _ ht => State.offReleaseTurn_idle ht k) s hs

theorem offRelease_clears (s : State) (g : Gal) (h : s.rowPasses g R.FLT_CTL_OREL 0 1) :
    (∃ t, exec (.offRelease g true) s = .next t ∧ t.kept = s.kept ∧ t.stands clsSafestop = false) ∧
      exec (.offRelease g false) s = .next (s.okRsp g) := by
  refine ⟨⟨_, congrArg Host.Outcome.next (s.hostRow_passes g _ _ _ _ h), ?_, effOrel_stands s.newAccess⟩,
    congrArg Host.Outcome.next (s.hostRow_passes g _ _ _ _ h)⟩
  rw [State.respond_kept, effOrel_kept, State.newAccess_kept]

/-- Settles O18: SAFE_OFF ends the session and the key as it is forced, and each release clears what it names. -/
theorem safeOffEndsTheSecrets : Obligations.SafeOffEndsTheSecrets :=
  ⟨safeStop_reports, faultReport_safestop, offCauseRestartRelease_releases, offCauseRestartRelease_held, restartPath_restarts,
    holdRelease_clears, offRelease_clears⟩

end Sys2Proof.Machine

namespace Sys2Proof.Machine

/-! ### Rounds of the ADC (R277, R280) -/

/-- A regular round is in progress, under the next number, with its conversions still to be dealt out. -/
def State.roundBegun (s : State) : State :=
  let u := (s.set R.ADC_STAT_BUSY 0 1).incWrap R.ADC_STAT_ROUND
  { u with adc := { s.adc with startDue := false, injRound := if u.flag R.ADC_STAT_INJ_BUSY then 1 else 0, therm := true } }

theorem State.roundBegin_eq (s : State) : s.roundBegin =
    s.roundBegun.dealOut s.inService fun k x => { x with reg := dealt s.inService.length k 0 s.roundChannels }.wakeUp := rfl

theorem State.roundBegin_busy (s : State) : s.roundBegin.get R.ADC_STAT_BUSY = 1 := by
  rw [State.roundBegin_eq, State.dealOut_get]
  refine (State.get_set_apart (by decide) _ _ _ _).trans ?_
  rw [State.get_set_self _ _ _ _ (by decide)]
  rfl

theorem State.roundBegin_round (s : State) :
    s.roundBegin.get R.ADC_STAT_ROUND = (s.get R.ADC_STAT_ROUND + 1) % 2 ^ R.ADC_STAT_ROUND.w := by
  rw [State.roundBegin_eq, State.dealOut_get]
  refine (State.get_set_self _ _ _ _ (by decide)).trans ?_
  rw [State.get_set_apart (by decide)]

theorem State.roundBegin_form (s : State) : s.roundBegin = { s with regs := s.roundBegin.regs, adc := s.roundBegin.adc } := by
  rw [State.roundBegin_eq, State.dealOut_eq]
  rfl

theorem State.roundBegin_startDue (s : State) : s.roundBegin.adc.startDue = false := by
  rw [State.roundBegin_eq, State.dealOut_eq]
  rfl

theorem State.roundBegin_framed (s : State) : s.framed s.roundBegin [R.ADC_STAT_BUSY.key 0, R.ADC_STAT_ROUND.key 0] := by
  have hregs : s.roundBegin.regs = s.roundBegun.regs := by rw [State.roundBegin_eq, State.dealOut_eq]
  refine State.framed_congr _ _ _ _ (State.framed_set _ (s.set R.ADC_STAT_BUSY 0 1) _ R.ADC_STAT_ROUND 0 _ ?_ (by simp)) hregs
  exact State.framed_set _ _ _ _ _ _ (s.framed_refl _) (by simp)

theorem State.flag_of_one {s : State} {F : Fld} {i : Nat} (h : s.get F i = 1) : s.flag F i = true := by rw [State.flag, h]; rfl

theorem State.flag_of_zero {s : State} {F : Fld} {i : Nat} (h : s.get F i = 0) : s.flag F i = false := by rw [State.flag, h]; rfl

/-- Before CLK_HK runs a START is held. -/
theorem State.roundStart_held {s : State} (h : s.onPll = false) :
    s.roundStart = { s with adc := { s.adc with startDue := true } } :=
  if_pos (by rw [h]; rfl)

/-- A START during a round is an overrun. -/
theorem State.roundStart_overrun {s : State} (h : s.onPll = true) (hb : s.get R.ADC_STAT_BUSY = 1) :
    s.roundStart = s.raise R.ADC_FLT_OVRUN :=
  (if_neg (by rw [h]; decide)).trans (if_pos (State.flag_of_one hb))

theorem State.roundStart_begins {s : State} (h : s.onPll = true) (hb : s.get R.ADC_STAT_BUSY = 0) :
    s.roundStart = s.roundBegin :=
  (if_neg (by rw [h]; decide)).trans (if_neg (by rw [State.flag_of_zero hb]; decide))

theorem adcRoundStart_starts (s : State) (g : Gal) (h : s.rowPasses g R.ADC_CTL_START 0 1) :
    (s.onPll = false → exec (.adcRoundStart g) s = .next { s.okRsp g with adc := { s.adc with startDue := true } }) ∧
    (s.onPll = true → s.get R.ADC_STAT_BUSY = 1 → ∃ t, exec (.adcRoundStart g) s = .next t ∧ t.get R.ADC_FLT_OVRUN = 1 ∧
      (s.okRsp g).only t [R.ADC_FLT_OVRUN.key 0]) ∧
    (s.onPll = true → s.get R.ADC_STAT_BUSY = 0 → ∃ t, exec (.adcRoundStart g) s = .next t ∧ t.get R.ADC_STAT_BUSY = 1 ∧
      t.get R.ADC_STAT_ROUND = (s.get R.ADC_STAT_ROUND + 1) % 2 ^ R.ADC_STAT_ROUND.w ∧ t.adc.startDue = false ∧
      t = { s.okRsp g with regs := t.regs, adc := t.adc } ∧ s.framed t [R.ADC_STAT_BUSY.key 0, R.ADC_STAT_ROUND.key 0]) := by
  have hex : exec (.adcRoundStart g) s = .next (s.newAccess.roundStart.respond g .ok 0) :=
    congrArg Host.Outcome.next (s.hostRow_passes g _ _ _ _ h)
  refine ⟨fun hp => ?_, fun hp hb => ?_, fun hp hb => ?_⟩
  · rw [hex, State.roundStart_held (s := s.newAccess) hp]
    rfl
  · rw [State.roundStart_overrun (s := s.newAccess) hp hb] at hex
    exact ⟨_, hex, State.get_raise_self s.newAccess _ _ (by decide) (by decide), rfl,
      State.framed_set _ (s.okRsp g) _ _ _ _ (State.framed_refl _ _) (by simp)⟩
  · rw [State.roundStart_begins (s := s.newAccess) hp hb] at hex
    refine ⟨_, hex, s.newAccess.roundBegin_busy, s.newAccess.roundBegin_round, s.newAccess.roundBegin_startDue, ?_,
      s.newAccess.roundBegin_framed⟩
    rw [State.respond, s.newAccess.roundBegin_form]
    rfl

/-- The round timer writes START where it is enabled. -/
theorem roundTimer_runs (s : State) (hp : s.onPll = true) :
    (s.get R.ADC_CTL_RT_EN = 0 → exec .roundTimer s = .next s) ∧
    (s.get R.ADC_CTL_RT_EN = 1 → s.get R.ADC_STAT_BUSY = 0 → ∃ t, exec .roundTimer s = .next t ∧ t.get R.ADC_STAT_BUSY = 1 ∧
      t = { s with regs := t.regs, adc := t.adc } ∧ s.framed t [R.ADC_STAT_BUSY.key 0, R.ADC_STAT_ROUND.key 0]) := by
  refine ⟨fun he => ?_, fun he hb => ?_⟩
  · exact congrArg Host.Outcome.next (if_neg (by rw [State.flag_of_zero he, Bool.and_false]; decide))
  · have heff : effRoundTimer s = s.roundBegin :=
      (if_pos (by rw [hp, State.flag_of_one he]; rfl)).trans (State.roundStart_begins hp hb)
    exact ⟨_, congrArg Host.Outcome.next heff, s.roundBegin_busy, s.roundBegin_form, s.roundBegin_framed⟩

/-- The watchdog begins a round where none is in progress. -/
theorem roundWatchdog_runs (s : State) (hp : s.onPll = true) :
    (s.get R.ADC_STAT_BUSY = 1 → exec .roundWatchdog s = .next s) ∧
    (s.get R.ADC_STAT_BUSY = 0 → ∃ t, exec .roundWatchdog s = .next t ∧ t.get R.ADC_STAT_BUSY = 1 ∧ t.get R.ADC_FLT_RTWD = 1 ∧
      t = { s with regs := t.regs, adc := t.adc } ∧
      s.framed t [R.ADC_STAT_BUSY.key 0, R.ADC_STAT_ROUND.key 0, R.ADC_FLT_RTWD.key 0]) := by
  refine ⟨fun hb => ?_, fun hb => ?_⟩
  · exact congrArg Host.Outcome.next (if_neg (by rw [State.flag_of_one hb, Bool.not_true, Bool.and_false]; decide))
  · have heff : effRoundWatchdog s = s.roundBegin.raise R.ADC_FLT_RTWD := if_pos (by rw [hp, State.flag_of_zero hb]; rfl)
    have hframed : s.framed s.roundBegin [R.ADC_STAT_BUSY.key 0, R.ADC_STAT_ROUND.key 0, R.ADC_FLT_RTWD.key 0] :=
      State.framed_mono s.roundBegin_framed (by simp)
    refine ⟨_, congrArg Host.Outcome.next heff, ?_, State.get_raise_self _ _ _ (by decide) (by decide), ?_,
      State.framed_set _ _ _ _ _ _ hframed (by simp)⟩
    · rw [State.raise_get (by decide)]
      exact s.roundBegin_busy
    · rw [State.raise, s.roundBegin_form]
      rfl

/-! ### Slices and conversions (R272, R273, R275, R283) -/

theorem State.slice_updSlice (s : State) (k : Nat) (f : SliceS → SliceS) (j : Nat) :
    (s.updSlice k f).slice j = if k = j then f (s.slice j) else s.slice j := tabAt_tabUpd s.adc.slices k f j

theorem onSlice_lt {s f : State} {k : Nat} (h : k < 5) : onSlice s k f = .next f := congrArg Host.Outcome.next (if_pos h)

theorem onSlice_beyond {s f : State} {k : Nat} (h : 5 ≤ k) : onSlice s k f = .next s :=
  congrArg Host.Outcome.next (if_neg (by omega))

/-- A slice that has started up takes its next conversion. -/
theorem sliceStartupDone_next (s : State) (k : Nat) (hk : k < 5) (hp : s.onPll = true) (hon : (s.slice k).on = true)
    (hr : (s.slice k).ready = false) :
    ∃ t, exec (.sliceStartupDone k) s = .next t ∧ t.slice k = { s.slice k with ready := true }.next ∧
      (∀ j, j ≠ k → t.slice j = s.slice j) ∧ t = { s with adc := t.adc } := by
  have heff : effStartup s k = s.updSlice k fun x => if x.on && !x.ready then { x with ready := true }.next else x :=
    if_neg (by rw [hp]; decide)
  refine ⟨_, (onSlice_lt hk).trans (congrArg Host.Outcome.next heff), ?_, fun j hj => ?_, rfl⟩
  · rw [State.slice_updSlice, if_pos rfl, if_pos (by rw [hon, hr]; rfl)]
  · rw [State.slice_updSlice, if_neg hj.symm]

theorem sliceStartupDone_idle (s : State) (k : Nat) (h : 5 ≤ k ∨ s.onPll = false) : exec (.sliceStartupDone k) s = .next s := by
  rcases Nat.lt_or_ge k 5 with hk | hk
  · have hp : s.onPll = false := h.resolve_left (by omega)
    exact (onSlice_lt hk).trans (congrArg Host.Outcome.next (if_pos (by rw [hp]; rfl)))
  · exact onSlice_beyond hk

end Sys2Proof.Machine

namespace Sys2Proof.Machine

/-! ### A regular conversion (R272, R275, R281) -/

/-- The state in which a slice has stored a regular conversion, and goes on. -/
def State.converted (s : State) (k ch : Nat) (raw : Int) : State := (s.storeConv false ch k raw).updSlice k SliceS.next

theorem State.converted_slice (s : State) (k ch : Nat) (raw : Int) (j : Nat) :
    (s.converted k ch raw).slice j = if k = j then (s.slice j).next else s.slice j :=
  State.slice_updSlice (s.storeConv false ch k raw) k SliceS.next j

/-- With a slice in the middle of the round and no injected sequence the conversion is all that happens. -/
theorem effConversion_eq {s : State} {k ch j : Nat} (raw : Int) (hp : s.onPll = true) (hr : (s.slice k).ready = true)
    (hc : (s.slice k).cur = some (false, ch)) (ht : s.adc.therm = false) (hb : s.get R.ADC_STAT_INJ_BUSY = 0) (hj : j < 5)
    (hne : j ≠ k) (hreg : (s.slice j).hasReg (fun _ => true) = true) : effConversion s k raw = s.converted k ch raw := by
  have hinj : (s.converted k ch raw).injEnd = s.converted k ch raw := by
    have hflag : (s.converted k ch raw).flag R.ADC_STAT_INJ_BUSY = false := State.flag_of_zero (i := 0) hb
    exact if_neg (by rw [hflag, Bool.false_and]; decide)
  have hround : (s.converted k ch raw).roundEnd = s.converted k ch raw := by
    have hleft : (s.converted k ch raw).regLeft (fun _ => true) = true :=
      List.any_eq_true.mpr ⟨j, List.mem_range.mpr hj, by rw [State.converted_slice, if_neg hne.symm]; exact hreg⟩
    exact if_neg (by rw [hleft, Bool.not_true, Bool.and_false]; decide)
  have hok : ¬(!s.onPll || !(s.slice k).ready) = true := by rw [hp, hr]; decide
  have htherm : ¬((s.converted k ch raw).adc.therm &&
      !(s.converted k ch raw).regLeft (fun c => decide (c < 4 * (s.converted k ch raw).cfg.n))) = true := by
    rw [show (s.converted k ch raw).adc.therm = false from ht, Bool.false_and]
    decide
  unfold effConversion
  simp only [hc, if_neg hok]
  exact (congrArg (fun u => State.roundEnd (State.injEnd u)) (if_neg htherm)).trans
    ((congrArg State.roundEnd hinj).trans hround)

/-- ADC_CONVERSION stores the corrected code of its channel. -/
theorem adcConversion_stores (s : State) (k ch j : Nat) (raw : Int) (hk : k < 5) (hp : s.onPll = true)
    (hr : (s.slice k).ready = true) (hc : (s.slice k).cur = some (false, ch)) (ht : s.adc.therm = false)
    (hb : s.get R.ADC_STAT_INJ_BUSY = 0) (hj : j < 5) (hne : j ≠ k) (hreg : (s.slice j).hasReg (fun _ => true) = true) :
    ∃ t, exec (.adcConversion k raw) s = .next t ∧ t = { s with adc := t.adc } ∧ t.slice k = (s.slice k).next ∧
      tabAt t.adc.res ch = (codeOf 12 (corrected (s.getI R.ADC_CAL_OFS k) (s.get R.ADC_CAL_GAIN k) (s.chDiff ch) raw),
        s.get R.ADC_STAT_ROUND, s.chDiff ch) ∧
      (∀ c, c ≠ ch → (tabAt t.adc.res c : Nat × Nat × Bool) = tabAt s.adc.res c) := by
  refine ⟨s.converted k ch raw,
    (onSlice_lt hk).trans (congrArg Host.Outcome.next (effConversion_eq raw hp hr hc ht hb hj hne hreg)),
    rfl, (State.converted_slice ..).trans (if_pos rfl), ?_, fun c hch => ?_⟩
  · exact congrArg (Option.getD · default) (tabGet_put_self s.adc.res ch _)
  · exact congrArg (Option.getD · default) (tabGet_put_ne s.adc.res ch c _ hch.symm)

theorem adcConversion_idle (s : State) (k : Nat) (raw : Int) (hk : k < 5) (h : (s.slice k).cur = none) :
    exec (.adcConversion k raw) s = .next s := by
  refine (onSlice_lt hk).trans (congrArg Host.Outcome.next ?_)
  unfold effConversion
  simp only [h]

/-! ### Rotation (R274, R276) -/

/-- With no slice BAD the next one in the cyclic order follows. -/
theorem State.nextSlice_of_good {s : State} (h : s.get R.ADC_STAT_BAD = 0) (o : Nat) : s.nextSlice o = (o + 1) % 5 := by
  simp [State.nextSlice, h]

/-- The slice that returns takes its new coefficients. -/
def State.calTaken (s : State) (o : Nat) : State :=
  if (s.slice o).calDone then (s.setI R.ADC_CAL_OFS o (s.slice o).newOfs).set R.ADC_CAL_GAIN o (s.slice o).newGain else s

/-- The slice that follows leaves the service, and the slice out of service returns. -/
def State.rotated (s : State) (o : Nat) : State :=
  let u := (s.calTaken o).set R.ADC_STAT_OUT 0 ((s.calTaken o).nextSlice o)
  { u with adc := { (u.updSlice o fun x => { x with calDone := false }).adc with rotDue := false } }

theorem State.rotate_eq (s : State) : s.rotate = s.rotated (s.get R.ADC_STAT_OUT) := rfl

theorem State.calTaken_form (s : State) (o : Nat) : s.calTaken o = { s with regs := (s.calTaken o).regs } := by
  unfold State.calTaken
  split <;> rfl

theorem State.calTaken_framed (s : State) (o : Nat) : s.framed (s.calTaken o) [R.ADC_STAT_OUT.key 0, R.ADC_CAL_OFS.key o] := by
  have hofs : s.framed (s.setI R.ADC_CAL_OFS o (s.slice o).newOfs) [R.ADC_STAT_OUT.key 0, R.ADC_CAL_OFS.key o] :=
    State.framed_set _ _ _ _ _ _ (s.framed_refl _) (by simp)
  exact State.framed_ite _ (State.framed_set _ _ _ R.ADC_CAL_GAIN o _ hofs (by simp [Fld.key, R.ADC_CAL_GAIN, R.ADC_CAL_OFS]))
    (s.framed_refl _)

theorem State.calTaken_get {F : Fld} (h : F.apartAll [R.ADC_CAL_OFS, R.ADC_CAL_GAIN]) (s : State) (o i : Nat) :
    (s.calTaken o).get F i = s.get F i := by
  refine State.get_ite ?_ rfl
  rw [State.get_set_apart (h _ (by simp)), State.setI, State.get_set_apart (h _ (by simp))]

theorem State.rotated_out {s : State} (h : s.get R.ADC_STAT_BAD = 0) (o : Nat) :
    (s.rotated o).get R.ADC_STAT_OUT = (o + 1) % 5 := by
  have hbad : (s.calTaken o).get R.ADC_STAT_BAD = 0 := (State.calTaken_get (by decide) _ _ _).trans h
  refine (State.get_set_self _ R.ADC_STAT_OUT 0 _ (by decide)).trans ?_
  rw [State.nextSlice_of_good hbad, show R.ADC_STAT_OUT.w = 3 from rfl]
  omega

theorem State.rotated_get {F : Fld} (h : R.ADC_STAT_OUT.apart F) (s : State) (o i : Nat) :
    (s.rotated o).get F i = (s.calTaken o).get F i := State.get_set_apart h _ _ _ _

theorem State.rotated_form (s : State) (o : Nat) :
    s.rotated o = { s with regs := (s.rotated o).regs, adc := (s.rotated o).adc } := by
  rw [State.rotated, s.calTaken_form]
  rfl

theorem State.rotated_framed (s : State) (o : Nat) : s.framed (s.rotated o) [R.ADC_STAT_OUT.key 0, R.ADC_CAL_OFS.key o] :=
  State.framed_congr _ _ _ _ (State.framed_set _ _ _ R.ADC_STAT_OUT 0 _ (s.calTaken_framed o) (by simp)) rfl

theorem sliceRotation_rotates (s : State) (hp : s.onPll = true) (hbad : s.get R.ADC_STAT_BAD = 0) :
    (s.get R.ADC_STAT_BUSY = 1 → exec .sliceRotation s = .next { s with adc := { s.adc with rotDue := true } }) ∧
    (s.get R.ADC_STAT_BUSY = 0 → s.get R.ADC_STAT_INJ_BUSY = 0 → s.get R.ADC_STAT_OUT < 5 →
      ∃ t, exec .sliceRotation s = .next t ∧ t.get R.ADC_STAT_OUT = (s.get R.ADC_STAT_OUT + 1) % 5 ∧
        ((s.slice (s.get R.ADC_STAT_OUT)).calDone = false → ∀ k, t.get R.ADC_CAL_GAIN k = s.get R.ADC_CAL_GAIN k) ∧
        t = { s with regs := t.regs, adc := t.adc } ∧
        s.framed t [R.ADC_STAT_OUT.key 0, R.ADC_CAL_OFS.key (s.get R.ADC_STAT_OUT)]) := by
  have hrun : ¬(!s.onPll || s.get R.ADC_STAT_BAD != 0) = true := by rw [hp, hbad]; decide
  refine ⟨fun hb => ?_, fun hb hi _ => ?_⟩
  · exact congrArg Host.Outcome.next ((if_neg hrun).trans (if_pos (by rw [State.flag_of_one hb]; rfl)))
  · have heff : effRotation s = s.rotated (s.get R.ADC_STAT_OUT) :=
      (if_neg hrun).trans ((if_neg (by rw [State.flag_of_zero hb, State.flag_of_zero hi]; decide)).trans s.rotate_eq)
    refine ⟨_, congrArg Host.Outcome.next heff, State.rotated_out hbad _, fun hcal k => ?_, s.rotated_form _, s.rotated_framed _⟩
    have hsame : s.calTaken (s.get R.ADC_STAT_OUT) = s := if_neg (by rw [hcal]; decide)
    rw [State.rotated_get (by decide), hsame]

/-! ### Calibration (R275, R276) -/

theorem sliceCalibrationDone_held (s : State) (ground half full : Int) (h : s.onPll = false) :
    exec (.sliceCalibrationDone ground half full) s = .next s :=
  congrArg Host.Outcome.next (if_pos (by rw [h]; rfl))

/-- The gain that the span of the calibration asks for. -/
theorem effCalibration_eq {s : State} (ground : Int) {half full : Int} (hp : s.onPll = true) (hspan : 0 < full - half) :
    effCalibration s ground half full =
      let o := s.get R.ADC_STAT_OUT
      let gain := rdiv (1792 * 16 * 32768) (full - half).toNat
      if ground.natAbs ≤ 128 ∧ 32113 ≤ gain ∧ gain ≤ 33423 then
        s.updSlice o fun x => { x with calDone := true, newOfs := ground, newGain := gain.toNat }
      else if (s.get R.ADC_STAT_BAD).testBit o then s
      else ((s.raiseBit R.ADC_STAT_BAD 0 o).raise R.ADC_FLT_CALFAIL).report clsAdccal 0 (srcOf 7 o) := by
  have hgain : (if full - half ≤ 0 then 0 else rdiv (1792 * 16 * 32768) (full - half).toNat) =
    rdiv (1792 * 16 * 32768) (full - half).toNat := if_neg (by omega)
  rw [← hgain]
  exact if_neg (by rw [hp]; decide)

/-- SLICE_CALIBRATION_DONE within the limits forms the coefficients, and marks the slice bad outside them. -/
theorem sliceCalibrationDone_forms (s : State) (ground half full : Int) (o : Nat) (hp : s.onPll = true)
    (ho : o = s.get R.ADC_STAT_OUT) (ho5 : o < 5) (hspan : 0 < full - half) :
    (ground.natAbs ≤ 128 → 32113 ≤ rdiv (1792 * 16 * 32768) (full - half).toNat →
      rdiv (1792 * 16 * 32768) (full - half).toNat ≤ 33423 →
      ∃ t, exec (.sliceCalibrationDone ground half full) s = .next t ∧ (t.slice o).calDone = true ∧
        (t.slice o).newOfs = ground ∧ (t.slice o).newGain = (rdiv (1792 * 16 * 32768) (full - half).toNat).toNat ∧
        t = { s with adc := t.adc }) ∧
    (128 < ground.natAbs → (s.get R.ADC_STAT_BAD).testBit o = false → (srcOf 7 o, clsAdccal) ∉ s.flt.masked →
      ∃ t, exec (.sliceCalibrationDone ground half full) s = .next t ∧ (t.get R.ADC_STAT_BAD).testBit o = true ∧
        t.get R.ADC_FLT_CALFAIL = 1 ∧ t = { s with regs := t.regs, flt := { s.flt with
          lines := s.flt.lines ++ [{ cls := clsAdccal, cause := 0, src := srcOf 7 o }] } } ∧
        s.framed t [R.ADC_STAT_BAD.key 0, R.ADC_FLT_CALFAIL.key 0]) := by
  subst ho
  have heff := effCalibration_eq ground hp hspan
  dsimp only at heff
  refine ⟨fun hg hlo hhi => ?_, fun hg hb hm => ?_⟩
  · rw [if_pos ⟨hg, hlo, hhi⟩] at heff
    have hslice := State.slice_updSlice s (s.get R.ADC_STAT_OUT)
      (fun x => { x with calDone := true, newOfs := ground, newGain := (rdiv (1792 * 16 * 32768) (full - half).toNat).toNat })
      (s.get R.ADC_STAT_OUT)
    rw [if_pos rfl] at hslice
    exact ⟨_, congrArg Host.Outcome.next heff, by rw [hslice], by rw [hslice], by rw [hslice], rfl⟩
  · rw [if_neg fun h => by omega, if_neg (by rw [hb]; decide)] at heff
    let u := (s.raiseBit R.ADC_STAT_BAD 0 (s.get R.ADC_STAT_OUT)).raise R.ADC_FLT_CALFAIL
    refine ⟨_, congrArg Host.Outcome.next heff, ?_, ?_, ?_, ?_⟩
    · rw [State.report_get, State.raise_get (by decide)]
      exact State.testBit_raiseBit _ _ _ _ (by decide) ho5
    · rw [State.report_get, State.get_raise_self _ _ _ (by decide) (by decide)]
    · rw [State.report, if_neg (show _ ∉ u.flt.masked from hm)]
      rfl
    · refine State.framed_congr _ u _ _ (State.framed_set _ _ _ R.ADC_FLT_CALFAIL 0 1 ?_ (by simp)) (State.report_regs _ _ _ _)
      exact State.framed_set _ _ _ R.ADC_STAT_BAD 0 _ (s.framed_refl _) (by simp)

/-! ### The injected sequence (R282, R283, R284) -/

theorem State.injBegun_busy (s : State) : s.injBegun.get R.ADC_STAT_INJ_BUSY = 1 :=
  (State.get_set_self _ _ _ _ (by decide)).trans rfl

theorem State.injBegun_pend (s : State) : s.injBegun.get R.ADC_STAT_INJ_PEND = 0 :=
  (State.get_set_apart (by decide) _ _ _ _).trans ((State.get_set_self _ _ _ _ (by decide)).trans rfl)

theorem State.injStart_of_len {s : State} (h : s.get R.ADC_INJCFG_LEN ≠ 0) :
    s.injStart = s.injBegun.dealOut s.inService fun k x =>
      { x with inj := dealt s.inService.length k 0 (List.range (s.get R.ADC_INJCFG_LEN)) }.wakeUp :=
  s.injStart_eq.trans (if_neg h)

theorem State.injTrigger_eq {s : State} (hp : s.onPll = true) (h : s.get R.ADC_INJCFG_LEN ≠ 0) : s.injTrigger =
    if s.flag R.ADC_STAT_INJ_BUSY || (s.flag R.ADC_STAT_BUSY && decide (2 ≤ s.adc.injRound)) then
      if s.flag R.ADC_STAT_INJ_PEND then s.raise R.ADC_FLT_INJMRG else s.set R.ADC_STAT_INJ_PEND 0 1
    else s.injStart :=
  (if_neg (by rw [hp]; decide)).trans (if_neg (by simpa using h))

/-- An injected sequence is held behind one in progress, merged with one that is held, or begins. -/
theorem adcInjStart_triggers (s : State) (g : Gal) (h : s.rowPasses g R.ADC_CTL_INJ_START 0 1) (hp : s.onPll = true)
    (hl : s.get R.ADC_INJCFG_LEN ≠ 0) :
    (s.get R.ADC_STAT_INJ_BUSY = 1 → s.get R.ADC_STAT_INJ_PEND = 0 → ∃ t, exec (.adcInjStart g) s = .next t ∧
      t.get R.ADC_STAT_INJ_PEND = 1 ∧ (s.okRsp g).only t [R.ADC_STAT_INJ_PEND.key 0]) ∧
    (s.get R.ADC_STAT_INJ_BUSY = 1 → s.get R.ADC_STAT_INJ_PEND = 1 → ∃ t, exec (.adcInjStart g) s = .next t ∧
      t.get R.ADC_FLT_INJMRG = 1 ∧ (s.okRsp g).only t [R.ADC_FLT_INJMRG.key 0]) ∧
    (s.get R.ADC_STAT_INJ_BUSY = 0 → s.get R.ADC_STAT_BUSY = 0 → ∃ t, exec (.adcInjStart g) s = .next t ∧
      t.get R.ADC_STAT_INJ_BUSY = 1 ∧ t.get R.ADC_STAT_INJ_PEND = 0 ∧ t = { s.okRsp g with regs := t.regs, adc := t.adc } ∧
      s.framed t [R.ADC_STAT_INJ_BUSY.key 0]) := by
  have hex : exec (.adcInjStart g) s = .next (s.newAccess.injTrigger.respond g .ok 0) :=
    congrArg Host.Outcome.next (s.hostRow_passes g _ _ _ _ h)
  rw [State.injTrigger_eq (s := s.newAccess) hp hl] at hex
  refine ⟨fun hb hpend => ?_, fun hb hpend => ?_, fun hb hround => ?_⟩
  · rw [if_pos (by rw [State.flag_of_one (s := s.newAccess) hb]; rfl),
      if_neg (by rw [State.flag_of_zero (s := s.newAccess) hpend]; decide)] at hex
    exact ⟨_, hex, State.get_set_self s.newAccess _ _ _ (by decide), rfl,
      State.framed_set _ (s.okRsp g) _ R.ADC_STAT_INJ_PEND 0 1 (State.framed_refl _ _) (by simp)⟩
  · rw [if_pos (by rw [State.flag_of_one (s := s.newAccess) hb]; rfl),
      if_pos (State.flag_of_one (s := s.newAccess) hpend)] at hex
    exact ⟨_, hex, State.get_raise_self s.newAccess _ _ (by decide) (by decide), rfl,
      State.framed_set _ (s.okRsp g) _ R.ADC_FLT_INJMRG 0 1 (State.framed_refl _ _) (by simp)⟩
  · rw [if_neg (by rw [State.flag_of_zero (s := s.newAccess) hb, State.flag_of_zero (s := s.newAccess) hround]; simp),
      State.injStart_of_len (s := s.newAccess) hl, State.dealOut_eq] at hex
    refine ⟨_, hex, s.newAccess.injBegun_busy, s.newAccess.injBegun_pend, rfl, ?_⟩
    refine State.framed_congr _ s.injBegun _ _ ?_ rfl
    have hpend : s.framed (s.set R.ADC_STAT_INJ_PEND 0 0) [R.ADC_STAT_INJ_BUSY.key 0] :=
      State.framed_set _ _ _ _ _ _ (s.framed_refl _) (by decide)
    exact State.framed_congr _ _ _ _ (State.framed_set _ _ _ R.ADC_STAT_INJ_BUSY 0 1 hpend (by simp)) rfl

end Sys2Proof.Machine

namespace Sys2Proof.Machine

/-! ### The end of a thermal shutdown (R295), and the reads of the ageing monitors (R297) -/

/-- THERMTRIP_N is released at 100 ms of cooling, and class THERMAL with it. -/
theorem thermalRestart_releases (s : State) :
    (s.get R.THM_STAT_STATE ≠ 1 → exec .thermalRestart s = .next s) ∧
    (s.get R.THM_STAT_STATE = 1 → s.get R.THM_STAT_COOLMS = 100 →
      ∃ t, exec .thermalRestart s = .next t ∧ t.get R.THM_STAT_STATE = 0 ∧ t.thm = { s.thm with trip := false, cool := none } ∧
        clsThermal ∈ t.flt.relOk ∧ t = { s with regs := t.regs, thm := t.thm, flt := t.flt } ∧
        s.framed t [R.THM_STAT_STATE.key 0]) := by
  refine ⟨fun h => congrArg Host.Outcome.next (if_neg (by simp [h])), fun h hc => ?_⟩
  refine ⟨_, congrArg Host.Outcome.next (if_pos (by rw [h, hc]; rfl)), ?_, rfl, ?_, rfl, ?_⟩
  · exact (State.get_set_self s _ _ _ (by decide)).trans rfl
  · by_cases hm : clsThermal ∈ s.flt.relOk
    · simp [hm]
    · simp [hm]
  · exact State.framed_congr _ _ _ _ (State.framed_set _ _ _ R.THM_STAT_STATE 0 0 (s.framed_refl _) (by simp)) rfl

theorem ageingRead_timed (s : State) (he : s.get R.AGE_CTL_EN = 1) (hp : s.onPll = true) (hr : s.age.reading = false) :
    (s.ticks / 65536 < s.age.lastRead + 10 → exec .ageingRead s = .next s) ∧
    (s.sleeping = false → s.age.lastRead + 10 ≤ s.ticks / 65536 →
      exec .ageingRead s = .next { s with age := { s.age with reading := true, lastRead := s.ticks / 65536 } }) := by
  refine ⟨fun h => congrArg Host.Outcome.next (if_neg ?_), fun hs h => congrArg Host.Outcome.next (if_pos ?_)⟩
  · rw [decide_eq_false (by omega), Bool.and_false]
    decide
  · rw [State.flag_of_one he, hp, hr, hs, decide_eq_true h]
    rfl

theorem ageReadNow_reads (s : State) (g : Gal) (h : s.rowPasses g R.AGE_CTL_READ_NOW 0 1) :
    exec (.ageReadNow g) s = .next { s.okRsp g with age := { s.age with reading := true } } :=
  congrArg Host.Outcome.next (s.hostRow_passes g _ _ _ _ h)

theorem ageingLatch_idle (s : State) (codes : List Nat) (h : s.age.reading = false ∨ s.onPll = false) :
    exec (.ageingLatch codes) s = .next s := by
  refine congrArg Host.Outcome.next (if_pos ?_)
  rcases h with h | h <;> simp [h]

/-! ### The codes of the ageing monitors (R297) -/

/-- A change of the ageing state and of registers alone. -/
def State.ageOnly (s t : State) : Prop := ∃ r a, t = { s with regs := r, age := a }

theorem State.ageOnly_refl (s : State) : s.ageOnly s := ⟨s.regs, s.age, rfl⟩

theorem State.ageOnly.set {s t : State} (h : s.ageOnly t) (F : Fld) (i v : Nat) : s.ageOnly (t.set F i v) := by
  obtain ⟨r, a, rfl⟩ := h
  exact ⟨_, a, rfl⟩

theorem State.ageOnly.age {s t : State} (h : s.ageOnly t) (a : AgeS) : s.ageOnly { t with age := a } := by
  obtain ⟨r, _, rfl⟩ := h
  exact ⟨r, a, rfl⟩

theorem State.ageOnly.ite {s t u : State} {c : Prop} [Decidable c] (h : s.ageOnly t) (h' : s.ageOnly u) :
    s.ageOnly (if c then t else u) := by
  split <;> assumption

theorem State.ageOnly.eq {s t : State} (h : s.ageOnly t) : t = { s with regs := t.regs, age := t.age } := by
  obtain ⟨r, a, rfl⟩ := h
  rfl

theorem State.ageOnly.opsec {s t : State} (h : s.ageOnly t) : t.opsec = s.opsec := by
  obtain ⟨r, a, rfl⟩ := h
  rfl

theorem State.get_lt (s : State) (F : Fld) (i : Nat) : s.get F i < 2 ^ F.w := Nat.mod_lt _ (Nat.two_pow_pos _)

/-- What the read shows of one monitor: its code, whether it is bad, its offset and its degradation. -/
def State.monitor (s : State) (m : Nat) : Nat × Nat × Nat × Nat :=
  (s.get R.AGE_MON_CODE m, s.get R.AGE_MON_BAD m, s.get R.AGE_MON_OFS m, s.get R.AGE_MON_DEG m)

/-- The fields of a monitor. -/
def monFlds : List Fld := [R.AGE_MON_CODE, R.AGE_MON_BAD, R.AGE_MON_OFS, R.AGE_MON_DEG]

theorem State.monitor_congr {s t : State} {m : Nat} (h : ∀ F ∈ monFlds, t.get F m = s.get F m) : t.monitor m = s.monitor m := by
  simp only [monFlds, List.forall_mem_cons] at h
  obtain ⟨hcode, hbad, hofs, hdeg, -⟩ := h
  rw [State.monitor, State.monitor, hcode, hbad, hofs, hdeg]

/-- A monitor's code is good: its degradation follows, and no other part of it. -/
def State.monLatched (s : State) (k code : Nat) : State :=
  let deg := max (s.get R.AGE_MON_DEG k) (code - s.get R.AGE_MON_OFS k)
  let u := if deg ≠ s.get R.AGE_MON_DEG k then { s with age := { s.age with changed := true } } else s
  (u.set R.AGE_MON_BAD k 0).set R.AGE_MON_DEG k deg

theorem State.latchMon_eq (s : State) (k code : Nat) : s.latchMon k code =
    if code = 0 ∨ code = 0xFF then ((s.set R.AGE_MON_CODE k code).set R.AGE_MON_BAD k 1).raise R.AGE_FLT_MONBAD
    else (s.set R.AGE_MON_CODE k code).monLatched k code := rfl

theorem State.latchMon_bad {s : State} {k code : Nat} (h : code = 0 ∨ code = 0xFF) :
    (s.latchMon k code).get R.AGE_MON_CODE k = code ∧ (s.latchMon k code).get R.AGE_MON_BAD k = 1 ∧
      (s.latchMon k code).get R.AGE_FLT_MONBAD = 1 := by
  rw [State.latchMon_eq, if_pos h]
  refine ⟨?_, ?_, State.get_raise_self _ _ _ (by decide) (by decide)⟩
  · rw [State.raise_get (by decide), State.get_set_apart (by decide), State.get_set_self _ _ _ _ (by decide)]
    rcases h with rfl | rfl <;> rfl
  · rw [State.raise_get (by decide), State.get_set_self _ _ _ _ (by decide)]
    rfl

theorem State.latchMon_good {s : State} {k code : Nat} (h : ¬(code = 0 ∨ code = 0xFF)) (hc : code < 256) :
    (s.latchMon k code).get R.AGE_MON_CODE k = code ∧ (s.latchMon k code).get R.AGE_MON_BAD k = 0 ∧
      (s.latchMon k code).get R.AGE_MON_DEG k = max (s.get R.AGE_MON_DEG k) (code - s.get R.AGE_MON_OFS k) := by
  have hdeg : (s.set R.AGE_MON_CODE k code).get R.AGE_MON_DEG k = s.get R.AGE_MON_DEG k := State.get_set_apart (by decide) _ _ _ _
  have hofs : (s.set R.AGE_MON_CODE k code).get R.AGE_MON_OFS k = s.get R.AGE_MON_OFS k := State.get_set_apart (by decide) _ _ _ _
  have hcode : (s.set R.AGE_MON_CODE k code).get R.AGE_MON_CODE k = code :=
    (State.get_set_self _ _ _ _ (by decide)).trans (Nat.mod_eq_of_lt hc)
  have hlt : s.get R.AGE_MON_DEG k < 256 := s.get_lt R.AGE_MON_DEG k
  rw [State.latchMon_eq, if_neg h]
  refine ⟨?_, ?_, ?_⟩
  · exact (State.get_set_apart (by decide) _ _ _ _).trans ((State.get_set_apart (by decide) _ _ _ _).trans
      (State.get_ite hcode hcode))
  · exact (State.get_set_apart (by decide) _ _ _ _).trans (State.get_set_self _ _ _ _ (by decide))
  · refine (State.get_set_self _ R.AGE_MON_DEG _ _ (by decide)).trans ?_
    rw [hdeg, hofs, show R.AGE_MON_DEG.w = 8 from rfl]
    omega

/-- What the writes of a monitor's latch keep, the latch keeps. -/
theorem State.latchMon_induct (P : State → Prop) (k : Nat)
    (hset : ∀ t, ∀ F ∈ monFlds, ∀ v, P t → P (State.set t F k v)) (hflt : ∀ t, P t → P (State.raise t R.AGE_FLT_MONBAD))
    (hage : ∀ (t : State) a, P t → P { t with age := a }) (code : Nat) {s : State} (h : P s) : P (s.latchMon k code) := by
  have hset (t : State) {F : Fld} (hF : F ∈ monFlds) (v : Nat) (ht : P t) : P (t.set F k v) := hset t F hF v ht
  have hcode : P (s.set R.AGE_MON_CODE k code) := hset _ (by simp [monFlds]) _ h
  rw [State.latchMon_eq]
  split
  · exact hflt _ (hset _ (by simp [monFlds]) _ hcode)
  · refine hset _ (by simp [monFlds]) _ (hset _ (by simp [monFlds]) _ ?_)
    split
    · exact hage _ _ hcode
    · exact hcode

/-- The latch of one monitor leaves the others. -/
theorem State.latchMon_monitor_ne (s : State) {k m : Nat} (h : k ≠ m) (code : Nat) :
    (s.latchMon k code).monitor m = s.monitor m := by
  refine State.latchMon_induct (fun t => t.monitor m = s.monitor m) k (fun t F hF v ht => ?_) (fun t ht => ?_)
    (fun _ _ ht => ht) code rfl
  · refine (State.monitor_congr fun G hG => State.get_set_bank_ne ?_ ?_ h t v).trans ht
    · revert F
      decide
    · revert G
      decide
  · refine (State.monitor_congr fun G hG => State.raise_get ?_ t 0 m).trans ht
    revert G
    decide

theorem State.latchMon_monbad {s : State} (h : s.get R.AGE_FLT_MONBAD = 1) (k code : Nat) :
    (s.latchMon k code).get R.AGE_FLT_MONBAD = 1 := by
  refine State.latchMon_induct (fun t => t.get R.AGE_FLT_MONBAD = 1) k (fun t F hF v ht => ?_)
    (fun t _ => State.get_raise_self _ _ _ (by decide) (by decide)) (fun _ _ ht => ht) code h
  refine (State.get_set_apart ?_ t k v 0).trans ht
  revert F
  decide

theorem State.latchMon_age (s : State) (k code d : Nat) : (s.latchMon k code).get R.AGE_DIST_AGE d = s.get R.AGE_DIST_AGE d := by
  refine State.latchMon_induct (fun t => t.get R.AGE_DIST_AGE d = s.get R.AGE_DIST_AGE d) k (fun t F hF v ht => ?_)
    (fun t ht => (State.raise_get (by decide) t 0 d).trans ht) (fun _ _ ht => ht) code rfl
  refine (State.get_set_apart ?_ t k v d).trans ht
  revert F
  decide

theorem State.ageOnly.latchMon {s t : State} (h : s.ageOnly t) (k code : Nat) : s.ageOnly (t.latchMon k code) :=
  State.latchMon_induct s.ageOnly k (fun _ _ _ _ ht => ht.set _ _ _) (fun _ ht => ht.set _ _ _) (fun _ a ht => ht.age a) code h

/-! ### The four monitors of a district -/

/-- The code of a monitor in the list that a read brings. -/
def monCode (codes : List Nat) (m : Nat) : Nat := codes.getD m 0 % 256

theorem monCode_lt (codes : List Nat) (m : Nat) : monCode codes m < 256 := Nat.mod_lt _ (by decide)

/-- The monitors of a district are latched. -/
def State.latchDistrict (codes : List Nat) (s : State) (d : Nat) : State :=
  s.each [0, 1, 2, 3] fun s k => s.latchMon (4 * d + k) (monCode codes (4 * d + k))

/-- What a read shows of a monitor whose code was latched over a state. -/
def State.shown (s : State) (codes : List Nat) (m : Nat) (t : State) : Prop :=
  t.get R.AGE_MON_CODE m = monCode codes m ∧
    (monCode codes m ∈ [0, 0xFF] → t.get R.AGE_MON_BAD m = 1 ∧ t.get R.AGE_FLT_MONBAD = 1) ∧
    (monCode codes m ∉ [0, 0xFF] → t.get R.AGE_MON_BAD m = 0 ∧
      t.get R.AGE_MON_DEG m = max (s.get R.AGE_MON_DEG m) (monCode codes m - s.get R.AGE_MON_OFS m))

theorem State.latchMon_shown {s t : State} {m : Nat} (codes : List Nat) (h : t.monitor m = s.monitor m) :
    s.shown codes m (t.latchMon m (monCode codes m)) := by
  simp only [State.monitor, Prod.mk.injEq] at h
  obtain ⟨-, -, hofs, hdeg⟩ := h
  by_cases hc : monCode codes m = 0 ∨ monCode codes m = 0xFF
  · obtain ⟨hcode, hbad, hflt⟩ := State.latchMon_bad (s := t) (k := m) hc
    exact ⟨hcode, fun _ => ⟨hbad, hflt⟩, fun hn => absurd (by simpa using hc) hn⟩
  · obtain ⟨hcode, hbad, hlatched⟩ := State.latchMon_good (s := t) (k := m) hc (monCode_lt codes m)
    refine ⟨hcode, fun hn => absurd (by simpa using hn) hc, fun _ => ⟨hbad, ?_⟩⟩
    rw [hlatched, hofs, hdeg]

/-- What a read shows of a monitor stands where the monitor stands, and MONBAD with it. -/
theorem State.shown.of_monitor {s t u : State} {codes : List Nat} {m : Nat} (h : s.shown codes m t)
    (hm : u.monitor m = t.monitor m)
    (hf : t.get R.AGE_FLT_MONBAD = 1 → u.get R.AGE_FLT_MONBAD = 1) : s.shown codes m u := by
  simp only [State.monitor, Prod.mk.injEq] at hm
  obtain ⟨hcode, hbad, -, hdeg⟩ := hm
  obtain ⟨h1, h2, h3⟩ := h
  exact ⟨hcode.trans h1, fun hn => ⟨hbad.trans (h2 hn).1, hf (h2 hn).2⟩, fun hn => ⟨hbad.trans (h3 hn).1, hdeg.trans (h3 hn).2⟩⟩

theorem State.shown.latchMon {s t : State} {codes : List Nat} {m k : Nat} (h : s.shown codes m t) (hk : k ≠ m) (code : Nat) :
    s.shown codes m (t.latchMon k code) :=
  h.of_monitor (t.latchMon_monitor_ne hk code) fun hf => State.latchMon_monbad hf k code

theorem State.shown.latchDistrict {s t : State} {codes : List Nat} {d k e : Nat} (hk : k < 4) (he : e ≠ d)
    (h : s.shown codes (4 * d + k) t) : s.shown codes (4 * d + k) (t.latchDistrict codes e) :=
  State.each_induct (fun t => s.shown codes (4 * d + k) t) _ _ (fun t j hj ht => ht.latchMon (by simp at hj; omega) _) t h

theorem State.latchDistrict_monitor {t : State} (codes : List Nat) {d k e : Nat} (hk : k < 4) (he : e ≠ d) :
    (t.latchDistrict codes e).monitor (4 * d + k) = t.monitor (4 * d + k) :=
  State.each_induct (fun u => u.monitor (4 * d + k) = t.monitor (4 * d + k)) _ _
    (fun u j hj hu => (u.latchMon_monitor_ne (by simp at hj; omega) _).trans hu) t rfl

theorem State.latchDistrict_shown {s t : State} (codes : List Nat) {d k : Nat} (hk : k < 4)
    (h : t.monitor (4 * d + k) = s.monitor (4 * d + k)) : s.shown codes (4 * d + k) (t.latchDistrict codes d) := by
  have hl : k ∈ [0, 1, 2, 3] := by simp; omega
  refine State.each_turn (P := fun t => t.monitor (4 * d + k) = s.monitor (4 * d + k)) (Q := s.shown codes (4 * d + k))
    (show [0, 1, 2, 3].Nodup by decide) hl (fun u j hj hu => ?_) (fun u hu => ?_) (fun u j hj hu => ?_) h
  · exact (u.latchMon_monitor_ne (by omega) _).trans hu
  · exact State.latchMon_shown codes hu
  · exact hu.latchMon (by omega) _

/-- Each monitor of a list of districts shows what its code says. -/
theorem State.latchDistricts_shown (s : State) (codes : List Nat) {l : List Nat} (hn : l.Nodup) {d k : Nat} (hd : d ∈ l)
    (hk : k < 4) :
    s.shown codes (4 * d + k) (s.each l (State.latchDistrict codes)) :=
  State.each_turn (P := fun t => t.monitor (4 * d + k) = s.monitor (4 * d + k)) (Q := s.shown codes (4 * d + k)) hn hd
    (fun _ _ he ht => (State.latchDistrict_monitor codes hk he).trans ht) (fun _ ht => State.latchDistrict_shown codes hk ht)
    (fun _ _ he ht => ht.latchDistrict hk he) rfl

/-! ### The trim of a district after a read (R298) -/

/-- The target of a district's trim. -/
def State.ageTarget (s : State) (d : Nat) : Nat :=
  min 0x0A0 (((((List.range 4).map (4 * d + ·)).filter fun k => !s.flag R.AGE_MON_BAD k).foldl
    (fun m k => max m (s.get R.AGE_MON_DEG k)) 0) * s.get R.AGE_CTL_PER_TAP)

/-- The trim that a district takes, which never falls. -/
def State.ageNext (s : State) (d : Nat) : Nat :=
  if s.age.fresh then max (s.get R.AGE_DIST_AGE d) (s.ageTarget d)
  else max (s.get R.AGE_DIST_AGE d) (min (s.ageTarget d) (s.get R.AGE_DIST_AGE d + s.get R.AGE_CTL_STEP_MAX))

/-- A district whose trim is shown. -/
def State.ageShown (s : State) (d : Nat) : State :=
  let u := (s.set R.AGE_DIST_TARGET d (s.ageTarget d)).raiseIf (s.ageTarget d == 0x0A0) R.AGE_FLT_AGESAT
  let u := if s.ageNext d ≠ s.get R.AGE_DIST_AGE d then { u with age := { u.age with changed := true } } else u
  u.set R.AGE_DIST_AGE d (s.ageNext d)

theorem State.ageDistrict_eq (s : State) (d : Nat) : s.ageDistrict d =
    if (((List.range 4).map (4 * d + ·)).filter fun k => !s.flag R.AGE_MON_BAD k).isEmpty then s else s.ageShown d := rfl

theorem State.ageNext_lt (s : State) (d : Nat) : s.ageNext d < 512 := by
  have hage : s.get R.AGE_DIST_AGE d < 512 := s.get_lt R.AGE_DIST_AGE d
  have htarget : s.ageTarget d ≤ 0x0A0 := Nat.min_le_left _ _
  unfold State.ageNext
  split <;> omega

theorem State.le_ageNext (s : State) (d : Nat) : s.get R.AGE_DIST_AGE d ≤ s.ageNext d := by
  unfold State.ageNext
  split <;> exact Nat.le_max_left _ _

/-- What the writes of a district's trim keep, the trim keeps. -/
theorem State.ageDistrict_induct (P : State → Prop) (d : Nat) (hset : ∀ t v, P t → P (State.set t R.AGE_DIST_TARGET d v))
    (hflt : ∀ t, P t → P (State.raise t R.AGE_FLT_AGESAT)) (hage : ∀ (t : State) a, P t → P { t with age := a }) {s : State}
    (htrim : ∀ t, P t → P (State.set t R.AGE_DIST_AGE d (s.ageNext d))) (h : P s) : P (s.ageDistrict d) := by
  rw [State.ageDistrict_eq]
  split
  · exact h
  · have htarget : P ((s.set R.AGE_DIST_TARGET d (s.ageTarget d)).raiseIf (s.ageTarget d == 0x0A0) R.AGE_FLT_AGESAT) := by
      unfold State.raiseIf
      split
      · exact hflt _ (hset _ _ h)
      · exact hset _ _ h
    refine htrim _ ?_
    split
    · exact hage _ _ htarget
    · exact htarget

theorem State.ageDistrict_monitor (s : State) (d m : Nat) : (s.ageDistrict d).monitor m = s.monitor m := by
  refine State.ageDistrict_induct (fun t => t.monitor m = s.monitor m) d
    (fun t v ht => (State.monitor_congr fun G hG => State.get_set_apart ?_ t d v m).trans ht)
    (fun t ht => (State.monitor_congr fun G hG => State.raise_get ?_ t 0 m).trans ht) (fun _ _ ht => ht)
    (fun t ht => (State.monitor_congr fun G hG => State.get_set_apart ?_ t d _ m).trans ht) rfl
  · revert G
    decide
  · revert G
    decide
  · revert G
    decide

theorem State.ageDistrict_monbad (s : State) (d : Nat) : (s.ageDistrict d).get R.AGE_FLT_MONBAD = s.get R.AGE_FLT_MONBAD :=
  State.ageDistrict_induct (fun t => t.get R.AGE_FLT_MONBAD = s.get R.AGE_FLT_MONBAD) d
    (fun t v ht => (State.get_set_apart (by decide) t d v 0).trans ht) (fun t ht => (State.raise_get (by decide) t 0 0).trans ht)
    (fun _ _ ht => ht) (fun t ht => (State.get_set_apart (by decide) t d _ 0).trans ht) rfl

/-- The trim of a district never falls. -/
theorem State.le_ageDistrict (s : State) (d e : Nat) : s.get R.AGE_DIST_AGE e ≤ (s.ageDistrict d).get R.AGE_DIST_AGE e := by
  refine State.ageDistrict_induct (fun t => s.get R.AGE_DIST_AGE e ≤ t.get R.AGE_DIST_AGE e) d
    (fun t v ht => ?_) (fun t ht => ?_) (fun _ _ ht => ht) (fun t ht => ?_) le_rfl
  · rw [State.get_set_apart (by decide)]
    exact ht
  · rw [State.raise_get (by decide)]
    exact ht
  · by_cases hd : d = e
    · subst hd
      rw [State.get_set_self _ R.AGE_DIST_AGE _ _ (by decide)]
      exact (s.le_ageNext d).trans_eq (Nat.mod_eq_of_lt (s.ageNext_lt d)).symm
    · rw [State.get_set_bank_ne (by decide) (by decide) hd]
      exact ht

theorem State.ageOnly.ageDistrict {s t : State} (h : s.ageOnly t) (d : Nat) : s.ageOnly (t.ageDistrict d) :=
  State.ageDistrict_induct s.ageOnly d (fun _ _ ht => ht.set _ _ _) (fun _ ht => ht.set _ _ _) (fun _ a ht => ht.age a)
    (fun _ ht => ht.set _ _ _) h

/-! ### AGEING_LATCH -/

/-- The districts that a read concerns. -/
def State.onDistricts (s : State) : List Nat := s.districts.filter s.isOn

/-- The codes of every district that is ON are latched, and its trim follows. -/
def State.ageRead (s : State) (codes : List Nat) : State :=
  (s.each s.onDistricts (State.latchDistrict codes)).each s.onDistricts State.ageDistrict

/-- The read is counted, with its time. -/
def State.ageCounted (s : State) : State :=
  { (s.inc R.AGE_CNT_READS).set R.AGE_LAST_SEC 0 s.opsec with age := { s.age with reading := false, fresh := false } }

theorem effAgeingLatch_eq {s : State} {codes : List Nat} (hr : s.age.reading = true) (hp : s.onPll = true) :
    effAgeingLatch s codes = (s.ageRead codes).ageCounted := if_neg (by rw [hr, hp]; decide)

theorem State.ageRead_ageOnly (s : State) (codes : List Nat) : s.ageOnly (s.ageRead codes) :=
  State.each_induct s.ageOnly _ _ (fun _ d _ ht => ht.ageDistrict d) _
    (State.each_induct s.ageOnly _ _ (fun _ _ _ ht => State.each_induct s.ageOnly _ _ (fun _ _ _ hu => hu.latchMon _ _) _ ht) _
      s.ageOnly_refl)

theorem State.le_ageRead (s : State) (codes : List Nat) (d : Nat) :
    s.get R.AGE_DIST_AGE d ≤ (s.ageRead codes).get R.AGE_DIST_AGE d := by
  refine State.each_induct (fun t => s.get R.AGE_DIST_AGE d ≤ t.get R.AGE_DIST_AGE d) _ _
    (fun t e _ ht => ht.trans (t.le_ageDistrict e d)) _ (le_of_eq ?_)
  exact (State.each_const (State.get · R.AGE_DIST_AGE d) _ _ _ fun t e =>
    State.each_const (State.get · R.AGE_DIST_AGE d) _ _ _ fun u k => u.latchMon_age _ _ d).symm

theorem State.ageRead_shown (s : State) (codes : List Nat) {d k : Nat} (hd : d < s.cfg.n) (hk : k < 4) (hon : s.isOn d = true) :
    s.shown codes (4 * d + k) (s.ageRead codes) := by
  have hl : d ∈ s.onDistricts := List.mem_filter.mpr ⟨List.mem_range.mpr hd, hon⟩
  exact State.each_induct (s.shown codes (4 * d + k)) _ _
    (fun t e _ ht => ht.of_monitor (t.ageDistrict_monitor e _) fun hf => (t.ageDistrict_monbad e).trans hf) _
    (s.latchDistricts_shown codes (s.districts_nodup.filter _) hl hk)

theorem State.ageCounted_get {F : Fld} (h : F.apartAll [R.AGE_CNT_READS, R.AGE_LAST_SEC]) (s : State) (i : Nat) :
    s.ageCounted.get F i = s.get F i :=
  (State.get_set_apart (h _ (by simp)) _ _ _ _).trans (State.inc_get (h _ (by simp)) _ _ _ _)

theorem State.ageCounted_monitor (s : State) (m : Nat) : s.ageCounted.monitor m = s.monitor m :=
  State.monitor_congr fun F hF => State.ageCounted_get (by revert F; decide) s m

theorem State.ageCounted_last (s : State) : s.ageCounted.get R.AGE_LAST_SEC = s.opsec :=
  (State.get_set_self _ _ _ _ (by decide)).trans (Nat.mod_mod _ _)

theorem ageingLatch_takes (s : State) (codes : List Nat) (hr : s.age.reading = true) (hp : s.onPll = true) :
    ∃ t, exec (.ageingLatch codes) s = .next t ∧ t.age.reading = false ∧ t.age.fresh = false ∧
      t.get R.AGE_LAST_SEC = s.opsec ∧
      (∀ d k, d < s.cfg.n → k < 4 → s.isOn d = true → t.get R.AGE_MON_CODE (4 * d + k) = codes.getD (4 * d + k) 0 % 256 ∧
        (codes.getD (4 * d + k) 0 % 256 ∈ [0, 0xFF] → t.get R.AGE_MON_BAD (4 * d + k) = 1 ∧ t.get R.AGE_FLT_MONBAD = 1) ∧
        (codes.getD (4 * d + k) 0 % 256 ∉ [0, 0xFF] → t.get R.AGE_MON_BAD (4 * d + k) = 0 ∧
          t.get R.AGE_MON_DEG (4 * d + k) =
            max (s.get R.AGE_MON_DEG (4 * d + k)) (codes.getD (4 * d + k) 0 % 256 - s.get R.AGE_MON_OFS (4 * d + k)))) ∧
      (∀ d, d < s.cfg.n → s.get R.AGE_DIST_AGE d ≤ t.get R.AGE_DIST_AGE d) ∧
      t = { s with regs := t.regs, age := t.age } := by
  have honly : s.ageOnly (s.ageRead codes).ageCounted := (((s.ageRead_ageOnly codes).set _ _ _).set _ _ _).age _
  refine ⟨_, congrArg Host.Outcome.next (effAgeingLatch_eq hr hp), rfl, rfl, ?_, fun d k hd hk hon => ?_, fun d _ => ?_, honly.eq⟩
  · rw [State.ageCounted_last, (s.ageRead_ageOnly codes).opsec]
  · exact (s.ageRead_shown codes hd hk hon).of_monitor (State.ageCounted_monitor _ _)
      fun hf => (State.ageCounted_get (by decide) _ _).trans hf
  · rw [State.ageCounted_get (by decide)]
    exact s.le_ageRead codes d

end Sys2Proof.Machine

namespace Sys2Proof.Machine

/-! ### The bytes of a memory that is erased or programmed -/

theorem memByte_memErase (m : List Host.Cell) (a n k : Nat) :
    memByte (memErase m a n) k = if k < a ∨ a + n ≤ k then memByte m k else 0xFF#8 := by
  have hget := tabGet_filter_keys (fun x => decide (x < a) || decide (a + n ≤ x)) k m
  unfold memByte memErase
  rw [hget]
  by_cases h : k < a ∨ a + n ≤ k
  · rw [if_pos (by simpa using h), if_pos h]
  · rw [if_neg (by simpa using h), if_neg h]
    rfl

theorem memByte_memPut (m : List Host.Cell) (a : Nat) (b : Byte) (k : Nat) :
    memByte (memPut m a b) k = if k = a then b else memByte m k := by
  unfold memByte memPut
  split
  · next hb =>
    rw [tabDel, tabGet_filter_keys (fun x => x != a)]
    by_cases h : k = a
    · simp [h, hb]
    · simp [h]
  · by_cases h : k = a
    · simp [h]
    · rw [tabGet_put_ne _ _ _ _ (Ne.symm h), if_neg h]

theorem memByte_memProg_outside (l : List Byte) (m : List Host.Cell) {a k : Nat} (h : k < a ∨ a + l.length ≤ k) :
    memByte (memProg m a l) k = memByte m k := by
  induction l generalizing m a with
  | nil => rfl
  | cons b r ih =>
    rw [List.length_cons] at h
    rw [memProg, ih _ (by omega), memByte_memPut, if_neg (by omega)]

theorem memByte_memProg (l : List Byte) (m : List Host.Cell) (a : Nat) {i : Nat} (h : i < l.length) :
    memByte (memProg m a l) (a + i) = memByte m (a + i) &&& l[i] := by
  induction l generalizing m a i with
  | nil => exact absurd h (Nat.not_lt_zero i)
  | cons b r ih =>
    rw [memProg]
    cases i with
    | zero => rw [memByte_memProg_outside _ _ (by omega), memByte_memPut, if_pos (Nat.add_zero a),
        List.getElem_cons_zero, Nat.add_zero]
    | succ i =>
      have hi := ih (memPut m a (memByte m a &&& b)) (a + 1) (Nat.lt_of_succ_lt_succ h)
      rw [Nat.add_assoc, Nat.add_comm 1 i] at hi
      rw [hi, memByte_memPut, if_neg (by omega), List.getElem_cons_succ]

/-- What is programmed over erased bytes is read back. -/
theorem memRead_memProg_erased (m : List Host.Cell) (a : Nat) (l : List Byte) (h : ∀ i < l.length, memByte m (a + i) = 0xFF#8) :
    memRead (memProg m a l) a l.length = l := by
  refine List.ext_getElem (by simp [memRead]) fun i hi hl => ?_
  simp only [memRead, List.getElem_map, List.getElem_range]
  rw [memByte_memProg l m a hl, h i hl]
  exact BitVec.allOnes_and

/-! ### The ageing record (R299) -/

theorem length_leBytes (n v : Nat) : (leBytes n v).length = n := by
  induction n generalizing v with
  | zero => rfl
  | succ n ih => rw [leBytes, List.length_cons, ih]

theorem length_flatMap_leBytes (l : List Nat) (n : Nat) (f : Nat → Nat) :
    (l.flatMap fun x => leBytes n (f x)).length = l.length * n := by
  induction l with
  | nil => simp
  | cons x r ih => rw [List.flatMap_cons, List.length_append, ih, length_leBytes, List.length_cons, Nat.succ_mul, Nat.add_comm]

theorem State.length_ageRecord (s : State) (sq : Nat) : (s.ageRecord sq).length = 512 := by
  simp only [State.ageRecord, List.length_append, length_leBytes, length_flatMap_leBytes, List.length_range, List.length_cons,
    List.length_nil, List.length_replicate]

/-- What the record is formed of. -/
theorem State.ageRecord_congr {s t : State} (hc : t.cfg = s.cfg) (hf : t.fuse = s.fuse) (ho : t.opsec = s.opsec)
    (ha : ∀ d, t.get R.AGE_DIST_AGE d = s.get R.AGE_DIST_AGE d) (hm : ∀ k, t.get R.AGE_MON_DEG k = s.get R.AGE_MON_DEG k)
    (sq : Nat) : t.ageRecord sq = s.ageRecord sq := by
  simp only [State.ageRecord, hc, hf, ho, ha, hm]

/-- The slot of the record that is not in force is erased, and the write is noted. -/
def State.ageErased (s : State) (good : Bool) : State :=
  { s with flash := memErase s.flash (ageAt (1 - s.age.slot)) 0x1000,
           age := { s.age with lastWrite := s.ticks / 65536, due := false, retry := !good } }

/-- A slot is programmed. -/
def State.slotProgrammed (s : State) (k : Nat) (l : List Byte) : State := { s with flash := memProg s.flash (ageAt k) l }

theorem State.slotProgrammed_flash (s : State) (k : Nat) (l : List Byte) :
    (s.slotProgrammed k l).flash = memProg s.flash (ageAt k) l := rfl

theorem State.slotProgrammed_age (s : State) (k : Nat) (l : List Byte) : (s.slotProgrammed k l).age = s.age := rfl

/-- A record comes into force. -/
def State.inForce (s : State) (k sq : Nat) : State := { s with age := { s.age with slot := k, seq := sq, changed := false } }

theorem State.inForce_slotProgrammed (s : State) (k sq : Nat) (l : List Byte) : (s.slotProgrammed k l).inForce k sq =
    { s with flash := memProg s.flash (ageAt k) l, age := { s.age with slot := k, seq := sq, changed := false } } := rfl

/-- A record that was written and read back. -/
def State.ageWritten (s : State) : State :=
  (((s.ageErased true).inc R.AGE_CNT_WRITES).slotProgrammed (1 - s.age.slot)
    (((s.ageErased true).inc R.AGE_CNT_WRITES).ageRecord (s.age.seq + 1))).inForce (1 - s.age.slot) (s.age.seq + 1)

/-- What a failed write leaves in its slot. -/
def State.ageLeft (s : State) : State :=
  ((s.ageErased false).freeBits 4096).2.slotProgrammed (1 - s.age.slot) (leBytes 512 ((s.ageErased false).freeBits 4096).1)

theorem effAgeingWrite_good_eq {s : State} (h : s.ageWriteDue = true) : effAgeingWrite s true = s.ageWritten := by
  have hdue : ¬(!s.ageWriteDue) = true := by rw [h]; decide
  unfold effAgeingWrite
  rw [if_neg hdue, State.ageWritten, State.inForce_slotProgrammed]
  exact if_pos rfl

theorem effAgeingWrite_failed_eq {s : State} (h : s.ageWriteDue = true) :
    effAgeingWrite s false = (s.ageLeft.raise R.AGE_FLT_FLWR).event 0x0009 (1 - s.age.slot) := by
  have hdue : ¬(!s.ageWriteDue) = true := by rw [h]; decide
  unfold effAgeingWrite
  rw [if_neg hdue]
  exact if_neg (by decide)

theorem State.ageErased_inc_get (s : State) {F : Fld} (h : R.AGE_CNT_WRITES.apart F) (i : Nat) :
    ((s.ageErased true).inc R.AGE_CNT_WRITES).get F i = s.get F i := State.inc_get h (s.ageErased true) 0 1 i

/-- The count of the writes is no part of the record. -/
theorem State.ageErased_inc_record (s : State) (sq : Nat) :
    ((s.ageErased true).inc R.AGE_CNT_WRITES).ageRecord sq = s.ageRecord sq := by
  refine State.ageRecord_congr ?_ ?_ ?_ ?_ ?_ sq
  · rfl
  · rfl
  · rfl
  · exact fun d => s.ageErased_inc_get (by decide) d
  · exact fun k => s.ageErased_inc_get (by decide) k

theorem State.ageWritten_flash (s : State) : s.ageWritten.flash =
    memProg (memErase s.flash (ageAt (1 - s.age.slot)) 0x1000) (ageAt (1 - s.age.slot)) (s.ageRecord (s.age.seq + 1)) := by
  have hforce (t : State) (k sq : Nat) : (t.inForce k sq).flash = t.flash := rfl
  have herased : ((s.ageErased true).inc R.AGE_CNT_WRITES).flash = memErase s.flash (ageAt (1 - s.age.slot)) 0x1000 := rfl
  rw [State.ageWritten, hforce, State.slotProgrammed_flash, herased, State.ageErased_inc_record]

theorem State.ageLeft_flash (s : State) : s.ageLeft.flash =
    memProg (memErase s.flash (ageAt (1 - s.age.slot)) 0x1000) (ageAt (1 - s.age.slot))
      (leBytes 512 ((s.ageErased false).freeBits 4096).1) := by
  have herased : ((s.ageErased false).freeBits 4096).2.flash = memErase s.flash (ageAt (1 - s.age.slot)) 0x1000 := rfl
  rw [State.ageLeft, State.slotProgrammed_flash, herased]

/-- A slot that is erased and then programmed holds what was programmed, and no byte outside it changes. -/
theorem memByte_slot_outside (m : List Host.Cell) {a k : Nat} (l : List Byte) (hl : l.length = 512) (h : k < a ∨ a + 0x1000 ≤ k) :
    memByte (memProg (memErase m a 0x1000) a l) k = memByte m k := by
  rw [memByte_memProg_outside l _ (by omega), memByte_memErase, if_pos h]

theorem memRead_slot (m : List Host.Cell) (a : Nat) (l : List Byte) (hl : l.length = 512) :
    memRead (memProg (memErase m a 0x1000) a l) a 512 = l := by
  have hread := memRead_memProg_erased (memErase m a 0x1000) a l fun i hi => by
    rw [memByte_memErase, if_neg (by omega)]
  rwa [hl] at hread

theorem State.arcOnly.flash {s t : State} (h : s.arcOnly t) : t.flash = s.flash := by
  obtain ⟨r, a, rfl⟩ := h
  rfl

theorem State.arcOnly.age {s t : State} (h : s.arcOnly t) : t.age = s.age := by
  obtain ⟨r, a, rfl⟩ := h
  rfl

/-- AGEING_RECORD_WRITE leaves the record in the other slot, or what a failed write leaves there. -/
theorem ageingRecordWrite_writes (s : State) (good : Bool) (a : Nat) (ha : a = ageAt (1 - s.age.slot)) :
    (s.ageWriteDue = false → exec (.ageingRecordWrite good) s = .next s) ∧
    (s.ageWriteDue = true → ∃ t, exec (.ageingRecordWrite good) s = .next t ∧
      (∀ k, k < a ∨ a + 0x1000 ≤ k → memByte t.flash k = memByte s.flash k) ∧
      (good = true → memRead t.flash a 512 = s.ageRecord (s.age.seq + 1) ∧ t.age.seq = s.age.seq + 1 ∧
        t.age.changed = false ∧ t.age.due = false ∧ t.age.retry = false ∧
        t.get R.AGE_CNT_WRITES = satU R.AGE_CNT_WRITES.w (s.get R.AGE_CNT_WRITES + 1)) ∧
      (good = false → t.get R.AGE_FLT_FLWR = 1 ∧ t.age.retry = true ∧ t.age.seq = s.age.seq ∧ t.age.slot = s.age.slot)) := by
  subst ha
  refine ⟨fun h => congrArg Host.Outcome.next (if_pos (by rw [h]; rfl)), fun h => ?_⟩
  cases good with
  | true =>
    refine ⟨_, congrArg Host.Outcome.next (effAgeingWrite_good_eq h), fun k hk => ?_, fun _ => ⟨?_, rfl, rfl, rfl, rfl, ?_⟩,
      fun hg => Bool.noConfusion hg⟩
    · rw [State.ageWritten_flash, memByte_slot_outside _ _ (s.length_ageRecord _) hk]
    · rw [State.ageWritten_flash, memRead_slot _ _ _ (s.length_ageRecord _)]
    · exact State.get_inc_self (s.ageErased true) R.AGE_CNT_WRITES 0 (by decide)
  | false =>
    have harc (c : List Byte) := State.stage_arcOnly (s.ageLeft.raise R.AGE_FLT_FLWR) 0x03 c
    refine ⟨_, congrArg Host.Outcome.next (effAgeingWrite_failed_eq h), fun k hk => ?_,
      fun hg => Bool.noConfusion hg, fun _ => ?_⟩
    · rw [State.event, (harc _).flash, State.raise, State.set_flash, State.ageLeft_flash,
        memByte_slot_outside _ _ (length_leBytes 512 _) hk]
    · rw [State.event, State.stage_get (by decide), State.get_raise_self _ _ _ (by decide) (by decide), (harc _).age, State.raise,
        State.set_age, State.ageLeft, State.slotProgrammed_age]
      exact ⟨rfl, rfl, rfl, rfl⟩

/-- Settles O59: each command by its own lemma. -/
theorem conversionsCalibrationAndAgeing : Obligations.ConversionsCalibrationAndAgeing :=
  ⟨adcRoundStart_starts, fun s hp => ⟨(roundTimer_runs s hp).1, (roundTimer_runs s hp).2, (roundWatchdog_runs s hp).1,
      (roundWatchdog_runs s hp).2⟩, sliceStartupDone_next, sliceStartupDone_idle, adcConversion_stores, adcConversion_idle,
    sliceRotation_rotates, sliceCalibrationDone_held, sliceCalibrationDone_forms, adcInjStart_triggers, thermalRestart_releases,
    ageingRead_timed, ageReadNow_reads, ageingLatch_idle, ageingLatch_takes,
    fun s good a _ ha => ageingRecordWrite_writes s good a ha⟩

end Sys2Proof.Machine

namespace Sys2Proof.Machine

/-! ### The front of the queue -/

/-- Settles O1: by the two cases of the queue; the command finds the state as it was with the rest of the queue. -/
theorem stepRunsTheFrontCommand : Obligations.StepRunsTheFrontCommand := by
  have hfront (c : Instr) (r : List Instr) (s : State) (h : s.pending = c :: r) : step s = exec c { s with pending := r } := by
    unfold step
    rw [h]
  have hidle (s : State) (h : s.pending = []) : step s = .next s.tickOn := by
    unfold step
    rw [h]
  exact ⟨fun c s => hfront c s.pending (s.withFront c) rfl, hfront, hidle⟩

end Sys2Proof.Machine

namespace Sys2Proof.Machine

/-! ### Cold reset (R302, R329, R250) -/

/-- Right after reset no register but BUD_DCAP is listed, so that every other one reads its reset word. -/
theorem State.resetOf_get (c : Integ) (flash : List Host.Cell) {F : Fld} {i : Nat} (h : F.key i ≠ R.BUD_DCAP_ABS.key 0) :
    (State.resetOf c flash).get F i = bitsOf (BitVec.ofNat 32 F.rst) F.lo F.w := by
  have hk : tabGet (initRegs c) (F.key i) = none := if_neg h.symm
  rw [State.get, State.word, State.resetOf, hk]
  rfl

/-- The die caps of R250 fit their fields in every configuration of R3. -/
theorem State.resetOf_caps {c : Integ} (flash : List Host.Cell) (hn : c.n ≤ 64) :
    (State.resetOf c flash).get R.BUD_DCAP_ABS = 192 * c.n ∧ (State.resetOf c flash).get R.BUD_DCAP_DCAP = 150 * c.n := by
  have hw (F : Fld) (hk : F.key 0 = R.BUD_DCAP_ABS.base) : (State.resetOf c flash).get F =
      bitsOf (withBits (withBits 0 16 14 (192 * c.n)) 0 14 (150 * c.n)) F.lo F.w := by
    rw [State.get, State.word, State.resetOf, show tabGet (initRegs c) (F.key 0) = _ from if_pos hk.symm]
    rfl
  constructor
  · exact (hw _ rfl).trans ((bitsOf_withBits_other _ 0 14 _ 16 14 (by decide)).trans
      ((bitsOf_withBits_self _ 16 14 _ (by decide)).trans (Nat.mod_eq_of_lt (by omega))))
  · exact (hw _ rfl).trans ((bitsOf_withBits_self _ 0 14 _ (by decide)).trans (Nat.mod_eq_of_lt (by omega)))

/-- Settles O6: the state after cold reset has the register file of reset. -/
theorem coldResetRestoresEverything : Obligations.ColdResetRestoresEverything :=
  ⟨fun s => ⟨effColdReset s, rfl, rfl, rfl, rfl, fun _ _ h => State.resetOf_get s.cfg s.flash h, State.resetOf_caps s.flash⟩,
    fun _ => rfl⟩

end Sys2Proof.Machine

namespace Sys2Proof.Machine

/-! ### What the reset of the control complex leaves of the PWR page (R303) -/

theorem tabGet_map {α : Type} (m : Tab α) (f : Nat → α → α) (k : Nat) :
    tabGet (m.map fun r => (r.1, f r.1 r.2)) k = (tabGet m k).map (f k) := by
  induction m with
  | nil => rfl
  | cons x m ih =>
    obtain ⟨j, v⟩ := x
    by_cases h : j = k
    · subst h
      simp [tabGet]
    · simpa [tabGet, h] using ih

/-- A word of the PWR page keeps its content, but for PG_EXH_SEQ. -/
theorem warmRegs_pwr (c : Integ) (m : Tab Word) {k : Nat} (hp : k % 0x100000 / 0x1000 = 2) (ho : k % 0x1000 ≠ 0x1C) :
    tabGet (warmRegs c m) k = tabGet m k := by
  have hk : R.BUD_DCAP_ABS.base ≠ k := by
    rintro rfl
    exact absurd hp (by decide)
  have hw (w : Word) : warmWord k w = w := by rw [warmWord, if_pos hp, if_neg ho]
  refine (tabGet_put_ne _ _ _ _ hk).trans ((tabGet_map m warmWord k).trans ?_)
  cases tabGet m k with
  | none => rfl
  | some w => exact congrArg some (hw w)

/-- The fields that the interruption of a command on the flash writes. -/
def stopFlashFlds : List Fld := [R.CAL_CSTAT_BUSY, R.CAL_CSTAT_RESULT, R.CAL_FLT_CMTFAIL, R.IMG_PSTAT_BUSY] ++ stageFlds

theorem State.stopFlash_get {F : Fld} (h : F.apartAll stopFlashFlds) (s : State) (i : Nat) : s.stopFlash.get F i = s.get F i := by
  have hset (t : State) {G : Fld} (hG : G ∈ stopFlashFlds) (v : Nat) : (t.set G 0 v).get F i = t.get F i :=
    State.get_set_apart (h G hG) t 0 v i
  have hstage : F.apartAll stageFlds := fun G hG => h G (by simp [stopFlashFlds, hG])
  have hcommit : (if s.cal.commit then
      let (v, s) := s.freeBits (8 * 0x10000)
      { ((s.set R.CAL_CSTAT_BUSY 0 0).calRefuse 4).commitRec with
        cal := { s.cal with commit := false }, flash := commitLeft s.flash v (s.fuse.getD default).dieId }
    else s).get F i = s.get F i := by
    split
    · refine (State.get_with (State.commitRec _) F i).trans ((State.stage_get hstage _ _ _ i).trans ?_)
      exact (hset _ (by simp [stopFlashFlds]) _).trans ((hset _ (by simp [stopFlashFlds]) _).trans
        (hset _ (by simp [stopFlashFlds]) _))
    · rfl
  unfold State.stopFlash
  dsimp only at hcommit ⊢
  generalize (if s.cal.commit = true then _ else s) = t at hcommit ⊢
  split
  · exact hcommit
  · exact (State.get_with (State.set _ R.IMG_PSTAT_BUSY 0 0) F i).trans ((hset _ (by simp [stopFlashFlds]) _).trans hcommit)

theorem State.undarkened_get {F : Fld} (h : F.apartAll [R.PWR_DSTAT_CSTOP, R.PWR_DSTAT_ISO]) (s : State) (i : Nat) :
    s.undarkened.get F i = s.get F i :=
  State.each_const (State.get · F i) s _ _ fun t d => by
    unfold State.undarken
    dsimp only
    split
    · rw [State.get_set_apart (h R.PWR_DSTAT_ISO (by simp)), State.get_set_apart (h R.PWR_DSTAT_CSTOP (by simp))]
    · rfl

/-- The reset of the control complex leaves the device state. -/
theorem State.ccReset_devSt (s : State) : s.ccReset.devSt = s.devSt := by
  have hword (c : Integ) (u : State) (r : Nat) : ((tabGet (warmRegs c u.regs) (R.PWR_STAT_DEV.key 0)).getD (BitVec.ofNat 32 r)) =
      u.word (R.PWR_STAT_DEV.key 0) r := by
    rw [warmRegs_pwr _ _ (by decide) (by decide)]
    rfl
  have hwarm : s.ccReset.get R.PWR_STAT_DEV = s.undarkened.stopFlash.get R.PWR_STAT_DEV :=
    (State.get_set_apart (by decide) _ _ _ _).trans ((State.get_set_apart (by decide) _ _ _ _).trans
      (congrArg (bitsOf · R.PWR_STAT_DEV.lo R.PWR_STAT_DEV.w) (hword _ s.undarkened.stopFlash _)))
  rw [State.devSt, hwarm, State.stopFlash_get (by decide), State.undarkened_get (by decide)]
  rfl

/-- The cells and the anvil cells, which no reset reaches. -/
def State.powerCells (s : State) : Tab CellS × Tab AnvS := (s.cells, s.anv)

theorem State.ccReset_powerCells (s : State) : s.ccReset.powerCells = s.powerCells := by
  have hstop : s.undarkened.stopFlash.powerCells = s.undarkened.powerCells :=
    State.stopFlash_const State.powerCells (fun _ _ _ => rfl) (fun _ _ ⟨_, _, h⟩ => by rw [h]; rfl) (fun _ _ => rfl)
      (fun _ _ _ => rfl) (fun _ _ => rfl) _
  refine Eq.trans (b := s.undarkened.stopFlash.powerCells) rfl (hstop.trans ?_)
  rw [s.undarkened_regs]
  rfl

/-- What every reset of the control complex leaves: the flash where no command on it was in progress. -/
abbrev State.resetLeaves (s t : State) : Prop :=
  t.cfg = s.cfg ∧ t.fuse = s.fuse ∧ (s.cal.commit = false → s.dev.pgm = none → t.flash = s.flash) ∧ t.cells = s.cells ∧
    t.anv = s.anv ∧ t.pending = s.pending

theorem State.ccReset_leaves (s : State) : s.resetLeaves s.ccReset := by
  obtain ⟨hcfg, hfuse, -, hpending⟩ := (State.fixed_iff _ _).mp s.ccReset_fixed
  obtain ⟨hcells, hanv⟩ := Prod.mk.inj s.ccReset_powerCells
  exact ⟨hcfg, hfuse, State.ccReset_flash, hcells, hanv, hpending⟩

/-! ### The release of the control complex -/

/-- `t` differs from `s` in the register file, the ports and the report lines alone. -/
def State.departOnly (s t : State) : Prop := ∃ r q l, t = { s with regs := r, ports := q, flt := { s.flt with lines := l } }

theorem State.departOnly.depart {s t : State} (h : s.departOnly t) (p cause : Nat) : s.departOnly (t.depart p cause) := by
  obtain ⟨r, q, l, rfl⟩ := h
  unfold State.depart State.report
  dsimp only
  split
  · split
    · exact ⟨_, _, l, rfl⟩
    · exact ⟨_, _, _, rfl⟩
  · exact ⟨_, q, l, rfl⟩

theorem State.departAgain_only (s : State) : s.departOnly s.departAgain :=
  State.each_induct s.departOnly _ _ (fun t p _ h => by
    split
    · exact h.depart p 0
    · exact h) s ⟨s.regs, s.ports, s.flt.lines, rfl⟩

theorem State.departAgain_get {F : Fld} (h : R.LNK_FLT_DEPART.apart F) (s : State) (i : Nat) :
    s.departAgain.get F i = s.get F i :=
  State.each_const (State.get · F i) s _ _ fun t p => by
    split
    · rw [State.depart_get]
      exact State.get_set_apart h _ _ _ _
    · rfl

/-- A supply group that stayed ON counts as in switch-on from the release (R335). -/
def State.supplyResumed (s : State) : State := if s.dev.supStayed then s.each s.supply fun s d => s.pwrStep d .onPower 5 else s

theorem State.supplyResumed_only (s : State) : s.powerOnly s.supplyResumed := by
  unfold State.supplyResumed
  split
  · exact State.each_induct s.powerOnly _ _ (fun t d _ h => h.pwrStep d .onPower 5) s s.powerOnly_refl
  · exact s.powerOnly_refl

/-- The control complex runs: BOOT begins, and the heartbeat with it. -/
def State.runs (s : State) : State :=
  { s with dev := { s.dev with released := true, nextSel := s.get R.IMG_CTL_NEXT, bootTick := s.ticks },
           flt := { s.flt with lines := [], heartbeat := true },
           arc := { s.arc with tornDue := s.arc.tornDue || (s.dev.bootCause == 4) } }

/-- The event of the release shows, and the PLL is enabled. -/
def State.started (s : State) (F : Fld) : State := (s.runs.raise F).set R.CLK_STAT_PLLEN 0 1

theorem State.started_enabled (s : State) (F : Fld) : (s.started F).departAgain.get R.CLK_STAT_PLLEN = 1 :=
  (State.departAgain_get (by decide) _ 0).trans (State.get_set_self _ _ _ _ (by decide))

theorem State.started_event (s : State) {F : Fld} (hd : R.LNK_FLT_DEPART.apart F) (he : R.CLK_STAT_PLLEN.apart F)
    (hw : F.lo + F.w ≤ 32) (h0 : 0 < F.w) : (s.started F).departAgain.get F = 1 := by
  rw [State.departAgain_get hd, State.started, State.get_set_apart he]
  exact State.get_raise_self _ _ _ hw h0

theorem effRelease_eq {s : State} (hp : s.dev.powered = true) (hr : s.dev.released = false) (hf : s.fuseOk = true) :
    effRelease s = (s.ccReset.supplyResumed.started
      (if s.dev.bootCause == 1 then R.SYS_FLT_COLD else R.SYS_FLT_WARM)).departAgain :=
  if_pos (by rw [hp, hr, hf]; rfl)

theorem effRelease_idle {s : State} (h : s.dev.powered = false ∨ s.dev.released = true ∨ s.fuseOk = false) : effRelease s = s :=
  if_neg (by rcases h with h | h | h <;> simp [h])

theorem State.resetLeaves.started {s t : State} (h : s.resetLeaves t) (F : Fld) : s.resetLeaves (t.started F) := h

theorem State.resetLeaves.powerOnly {s t u : State} (h : s.resetLeaves t) (hu : t.powerOnly u) : s.resetLeaves u := by
  obtain ⟨r, p, f, o, rfl⟩ := hu
  exact h

theorem State.resetLeaves.departOnly {s t u : State} (h : s.resetLeaves t) (hu : t.departOnly u) : s.resetLeaves u := by
  obtain ⟨r, q, l, rfl⟩ := hu
  exact h

/-- Behind the reset the release leaves what the reset left. -/
theorem State.started_leaves (s : State) (F : Fld) : s.resetLeaves (s.ccReset.supplyResumed.started F).departAgain :=
  ((s.ccReset_leaves.powerOnly s.ccReset.supplyResumed_only).started F).departOnly (State.departAgain_only _)

theorem controlComplexRelease_releases (s : State) (hp : s.dev.powered = true) (hr : s.dev.released = false)
    (hf : s.fuseOk = true) :
    ∃ t, exec .controlComplexRelease s = .next t ∧ t.dev.released = true ∧ t.get R.CLK_STAT_PLLEN = 1 ∧ t.flt.heartbeat = true ∧
      (s.dev.bootCause = 1 → t.get R.SYS_FLT_COLD = 1) ∧ (s.dev.bootCause ≠ 1 → t.get R.SYS_FLT_WARM = 1) ∧
      t.cfg = s.cfg ∧ t.fuse = s.fuse ∧ (s.cal.commit = false → s.dev.pgm = none → t.flash = s.flash) ∧
      t.cells = s.cells ∧ t.anv = s.anv ∧ t.pending = s.pending := by
  obtain ⟨r, q, l, hdepart⟩ := (s.ccReset.supplyResumed.started
    (if s.dev.bootCause == 1 then R.SYS_FLT_COLD else R.SYS_FLT_WARM)).departAgain_only
  refine ⟨_, congrArg Host.Outcome.next (effRelease_eq hp hr hf), ?_, State.started_enabled _ _, ?_, fun h => ?_, fun h => ?_,
    s.started_leaves _⟩
  · rw [hdepart]
    rfl
  · rw [hdepart]
    rfl
  · rw [if_pos (beq_iff_eq.mpr h)]
    exact State.started_event _ (by decide) (by decide) (by decide) (by decide)
  · rw [if_neg fun e => h (beq_iff_eq.mp e)]
    exact State.started_event _ (by decide) (by decide) (by decide) (by decide)

/-! ### The warm reset -/

/-- The complex is reset for a WRST, with no entry in progress. -/
def State.warmed (s : State) : State :=
  let u := s.ccReset.set R.PWR_STAT_ENTRY 0 0
  { u with dev := { u.dev with released := false, bootCause := 2 } }

theorem State.warmed_devSt (s : State) : s.warmed.devSt = s.devSt := by
  rw [State.devSt, State.warmed, State.get_with (s.ccReset.set R.PWR_STAT_ENTRY 0 0), State.get_set_apart (by decide)]
  exact s.ccReset_devSt

theorem effWarmReset_eq {s : State} (h : s.dev.powered = true) : effWarmReset s =
    if s.devSt == devOff then s.warmed else (s.warmed.set R.PWR_STAT_DEV 0 devBoot).set R.FLT_STAT_STATE 0 0 := by
  rw [← s.warmed_devSt]
  exact if_pos h

theorem State.warmed_leaves (s : State) : s.resetLeaves s.warmed := s.ccReset_leaves

theorem State.resetLeaves.set {s t : State} (h : s.resetLeaves t) (F : Fld) (i v : Nat) : s.resetLeaves (t.set F i v) := h

/-- A WRST leaves the complex unreleased, and the device in BOOT or in SAFE_OFF. -/
theorem effWarmReset_resets {s : State} (hp : s.dev.powered = true) :
    (effWarmReset s).dev.released = false ∧ (effWarmReset s).dev.bootCause = 2 ∧
      (effWarmReset s).devSt = (if s.devSt = devOff then devOff else devBoot) ∧ s.resetLeaves (effWarmReset s) := by
  rw [effWarmReset_eq hp]
  by_cases hoff : s.devSt = devOff
  · rw [if_pos (beq_iff_eq.mpr hoff), if_pos hoff]
    exact ⟨rfl, rfl, s.warmed_devSt.trans hoff, s.warmed_leaves⟩
  · rw [if_neg fun e => hoff (beq_iff_eq.mp e), if_neg hoff]
    refine ⟨rfl, rfl, ?_, (s.warmed_leaves.set R.PWR_STAT_DEV 0 devBoot).set R.FLT_STAT_STATE 0 0⟩
    exact (State.get_set_apart (by decide) _ _ _ _).trans (State.get_set_self _ _ _ _ (by decide))

theorem warmReset_resets (s : State) (g : Gal) (h : s.rowPasses g R.PWR_CTL_WRST 0 1) (hp : s.dev.powered = true) :
    ∃ t, exec (.warmReset g) s = .next t ∧ t.dev.released = false ∧ t.dev.bootCause = 2 ∧
      t.devSt = (if s.devSt = devOff then devOff else devBoot) ∧
      t.cfg = s.cfg ∧ t.fuse = s.fuse ∧ (s.cal.commit = false → s.dev.pgm = none → t.flash = s.flash) ∧
      t.cells = s.cells ∧ t.anv = s.anv ∧ t.pending = s.pending :=
  ⟨_, congrArg Host.Outcome.next (s.hostRow_passes g _ _ _ _ h), effWarmReset_resets (s := s.newAccess) hp⟩

/-- Settles O9: the release and the warm reset run through the reset of the control complex, which leaves the PWR page. -/
theorem controlComplexIsReleased : Obligations.ControlComplexIsReleased :=
  ⟨controlComplexRelease_releases, fun _ h => congrArg Host.Outcome.next (effRelease_idle h), warmReset_resets⟩

end Sys2Proof.Machine

namespace Sys2Proof.Machine

/-! ### The PLL as the source (R320) -/

/-- The fields that a START of the ADC writes. -/
def roundFlds : List Fld := [R.ADC_FLT_OVRUN, R.ADC_STAT_BUSY, R.ADC_STAT_ROUND]

theorem State.roundStart_get {F : Fld} (h : F.apartAll roundFlds) (s : State) (i : Nat) : s.roundStart.get F i = s.get F i := by
  unfold State.roundStart
  split
  · rfl
  · split
    · exact State.raise_get (h R.ADC_FLT_OVRUN (by simp [roundFlds])) s 0 i
    · rw [State.roundBegin_eq, State.dealOut_get]
      exact (State.get_set_apart (h R.ADC_STAT_ROUND (by simp [roundFlds])) _ _ _ _).trans
        (State.get_set_apart (h R.ADC_STAT_BUSY (by simp [roundFlds])) s 0 1 i)

/-- The PLL shows as the source, and the phase of BOOT follows. -/
def State.pllShown (s : State) : State := ((s.set R.CLK_STAT_SRC 0 1).set R.CLK_SRC_SEL 0 1).phase

theorem State.pllShown_get {F : Fld} (h : F.apartAll [R.CLK_STAT_SRC, R.CLK_SRC_SEL, R.IMG_BOOT_PHASE]) (s : State) (i : Nat) :
    s.pllShown.get F i = s.get F i := by
  rw [State.pllShown, State.phase, State.get_set_apart (h R.IMG_BOOT_PHASE (by simp)),
    State.get_set_apart (h R.CLK_SRC_SEL (by simp)), State.get_set_apart (h R.CLK_STAT_SRC (by simp))]

theorem State.pllShown_only (s : State) :
    s.only s.pllShown [R.CLK_STAT_SRC.key 0, R.CLK_SRC_SEL.key 0, R.IMG_BOOT_PHASE.key 0] :=
  ⟨rfl, State.framed_set _ _ _ _ _ _ (State.framed_set _ _ _ _ _ _ (State.framed_set _ _ _ _ _ _ (s.framed_refl _)
    (by simp)) (by simp)) (by simp)⟩

/-- Behind the selection a START that was written before begins its round, and no field of the CLK page changes. -/
theorem State.selectPll_get {F : Fld} (h : F.apartAll roundFlds) (s : State) (i : Nat) :
    s.selectPll.get F i = s.pllShown.get F i := by
  unfold State.selectPll
  dsimp only
  split
  · exact State.roundStart_get h s.pllShown i
  · rfl

theorem State.selectPll_src (s : State) : s.selectPll.get R.CLK_STAT_SRC = 1 := by
  rw [State.selectPll_get (by decide), State.pllShown, State.phase, State.get_set_apart (by decide),
    State.get_set_apart (by decide), State.get_set_self _ _ _ _ (by decide)]
  rfl

theorem State.selectPll_sel (s : State) : s.selectPll.get R.CLK_SRC_SEL = 1 := by
  rw [State.selectPll_get (by decide), State.pllShown, State.phase, State.get_set_apart (by decide),
    State.get_set_self _ _ _ _ (by decide)]
  rfl

theorem State.selectPll_idle {s : State} (h : s.adc.startDue = false) : s.selectPll = s.pllShown :=
  if_neg fun e => absurd (h.symm.trans e) (by decide)

/-! ### The lock of the PLL -/

/-- LOCK shows, with the time that it took. -/
def State.pllLocked (s : State) (n : Nat) : State := (s.set R.CLK_STAT_LOCK 0 1).setSat R.CLK_STAT_LOCKT 0 n

theorem State.pllLocked_lock (s : State) (n : Nat) : (s.pllLocked n).get R.CLK_STAT_LOCK = 1 := by
  rw [State.pllLocked, State.setSat_get (by decide), State.get_set_self _ _ _ _ (by decide)]
  rfl

theorem State.pllLocked_time (s : State) (n : Nat) : (s.pllLocked n).get R.CLK_STAT_LOCKT = min n 65535 := by
  rw [State.pllLocked, State.get_setSat_self _ _ _ _ (by decide)]
  show satU 16 n = _
  unfold satU
  split <;> omega

theorem State.pllLocked_src (s : State) (n : Nat) : (s.pllLocked n).get R.CLK_STAT_SRC = s.get R.CLK_STAT_SRC := by
  rw [State.pllLocked, State.setSat_get (by decide), State.get_set_apart (by decide)]

theorem effPllLock_eq {s : State} (n : Nat) (he : s.get R.CLK_STAT_PLLEN = 1) (hl : s.get R.CLK_STAT_LOCK = 0) :
    effPllLock s n = if !s.large && !(s.pllLocked n).onPll then (s.pllLocked n).selectPll else s.pllLocked n :=
  if_pos (by rw [State.flag_of_one he, State.flag_of_zero hl]; rfl)

theorem pllLock_locks (s : State) (n : Nat) (he : s.get R.CLK_STAT_PLLEN = 1) (hl : s.get R.CLK_STAT_LOCK = 0) :
    ∃ t, exec (.pllLock n) s = .next t ∧ t.get R.CLK_STAT_LOCK = 1 ∧ t.get R.CLK_STAT_LOCKT = min n 65535 ∧
      t.kept = s.kept ∧ (s.large = true → s.only t [R.CLK_STAT_LOCK.key 0]) ∧
      (s.large = false → s.get R.CLK_STAT_SRC = 0 → t.get R.CLK_STAT_SRC = 1) := by
  have heq := effPllLock_eq n he hl
  have hget {F : Fld} (hr : F.apartAll roundFlds) (hp : F.apartAll [R.CLK_STAT_SRC, R.CLK_SRC_SEL, R.IMG_BOOT_PHASE]) :
      (effPllLock s n).get F = (s.pllLocked n).get F := by
    rw [heq]
    split
    · rw [State.selectPll_get hr, State.pllShown_get hp]
    · rfl
  refine ⟨_, rfl, (hget (by decide) (by decide)).trans (s.pllLocked_lock n),
    (hget (by decide) (by decide)).trans (s.pllLocked_time n), effPllLock_kept s n, fun hlarge => ?_, fun hsmall hsrc => ?_⟩
  · rw [heq, if_neg (by simp [hlarge])]
    exact ⟨rfl, State.framed_set _ _ _ _ _ _ (State.framed_set _ _ _ _ _ _ (s.framed_refl _) (by simp)) (by simp [Fld.key,
      R.CLK_STAT_LOCKT, R.CLK_STAT_LOCK])⟩
  · have hfio : (s.pllLocked n).onPll = false := State.flag_of_zero ((s.pllLocked_src n).trans hsrc)
    rw [heq, if_pos (by simp [hsmall, hfio])]
    exact State.selectPll_src _

/-! ### The selection by a host -/

theorem pllSelect_next {s : State} {g : Gal} (h : s.rowPasses g R.CLK_SRC_SEL 0 1) :
    exec (.pllSelect g) s = .next ((s.newAccess.ifPriv g 1 effPllSelect).respond g .ok 0) :=
  congrArg Host.Outcome.next (s.hostRow_passes g _ _ _ _ h)

theorem pllSelect_privileged {s : State} {g : Gal} (h : s.rowPasses g R.CLK_SRC_SEL 0 1) (hp : s.priv g 1 = true) :
    exec (.pllSelect g) s = .next ((effPllSelect s.newAccess).respond g .ok 0) := by
  rw [pllSelect_next h, State.ifPriv, show s.newAccess.priv g 1 = true from hp]
  rfl

theorem pllSelect_unprivileged {s : State} {g : Gal} (h : s.rowPasses g R.CLK_SRC_SEL 0 1) (hp : s.priv g 1 = false) :
    exec (.pllSelect g) s = .next (s.okRsp g) := by
  rw [pllSelect_next h, State.ifPriv, show s.newAccess.priv g 1 = false from hp]
  rfl

theorem effPllSelect_unlocked {s : State} (h : s.get R.CLK_STAT_LOCK = 0) : effPllSelect s = s.raise R.CLK_FLT_SELREF :=
  if_pos (by rw [State.flag_of_zero h]; rfl)

theorem effPllSelect_selects {s : State} (hs : s.get R.CLK_STAT_SRC = 0) (hl : s.get R.CLK_STAT_LOCK = 1) :
    effPllSelect s = s.selectPll :=
  (if_neg (by rw [State.flag_of_one hl]; decide)).trans (if_neg (by rw [State.onPll, State.flag_of_zero hs]; decide))

theorem effPllSelect_selected {s : State} (hs : s.get R.CLK_STAT_SRC = 1) (hl : s.get R.CLK_STAT_LOCK = 1) :
    effPllSelect s = s :=
  (if_neg (by rw [State.flag_of_one hl]; decide)).trans (if_pos (State.flag_of_one hs))

theorem pllSelect_refused (s : State) (g : Gal) (h : s.rowPasses g R.CLK_SRC_SEL 0 1) (hp : s.priv g 1 = true)
    (hl : s.get R.CLK_STAT_LOCK = 0) :
    ∃ t, exec (.pllSelect g) s = .next t ∧ t.get R.CLK_FLT_SELREF = 1 ∧ (s.okRsp g).only t [R.CLK_FLT_SELREF.key 0] := by
  have hex := pllSelect_privileged h hp
  rw [effPllSelect_unlocked (s := s.newAccess) hl] at hex
  exact ⟨_, hex, State.get_raise_self s.newAccess _ _ (by decide) (by decide), rfl,
    State.framed_set _ (s.okRsp g) _ _ _ _ (State.framed_refl _ _) (by simp)⟩

theorem pllSelect_selects (s : State) (g : Gal) (h : s.rowPasses g R.CLK_SRC_SEL 0 1) (hp : s.priv g 1 = true)
    (hs : s.get R.CLK_STAT_SRC = 0) (hl : s.get R.CLK_STAT_LOCK = 1) :
    ∃ t, exec (.pllSelect g) s = .next t ∧ t.get R.CLK_STAT_SRC = 1 ∧ t.get R.CLK_SRC_SEL = 1 ∧ t.kept = s.kept ∧
      (s.adc.startDue = false →
        (s.okRsp g).only t [R.CLK_STAT_SRC.key 0, R.CLK_SRC_SEL.key 0, R.IMG_BOOT_PHASE.key 0]) := by
  have hex := pllSelect_privileged h hp
  rw [effPllSelect_selects (s := s.newAccess) hs hl] at hex
  refine ⟨_, hex, State.selectPll_src _, State.selectPll_sel _, ?_, fun hdue => ?_⟩
  · rw [State.respond_kept, State.selectPll_kept, State.newAccess_kept]
  · rw [State.selectPll_idle (s := s.newAccess) hdue]
    exact ⟨rfl, s.newAccess.pllShown_only.2⟩

theorem pllSelect_selected (s : State) (g : Gal) (h : s.rowPasses g R.CLK_SRC_SEL 0 1) (hs : s.get R.CLK_STAT_SRC = 1)
    (hl : s.get R.CLK_STAT_LOCK = 1) : exec (.pllSelect g) s = .next (s.okRsp g) := by
  cases hp : s.priv g 1
  · exact pllSelect_unprivileged h hp
  · rw [pllSelect_privileged h hp, effPllSelect_selected (s := s.newAccess) hs hl]
    rfl

/-! ### No lock, and its loss (R321, R411) -/

theorem nolock_reports (s : State) (he : s.get R.CLK_STAT_PLLEN = 1) (hl : s.get R.CLK_STAT_LOCK = 0) (hsmall : s.large = false)
    (hs : s.get R.CLK_STAT_SRC = 0) :
    ∃ t, exec .nolock s = .next t ∧ t.get R.CLK_FLT_NOLOCK = 1 ∧ t = { s with regs := t.regs, flt := t.flt } ∧
      s.framed t [R.CLK_FLT_NOLOCK.key 0] ∧
      ((srcOf 9 0, clsNolock) ∉ s.flt.masked → t.flt = { s.flt with
        lines := s.flt.lines ++ [{ cls := clsNolock, cause := 0, src := srcOf 9 0 }] }) := by
  have heq : effNolock s = (s.raise R.CLK_FLT_NOLOCK).report clsNolock 0 (srcOf 9 0) :=
    if_pos (by rw [State.onPll, State.flag_of_one he, State.flag_of_zero hl, hsmall, State.flag_of_zero hs]; rfl)
  refine ⟨_, congrArg Host.Outcome.next heq, ?_, ?_, ?_, fun hm => ?_⟩
  · rw [State.report_get]
    exact State.get_raise_self s _ _ (by decide) (by decide)
  · rw [State.report_with]
    rfl
  · exact State.framed_congr _ _ _ _ (State.framed_set _ _ _ _ _ _ (s.framed_refl _) (by simp)) (State.report_regs _ _ _ _)
  · rw [State.report, if_neg (show (srcOf 9 0, clsNolock) ∉ (s.raise R.CLK_FLT_NOLOCK).flt.masked from hm)]
    rfl

/-- The PLL is without lock. -/
def State.unlocked (s : State) : State := s.set R.CLK_STAT_LOCK 0 0

theorem State.unlocked_lock (s : State) : s.unlocked.get R.CLK_STAT_LOCK = 0 := State.get_set_self _ _ _ _ (by decide)

theorem State.unlocked_onPll (s : State) : s.unlocked.onPll = s.onPll := by
  rw [State.onPll, State.flag, State.unlocked, State.get_set_apart (by decide)]
  rfl

theorem effLockLoss_eq {s : State} (h : s.get R.CLK_STAT_LOCK = 1) : effLockLoss s =
    if s.onPll then (s.unlocked.raise R.CLK_FLT_LOCKLOST).report clsPll 0 (srcOf 9 0) else s.unlocked := by
  rw [← s.unlocked_onPll]
  exact if_pos (State.flag_of_one h)

theorem pllLockLoss_clears (s : State) (h : s.get R.CLK_STAT_LOCK = 1) :
    ∃ t, exec .pllLockLoss s = .next t ∧ t.get R.CLK_STAT_LOCK = 0 ∧ t = { s with regs := t.regs, flt := t.flt } ∧
      s.framed t [R.CLK_STAT_LOCK.key 0, R.CLK_FLT_LOCKLOST.key 0] ∧
      (s.get R.CLK_STAT_SRC = 0 → t.flt = s.flt) ∧
      (s.get R.CLK_STAT_SRC = 1 → t.get R.CLK_FLT_LOCKLOST = 1 ∧ ((srcOf 9 0, clsPll) ∉ s.flt.masked → t.flt = { s.flt with
        lines := s.flt.lines ++ [{ cls := clsPll, cause := 0, src := srcOf 9 0 }] })) := by
  have heq := effLockLoss_eq h
  have hframe : s.framed s.unlocked [R.CLK_STAT_LOCK.key 0, R.CLK_FLT_LOCKLOST.key 0] :=
    State.framed_set _ _ _ _ _ _ (s.framed_refl _) (by simp)
  refine ⟨effLockLoss s, rfl, ?_⟩
  cases hsrc : s.onPll
  · rw [hsrc, if_neg (by decide)] at heq
    rw [heq]
    exact ⟨s.unlocked_lock, rfl, hframe, fun _ => rfl, fun h1 => absurd ((State.flag_of_one h1).symm.trans hsrc) (by decide)⟩
  · rw [hsrc, if_pos rfl] at heq
    rw [heq]
    refine ⟨?_, ?_, ?_, fun h0 => absurd ((State.flag_of_zero h0).symm.trans hsrc) (by decide), fun _ => ⟨?_, fun hm => ?_⟩⟩
    · rw [State.report_get, State.raise_get (by decide)]
      exact s.unlocked_lock
    · rw [State.report_with]
      rfl
    · exact State.framed_congr _ _ _ _ (State.framed_set _ _ _ _ _ _ hframe (by simp)) (State.report_regs _ _ _ _)
    · rw [State.report_get]
      exact State.get_raise_self _ _ _ (by decide) (by decide)
    · rw [State.report, if_neg (show (srcOf 9 0, clsPll) ∉ (s.unlocked.raise R.CLK_FLT_LOCKLOST).flt.masked from hm)]
      rfl

/-- Settles O10: each command by its own lemmas; behind the selection a round may begin, which writes the ADC page alone. -/
theorem pllLockSelectAndLoss : Obligations.PllLockSelectAndLoss :=
  ⟨pllLock_locks, fun _ _ => pllSelect_unprivileged, pllSelect_refused, pllSelect_selects, pllSelect_selected, nolock_reports,
    pllLockLoss_clears⟩

end Sys2Proof.Machine

namespace Sys2Proof.Machine

/-! ### The target of a district -/

/-- The field of a district's target. -/
abbrev tgtOfFld (d : Nat) : Fld := { tgtFld (d / 16) with lo := 2 * (d % 16), w := 2 }

/-- Outside its four registers no field of a page touches a target. -/
theorem Fld.apart_tgt {F : Fld} (hF : F.inst ≠ .cell) (hb : F.base % 0x1000 < 0x4C ∨ 0x5C ≤ F.base % 0x1000) {d : Nat}
    (hd : d < 64) : F.apart (tgtOfFld d) :=
  .inr (.inl ⟨hF, by simp [tgtFld, R.PWR_DTGT0_TGT], by simp only [tgtFld, R.PWR_DTGT0_TGT]; omega⟩)

/-- The target of another place of its register, or of another register, is as before. -/
theorem State.setTgt_tgtOf_ne (s : State) {d e : Nat} (h : d % 16 ≠ e % 16) (v : Nat) : (s.setTgt d v).tgtOf e = s.tgtOf e :=
  State.get_set_other s (tgtOfFld d) (tgtOfFld e) 0 0 v rfl (by dsimp only; omega)

/-! ### A request for one district (R306) -/

theorem State.request_beyond {s : State} {d : Nat} (h : s.cfg.n ≤ d) (v : Nat) : s.request d v = s := if_pos h

/-- A request for the target in force changes nothing. -/
theorem State.request_same {s : State} {d v : Nat} (h : v = s.tgtOf d) (h3 : v ≠ 3) : s.request d v = s := by
  unfold State.request
  rw [if_neg h3, if_pos (Or.inl h)]
  exact ite_self s

theorem State.request_unused {s : State} {d : Nat} (hd : d < s.cfg.n) : s.request d 3 = s.cfgsat 2 := if_neg (by omega)

/-- A request that changes the target of a configured district which is not darkening, or to ON. -/
structure State.Asked (s : State) (d v : Nat) : Prop where
  configured : d < s.cfg.n
  used : v < 3
  change : v ≠ s.tgtOf d
  lit : s.get R.DST_FO_STAT_STATE d ≠ 2 ∨ v = 2

/-- A stored target: the failure of an earlier switch-on no longer stands. -/
def State.tgtStored (s : State) (d v : Nat) : State := (s.setTgt d v).updPw d fun x => { x with failed := false }

/-- A stored target is left alone in SAFE_OFF, latched behind a sequence, or pursued. -/
def State.tgtActs (s : State) (d : Nat) : State :=
  if s.devSt == devOff then s
  else if s.latches d then
    ((s.updPw d fun x => { x with latchAt := some s.dev.die }).set R.PWR_DSTAT_TPEND d 1).raise R.PWR_FLT_WDUR
  else if s.noPursuit then s
  else s.pursue d

theorem State.request_asked {s : State} {d v : Nat} (h : s.Asked d v) :
    s.request d v = if s.reqRefused d v then s.raise R.PWR_FLT_REQREF else (s.tgtStored d v).tgtActs d := by
  obtain ⟨hn, hv, hc, hl⟩ := h
  unfold State.request
  rw [if_neg (by omega), if_neg (by omega), if_neg (by rintro (e | ⟨e, e'⟩) <;> omega)]
  rfl

theorem State.request_refused {s : State} {d v : Nat} (h : s.Asked d v) (hr : s.reqRefused d v = true) :
    s.request d v = s.raise R.PWR_FLT_REQREF := (State.request_asked h).trans (if_pos hr)

theorem State.request_stores {s : State} {d v : Nat} (h : s.Asked d v) (hr : s.reqRefused d v = false) :
    s.request d v = (s.tgtStored d v).tgtActs d := (State.request_asked h).trans (if_neg (by simp [hr]))

/-- What follows the store of a target writes none. -/
theorem State.tgtActs_tgtOf (s : State) (d : Nat) {e : Nat} (he : e < 64) : (s.tgtActs d).tgtOf e = s.tgtOf e := by
  have hp : R.PWR_DSTAT_TPEND.apart (tgtOfFld e) := Fld.apart_tgt (by decide) (by decide) he
  have hw : R.PWR_FLT_WDUR.apart (tgtOfFld e) := Fld.apart_tgt (by decide) (by decide) he
  have hend : (tgtOfFld e).apartAll endWaitFlds := by
    intro F hF
    simp only [endWaitFlds, List.mem_cons, List.not_mem_nil, or_false] at hF
    rcases hF with rfl | rfl
    · exact Fld.apart_tgt (by decide) (by decide) he
    · exact Fld.apart_tgt (by decide) (by decide) he
  unfold State.tgtActs
  split
  · rfl
  · split
    · exact (State.raise_get hw _ _ _).trans (State.get_set_apart hp _ _ _ _)
    · split
      · rfl
      · exact State.pursue_get hend s d 0

theorem State.request_tgtOf {s : State} {d v : Nat} (h : s.Asked d v) (hr : s.reqRefused d v = false) (hd : d < 64) :
    (s.request d v).tgtOf d = v := by
  rw [State.request_stores h hr, State.tgtActs_tgtOf _ _ hd]
  exact s.setTgt_tgtOf d (Nat.lt_succ_of_lt h.used)

theorem State.request_tgtOf_ne {s : State} {d v : Nat} (h : s.Asked d v) (hr : s.reqRefused d v = false) {e : Nat} (he : e < 64)
    (hne : d % 16 ≠ e % 16) : (s.request d v).tgtOf e = s.tgtOf e := by
  rw [State.request_stores h hr, State.tgtActs_tgtOf _ _ he]
  exact s.setTgt_tgtOf_ne hne v

/-- A request writes registers and the sequences of the districts alone. -/
theorem State.powerOnly.request {s t : State} (h : s.powerOnly t) (d v : Nat) : s.powerOnly (t.request d v) := by
  have hstored : s.powerOnly (t.tgtStored d v) := (h.set _ _ _).updPw _ _
  exact .ite _ h (.ite _ (h.set _ _ _) (.ite _ h (.ite _ (h.set _ _ _) (.ite _ hstored
    (.ite _ (((hstored.updPw _ _).set _ _ _).set _ _ _) (.ite _ hstored (hstored.pursue d)))))))

/-! ### A write to PWR_DTGT -/

/-- A fold in which only one unit of a list has a turn, which the turns of the others leave as it is. -/
theorem State.each_only {s : State} {f : State → Nat → State} {x : Nat} {l : List Nat} (hn : l.Nodup) (hl : x ∈ l)
    (hbefore : ∀ y ∈ l, y ≠ x → f s y = s) (hafter : ∀ y ∈ l, y ≠ x → f (f s x) y = f s x) : s.each l f = f s x := by
  obtain ⟨l₁, l₂, rfl⟩ := List.append_of_mem hl
  obtain ⟨-, hn₂, hdisj⟩ := List.nodup_append.mp hn
  have h₁ : s.each l₁ f = s := State.each_induct (· = s) f l₁
    (fun t y hy ht => ht ▸ hbefore y (by simp [hy]) (hdisj y hy x (List.mem_cons_self ..))) s rfl
  have h₂ : (f s x).each l₂ f = f s x := State.each_induct (· = f s x) f l₂
    (fun t y hy ht => by
      rw [ht]
      exact hafter y (by simp [hy]) fun e => (List.nodup_cons.mp hn₂).1 (e ▸ hy)) _ rfl
  rw [State.each, List.foldl_append, List.foldl_cons]
  exact (congrArg (fun t => (f t x).each l₂ f) h₁).trans h₂

theorem effTargets_rsps (s : State) (j : Nat) (w : Word) : (effTargets s j w).rsps = s.rsps := by
  obtain ⟨r, p, f, o, h⟩ : s.powerOnly (effTargets s j w) :=
    State.each_induct s.powerOnly _ _ (fun _ _ _ h => h.request _ _) s s.powerOnly_refl
  rw [h]

theorem targetRequest_next {s : State} {g : Gal} {j : Nat} {w : Word} (hj : j < 4) (h : s.passes g ((tgtFld j).addr 0) w) :
    exec (.districtTargetRequest g j w) s =
      .next { effTargets s.newAccess j w with rsps := [{ gal := g, code := .ok, data := 0 }] } := by
  refine congrArg Host.Outcome.next ((if_pos hj).trans ((s.hostWrite_passes _ _ _ _ h).trans ?_))
  rw [State.respond, effTargets_rsps]
  rfl

/-- The field of a district that is not configured, or that names the target in force, asks nothing. -/
theorem State.request_idle {s : State} {e v : Nat} (h : e < s.cfg.n → v = s.tgtOf e ∧ v ≠ 3) : s.request e v = s := by
  by_cases he : e < s.cfg.n
  · exact State.request_same (h he).1 (h he).2
  · exact State.request_beyond (Nat.le_of_not_lt he) v

theorem targetRequest_idle (s : State) (g : Gal) (j : Nat) (w : Word) (hj : j < 4) (h : s.passes g ((tgtFld j).addr 0) w)
    (hw : ∀ k < 16, 16 * j + k < s.cfg.n → bitsOf w (2 * k) 2 = s.tgtOf (16 * j + k) ∧ bitsOf w (2 * k) 2 ≠ 3) :
    exec (.districtTargetRequest g j w) s = .next (s.okRsp g) := by
  have heq : effTargets s.newAccess j w = s.newAccess := State.each_induct (· = s.newAccess) _ _
    (fun t k hk ht => by
      rw [ht]
      exact State.request_idle (s := s.newAccess) (hw k (List.mem_range.mp hk))) _ rfl
  rw [targetRequest_next hj h, heq]
  rfl

/-- Where the fields of the other districts name their targets, the request is that of one district. -/
theorem effTargets_one {s : State} {j d : Nat} {w : Word} (hj : j < 4) (hdj : d / 16 = j)
    (hw : ∀ k < 16, 16 * j + k < s.cfg.n → 16 * j + k ≠ d → bitsOf w (2 * k) 2 = s.tgtOf (16 * j + k) ∧ bitsOf w (2 * k) 2 ≠ 3)
    (h : s.Asked d (bitsOf w (2 * (d % 16)) 2)) (hr : s.reqRefused d (bitsOf w (2 * (d % 16)) 2) = false) :
    effTargets s j w = s.request d (bitsOf w (2 * (d % 16)) 2) := by
  have hd : 16 * j + d % 16 = d := by omega
  have hother {k : Nat} (hk : k ∈ List.range 16) (hne : k ≠ d % 16) : k < 16 ∧ 16 * j + k ≠ d :=
    ⟨List.mem_range.mp hk, by omega⟩
  have hcfg : (s.request d (bitsOf w (2 * (d % 16)) 2)).cfg = s.cfg := by
    obtain ⟨r, p, f, o, e⟩ := s.powerOnly_refl.request d (bitsOf w (2 * (d % 16)) 2)
    rw [e]
  refine (State.each_only List.nodup_range (x := d % 16) (List.mem_range.mpr (Nat.mod_lt _ (by decide)))
    (fun k hk hne => ?_) (fun k hk hne => ?_)).trans (by rw [hd])
  · obtain ⟨hk, hne⟩ := hother hk hne
    exact State.request_idle fun hn => hw k hk hn hne
  · obtain ⟨hk16, hne'⟩ := hother hk hne
    rw [hd]
    refine State.request_idle fun hn => ?_
    rw [State.request_tgtOf_ne h hr (by omega) (by omega)]
    exact hw k hk16 (hcfg ▸ hn) hne'

theorem targetRequest_stores (s : State) (g : Gal) (j d : Nat) (w : Word) (hj : j < 4) (h : s.passes g ((tgtFld j).addr 0) w)
    (hn : d < s.cfg.n) (hdj : d / 16 = j)
    (hw : ∀ k < 16, 16 * j + k < s.cfg.n → 16 * j + k ≠ d → bitsOf w (2 * k) 2 = s.tgtOf (16 * j + k) ∧ bitsOf w (2 * k) 2 ≠ 3)
    (hv : bitsOf w (2 * (d % 16)) 2 < 3) (hc : bitsOf w (2 * (d % 16)) 2 ≠ s.tgtOf d)
    (hl : s.get R.DST_FO_STAT_STATE d ≠ 2 ∨ bitsOf w (2 * (d % 16)) 2 = 2)
    (hr : s.reqRefused d (bitsOf w (2 * (d % 16)) 2) = false) :
    ∃ t, exec (.districtTargetRequest g j w) s = .next t ∧ t.tgtOf d = bitsOf w (2 * (d % 16)) 2 ∧ t.kept = s.kept ∧
      t.rsps = [{ gal := g, code := .ok, data := 0 }] := by
  have hask : s.newAccess.Asked d (bitsOf w (2 * (d % 16)) 2) := ⟨hn, hv, hc, hl⟩
  have hex := targetRequest_next hj h
  rw [effTargets_one (s := s.newAccess) hj hdj hw hask hr] at hex
  exact ⟨_, hex, State.request_tgtOf hask hr (by omega), (State.request_kept _ _ _).trans s.newAccess_kept, rfl⟩

/-- Settles O14: by what a request for one district does; the requests of one write meet different targets. -/
theorem targetsAreRequestedOnlyWhereAllowed : Obligations.TargetsAreRequestedOnlyWhereAllowed :=
  ⟨fun _ _ _ _ hj h => targetRequest_next hj h, targetRequest_stores, targetRequest_idle, fun _ _ hd => State.request_unused hd,
    fun _ _ _ hn hv hc hl hr => State.request_refused ⟨hn, hv, hc, hl⟩ hr,
    fun s d v hn hd hv hc hl hr => ⟨State.request_tgtOf ⟨hn, hv, hc, hl⟩ hr hd, s.request_kept d v⟩,
    fun _ _ _ _ hj => congrArg Host.Outcome.next (if_neg (by omega))⟩

end Sys2Proof.Machine

namespace Sys2Proof.Machine

/-! ### Requests of the owner in RUN and QUIET (R311) -/

/-- Outside DOZE and SLEEP, with no entry in progress, a wake has no effect (R316). -/
theorem State.wake_awake {s : State} (he : s.dev.entry = 0) (hs : s.devSt ≠ devSleep) (hd : s.devSt ≠ devDoze) (src lnk : Nat) :
    s.wake src lnk = s := by
  unfold State.wake
  rw [if_neg (by simp [he]), if_neg (by simp [hs, hd])]

theorem State.actReq_zero {s : State} (hd : s.devSt = devRun ∨ s.devSt = devQuiet) (he : s.dev.entry = 0) :
    s.actReq 0 = s.set R.PWR_STAT_DEV 0 devRun := if_neg (by rcases hd with hd | hd <;> simp [hd, he])

theorem State.actReq_one {s : State} (hd : s.devSt = devRun) (he : s.dev.entry = 0) : s.actReq 1 = s.quieted :=
  (if_neg (by simp [hd, he])).trans (if_pos (by simp [hd]))

theorem State.actReq_two {s : State} (hd : s.devSt = devRun) (he : s.dev.entry = 0) : s.actReq 2 = s.entering 1 :=
  if_neg (by simp [hd, he])

theorem State.actReq_three {s : State} (hd : s.devSt = devRun) (he : s.dev.entry = 0) : s.actReq 3 = s.entering 2 :=
  if_neg (by simp [hd, he])

/-- DEV_REQ holds a request. -/
def State.reqSet (s : State) (v : Nat) : State := s.set R.PWR_CTL_DEV_REQ 0 v

theorem State.reqSet_req (s : State) {v : Nat} (hv : v < 8) : (s.reqSet v).get R.PWR_CTL_DEV_REQ = v :=
  (State.get_set_self _ _ _ _ (by decide)).trans (Nat.mod_eq_of_lt hv)

theorem State.reqSet_devSt (s : State) (v : Nat) : (s.reqSet v).devSt = s.devSt := State.get_set_apart (by decide) _ _ _ _

/-- In RUN or QUIET a write of DEV_REQ is stored and acts. -/
theorem effDevReq_awake {s : State} {v : Nat} (hv : v ≤ 3) (hd : s.devSt = devRun ∨ s.devSt = devQuiet) (he : s.dev.entry = 0) :
    effDevReq s v = (s.reqSet v).actReq v := by
  have hd' := hd
  rw [← s.reqSet_devSt v] at hd'
  unfold effDevReq
  rw [if_pos hv]
  refine congrArg (State.actReq · v) (State.wake_awake (s := s.reqSet v) he ?_ ?_ _ _)
  · rcases hd' with h | h <;> rw [h] <;> decide
  · rcases hd' with h | h <;> rw [h] <;> decide

theorem devReq_row_next {s : State} {g : Gal} {v : Nat} (h : s.rowPasses g R.PWR_CTL_DEV_REQ 0 v) :
    s.hostRow g R.PWR_CTL_DEV_REQ 0 v (fun s => s.devReqBy (s.priv g 2) v) =
      (s.newAccess.devReqBy (s.priv g 2) v).respond g .ok 0 := s.hostRow_passes g _ _ _ _ h

/-- A request by a gallery with the privilege, in RUN or QUIET. -/
theorem devReq_row_privileged {s : State} {g : Gal} {v : Nat} (h : s.rowPasses g R.PWR_CTL_DEV_REQ 0 v) (hv : v ≤ 3)
    (hp : s.priv g 2 = true) (hd : s.devSt = devRun ∨ s.devSt = devQuiet) (he : s.dev.entry = 0) :
    s.hostRow g R.PWR_CTL_DEV_REQ 0 v (fun s => s.devReqBy (s.priv g 2) v) =
      ((s.newAccess.reqSet v).actReq v).respond g .ok 0 := by
  rw [devReq_row_next h, hp, State.devReqBy, if_pos rfl, effDevReq_awake (s := s.newAccess) hv hd he]

/-- Without the privilege the write is only a wake, which has no effect in RUN. -/
theorem devReq_row_unprivileged {s : State} {g : Gal} {v : Nat} (h : s.rowPasses g R.PWR_CTL_DEV_REQ 0 v)
    (hp : s.priv g 2 = false) (hd : s.devSt = devRun) (he : s.dev.entry = 0) :
    s.hostRow g R.PWR_CTL_DEV_REQ 0 v (fun s => s.devReqBy (s.priv g 2) v) = s.okRsp g := by
  rw [devReq_row_next h, hp, State.devReqBy, if_neg (by decide), State.wake_run (s := s.newAccess) he hd]
  rfl

theorem devReqRun_returns (s : State) (g : Gal) (h : s.rowPasses g R.PWR_CTL_DEV_REQ 0 0) (hp : s.priv g 2 = true)
    (hd : s.devSt = devQuiet) (he : s.dev.entry = 0) :
    ∃ t, exec (.devReqRun g) s = .next t ∧ t.devSt = devRun ∧ t.get R.PWR_CTL_DEV_REQ = 0 ∧
      (s.okRsp g).only t [R.PWR_STAT_DEV.key 0, R.PWR_CTL_DEV_REQ.key 0] := by
  have hrow := devReq_row_privileged h (by decide) hp (.inr hd) he
  rw [State.actReq_zero (s := s.newAccess.reqSet 0) (.inr ((State.reqSet_devSt _ _).trans hd)) he] at hrow
  refine ⟨_, congrArg Host.Outcome.next hrow, State.get_set_self _ _ _ _ (by decide), ?_, rfl, ?_⟩
  · exact (State.get_set_apart (by decide) _ _ _ _).trans (State.reqSet_req _ (by decide))
  · exact State.framed_set _ (s.newAccess.reqSet 0) _ _ _ _ (State.framed_set _ (s.okRsp g) _ _ _ _ (State.framed_refl _ _)
      (by simp)) (by simp)

theorem devReqQuiet_quiets (s : State) (g : Gal) (h : s.rowPasses g R.PWR_CTL_DEV_REQ 0 1) (hp : s.priv g 2 = true)
    (hd : s.devSt = devRun) (he : s.dev.entry = 0) :
    ∃ t, exec (.devReqQuiet g) s = .next t ∧ t.devSt = devQuiet ∧ t.kept = s.kept := by
  have hrow := devReq_row_privileged h (by decide) hp (.inl hd) he
  refine ⟨_, congrArg Host.Outcome.next hrow, ?_, ?_⟩
  · rw [State.actReq_one (s := s.newAccess.reqSet 1) ((State.reqSet_devSt _ _).trans hd) he]
    exact State.quieted_devSt _
  · rw [State.respond_kept, State.actReq_kept, State.reqSet, State.set_kept, State.newAccess_kept]

/-- What the begin of an entry from RUN shows, of DOZE (1) or of SLEEP (2). -/
theorem State.entering_begins {s : State} {v : Nat} (e : Nat) (g : Gal) (hv : v < 8) (hd : s.devSt = devRun) :
    let t := ((s.newAccess.reqSet v).entering e).respond g .ok 0
    t.devSt = devRun ∧ t.get R.PWR_STAT_ENTRY = 1 ∧ t.dev.entry = e ∧ t.dev.before = devRun ∧ t.get R.PWR_CTL_DEV_REQ = v ∧
      (s.okRsp g).framed t [R.PWR_STAT_DEV.key 0, R.PWR_CTL_DEV_REQ.key 0] := by
  have hrun : (s.newAccess.reqSet v).devSt = devRun := (State.reqSet_devSt _ _).trans hd
  refine ⟨(State.entering_devSt _ e).trans hrun, State.get_set_self _ _ _ _ (by decide), rfl, hrun, ?_, ?_⟩
  · exact (State.entering_get (by decide) _ e 0).trans (State.reqSet_req _ hv)
  · exact State.framed_set _ (s.newAccess.reqSet v) _ _ _ _ (State.framed_set _ (s.okRsp g) _ _ _ _ (State.framed_refl _ _)
      (by simp)) (by simp [Fld.key, R.PWR_STAT_ENTRY, R.PWR_STAT_DEV])

theorem devReqDoze_enters (s : State) (g : Gal) (h : s.rowPasses g R.PWR_CTL_DEV_REQ 0 2) (hp : s.priv g 2 = true)
    (hd : s.devSt = devRun) (he : s.dev.entry = 0) :
    ∃ t, exec (.devReqDoze g) s = .next t ∧ t.devSt = devRun ∧ t.get R.PWR_STAT_ENTRY = 1 ∧ t.dev.entry = 1 ∧
      t.dev.before = devRun ∧ t.get R.PWR_CTL_DEV_REQ = 2 ∧
      (s.okRsp g).framed t [R.PWR_STAT_DEV.key 0, R.PWR_CTL_DEV_REQ.key 0] := by
  have hrow := devReq_row_privileged h (by decide) hp (.inl hd) he
  rw [State.actReq_two (s := s.newAccess.reqSet 2) ((State.reqSet_devSt _ _).trans hd) he] at hrow
  exact ⟨_, congrArg Host.Outcome.next hrow, State.entering_begins 1 g (by decide) hd⟩

theorem devReqSleep_enters (s : State) (g : Gal) (h : s.rowPasses g R.PWR_CTL_DEV_REQ 0 3) (hp : s.priv g 2 = true)
    (hd : s.devSt = devRun) (he : s.dev.entry = 0) :
    ∃ t, exec (.devReqSleep g) s = .next t ∧ t.devSt = devRun ∧ t.get R.PWR_STAT_ENTRY = 1 ∧ t.dev.entry = 2 ∧
      t.get R.PWR_CTL_DEV_REQ = 3 ∧ (s.okRsp g).framed t [R.PWR_STAT_DEV.key 0, R.PWR_CTL_DEV_REQ.key 0] := by
  have hrow := devReq_row_privileged h (by decide) hp (.inl hd) he
  rw [State.actReq_three (s := s.newAccess.reqSet 3) ((State.reqSet_devSt _ _).trans hd) he] at hrow
  obtain ⟨hrun, hentry, hdev, -, hreq, hframe⟩ := State.entering_begins 2 g (v := 3) (by decide) hd
  exact ⟨_, congrArg Host.Outcome.next hrow, hrun, hentry, hdev, hreq, hframe⟩

/-! ### A wake in DOZE (R313, R316) -/

/-- The source of a wake shows, and the wake is counted. -/
def State.wakeShown (s : State) (src lnk : Nat) : State :=
  let u := (s.set R.PWR_STAT_WSRC 0 src).inc R.PWR_STAT_WAKES
  if src = wakeLink then u.set R.PWR_STAT_WLNK 0 lnk else u

theorem State.wakeShown_get {F : Fld} (h : F.apartAll [R.PWR_STAT_WSRC, R.PWR_STAT_WAKES, R.PWR_STAT_WLNK]) (s : State)
    (src lnk i : Nat) : (s.wakeShown src lnk).get F i = s.get F i := by
  have hu : ((s.set R.PWR_STAT_WSRC 0 src).inc R.PWR_STAT_WAKES).get F i = s.get F i := by
    rw [State.inc_get (h R.PWR_STAT_WAKES (by simp)), State.get_set_apart (h R.PWR_STAT_WSRC (by simp))]
  unfold State.wakeShown
  dsimp only
  split
  · rw [State.get_set_apart (h R.PWR_STAT_WLNK (by simp)), hu]
  · exact hu

theorem State.wakeShown_regs (s : State) (src lnk : Nat) :
    s.wakeShown src lnk = { s with regs := (s.wakeShown src lnk).regs } := by
  unfold State.wakeShown
  dsimp only
  split <;> rfl

/-- Outside SLEEP a wake that is registered begins the exit from DOZE. -/
theorem State.wakeNow_exits {s : State} (h : s.devSt ≠ devSleep) (src lnk : Nat) :
    s.wakeNow src lnk = { (s.wakeShown src lnk).set R.PWR_CTL_DEV_REQ 0 (reqCode s.dev.before) with
      dev := { s.dev with dozeExit := true, gated := false } } := by
  have hst : (s.wakeShown src lnk).devSt = s.devSt := State.wakeShown_get (by decide) s src lnk 0
  have hdev : (s.wakeShown src lnk).dev = s.dev := by rw [State.wakeShown_regs]
  rw [← hdev]
  exact if_neg (show ¬((s.wakeShown src lnk).devSt == devSleep) = true by simpa [hst] using h)

/-- WAKE in DOZE. -/
theorem State.wake_dozing {s : State} (hd : s.devSt = devDoze) (he : s.dev.entry = 0) (hx : s.dev.dozeExit = false) (lnk : Nat) :
    s.wake wakeWrite lnk = s.wakeNow wakeWrite lnk := by
  unfold State.wake
  rw [if_neg (by simp [he]), if_pos (by simp [hd, hx, wakeActs])]

theorem reqCode_lt (k : Nat) : reqCode k < 8 := by
  unfold reqCode
  split <;> decide

theorem wake_exits (s : State) (g : Gal) (h : s.rowPasses g R.PWR_CTL_WAKE 0 1) (hd : s.devSt = devDoze) (he : s.dev.entry = 0)
    (hx : s.dev.dozeExit = false) :
    ∃ t, exec (.wake g) s = .next t ∧ t.get R.PWR_STAT_WSRC = wakeWrite ∧
      t.get R.PWR_STAT_WAKES = satU 16 (s.get R.PWR_STAT_WAKES + 1) ∧ t.get R.PWR_CTL_DEV_REQ = reqCode s.dev.before ∧
      t = { s.okRsp g with regs := t.regs, dev := { s.dev with dozeExit := true, gated := false } } ∧
      (s.okRsp g).framed t [R.PWR_STAT_WSRC.key 0, R.PWR_CTL_DEV_REQ.key 0] := by
  have hex : exec (.wake g) s = .next ((s.newAccess.wake wakeWrite 0).respond g .ok 0) :=
    congrArg Host.Outcome.next (s.hostRow_passes g _ _ _ _ h)
  rw [State.wake_dozing (s := s.newAccess) hd he hx, State.wakeNow_exits (s := s.newAccess)
    (show s.devSt ≠ devSleep by rw [hd]; decide)] at hex
  refine ⟨_, hex, ?_, ?_, ?_, rfl, ?_⟩
  · exact (State.get_set_apart (by decide) _ _ _ _).trans ((State.inc_get (by decide) _ _ _ _).trans
      (State.get_set_self _ _ _ _ (by decide)))
  · refine (State.get_set_apart (by decide) _ _ _ _).trans ((State.get_inc_self _ _ _ (by decide)).trans ?_)
    exact congrArg (fun n => satU 16 (n + 1)) (State.get_set_apart (by decide) s.newAccess _ _ _)
  · exact (State.get_set_self _ _ _ _ (by decide)).trans (Nat.mod_eq_of_lt (reqCode_lt _))
  · refine State.framed_set _ (s.newAccess.wakeShown wakeWrite 0) _ _ _ _ ?_ (by simp)
    exact State.framed_set _ (s.newAccess.set R.PWR_STAT_WSRC 0 wakeWrite) _ _ _ _
      (State.framed_set _ (s.okRsp g) _ _ _ _ (State.framed_refl _ _) (by simp))
      (by simp [Fld.key, R.PWR_STAT_WAKES, R.PWR_STAT_WSRC])

/-! ### The entry into DOZE (R313, R318) -/

/-- DOZE is reached, with the clock gated. -/
def State.dozed (s : State) : State :=
  { (((s.tstStop 4).set R.PWR_STAT_DEV 0 devDoze).set R.PWR_STAT_ENTRY 0 0).set R.ORR_STAT_RUN 0 0 with
    dev := { (s.tstStop 4).dev with entry := 0, gated := true, dozeExit := false },
    bud := { (s.tstStop 4).bud with ivNoGrp := true } }

theorem effDozeDone_eq {s : State} (he : s.dev.entry = 1) (hl : s.dev.ledgersClear = true) :
    effDozeDone s = s.dozed.wakePending := if_pos (by simp [he, hl])

theorem State.dozed_get {F : Fld} (h : F.apartAll [R.PWR_STAT_DEV, R.PWR_STAT_ENTRY, R.ORR_STAT_RUN]) (s : State) (i : Nat) :
    s.dozed.get F i = s.get F i := by
  rw [State.dozed, State.get_with (State.set _ R.ORR_STAT_RUN 0 0), State.get_set_apart (h R.ORR_STAT_RUN (by simp)),
    State.get_set_apart (h R.PWR_STAT_ENTRY (by simp)), State.get_set_apart (h R.PWR_STAT_DEV (by simp)), State.tstStop_get]

theorem State.dozed_devSt (s : State) : s.dozed.devSt = devDoze := by
  rw [State.devSt, State.dozed, State.get_with (State.set _ R.ORR_STAT_RUN 0 0), State.get_set_apart (by decide),
    State.get_set_apart (by decide), State.get_set_self _ _ _ _ (by decide)]
  rfl

theorem State.dozed_run (s : State) : s.dozed.get R.ORR_STAT_RUN = 0 := State.get_set_self _ _ _ _ (by decide)

/-- A latched wake begins the exit, and leaves the device in DOZE. -/
theorem State.wakePending_dozing {s : State} (hd : s.devSt = devDoze) :
    s.wakePending.devSt = devDoze ∧ s.wakePending.dev =
      (if s.get R.PWR_STAT_WPEND = 0 then s.dev else { s.dev with dozeExit := true, gated := false }) := by
  unfold State.wakePending
  by_cases hw : s.get R.PWR_STAT_WPEND = 0
  · rw [State.flag_of_zero hw, if_neg (by decide), if_pos hw]
    exact ⟨hd, rfl⟩
  · have hst : (s.set R.PWR_STAT_WPEND 0 0).devSt = devDoze := (State.get_set_apart (by decide) _ _ _ _).trans hd
    rw [if_pos (show s.flag R.PWR_STAT_WPEND = true by simp [State.flag, hw]), if_neg hw,
      State.wakeNow_exits (by rw [hst]; decide)]
    refine ⟨?_, rfl⟩
    exact (State.get_set_apart (by decide) _ _ _ _).trans ((State.wakeShown_get (by decide) _ _ _ 0).trans hst)

theorem dozeEntryComplete_dozes (s : State) (he : s.dev.entry = 1) (hl : s.dev.ledgersClear = true) :
    ∃ t, exec .dozeEntryComplete s = .next t ∧ t.dev.entry = 0 ∧ t.devSt = devDoze ∧ t.get R.ORR_STAT_RUN = 0 ∧
      t.kept = s.kept ∧ (s.get R.PWR_STAT_WPEND = 0 → t.dev.gated = true ∧ t.dev.dozeExit = false) ∧
      (s.get R.PWR_STAT_WPEND = 1 → t.dev.gated = false ∧ t.dev.dozeExit = true) := by
  have heq := effDozeDone_eq he hl
  have hkept := effDozeDone_kept s
  obtain ⟨hst, hdev⟩ := State.wakePending_dozing s.dozed_devSt
  rw [State.dozed_get (by decide)] at hdev
  rw [heq] at hkept
  refine ⟨_, congrArg Host.Outcome.next heq, ?_, hst, (State.wakePending_get (by decide) _ 0).trans s.dozed_run, hkept,
    fun h => ?_, fun h => ?_⟩
  · rw [hdev]
    split <;> rfl
  · rw [hdev, if_pos h]
    exact ⟨rfl, rfl⟩
  · rw [hdev, if_neg (by omega)]
    exact ⟨rfl, rfl⟩

/-! ### The exit from DOZE (R313) -/

/-- The state before DOZE is restored. -/
def State.restored (s : State) : State :=
  { s.set R.PWR_STAT_DEV 0 s.dev.before with
    dev := { s.dev with dozeExit := false, gated := false }, adm := { s.adm with back := 20 * (s.dev.dper - 1) } }

theorem State.restored_devSt {s : State} (h : s.dev.before < 8) : s.restored.devSt = s.dev.before :=
  (State.get_set_self _ _ _ _ (by decide)).trans (Nat.mod_eq_of_lt h)

theorem State.restored_req (s : State) : s.restored.get R.PWR_CTL_DEV_REQ = s.get R.PWR_CTL_DEV_REQ :=
  State.get_set_apart (by decide) _ _ _ _

theorem State.restored_framed (s : State) : s.framed s.restored [R.PWR_STAT_DEV.key 0] :=
  State.framed_set _ s _ _ _ _ (s.framed_refl _) (by simp)

theorem effDozeExit_eq {s : State} (hd : s.devSt = devDoze) (hx : s.dev.dozeExit = true) :
    effDozeExit s = if s.dev.before = devRun then s.restored.actReq (s.get R.PWR_CTL_DEV_REQ) else s.restored := by
  rw [← s.restored_req]
  exact if_pos (by simp [hd, hx])

theorem dozeExit_restores (s : State) (hd : s.devSt = devDoze) (hx : s.dev.dozeExit = true) (he : s.dev.entry = 0)
    (hb : s.dev.before < 8) (hr : s.dev.before ≠ devRun ∨ s.get R.PWR_CTL_DEV_REQ = 0) :
    ∃ t, exec .dozeExitComplete s = .next t ∧ t.devSt = s.dev.before ∧
      t = { s with regs := t.regs, dev := { s.dev with dozeExit := false, gated := false },
                   adm := { s.adm with back := 20 * (s.dev.dper - 1) } } ∧
      s.framed t [R.PWR_STAT_DEV.key 0] := by
  have heq := effDozeExit_eq hd hx
  by_cases hrun : s.dev.before = devRun
  · have hreq : s.get R.PWR_CTL_DEV_REQ = 0 := hr.resolve_left fun h => h hrun
    rw [if_pos hrun, hreq, State.actReq_zero (.inl ((State.restored_devSt hb).trans hrun)) he] at heq
    exact ⟨_, congrArg Host.Outcome.next heq, (State.get_set_self _ _ _ _ (by decide)).trans hrun.symm, rfl,
      State.framed_set _ _ _ _ _ _ s.restored_framed (by simp)⟩
  · rw [if_neg hrun] at heq
    exact ⟨_, congrArg Host.Outcome.next heq, State.restored_devSt hb, rfl, s.restored_framed⟩

theorem dozeExit_quiets (s : State) (hd : s.devSt = devDoze) (hx : s.dev.dozeExit = true) (he : s.dev.entry = 0)
    (hb : s.dev.before = devRun) (hq : s.get R.PWR_CTL_DEV_REQ = 1) :
    ∃ t, exec .dozeExitComplete s = .next t ∧ t.devSt = devQuiet ∧ t.dev.gated = false ∧ t.kept = s.kept := by
  have heq := effDozeExit_eq hd hx
  have hkept := effDozeExit_kept s
  have hst : s.restored.devSt = devRun := (State.restored_devSt (by rw [hb]; decide)).trans hb
  rw [if_pos hb, hq, State.actReq_one hst he] at heq
  rw [heq] at hkept
  exact ⟨_, congrArg Host.Outcome.next heq, s.restored.quieted_devSt, congrArg DevS.gated (s.restored.tstStop_dev 4), hkept⟩

/-- Settles O15: a stored request acts in RUN and QUIET; into DOZE and out of it a wake decides. -/
theorem ownerRequestsDeviceStates : Obligations.OwnerRequestsDeviceStates :=
  ⟨devReqRun_returns, devReqQuiet_quiets, devReqDoze_enters, devReqSleep_enters,
    fun _ _ hp hd he => ⟨fun h => congrArg Host.Outcome.next (devReq_row_unprivileged h hp hd he),
      fun h => congrArg Host.Outcome.next (devReq_row_unprivileged h hp hd he),
      fun h => congrArg Host.Outcome.next (devReq_row_unprivileged h hp hd he),
      fun h => congrArg Host.Outcome.next (devReq_row_unprivileged h hp hd he)⟩,
    dozeEntryComplete_dozes, wake_exits, dozeExit_restores, dozeExit_quiets⟩

end Sys2Proof.Machine
